-- ==== Sys2Proof/Word.lean ====
section
/-! DEFINITION. The word type and the plainest types of the model. -/

namespace Sys2Proof

/-- A register is 32 bits wide (R383). -/
abbrev Word := BitVec 32
/-- The smallest addressable unit of the register space, of records and of frames. -/
abbrev Byte := BitVec 8

end Sys2Proof
end

