-- ==== Sys2Proof/Syntax.lean ====
section
/-! DEFINITION. The commands of the block: one constructor per row of spec/opcode_table.json, in the table's order. The
table gives the rows no operands and no bits, so the operands are the model's (log entry 2): what a row's rule needs to
know from outside (which instance, a measured value, a written word, the position of an edge). An operand that the state
already determines is not given again. -/

namespace Sys2Proof

/-- A bus master M0–M3 (R34). -/
abbrev Master := Fin 4

/-- The units a placement change concerns (R27, R28). -/
inductive Placed where
  | lane (index : Fin 24)
  | dpll (channel : Fin 8)
  | event (position : Fin 32)
  deriving DecidableEq, Repr

/-- The outcome a unit's self-check reports with an update (R183). -/
inductive UnitCheck where
  | ok
  | residue
  | ecc
  deriving DecidableEq, Repr

/-- A network port `NP0`–`NP5`. -/
abbrev PortNo := Fin 6

/-- An Ethernet frame from its destination address to its last byte before the FCS, and whether its FCS is bad. -/
structure Frame where
  bytes : List Byte
  bad : Bool
  deriving DecidableEq, Repr, Inhabited

/-- What the best master clock algorithm of the port's profile recommends (R312, R313): nothing new, or a port state by
its IEEE 1588 code, with a new parent or not. -/
inductive Bmca where
  | keep
  | state (code : Fin 10) (newParent : Bool)
  deriving DecidableEq, Repr

/-- What a Rally frame carries (R329): role (1 FOLLOW), link speed, step counts, SUSPEND, DEGRADED, egress time of the
previous frame and ingress time of the last one received (PQ of the sender's bound scale), φ and ψ (2⁻³² PQ), and the
rate of ψ (2⁻⁶⁰). `good` is the outcome of the payload check. -/
structure RallyFrame where
  good : Bool
  follow : Bool
  speed : Fin 2
  steps : BitVec 32
  suspend : Bool
  degraded : Bool
  prevEgress : BitVec 64
  lastIngress : BitVec 64
  phi : BitVec 64
  psi : BitVec 64
  rate : BitVec 64
  deriving DecidableEq, Repr, Inhabited

/-- What a `MATE` heartbeat carries (R340, R343): role (0 SOLO, 1 ACTIVE, 2 STANDBY, 3 OUT), device mode, READY, `PREF`,
serial number, time in role (10 µs), the requests of R346, the time left to T_s (TDC cycles; 0 none), per scale its
reading less the bound scale's, and per channel θ_c − θ_TXCHAN (PQ). -/
structure Heartbeat where
  role : Fin 4
  mode : Fin 8
  ready : Bool
  pref : Bool
  serial : BitVec 32
  time : BitVec 32
  relinquish : Bool
  take : Bool
  untilTs : BitVec 32
  scales : List Int
  thetas : List Int
  deriving DecidableEq, Repr, Inhabited

/-- What the host writes into PCIe configuration space (R376, R377, R398, R442): Bus Master Enable; MSI-X Enable and
Function Mask; the Max_Payload_Size code; whether AER reports non-fatal errors. -/
inductive PcieConfig where
  | command (busMaster : Bool)
  | msix (enable mask : Bool)
  | deviceControl (payload : Fin 8)
  | aer (enable : Bool)
  deriving DecidableEq, Repr

/-- A command. -/
inductive Instr where
  /-- R52: `VIN` has been at or above 10.4 V for 10 ms -/
  | vinQualified
  /-- R202: one check of the ovens; whether each oscillates at valid amplitude -/
  | ovenStartCheck (oscA oscB : Bool)
  | bkpllLocked
  | syspllLocked
  | configurationLoad
  | coldSequenceComplete
  /-- R70: the warning filter has run; `VIN` in 10 mV units -/
  | braceEntry (vin : BitVec 16)
  | braceExit (vin : BitVec 16)
  | shelfEntry
  | keepSecondTick
  | syspllLossOfLock
  | syspllRelock
  | syspllSwitchBack
  | sustainedFallback
  | placementChangeDeferralEnd (fn : Placed)
  | underlyingModeUpdate
  | anchorConditionMet (c : Fin 8)
  | leaveSafe (m : Master)
  | enterFactory (m : Master)
  | leaveFactory (m : Master)
  | automaticRecovery
  | fwDataWrite (m : Master) (w : Word)
  | fwArm (m : Master)
  | fwCancel (m : Master)
  | fwCheckpointStart
  | fwBankSwap
  | fwAlive
  | fwRevert
  /-- R89: a selected edge of a reference; its bin (R93) and its bin on the target lane of a lane handover -/
  | refEdge (i : Fin 24) (bin target : Fin 256)
  | presenceWindowEnd (i : Fin 24)
  | laneCalStart (n : Fin 28)
  /-- R96: the computed table: chain span in 0.1 ps, widest element in 0.01 ps, the 255 boundaries in element positions,
  and the largest distance of a boundary from the calibration manager's table -/
  | laneCalTableComputed (n : Fin 28) (span widest : BitVec 16) (bounds : List Nat)
  | laneTableSwitch (n : Fin 28)
  | laneHandoverGo (m : Master) (v : Word)
  | laneHandoverCutover
  | tickEnd
  | freqMonitorWindowEnd (i : Fin 24)
  /-- R103: a CALPPS edge, `offset` TDC cycles after the nearest CAL10M edge -/
  | calppsEdge (offset : Int)
  /-- R107: a write of `REF_CFG` (0), `REF_NOMLO` (1) or `REF_NOMHI` (2) -/
  | refConfigWrite (m : Master) (i : Fin 24) (reg : Fin 3) (v : Word)
  | phaseRecord (i : Fin 24)
  | umpireEvaluation
  | switchTakeEffect (c : Fin 8)
  | umpDisq (m : Master) (i : Fin 24)
  | umpRequal (m : Master) (i : Fin 24)
  | umpOverrideWrite (m : Master) (c : Fin 8) (v : Word)
  /-- R125: a write of rank word `k` -/
  | umpRankWrite (m : Master) (c : Fin 8) (k : Fin 3) (v : Word)
  | umpReeval (m : Master) (c : Fin 8)
  | umpBoclr (m : Master) (c : Fin 8)
  | boclrApply (c : Fin 8)
  | ledgerPass
  | snapshotTake (m : Master)
  | ldgRstGo (m : Master) (v : Word)
  /-- R164, R183, R184: an update; its self-check, and whether the two units of a migration agreed at this tick -/
  | dpllUpdate (c : Fin 8) (check : UnitCheck) (same : Bool)
  | dpllEnWrite (m : Master) (c : Fin 8) (v : Word)
  | dpllForceAuto (m : Master) (c : Fin 8)
  | dpllForceFreerun (m : Master) (c : Fin 8)
  | dpllForceHoldover (m : Master) (c : Fin 8)
  | holdoverModelUpdate (c : Fin 8)
  | historyEntryClose (c : Fin 8)
  /-- R177: a write of `DPL_HOWIN` (0) or `DPL_HOCFG` (1) -/
  | dplHocfgWrite (m : Master) (c : Fin 8) (reg : Fin 2) (v : Word)
  /-- R170: a write of `DPL_BW` (0), `DPL_ACQBW` (1), `DPL_LOOP` (2) or `DPL_FCLAMP` (3) -/
  | dplLoopWrite (m : Master) (c : Fin 8) (reg : Fin 4) (v : Word)
  | holdoverLimit (c : Fin 8)
  | dpllTelemetryRecord (c : Fin 8)
  | autoMigrationLoad (c : Fin 8)
  | dpllMigrationGo (m : Master) (v : Word)
  | migrationStart
  | migrationCutover
  /-- R192, R191: an oven's measured errors (mK), heater draw (mW) and whether it oscillates at valid amplitude -/
  | ovenTemperatureSample (o : Fin 2) (inner outer : BitVec 16) (power : BitVec 16) (osc : Bool)
  /-- R194: board temperature at the ovens, signed 1/256 °C -/
  | boardTempSample (t : BitVec 16)
  | ovenModelEvaluate
  | ovenHourlyPoint
  | ovenModelCommit
  /-- R200: a cause 1–4 is detected -/
  | ovenFault (o : Fin 2) (cause : Fin 5)
  | ovenFaultClear (o : Fin 2)
  | ovenHandoverGo (m : Master) (v : Word)
  | ovenHandoverSwitch
  | ovenEmergencyHandover
  | ovenHandoverSettled
  /-- R214: a band step of a unit ended with a band; whether its count misses the target by more than 10⁻³ -/
  | bandStepComplete (u : Fin 8) (band : BitVec 9) (miss : Bool)
  | apllLockDeclared (u : Fin 8)
  | apllLossOfLock (u : Fin 8)
  | apllRelockStart (u : Fin 8)
  | substitutionRestart (f : Fin 7)
  | aplHopGo (m : Master) (v : Word)
  | hopStart
  | hopOutputRestart (f : Fin 7)
  | glideEnd (f : Fin 7)
  | hopTableClear (m : Master)
  /-- R217: a write of `RELOCK`, one bit per function -/
  | apllRelock (m : Master) (mask : BitVec 7)
  | apllHandoverGo (m : Master) (v : Word)
  /-- R231: the measured difference of the two f_A clocks, fs -/
  | apllTrimMeasurement (diff : BitVec 32)
  | apllHandoverSwitch
  | aplSpareWrite (m : Master) (v : Word)
  | outEnableWrite (m : Master) (v : Word)
  /-- R246: a divider sync of an output; whether the period guard stretched a period -/
  | dividerSync (o : Fin 24) (stretched : Bool)
  | outSyncCommand (m : Master)
  | syncLEdge
  | safeLevelChange (o : Fin 24)
  | outSkimWrite (m : Master) (o : Fin 24) (v : Word)
  /-- R252: the edge's bin -/
  | plsRelayEdge (p : Fin 4) (bin : Fin 256)
  | plsTrackSlot (p : Fin 4)
  | plsPulseEnd (p : Fin 4)
  /-- R438: an output driver's state, 1 short, 2 open, 0 neither -/
  | outputDriverFault (o : Fin 36) (kind : Fin 3)
  | scaleSecondBoundary (k : Fin 4)
  | tscSnapshot (m : Master) (v : Word)
  | tscCancel (m : Master) (k : Fin 4)
  | tscSetnow (m : Master) (k : Fin 4)
  | tscSetsec (m : Master) (k : Fin 4)
  | tscStep (m : Master) (k : Fin 4)
  | servoSample (k : Fin 4)
  | servoCoast (k : Fin 4)
  | tscSwoffWrite (m : Master) (k : Fin 4) (v : Word)
  | trgArm (m : Master) (n : Fin 8)
  | trgDisarm (m : Master) (n : Fin 8)
  | triggerHandover (n : Fin 8)
  | triggerEdge (n : Fin 8)
  /-- R288, R286: an edge of an event input; whether it falls, the ramp R_t(k) of its capture above 800 ps in units of
  800 ps / 2¹⁸, and whether the code k stands at an end of the ADC range -/
  | evtEdge (n : Fin 16) (falling : Bool) (ramp : BitVec 18) (sat : Bool)
  | acceptanceWindowClose (n : Fin 16)
  | egArm (m : Master) (g : Fin 4)
  | egDisarm (m : Master) (g : Fin 4)
  | gateOpen (g : Fin 4)
  | gateClose (g : Fin 4)
  | measurementComplete (g : Fin 4)
  | measurementTimeout (g : Fin 4)
  | settleEnd (g : Fin 4)
  | egTmoWrite (m : Master) (g : Fin 4) (v : Word)
  /-- R295: a write of `EG_CFG` (0) or `EG_STOPS` (1) -/
  | egConfigWrite (m : Master) (g : Fin 4) (reg : Fin 2) (v : Word)
  | tacCalStart (t : Fin 34)
  /-- R298: the computed ramp table: LSB in 0.001 fs and the segment corrections in 0.01 LSB -/
  | tacCalTableComputed (t : Fin 34) (lsb : BitVec 16) (corr : List Int)
  | tacTableSwitch (t : Fin 34)
  | tacHandoverGo (m : Master) (v : Word)
  /-- R300: the target's computed table -/
  | tacHandoverTableAccepted (lsb : BitVec 16) (corr : List Int)
  | tacHandoverCutover
  | evtConfigWrite (m : Master) (n : Fin 16) (v : Word)
  /-- R305: a link comes up, port 0–5, 6 `MATE` -/
  | linkUp (p : Fin 7)
  /-- R305: a link condition fails; hi_ber, and alignment-marker lock, as they then stand -/
  | linkDown (p : Fin 7) (hiBer fecLock : Bool)
  /-- R306, R308: a frame; the position of its start block in the present TDC cycle, in 800 ps / 2¹⁸, and the RS-FEC
  codewords corrected and uncorrectable met with it -/
  | frameReceived (p : PortNo) (f : Frame) (pos : BitVec 18) (cor unc : BitVec 16)
  /-- R315: the oldest PTP message taken up is parsed; what the BMCA then recommends -/
  | ptpMessageReceived (p : PortNo) (bmca : Bmca)
  /-- R315: messageType sent (0 Sync, 1 Delay_Req, 8 Follow_Up, 0xB Announce) and the position of its start block -/
  | ptpScheduledSend (p : PortNo) (kind : Fin 16) (pos : BitVec 18)
  /-- R315: messageType sent (9 Delay_Resp, 2 Pdelay_Req, 3 Pdelay_Resp, 0xA its Follow_Up) -/
  | hkcMessageSend (p : PortNo) (kind : Fin 16) (pos : BitVec 18)
  | ptpExchangeComplete (p : PortNo)
  | ptpGridSample (p : PortNo)
  | ptpFaultyExit (p : PortNo)
  | announceReceiptTimeout (p : PortNo)
  /-- R321: a frame passes from port `p` to its partner: start-block position at ingress, and the time from there to the
  egress start block in 800 ps / 2¹⁸; whether it ends with an error block (R322) -/
  | cutThroughFrame (p : PortNo) (f : Frame) (pos : BitVec 18) (transit : BitVec 32) (cut : Bool)
  | esmcSend (p : PortNo) (pos : BitVec 18)
  /-- R324: the oldest ESMC PDU taken up; its SSM code -/
  | esmcPduReceived (p : PortNo) (ssm : Fin 16)
  | esmcTimeout (p : PortNo)
  | portConfigWrite (m : Master) (p : PortNo) (v : Word)
  /-- R326: both ports of a pair (even port `2 × pair`) are in an inter-frame gap -/
  | passApply (pair : Fin 3)
  /-- R329: an instance sends a frame; position of its start block -/
  | rallyFrameSend (i : Fin 7) (pos : BitVec 18)
  /-- R329: a Rally frame; for instance 6 `pos` places its start block, the others take the frame their port took up -/
  | rallyFrameReceived (i : Fin 7) (f : RallyFrame) (pos : BitVec 18)
  /-- R331: the grid instant; receive-clock edges used, and for instance 6, whose clocks no register names, its own φ and
  ψ in 2⁻³² PQ -/
  | rallySample (i : Fin 7) (edges : BitVec 32) (phi psi : BitVec 64)
  | rallyPartnerTimeout (i : Fin 7)
  | rallyAcalGo (m : Master) (i : Fin 7) (v : Word)
  | rallyAcalEnd (i : Fin 7)
  | heartbeatSend
  | heartbeatReceived (h : Heartbeat)
  | mateReady
  | heartbeatLoss
  | mateRelinquish (m : Master)
  | mateTake (m : Master)
  | matePlannedHandover
  | sealLoopOpen
  | sealLoopClose
  | impArm (m : Master) (p : PortNo)
  | impDisarm (m : Master) (p : PortNo)
  | impDurationEnd (p : PortNo)
  /-- R350: the frame held in a direction (egress or not) is sent at start-block position `pos` -/
  | reorderRelease (p : PortNo) (egress : Bool) (pos : BitVec 18)
  /-- R362: one decision of the arbiter; whether the granted record's transfer has not ended with it (R368) -/
  | recordGrant (stuck : Bool)
  | starvation (q : Fin 16)
  | holdLimit (q : Fin 16)
  | holdWatchdog (q : Fin 16)
  | recUnmask (m : Master) (slots : BitVec 16)
  | recCounterClear (m : Master) (slots : BitVec 16)
  | dmaBurst
  | dmaFlushTimer (c : Fin 8)
  | dmaFlush (m : Master) (c : Fin 8)
  | dmaTailWrite (m : Master) (c : Fin 8) (v : Word)
  | descriptorComplete (c : Fin 8)
  | burstAcknowledged (c : Fin 8)
  | dmaResume (m : Master) (c : Fin 8)
  | dmaDiscard (m : Master) (c : Fin 8)
  | dmaEnableWrite (m : Master) (c : Fin 8) (v : Word)
  /-- R371: words 0–2 of a descriptor the HKC posts -/
  | hkcDescriptorPost (c : Fin 8) (w0 w1 w2 : Word)
  /-- R385: a write of a size (0 8-bit, 1 16-bit, 2 32-bit, 3 none of them) -/
  | registerWrite (m : Master) (addr : BitVec 32) (size : Fin 4) (v : Word)
  | pairLowWordRead (m : Master) (addr : BitVec 32)
  | heldPairHighWrite (m : Master) (addr : BitVec 32) (v : Word)
  | tscFracRead (m : Master) (k : Fin 4)
  | keyWrite (m : Master) (v : Word)
  | keyTimeout
  | sequenceClearWrite (m : Master) (addr : BitVec 32) (v : Word)
  | aliasWrite (m : Master) (addr : BitVec 32) (v : Word)
  | tvScrub (addr : BitVec 32)
  | blockLockWrite (m : Master) (v : Word)
  /-- R393: `SIZE`, `COUNT` − 1 and address of a frame; a write's data, one word per access -/
  | spiReadFrame (size : Fin 4) (count : Fin 32) (addr : BitVec 32)
  | spiWriteFrame (size : Fin 4) (count : Fin 32) (addr : BitVec 32) (data : List Word)
  | spiReset
  | spiFrameEnd
  /-- R398: BAR2 or BAR0, offset, length in DW, First and Last DW Byte Enables, a write's data -/
  | pcieMemoryRead (bar2 : Bool) (offset : BitVec 25) (dw : Fin 1024) (first last : BitVec 4)
  | pcieMemoryWrite (bar2 : Bool) (offset : BitVec 25) (dw : Fin 1024) (first last : BitVec 4) (data : List Word)
  | pcieReset
  | txnReq (m : Master)
  | txnRenew (m : Master)
  | txnCommit (m : Master)
  | txnCheckComplete
  | txnRelease (m : Master)
  | txnLeaseExpiry
  /-- R419: an NMT command to a node-ID, 0 all nodes -/
  | nmtStartRemoteNode (node : BitVec 8)
  | nmtStopRemoteNode (node : BitVec 8)
  | nmtEnterPreOperational (node : BitVec 8)
  | nmtResetNode (node : BitVec 8)
  | nmtResetCommunication (node : BitVec 8)
  | sdoExpeditedUpload (index : BitVec 16) (sub : BitVec 8)
  | sdoExpeditedDownload (index : BitVec 16) (sub : BitVec 8) (data : List Byte)
  | sdoSegmentedUpload (index : BitVec 16) (sub : BitVec 8)
  /-- R422: a segmented download is opened; the size it announces -/
  | sdoSegmentedDownload (index : BitVec 16) (sub : BitVec 8) (size : BitVec 32)
  /-- R422: a segment: its toggle bit, a download's data, and whether it is the last -/
  | sdoSegment (toggle : Bool) (data : List Byte) (last : Bool)
  | sdoSessionTimeout
  /-- R428: a SYNC with its counter, 0 none -/
  | canSyncReceived (counter : BitVec 8)
  | tpdoEventTimer (t : Fin 8)
  | rpdoReceived (r : Fin 4) (data : List Byte)
  | canHeartbeatProduce
  | canHeartbeatReceived (node : BitVec 7)
  | canHeartbeatConsumerTimeout (e : Fin 2)
  | busOffRecovery
  | errorPassive
  /-- R431: the AUTH button, or `AUTH_L` -/
  | authAssertion (pin : Bool)
  | presenceWindowExpiry
  /-- R414: the loop reads open -/
  | sealSample (reads : Bool)
  | faultSourceAccepted
  | faultSourceDeasserted (src : Fin 128)
  /-- R437: both rails of a pair read this level -/
  | brokenWire (src : Fin 128) (level : Bool)
  | pairRestored (src : Fin 128)
  | faultLRelease
  | faultLSoftRelease (m : Master)
  | faultRecordClose
  | recoveryRunReset
  | fltInject (m : Master) (v : Word)
  | fltInjectStop (m : Master)
  | nvmOpen (m : Master)
  | nvmCommit (m : Master)
  | nvmClose (m : Master)
  | nvmUnlock (m : Master)
  | nvmLock (m : Master)
  | nvmSavecfg (m : Master)
  | nvmRead (m : Master)
  | nvmBufferWrite (m : Master) (w : Word)
  | nvmBufferTimeout
  | nvmUnlockTimeout (m : Master)
  | nvmUnlockLockoutEnd (part : Fin 4)
  | nvmSetpw (m : Master)
  | nvmLogclr (m : Master)
  | nvmCommitStart
  /-- R457, R461: the commit in flight ends; whether its read-back verify passed -/
  | nvmCommitComplete (verified : Bool)
  /-- R462: a mapped page is read: 0 clean, 1 corrected, 2 uncorrectable -/
  | nvmScrub (page : Fin 2048) (ecc : Fin 3)
  | logPageCommit
  | hourMeterTick
  | calGo (m : Master) (items : BitVec 8)
  /-- R470: a unit's gap occurs, with the pulse interval as the gap or the disabled unit -/
  | fieldStepStart (item : Fin 8) (unit : Fin 64)
  /-- R469: the value measured, 1/256 of the item's unit -/
  | fieldStepResult (value : BitVec 32)
  | fieldStepAbandon
  | calFreset (m : Master) (items : BitVec 8)
  /-- R467: junction temperature, signed 1/16 °C -/
  | tjSample (tj : BitVec 16)
  /-- R70: `VIN`, 10 mV, at the crossing -/
  | vinComparatorChange (vin : BitVec 16)
  | holdUpStoreExhausted
  | keepAliveRailLoss
  | vkeepLevelChange (good : Bool)
  | pcieLinkUp
  | pcieConfigWrite (w : PcieConfig)
  /-- R442: word `k` of the MSI-X table, four per vector -/
  | msixTableWrite (k : Fin 64) (v : Word)
  /-- R428: the inhibit time of a TPDO, or of EMCY -/
  | inhibitTimeExpiry (tpdo : Option (Fin 8))
  | skimTargetReached (o : Fin 24)
  | calPeriodElapsed
  | nvmPageLoadComplete
  | errorActiveReturn
  | trgPulseEnd (n : Fin 8)
  deriving DecidableEq, Repr

end Sys2Proof
end

