-- ==== Sys2Proof/Machine/RegFields.lean ====
section
/-! DEFINITION. Names of the register fields: for every field of the spec's register tables that is not RV, its word
address, lowest bit and width. `Reg.X.F` is field `F` of register `X` of the spec; an instance number is an argument. -/

namespace Sys2Proof.Machine

/-- A field of a register: byte address of its word, lowest bit, width. -/
structure Fld where
  addr : Nat
  lsb : Nat
  width : Nat
  deriving DecidableEq, Repr

-- `GLB_ID` (R411)
abbrev Reg.GLB_ID.ID : Fld := ⟨0x000000, 0, 32⟩
-- `GLB_MODE` (R411)
abbrev Reg.GLB_MODE.SEQ : Fld := ⟨0x000004, 0, 8⟩
abbrev Reg.GLB_MODE.MODE : Fld := ⟨0x000004, 8, 3⟩
abbrev Reg.GLB_MODE.TARGET : Fld := ⟨0x000004, 11, 3⟩
abbrev Reg.GLB_MODE.PREV : Fld := ⟨0x000004, 14, 3⟩
abbrev Reg.GLB_MODE.CAUSE : Fld := ⟨0x000004, 17, 4⟩
abbrev Reg.GLB_MODE.ADMIT : Fld := ⟨0x000004, 21, 1⟩
abbrev Reg.GLB_MODE.BRACE : Fld := ⟨0x000004, 22, 1⟩
abbrev Reg.GLB_MODE.FALLBACK : Fld := ⟨0x000004, 23, 1⟩
-- `GLB_MODECFG` (R411)
abbrev Reg.GLB_MODECFG.ANCHOR : Fld := ⟨0x000008, 0, 8⟩
-- `GLB_MODECMD` (R411)
abbrev Reg.GLB_MODECMD.CMD : Fld := ⟨0x00000C, 0, 4⟩
-- `GLB_KEY` (R411)
abbrev Reg.GLB_KEY.KEY : Fld := ⟨0x000010, 0, 32⟩
-- `GLB_KEYST` (R411)
abbrev Reg.GLB_KEYST.UNLOCKED : Fld := ⟨0x000014, 0, 1⟩
abbrev Reg.GLB_KEYST.OWNER : Fld := ⟨0x000014, 1, 2⟩
-- `GLB_TXN` (R411)
abbrev Reg.GLB_TXN.REQ : Fld := ⟨0x000018, 0, 1⟩
abbrev Reg.GLB_TXN.RENEW : Fld := ⟨0x000018, 1, 1⟩
abbrev Reg.GLB_TXN.COMMIT : Fld := ⟨0x000018, 2, 1⟩
abbrev Reg.GLB_TXN.RELEASE : Fld := ⟨0x000018, 3, 1⟩
abbrev Reg.GLB_TXN.HELD : Fld := ⟨0x000018, 8, 1⟩
abbrev Reg.GLB_TXN.OWNER : Fld := ⟨0x000018, 9, 2⟩
abbrev Reg.GLB_TXN.CHECK : Fld := ⟨0x000018, 11, 1⟩
abbrev Reg.GLB_TXN.REMAIN : Fld := ⟨0x000018, 16, 10⟩
-- `GLB_TXNCFG` (R411)
abbrev Reg.GLB_TXNCFG.LEASE : Fld := ⟨0x00001C, 0, 10⟩
-- `GLB_TXNST` (R411)
abbrev Reg.GLB_TXNST.SEQ : Fld := ⟨0x000020, 0, 8⟩
abbrev Reg.GLB_TXNST.GRANTD : Fld := ⟨0x000020, 8, 1⟩
abbrev Reg.GLB_TXNST.DENIED : Fld := ⟨0x000020, 9, 1⟩
abbrev Reg.GLB_TXNST.EXPIRED : Fld := ⟨0x000020, 10, 1⟩
abbrev Reg.GLB_TXNST.RESETREL : Fld := ⟨0x000020, 11, 1⟩
abbrev Reg.GLB_TXNST.COMMITD : Fld := ⟨0x000020, 12, 1⟩
abbrev Reg.GLB_TXNST.COMMITREJ : Fld := ⟨0x000020, 13, 1⟩
-- `GLB_FWCTL` (R411)
abbrev Reg.GLB_FWCTL.SEQ : Fld := ⟨0x000024, 0, 8⟩
abbrev Reg.GLB_FWCTL.BADIMG : Fld := ⟨0x000024, 8, 1⟩
abbrev Reg.GLB_FWCTL.REVERTED : Fld := ⟨0x000024, 9, 1⟩
abbrev Reg.GLB_FWCTL.SWAPD : Fld := ⟨0x000024, 10, 1⟩
abbrev Reg.GLB_FWCTL.ARM : Fld := ⟨0x000024, 11, 1⟩
abbrev Reg.GLB_FWCTL.CANCEL : Fld := ⟨0x000024, 12, 1⟩
abbrev Reg.GLB_FWCTL.BANK : Fld := ⟨0x000024, 13, 1⟩
abbrev Reg.GLB_FWCTL.PEND : Fld := ⟨0x000024, 14, 1⟩
abbrev Reg.GLB_FWCTL.ALIVE : Fld := ⟨0x000024, 15, 1⟩
-- `GLB_FWPTR` (R411)
abbrev Reg.GLB_FWPTR.PTR : Fld := ⟨0x000028, 2, 18⟩
-- `GLB_FWDATA` (R411)
abbrev Reg.GLB_FWDATA.DATA : Fld := ⟨0x00002C, 0, 32⟩
-- `GLB_LOCK` (R411)
abbrev Reg.GLB_LOCK.BLOCKS : Fld := ⟨0x000030, 0, 17⟩
-- `GLB_TVSTAT` (R411)
abbrev Reg.GLB_TVSTAT.COUNT : Fld := ⟨0x000034, 0, 16⟩
-- `GLB_TVADDR` (R411)
abbrev Reg.GLB_TVADDR.ADDR : Fld := ⟨0x000038, 0, 21⟩
-- `GLB_RVSTAT` (R411)
abbrev Reg.GLB_RVSTAT.COUNT : Fld := ⟨0x00003C, 0, 16⟩
-- `GLB_RVADDR` (R411)
abbrev Reg.GLB_RVADDR.ADDR : Fld := ⟨0x000040, 0, 21⟩
-- `GLB_BUS` (R411)
abbrev Reg.GLB_BUS.STALL : Fld := ⟨0x000044, 0, 16⟩
abbrev Reg.GLB_BUS.WAIT : Fld := ⟨0x000044, 16, 16⟩
-- `GLB_AUTHST` (R411)
abbrev Reg.GLB_AUTHST.OPEN : Fld := ⟨0x000048, 0, 1⟩
abbrev Reg.GLB_AUTHST.REMAIN : Fld := ⟨0x000048, 1, 6⟩
abbrev Reg.GLB_AUTHST.SRC : Fld := ⟨0x000048, 7, 2⟩
-- `GLB_SUM` (R411)
abbrev Reg.GLB_SUM.ATTN : Fld := ⟨0x00004C, 0, 17⟩
abbrev Reg.GLB_SUM.PRIMER : Fld := ⟨0x00004C, 17, 1⟩
abbrev Reg.GLB_SUM.FALLBACK : Fld := ⟨0x00004C, 18, 1⟩
-- `REF_SUM` (R110)
abbrev Reg.REF_SUM.PRESENT : Fld := ⟨0x010000, 0, 24⟩
abbrev Reg.REF_SUM.PRIMER : Fld := ⟨0x010000, 24, 1⟩
abbrev Reg.REF_SUM.DEGRADED : Fld := ⟨0x010000, 25, 1⟩
abbrev Reg.REF_SUM.CFGERR : Fld := ⟨0x010000, 26, 1⟩
-- `REF_FALM` (R110)
abbrev Reg.REF_FALM.FALM : Fld := ⟨0x010004, 0, 24⟩
-- `REF_PALM` (R110)
abbrev Reg.REF_PALM.PALM : Fld := ⟨0x010008, 0, 24⟩
-- `REF_TCAL` (R110)
abbrev Reg.REF_TCAL.PERIOD : Fld := ⟨0x010010, 0, 12⟩
abbrev Reg.REF_TCAL.EN : Fld := ⟨0x010010, 12, 1⟩
abbrev Reg.REF_TCAL.AUTOSUB : Fld := ⟨0x010010, 13, 1⟩
-- `REF_RETIRE` (R110)
abbrev Reg.REF_RETIRE.LANES : Fld := ⟨0x010014, 0, 28⟩
-- `REF_LANEHO` (R110)
abbrev Reg.REF_LANEHO.FUNC : Fld := ⟨0x010018, 0, 5⟩
abbrev Reg.REF_LANEHO.LANE : Fld := ⟨0x010018, 5, 5⟩
abbrev Reg.REF_LANEHO.OVL : Fld := ⟨0x010018, 10, 3⟩
abbrev Reg.REF_LANEHO.GO : Fld := ⟨0x010018, 13, 1⟩
-- `REF_HOSTAT` (R110)
abbrev Reg.REF_HOSTAT.SEQ : Fld := ⟨0x01001C, 0, 8⟩
abbrev Reg.REF_HOSTAT.DONE : Fld := ⟨0x01001C, 8, 1⟩
abbrev Reg.REF_HOSTAT.ESTIMATED : Fld := ⟨0x01001C, 9, 1⟩
abbrev Reg.REF_HOSTAT.REJECTED : Fld := ⟨0x01001C, 10, 1⟩
abbrev Reg.REF_HOSTAT.BUSY : Fld := ⟨0x01001C, 11, 1⟩
abbrev Reg.REF_HOSTAT.FUNC : Fld := ⟨0x01001C, 12, 5⟩
abbrev Reg.REF_HOSTAT.OLD : Fld := ⟨0x01001C, 17, 5⟩
-- `REF_CALPPS` (R110)
abbrev Reg.REF_CALPPS.AMBIG : Fld := ⟨0x010020, 0, 1⟩
abbrev Reg.REF_CALPPS.PPSPRES : Fld := ⟨0x010020, 1, 1⟩
abbrev Reg.REF_CALPPS.OFFSET : Fld := ⟨0x010020, 8, 8⟩
-- `REF_CFG` (R111)
abbrev Reg.REF_CFG.EN (i : Nat) : Fld := ⟨0x011000 + 0x80 * i, 0, 1⟩
abbrev Reg.REF_CFG.TYPE (i : Nat) : Fld := ⟨0x011000 + 0x80 * i, 1, 1⟩
abbrev Reg.REF_CFG.EDGE (i : Nat) : Fld := ⟨0x011000 + 0x80 * i, 2, 1⟩
abbrev Reg.REF_CFG.IOSTD (i : Nat) : Fld := ⟨0x011000 + 0x80 * i, 3, 2⟩
abbrev Reg.REF_CFG.TERM (i : Nat) : Fld := ⟨0x011000 + 0x80 * i, 5, 1⟩
abbrev Reg.REF_CFG.THR (i : Nat) : Fld := ⟨0x011000 + 0x80 * i, 6, 2⟩
abbrev Reg.REF_CFG.PRE (i : Nat) : Fld := ⟨0x011000 + 0x80 * i, 8, 4⟩
abbrev Reg.REF_CFG.HOLDOFF (i : Nat) : Fld := ⟨0x011000 + 0x80 * i, 12, 4⟩
abbrev Reg.REF_CFG.PKTMODE (i : Nat) : Fld := ⟨0x011000 + 0x80 * i, 16, 1⟩
-- `REF_NOMLO` (R111)
abbrev Reg.REF_NOMLO.NOM (i : Nat) : Fld := ⟨0x011004 + 0x80 * i, 0, 32⟩
-- `REF_NOMHI` (R111)
abbrev Reg.REF_NOMHI.NOM (i : Nat) : Fld := ⟨0x011008 + 0x80 * i, 0, 8⟩
-- `REF_PRES` (R111)
abbrev Reg.REF_PRES.WIN (i : Nat) : Fld := ⟨0x01100C + 0x80 * i, 0, 16⟩
abbrev Reg.REF_PRES.UNIT (i : Nat) : Fld := ⟨0x01100C + 0x80 * i, 16, 2⟩
abbrev Reg.REF_PRES.REGAIN (i : Nat) : Fld := ⟨0x01100C + 0x80 * i, 18, 8⟩
-- `REF_FMON` (R111)
abbrev Reg.REF_FMON.FWIN (i : Nat) : Fld := ⟨0x011010 + 0x80 * i, 0, 3⟩
abbrev Reg.REF_FMON.FCNT (i : Nat) : Fld := ⟨0x011010 + 0x80 * i, 4, 4⟩
-- `REF_FLIMSET` (R111)
abbrev Reg.REF_FLIMSET.LIM (i : Nat) : Fld := ⟨0x011014 + 0x80 * i, 0, 32⟩
-- `REF_FLIMCLR` (R111)
abbrev Reg.REF_FLIMCLR.LIM (i : Nat) : Fld := ⟨0x011018 + 0x80 * i, 0, 32⟩
-- `REF_PLIM` (R111)
abbrev Reg.REF_PLIM.LIM (i : Nat) : Fld := ⟨0x01101C + 0x80 * i, 0, 32⟩
-- `REF_REC` (R111)
abbrev Reg.REF_REC.INT (i : Nat) : Fld := ⟨0x011020 + 0x80 * i, 0, 3⟩
-- `REF_STAT` (R111)
abbrev Reg.REF_STAT.SEQ (i : Nat) : Fld := ⟨0x011024 + 0x80 * i, 0, 8⟩
abbrev Reg.REF_STAT.FALM (i : Nat) : Fld := ⟨0x011024 + 0x80 * i, 8, 1⟩
abbrev Reg.REF_STAT.PALM (i : Nat) : Fld := ⟨0x011024 + 0x80 * i, 9, 1⟩
abbrev Reg.REF_STAT.LOSS (i : Nat) : Fld := ⟨0x011024 + 0x80 * i, 10, 1⟩
abbrev Reg.REF_STAT.SLIP (i : Nat) : Fld := ⟨0x011024 + 0x80 * i, 11, 1⟩
abbrev Reg.REF_STAT.CFGERR (i : Nat) : Fld := ⟨0x011024 + 0x80 * i, 12, 1⟩
abbrev Reg.REF_STAT.PRESENT (i : Nat) : Fld := ⟨0x011024 + 0x80 * i, 13, 1⟩
-- `REF_PHLO` (R111)
abbrev Reg.REF_PHLO.PHASE (i : Nat) : Fld := ⟨0x011028 + 0x80 * i, 0, 32⟩
-- `REF_PHHI` (R111)
abbrev Reg.REF_PHHI.PHASE (i : Nat) : Fld := ⟨0x01102C + 0x80 * i, 0, 32⟩
-- `REF_FRLO` (R111)
abbrev Reg.REF_FRLO.FREQ (i : Nat) : Fld := ⟨0x011030 + 0x80 * i, 0, 32⟩
-- `REF_FRHI` (R111)
abbrev Reg.REF_FRHI.FREQ (i : Nat) : Fld := ⟨0x011034 + 0x80 * i, 0, 16⟩
-- `REF_EDGLO` (R111)
abbrev Reg.REF_EDGLO.EDGES (i : Nat) : Fld := ⟨0x011038 + 0x80 * i, 0, 32⟩
-- `REF_EDGHI` (R111)
abbrev Reg.REF_EDGHI.EDGES (i : Nat) : Fld := ⟨0x01103C + 0x80 * i, 0, 32⟩
-- `REF_CNT` (R111)
abbrev Reg.REF_CNT.SLIP (i : Nat) : Fld := ⟨0x011040 + 0x80 * i, 0, 16⟩
abbrev Reg.REF_CNT.GLITCH (i : Nat) : Fld := ⟨0x011040 + 0x80 * i, 16, 16⟩
-- `REF_PLACE` (R111)
abbrev Reg.REF_PLACE.LANE (i : Nat) : Fld := ⟨0x011044 + 0x80 * i, 0, 5⟩
abbrev Reg.REF_PLACE.EPOCH (i : Nat) : Fld := ⟨0x011044 + 0x80 * i, 8, 1⟩
-- `REF_OVR` (R111)
abbrev Reg.REF_OVR.COUNT (i : Nat) : Fld := ⟨0x011048 + 0x80 * i, 0, 16⟩
-- `REF_LSTAT` (R111)
abbrev Reg.REF_LSTAT.VALID (i : Nat) : Fld := ⟨0x012000 + 0x10 * i, 0, 1⟩
abbrev Reg.REF_LSTAT.CALOK (i : Nat) : Fld := ⟨0x012000 + 0x10 * i, 1, 1⟩
abbrev Reg.REF_LSTAT.RETIRED (i : Nat) : Fld := ⟨0x012000 + 0x10 * i, 2, 1⟩
abbrev Reg.REF_LSTAT.FREE (i : Nat) : Fld := ⟨0x012000 + 0x10 * i, 3, 1⟩
abbrev Reg.REF_LSTAT.FUNC (i : Nat) : Fld := ⟨0x012000 + 0x10 * i, 4, 5⟩
abbrev Reg.REF_LSTAT.REJECTS (i : Nat) : Fld := ⟨0x012000 + 0x10 * i, 9, 3⟩
-- `REF_LCAL` (R111)
abbrev Reg.REF_LCAL.SPAN (i : Nat) : Fld := ⟨0x012004 + 0x10 * i, 0, 16⟩
abbrev Reg.REF_LCAL.WIDEST (i : Nat) : Fld := ⟨0x012004 + 0x10 * i, 16, 16⟩
-- `REF_LCALN` (R111)
abbrev Reg.REF_LCALN.COUNT (i : Nat) : Fld := ⟨0x012008 + 0x10 * i, 0, 32⟩
-- `REF_LCALT` (R111)
abbrev Reg.REF_LCALT.TIME (i : Nat) : Fld := ⟨0x01200C + 0x10 * i, 0, 32⟩
-- `UMP_SUM` (R137)
abbrev Reg.UMP_SUM.DISPUTED : Fld := ⟨0x020000, 0, 8⟩
abbrev Reg.UMP_SUM.NOSEL : Fld := ⟨0x020000, 8, 8⟩
abbrev Reg.UMP_SUM.CONSOK : Fld := ⟨0x020000, 16, 1⟩
abbrev Reg.UMP_SUM.PRIMER : Fld := ⟨0x020000, 17, 1⟩
abbrev Reg.UMP_SUM.FROZEN : Fld := ⟨0x020000, 18, 1⟩
-- `UMP_QUAL` (R137)
abbrev Reg.UMP_QUAL.QUAL : Fld := ⟨0x020004, 0, 24⟩
-- `UMP_SUSP` (R137)
abbrev Reg.UMP_SUSP.SUSP : Fld := ⟨0x020008, 0, 24⟩
-- `UMP_DISQ` (R137)
abbrev Reg.UMP_DISQ.DISQ : Fld := ⟨0x02000C, 0, 24⟩
-- `UMP_TIMES` (R137)
abbrev Reg.UMP_TIMES.SOAK : Fld := ⟨0x020010, 0, 12⟩
abbrev Reg.UMP_TIMES.WTR : Fld := ⟨0x020010, 12, 12⟩
-- `UMP_DRIFT` (R137)
abbrev Reg.UMP_DRIFT.WIN : Fld := ⟨0x020014, 0, 14⟩
abbrev Reg.UMP_DRIFT.DCNT : Fld := ⟨0x020014, 14, 6⟩
abbrev Reg.UMP_DRIFT.DQTIME : Fld := ⟨0x020014, 20, 12⟩
-- `UMP_DSET` (R137)
abbrev Reg.UMP_DSET.LIM : Fld := ⟨0x020018, 0, 32⟩
-- `UMP_DCLR` (R137)
abbrev Reg.UMP_DCLR.LIM : Fld := ⟨0x02001C, 0, 32⟩
-- `UMP_DQLIM` (R137)
abbrev Reg.UMP_DQLIM.LIM : Fld := ⟨0x020020, 0, 32⟩
-- `UMP_DISP` (R137)
abbrev Reg.UMP_DISP.TAU : Fld := ⟨0x020024, 0, 3⟩
abbrev Reg.UMP_DISP.EN : Fld := ⟨0x020024, 3, 1⟩
-- `UMP_DISPLIM` (R137)
abbrev Reg.UMP_DISPLIM.LIM : Fld := ⟨0x020028, 0, 32⟩
-- `UMP_CONSLO` (R137)
abbrev Reg.UMP_CONSLO.FREQ : Fld := ⟨0x02002C, 0, 32⟩
-- `UMP_CONSHI` (R137)
abbrev Reg.UMP_CONSHI.FREQ : Fld := ⟨0x020030, 0, 16⟩
abbrev Reg.UMP_CONSHI.VOTERS : Fld := ⟨0x020030, 16, 5⟩
abbrev Reg.UMP_CONSHI.VALID : Fld := ⟨0x020030, 21, 1⟩
abbrev Reg.UMP_CONSHI.DOMINANT : Fld := ⟨0x020030, 22, 1⟩
-- `UMP_QUORUM` (R137)
abbrev Reg.UMP_QUORUM.MINVOTE : Fld := ⟨0x020034, 0, 5⟩
-- `UMP_PUTTY` (R137)
abbrev Reg.UMP_PUTTY.WIN : Fld := ⟨0x020038, 0, 5⟩
abbrev Reg.UMP_PUTTY.AUTO : Fld := ⟨0x020038, 5, 1⟩
-- `UMP_IDX` (R137)
abbrev Reg.UMP_IDX.WEIGHT (i : Nat) : Fld := ⟨0x021000 + 0x40 * i, 0, 4⟩
-- `UMP_ISTAT` (R137)
abbrev Reg.UMP_ISTAT.SEQ (i : Nat) : Fld := ⟨0x021004 + 0x40 * i, 0, 8⟩
abbrev Reg.UMP_ISTAT.STATE (i : Nat) : Fld := ⟨0x021004 + 0x40 * i, 8, 3⟩
abbrev Reg.UMP_ISTAT.QUALD (i : Nat) : Fld := ⟨0x021004 + 0x40 * i, 11, 1⟩
abbrev Reg.UMP_ISTAT.SUSPD (i : Nat) : Fld := ⟨0x021004 + 0x40 * i, 12, 1⟩
abbrev Reg.UMP_ISTAT.DISQD (i : Nat) : Fld := ⟨0x021004 + 0x40 * i, 13, 1⟩
abbrev Reg.UMP_ISTAT.CAUSE (i : Nat) : Fld := ⟨0x021004 + 0x40 * i, 14, 3⟩
abbrev Reg.UMP_ISTAT.VOTER (i : Nat) : Fld := ⟨0x021004 + 0x40 * i, 17, 1⟩
-- `UMP_ITIME` (R137)
abbrev Reg.UMP_ITIME.TIME (i : Nat) : Fld := ⟨0x021008 + 0x40 * i, 0, 32⟩
-- `UMP_DEVLO` (R137)
abbrev Reg.UMP_DEVLO.DEV (i : Nat) : Fld := ⟨0x02100C + 0x40 * i, 0, 32⟩
-- `UMP_DEVHI` (R137)
abbrev Reg.UMP_DEVHI.DEV (i : Nat) : Fld := ⟨0x021010 + 0x40 * i, 0, 16⟩
-- `UMP_ICMD` (R137)
abbrev Reg.UMP_ICMD.DISQ (i : Nat) : Fld := ⟨0x021014 + 0x40 * i, 0, 1⟩
abbrev Reg.UMP_ICMD.REQUAL (i : Nat) : Fld := ⟨0x021014 + 0x40 * i, 1, 1⟩
-- `UMP_RANK0` (R137)
abbrev Reg.UMP_RANK0.RANK (i : Nat) : Fld := ⟨0x022000 + 0x40 * i, 0, 32⟩
-- `UMP_RANK1` (R137)
abbrev Reg.UMP_RANK1.RANK (i : Nat) : Fld := ⟨0x022004 + 0x40 * i, 0, 32⟩
-- `UMP_RANK2` (R137)
abbrev Reg.UMP_RANK2.RANK (i : Nat) : Fld := ⟨0x022008 + 0x40 * i, 0, 32⟩
-- `UMP_CHCFG` (R137)
abbrev Reg.UMP_CHCFG.REVERT (i : Nat) : Fld := ⟨0x02200C + 0x40 * i, 0, 1⟩
abbrev Reg.UMP_CHCFG.PUTTY (i : Nat) : Fld := ⟨0x02200C + 0x40 * i, 1, 1⟩
abbrev Reg.UMP_CHCFG.HOEXIT (i : Nat) : Fld := ⟨0x02200C + 0x40 * i, 2, 1⟩
abbrev Reg.UMP_CHCFG.RHOLD (i : Nat) : Fld := ⟨0x02200C + 0x40 * i, 3, 12⟩
-- `UMP_OVR` (R137)
abbrev Reg.UMP_OVR.INDEX (i : Nat) : Fld := ⟨0x022010 + 0x40 * i, 0, 5⟩
abbrev Reg.UMP_OVR.EN (i : Nat) : Fld := ⟨0x022010 + 0x40 * i, 5, 1⟩
abbrev Reg.UMP_OVR.FALLBACK (i : Nat) : Fld := ⟨0x022010 + 0x40 * i, 6, 1⟩
-- `UMP_SEL` (R137)
abbrev Reg.UMP_SEL.INDEX (i : Nat) : Fld := ⟨0x022014 + 0x40 * i, 0, 5⟩
abbrev Reg.UMP_SEL.FORCED (i : Nat) : Fld := ⟨0x022014 + 0x40 * i, 5, 1⟩
abbrev Reg.UMP_SEL.DISPUTED (i : Nat) : Fld := ⟨0x022014 + 0x40 * i, 6, 1⟩
abbrev Reg.UMP_SEL.SWBUSY (i : Nat) : Fld := ⟨0x022014 + 0x40 * i, 7, 1⟩
abbrev Reg.UMP_SEL.RIVAL (i : Nat) : Fld := ⟨0x022014 + 0x40 * i, 8, 5⟩
-- `UMP_SWSTAT` (R137)
abbrev Reg.UMP_SWSTAT.SEQ (i : Nat) : Fld := ⟨0x022018 + 0x40 * i, 0, 8⟩
abbrev Reg.UMP_SWSTAT.SWITCHED (i : Nat) : Fld := ⟨0x022018 + 0x40 * i, 8, 1⟩
abbrev Reg.UMP_SWSTAT.NOSEL (i : Nat) : Fld := ⟨0x022018 + 0x40 * i, 9, 1⟩
abbrev Reg.UMP_SWSTAT.DISPUTE (i : Nat) : Fld := ⟨0x022018 + 0x40 * i, 10, 1⟩
abbrev Reg.UMP_SWSTAT.ABORTED (i : Nat) : Fld := ⟨0x022018 + 0x40 * i, 11, 1⟩
-- `UMP_SWCNT` (R137)
abbrev Reg.UMP_SWCNT.COUNT (i : Nat) : Fld := ⟨0x02201C + 0x40 * i, 0, 32⟩
-- `UMP_BOLO` (R137)
abbrev Reg.UMP_BOLO.BO (i : Nat) : Fld := ⟨0x022020 + 0x40 * i, 0, 32⟩
-- `UMP_BOHI` (R137)
abbrev Reg.UMP_BOHI.BO (i : Nat) : Fld := ⟨0x022024 + 0x40 * i, 0, 32⟩
-- `UMP_LSW` (R137)
abbrev Reg.UMP_LSW.FROM (i : Nat) : Fld := ⟨0x022028 + 0x40 * i, 0, 5⟩
abbrev Reg.UMP_LSW.TO (i : Nat) : Fld := ⟨0x022028 + 0x40 * i, 5, 5⟩
abbrev Reg.UMP_LSW.REASON (i : Nat) : Fld := ⟨0x022028 + 0x40 * i, 10, 3⟩
abbrev Reg.UMP_LSW.SHORTFIT (i : Nat) : Fld := ⟨0x022028 + 0x40 * i, 13, 1⟩
abbrev Reg.UMP_LSW.ALIGN (i : Nat) : Fld := ⟨0x022028 + 0x40 * i, 14, 1⟩
-- `UMP_LSWSIG` (R137)
abbrev Reg.UMP_LSWSIG.SIGMA (i : Nat) : Fld := ⟨0x02202C + 0x40 * i, 0, 16⟩
-- `UMP_LSWTIM` (R137)
abbrev Reg.UMP_LSWTIM.TIME (i : Nat) : Fld := ⟨0x022030 + 0x40 * i, 0, 32⟩
-- `UMP_LSWDLO` (R137)
abbrev Reg.UMP_LSWDLO.DELTA (i : Nat) : Fld := ⟨0x022034 + 0x40 * i, 0, 32⟩
-- `UMP_LSWDHI` (R137)
abbrev Reg.UMP_LSWDHI.DELTA (i : Nat) : Fld := ⟨0x022038 + 0x40 * i, 0, 32⟩
-- `UMP_CHCMD` (R137)
abbrev Reg.UMP_CHCMD.BOCLR (i : Nat) : Fld := ⟨0x02203C + 0x40 * i, 0, 1⟩
abbrev Reg.UMP_CHCMD.REEVAL (i : Nat) : Fld := ⟨0x02203C + 0x40 * i, 1, 1⟩
-- `LDG_CFG` (R160)
abbrev Reg.LDG_CFG.EN : Fld := ⟨0x038000, 0, 1⟩
abbrev Reg.LDG_CFG.GAPMAX : Fld := ⟨0x038000, 8, 8⟩
abbrev Reg.LDG_CFG.MINTERM : Fld := ⟨0x038000, 16, 6⟩
abbrev Reg.LDG_CFG.K : Fld := ⟨0x038000, 22, 4⟩
-- `LDG_DIAG` (R160)
abbrev Reg.LDG_DIAG.FWIN : Fld := ⟨0x038004, 0, 12⟩
abbrev Reg.LDG_DIAG.DWIN : Fld := ⟨0x038004, 12, 8⟩
-- `LDG_MTIE` (R160)
abbrev Reg.LDG_MTIE.SEG : Fld := ⟨0x038008, 0, 16⟩
-- `LDG_VIEW` (R160)
abbrev Reg.LDG_VIEW.MODE : Fld := ⟨0x03800C, 0, 1⟩
-- `LDG_SNAPCTL` (R160)
abbrev Reg.LDG_SNAPCTL.TAKE : Fld := ⟨0x038010, 0, 1⟩
abbrev Reg.LDG_SNAPCTL.AUTO : Fld := ⟨0x038010, 1, 12⟩
-- `LDG_SNAPST` (R160)
abbrev Reg.LDG_SNAPST.SNAPSEQ : Fld := ⟨0x038014, 0, 16⟩
abbrev Reg.LDG_SNAPST.PEND : Fld := ⟨0x038014, 16, 1⟩
abbrev Reg.LDG_SNAPST.PRIMER : Fld := ⟨0x038014, 17, 1⟩
abbrev Reg.LDG_SNAPST.GAP : Fld := ⟨0x038014, 18, 1⟩
-- `LDG_SNAPTIM` (R160)
abbrev Reg.LDG_SNAPTIM.TIME : Fld := ⟨0x038018, 0, 32⟩
-- `LDG_SNAPCCLO` (R160)
abbrev Reg.LDG_SNAPCCLO.COUNT : Fld := ⟨0x03801C, 0, 32⟩
-- `LDG_SNAPCCHI` (R160)
abbrev Reg.LDG_SNAPCCHI.COUNT : Fld := ⟨0x038020, 0, 32⟩
-- `LDG_REC` (R160)
abbrev Reg.LDG_REC.DIAG : Fld := ⟨0x038024, 0, 1⟩
abbrev Reg.LDG_REC.TDEV : Fld := ⟨0x038024, 1, 1⟩
abbrev Reg.LDG_REC.MTIE : Fld := ⟨0x038024, 2, 1⟩
abbrev Reg.LDG_REC.DEC : Fld := ⟨0x038024, 8, 8⟩
-- `LDG_STAT` (R160)
abbrev Reg.LDG_STAT.SEQ : Fld := ⟨0x038028, 0, 8⟩
abbrev Reg.LDG_STAT.GAP : Fld := ⟨0x038028, 8, 1⟩
abbrev Reg.LDG_STAT.RESTART : Fld := ⟨0x038028, 9, 1⟩
abbrev Reg.LDG_STAT.SAT : Fld := ⟨0x038028, 10, 1⟩
-- `LDG_RECDROP` (R160)
abbrev Reg.LDG_RECDROP.COUNT : Fld := ⟨0x03802C, 0, 16⟩
-- `LDG_RST` (R160)
abbrev Reg.LDG_RST.INDEX : Fld := ⟨0x038030, 0, 5⟩
abbrev Reg.LDG_RST.ALL : Fld := ⟨0x038030, 5, 1⟩
abbrev Reg.LDG_RST.GO : Fld := ⟨0x038030, 6, 1⟩
-- `LDG_UPD` (R160)
abbrev Reg.LDG_UPD.COUNT : Fld := ⟨0x038034, 0, 32⟩
-- `LDG_SUM` (R160)
abbrev Reg.LDG_SUM.PRIMER : Fld := ⟨0x038038, 0, 1⟩
abbrev Reg.LDG_SUM.FROZEN : Fld := ⟨0x038038, 1, 1⟩
abbrev Reg.LDG_SUM.FVALID : Fld := ⟨0x038038, 2, 24⟩
-- `LDG_ISTAT` (R161)
abbrev Reg.LDG_ISTAT.GAPS (i : Nat) : Fld := ⟨0x039000 + 0x10 * i, 0, 16⟩
abbrev Reg.LDG_ISTAT.RSTCNT (i : Nat) : Fld := ⟨0x039000 + 0x10 * i, 16, 8⟩
abbrev Reg.LDG_ISTAT.INGAP (i : Nat) : Fld := ⟨0x039000 + 0x10 * i, 24, 1⟩
-- `LDG_IAGE` (R161)
abbrev Reg.LDG_IAGE.AGE (i : Nat) : Fld := ⟨0x039004 + 0x10 * i, 0, 32⟩
-- `LDG_ILGAP` (R161)
abbrev Reg.LDG_ILGAP.LEN (i : Nat) : Fld := ⟨0x039008 + 0x10 * i, 0, 32⟩
-- `DPL_CTL` (R187)
abbrev Reg.DPL_CTL.EN (i : Nat) : Fld := ⟨0x040000 + 0x1000 * i, 0, 1⟩
abbrev Reg.DPL_CTL.FORCE (i : Nat) : Fld := ⟨0x040000 + 0x1000 * i, 1, 2⟩
abbrev Reg.DPL_CTL.REC (i : Nat) : Fld := ⟨0x040000 + 0x1000 * i, 3, 3⟩
-- `DPL_BW` (R187)
abbrev Reg.DPL_BW.BW (i : Nat) : Fld := ⟨0x040004 + 0x1000 * i, 0, 32⟩
-- `DPL_ACQBW` (R187)
abbrev Reg.DPL_ACQBW.BW (i : Nat) : Fld := ⟨0x040008 + 0x1000 * i, 0, 32⟩
-- `DPL_LOOP` (R187)
abbrev Reg.DPL_LOOP.DAMP (i : Nat) : Fld := ⟨0x04000C + 0x1000 * i, 0, 8⟩
abbrev Reg.DPL_LOOP.PSL (i : Nat) : Fld := ⟨0x04000C + 0x1000 * i, 8, 14⟩
-- `DPL_FCLAMP` (R187)
abbrev Reg.DPL_FCLAMP.LIM (i : Nat) : Fld := ⟨0x040010 + 0x1000 * i, 0, 32⟩
-- `DPL_LOCK` (R187)
abbrev Reg.DPL_LOCK.LOCKTIME (i : Nat) : Fld := ⟨0x040014 + 0x1000 * i, 0, 12⟩
abbrev Reg.DPL_LOCK.UNLCNT (i : Nat) : Fld := ⟨0x040014 + 0x1000 * i, 12, 8⟩
-- `DPL_LOCKPHI` (R187)
abbrev Reg.DPL_LOCKPHI.LIM (i : Nat) : Fld := ⟨0x040018 + 0x1000 * i, 0, 32⟩
-- `DPL_UNLKPHI` (R187)
abbrev Reg.DPL_UNLKPHI.LIM (i : Nat) : Fld := ⟨0x04001C + 0x1000 * i, 0, 32⟩
-- `DPL_HOWIN` (R187)
abbrev Reg.DPL_HOWIN.WIN (i : Nat) : Fld := ⟨0x040020 + 0x1000 * i, 0, 17⟩
-- `DPL_HOCFG` (R187)
abbrev Reg.DPL_HOCFG.GUARD (i : Nat) : Fld := ⟨0x040024 + 0x1000 * i, 0, 12⟩
abbrev Reg.DPL_HOCFG.MODEL (i : Nat) : Fld := ⟨0x040024 + 0x1000 * i, 12, 1⟩
abbrev Reg.DPL_HOCFG.LIMIT (i : Nat) : Fld := ⟨0x040024 + 0x1000 * i, 13, 14⟩
-- `DPL_FRFLO` (R187)
abbrev Reg.DPL_FRFLO.FREQ (i : Nat) : Fld := ⟨0x040028 + 0x1000 * i, 0, 32⟩
-- `DPL_FRFHI` (R187)
abbrev Reg.DPL_FRFHI.FREQ (i : Nat) : Fld := ⟨0x04002C + 0x1000 * i, 0, 16⟩
-- `DPL_PHOFFLO` (R187)
abbrev Reg.DPL_PHOFFLO.PHOFF (i : Nat) : Fld := ⟨0x040030 + 0x1000 * i, 0, 32⟩
-- `DPL_PHOFFHI` (R187)
abbrev Reg.DPL_PHOFFHI.PHOFF (i : Nat) : Fld := ⟨0x040034 + 0x1000 * i, 0, 16⟩
-- `DPL_STAT` (R187)
abbrev Reg.DPL_STAT.SEQ (i : Nat) : Fld := ⟨0x040038 + 0x1000 * i, 0, 8⟩
abbrev Reg.DPL_STAT.LOCKD (i : Nat) : Fld := ⟨0x040038 + 0x1000 * i, 8, 1⟩
abbrev Reg.DPL_STAT.UNLOCKD (i : Nat) : Fld := ⟨0x040038 + 0x1000 * i, 9, 1⟩
abbrev Reg.DPL_STAT.HOENTD (i : Nat) : Fld := ⟨0x040038 + 0x1000 * i, 10, 1⟩
abbrev Reg.DPL_STAT.CLAMPD (i : Nat) : Fld := ⟨0x040038 + 0x1000 * i, 11, 1⟩
abbrev Reg.DPL_STAT.MIGD (i : Nat) : Fld := ⟨0x040038 + 0x1000 * i, 12, 1⟩
-- `DPL_STATE` (R187)
abbrev Reg.DPL_STATE.STATE (i : Nat) : Fld := ⟨0x04003C + 0x1000 * i, 0, 2⟩
abbrev Reg.DPL_STATE.INDEX (i : Nat) : Fld := ⟨0x04003C + 0x1000 * i, 2, 5⟩
abbrev Reg.DPL_STATE.HOQUAL (i : Nat) : Fld := ⟨0x04003C + 0x1000 * i, 7, 2⟩
abbrev Reg.DPL_STATE.FROZEN (i : Nat) : Fld := ⟨0x04003C + 0x1000 * i, 9, 1⟩
abbrev Reg.DPL_STATE.CLAMP (i : Nat) : Fld := ⟨0x04003C + 0x1000 * i, 10, 1⟩
abbrev Reg.DPL_STATE.SLEWING (i : Nat) : Fld := ⟨0x04003C + 0x1000 * i, 11, 1⟩
abbrev Reg.DPL_STATE.BWLIM (i : Nat) : Fld := ⟨0x04003C + 0x1000 * i, 12, 1⟩
abbrev Reg.DPL_STATE.MODELED (i : Nat) : Fld := ⟨0x04003C + 0x1000 * i, 13, 1⟩
abbrev Reg.DPL_STATE.PRIMER (i : Nat) : Fld := ⟨0x04003C + 0x1000 * i, 14, 1⟩
abbrev Reg.DPL_STATE.UNIT (i : Nat) : Fld := ⟨0x04003C + 0x1000 * i, 15, 4⟩
abbrev Reg.DPL_STATE.EPOCH (i : Nat) : Fld := ⟨0x04003C + 0x1000 * i, 19, 1⟩
-- `DPL_FWLO` (R187)
abbrev Reg.DPL_FWLO.FREQ (i : Nat) : Fld := ⟨0x040040 + 0x1000 * i, 0, 32⟩
-- `DPL_FWHI` (R187)
abbrev Reg.DPL_FWHI.FREQ (i : Nat) : Fld := ⟨0x040044 + 0x1000 * i, 0, 16⟩
-- `DPL_PELO` (R187)
abbrev Reg.DPL_PELO.ERR (i : Nat) : Fld := ⟨0x040048 + 0x1000 * i, 0, 32⟩
-- `DPL_PEHI` (R187)
abbrev Reg.DPL_PEHI.ERR (i : Nat) : Fld := ⟨0x04004C + 0x1000 * i, 0, 32⟩
-- `DPL_HOFLO` (R187)
abbrev Reg.DPL_HOFLO.FREQ (i : Nat) : Fld := ⟨0x040050 + 0x1000 * i, 0, 32⟩
-- `DPL_HOFHI` (R187)
abbrev Reg.DPL_HOFHI.FREQ (i : Nat) : Fld := ⟨0x040054 + 0x1000 * i, 0, 16⟩
-- `DPL_HOTIME` (R187)
abbrev Reg.DPL_HOTIME.TIME (i : Nat) : Fld := ⟨0x040058 + 0x1000 * i, 0, 32⟩
-- `DPL_LOCKTIM` (R187)
abbrev Reg.DPL_LOCKTIM.TIME (i : Nat) : Fld := ⟨0x04005C + 0x1000 * i, 0, 32⟩
-- `DPL_HIST` (R187)
abbrev Reg.DPL_HIST.VALID (i : Nat) : Fld := ⟨0x040060 + 0x1000 * i, 0, 11⟩
abbrev Reg.DPL_HIST.INT (i : Nat) : Fld := ⟨0x040060 + 0x1000 * i, 11, 7⟩
-- `DPL_STCNT` (R187)
abbrev Reg.DPL_STCNT.UNLOCKS (i : Nat) : Fld := ⟨0x040064 + 0x1000 * i, 0, 16⟩
abbrev Reg.DPL_STCNT.HOENTRY (i : Nat) : Fld := ⟨0x040064 + 0x1000 * i, 16, 16⟩
-- `DPL_GCFG` (R187)
abbrev Reg.DPL_GCFG.AUTOSUB : Fld := ⟨0x048000, 0, 1⟩
-- `DPL_MIG` (R187)
abbrev Reg.DPL_MIG.FUNC : Fld := ⟨0x048004, 0, 3⟩
abbrev Reg.DPL_MIG.UNIT : Fld := ⟨0x048004, 3, 4⟩
abbrev Reg.DPL_MIG.GO : Fld := ⟨0x048004, 7, 1⟩
-- `DPL_MIGSTAT` (R187)
abbrev Reg.DPL_MIGSTAT.SEQ : Fld := ⟨0x048008, 0, 8⟩
abbrev Reg.DPL_MIGSTAT.DONE : Fld := ⟨0x048008, 8, 1⟩
abbrev Reg.DPL_MIGSTAT.REJECTED : Fld := ⟨0x048008, 9, 1⟩
abbrev Reg.DPL_MIGSTAT.MISMATCH : Fld := ⟨0x048008, 10, 1⟩
abbrev Reg.DPL_MIGSTAT.CHECKPOINT : Fld := ⟨0x048008, 11, 1⟩
abbrev Reg.DPL_MIGSTAT.BUSY : Fld := ⟨0x048008, 12, 1⟩
abbrev Reg.DPL_MIGSTAT.FUNC : Fld := ⟨0x048008, 13, 3⟩
abbrev Reg.DPL_MIGSTAT.OLD : Fld := ⟨0x048008, 16, 4⟩
abbrev Reg.DPL_MIGSTAT.NEW : Fld := ⟨0x048008, 20, 4⟩
-- `DPL_UNITS` (R187)
abbrev Reg.DPL_UNITS.RETIRED : Fld := ⟨0x04800C, 0, 10⟩
abbrev Reg.DPL_UNITS.FREE : Fld := ⟨0x04800C, 10, 10⟩
abbrev Reg.DPL_UNITS.FAULT : Fld := ⟨0x04800C, 20, 10⟩
-- `DPL_HSEL` (R187)
abbrev Reg.DPL_HSEL.CHAN : Fld := ⟨0x048010, 0, 3⟩
abbrev Reg.DPL_HSEL.PAGE : Fld := ⟨0x048010, 3, 1⟩
-- `DPL_HSEQ` (R187)
abbrev Reg.DPL_HSEQ.COUNT : Fld := ⟨0x048014, 0, 32⟩
-- `DPL_MIGERR` (R187)
abbrev Reg.DPL_MIGERR.STEP : Fld := ⟨0x048018, 0, 32⟩
-- `APL_SUM` (R236)
abbrev Reg.APL_SUM.LOCK : Fld := ⟨0x050000, 0, 7⟩
abbrev Reg.APL_SUM.LOL : Fld := ⟨0x050000, 8, 7⟩
abbrev Reg.APL_SUM.HOPBUSY : Fld := ⟨0x050000, 16, 1⟩
abbrev Reg.APL_SUM.HOPPEND : Fld := ⟨0x050000, 17, 1⟩
abbrev Reg.APL_SUM.HOBUSY : Fld := ⟨0x050000, 18, 1⟩
abbrev Reg.APL_SUM.SHADOWOK : Fld := ⟨0x050000, 19, 1⟩
abbrev Reg.APL_SUM.PRIMER : Fld := ⟨0x050000, 20, 1⟩
-- `APL_HOPCFG` (R236)
abbrev Reg.APL_HOPCFG.MODE : Fld := ⟨0x050004, 0, 1⟩
abbrev Reg.APL_HOPCFG.GLIDE : Fld := ⟨0x050004, 1, 3⟩
-- `APL_HOP` (R236)
abbrev Reg.APL_HOP.PLAN : Fld := ⟨0x050008, 0, 6⟩
abbrev Reg.APL_HOP.WHEN : Fld := ⟨0x050008, 6, 1⟩
abbrev Reg.APL_HOP.GO : Fld := ⟨0x050008, 7, 1⟩
-- `APL_HOPSEC` (R236)
abbrev Reg.APL_HOPSEC.SEC : Fld := ⟨0x05000C, 0, 32⟩
-- `APL_HOPSTAT` (R236)
abbrev Reg.APL_HOPSTAT.SEQ : Fld := ⟨0x050010, 0, 8⟩
abbrev Reg.APL_HOPSTAT.HOPD : Fld := ⟨0x050010, 8, 1⟩
abbrev Reg.APL_HOPSTAT.HOPREJ : Fld := ⟨0x050010, 9, 1⟩
abbrev Reg.APL_HOPSTAT.LATE : Fld := ⟨0x050010, 10, 1⟩
abbrev Reg.APL_HOPSTAT.COMMITREJ : Fld := ⟨0x050010, 11, 1⟩
abbrev Reg.APL_HOPSTAT.BUSY : Fld := ⟨0x050010, 12, 1⟩
abbrev Reg.APL_HOPSTAT.PEND : Fld := ⟨0x050010, 13, 1⟩
abbrev Reg.APL_HOPSTAT.CUR : Fld := ⟨0x050010, 14, 6⟩
abbrev Reg.APL_HOPSTAT.PREV : Fld := ⟨0x050010, 20, 6⟩
-- `APL_HOPTIME` (R236)
abbrev Reg.APL_HOPTIME.TIME : Fld := ⟨0x050014, 0, 32⟩
-- `APL_BADREC` (R236)
abbrev Reg.APL_BADREC.PLAN : Fld := ⟨0x050018, 0, 6⟩
abbrev Reg.APL_BADREC.SLOT : Fld := ⟨0x050018, 6, 5⟩
abbrev Reg.APL_BADREC.REASON : Fld := ⟨0x050018, 11, 3⟩
-- `APL_LOLCFG` (R236)
abbrev Reg.APL_LOLCFG.RETRY : Fld := ⟨0x05001C, 0, 3⟩
abbrev Reg.APL_LOLCFG.AUTOSUB : Fld := ⟨0x05001C, 3, 1⟩
-- `APL_SPARE` (R236)
abbrev Reg.APL_SPARE.SHADOW : Fld := ⟨0x050020, 0, 3⟩
-- `APL_HO` (R236)
abbrev Reg.APL_HO.FUNC : Fld := ⟨0x050024, 0, 3⟩
abbrev Reg.APL_HO.GO : Fld := ⟨0x050024, 3, 1⟩
-- `APL_HOSTAT` (R236)
abbrev Reg.APL_HOSTAT.SEQ : Fld := ⟨0x050028, 0, 8⟩
abbrev Reg.APL_HOSTAT.DONE : Fld := ⟨0x050028, 8, 1⟩
abbrev Reg.APL_HOSTAT.REJECTED : Fld := ⟨0x050028, 9, 1⟩
abbrev Reg.APL_HOSTAT.MISMATCH : Fld := ⟨0x050028, 10, 1⟩
abbrev Reg.APL_HOSTAT.AUTO : Fld := ⟨0x050028, 11, 1⟩
abbrev Reg.APL_HOSTAT.BUSY : Fld := ⟨0x050028, 12, 1⟩
abbrev Reg.APL_HOSTAT.FUNC : Fld := ⟨0x050028, 13, 3⟩
abbrev Reg.APL_HOSTAT.OLD : Fld := ⟨0x050028, 16, 3⟩
abbrev Reg.APL_HOSTAT.NEW : Fld := ⟨0x050028, 19, 3⟩
-- `APL_HOSTEP` (R236)
abbrev Reg.APL_HOSTEP.STEP : Fld := ⟨0x05002C, 0, 32⟩
-- `APL_CMD` (R236)
abbrev Reg.APL_CMD.RELOCK : Fld := ⟨0x050030, 0, 7⟩
abbrev Reg.APL_CMD.HTCLR : Fld := ⟨0x050030, 7, 1⟩
-- `APL_ASTAT` (R236)
abbrev Reg.APL_ASTAT.STATE (i : Nat) : Fld := ⟨0x050100 + 0x20 * i, 0, 3⟩
abbrev Reg.APL_ASTAT.BAND (i : Nat) : Fld := ⟨0x050100 + 0x20 * i, 3, 9⟩
abbrev Reg.APL_ASTAT.CORE (i : Nat) : Fld := ⟨0x050100 + 0x20 * i, 12, 1⟩
abbrev Reg.APL_ASTAT.ALIGNED (i : Nat) : Fld := ⟨0x050100 + 0x20 * i, 13, 1⟩
abbrev Reg.APL_ASTAT.UNIT (i : Nat) : Fld := ⟨0x050100 + 0x20 * i, 14, 3⟩
abbrev Reg.APL_ASTAT.RETIRED (i : Nat) : Fld := ⟨0x050100 + 0x20 * i, 17, 1⟩
abbrev Reg.APL_ASTAT.FAULT (i : Nat) : Fld := ⟨0x050100 + 0x20 * i, 18, 1⟩
abbrev Reg.APL_ASTAT.LOL (i : Nat) : Fld := ⟨0x050100 + 0x20 * i, 19, 1⟩
abbrev Reg.APL_ASTAT.PRIMER (i : Nat) : Fld := ⟨0x050100 + 0x20 * i, 20, 1⟩
abbrev Reg.APL_ASTAT.HELD (i : Nat) : Fld := ⟨0x050100 + 0x20 * i, 21, 1⟩
abbrev Reg.APL_ASTAT.SHADOWOK (i : Nat) : Fld := ⟨0x050100 + 0x20 * i, 22, 1⟩
-- `APL_AEVT` (R236)
abbrev Reg.APL_AEVT.SEQ (i : Nat) : Fld := ⟨0x050104 + 0x20 * i, 0, 8⟩
abbrev Reg.APL_AEVT.LOCKD (i : Nat) : Fld := ⟨0x050104 + 0x20 * i, 8, 1⟩
abbrev Reg.APL_AEVT.LOLD (i : Nat) : Fld := ⟨0x050104 + 0x20 * i, 9, 1⟩
abbrev Reg.APL_AEVT.BANDFAIL (i : Nat) : Fld := ⟨0x050104 + 0x20 * i, 10, 1⟩
abbrev Reg.APL_AEVT.SUBD (i : Nat) : Fld := ⟨0x050104 + 0x20 * i, 11, 1⟩
abbrev Reg.APL_AEVT.GLIDED (i : Nat) : Fld := ⟨0x050104 + 0x20 * i, 12, 1⟩
-- `APL_ACNT` (R236)
abbrev Reg.APL_ACNT.LOLS (i : Nat) : Fld := ⟨0x050108 + 0x20 * i, 0, 16⟩
abbrev Reg.APL_ACNT.SEARCHES (i : Nat) : Fld := ⟨0x050108 + 0x20 * i, 16, 16⟩
-- `APL_AVT` (R236)
abbrev Reg.APL_AVT.VT (i : Nat) : Fld := ⟨0x05010C + 0x20 * i, 0, 8⟩
abbrev Reg.APL_AVT.TJ (i : Nat) : Fld := ⟨0x05010C + 0x20 * i, 8, 8⟩
-- `OUT_ENA` (R257)
abbrev Reg.OUT_ENA.CLK : Fld := ⟨0x060000, 0, 24⟩
abbrev Reg.OUT_ENA.PLS : Fld := ⟨0x060000, 24, 4⟩
-- `OUT_SUM` (R257)
abbrev Reg.OUT_SUM.RUN : Fld := ⟨0x060004, 0, 28⟩
abbrev Reg.OUT_SUM.PRIMER : Fld := ⟨0x060004, 28, 1⟩
abbrev Reg.OUT_SUM.FORCED : Fld := ⟨0x060004, 29, 1⟩
abbrev Reg.OUT_SUM.CFGERR : Fld := ⟨0x060004, 30, 1⟩
-- `OUT_SYNCMASK` (R257)
abbrev Reg.OUT_SYNCMASK.MASK : Fld := ⟨0x060008, 0, 24⟩
-- `OUT_SYNCCFG` (R257)
abbrev Reg.OUT_SYNCCFG.EN : Fld := ⟨0x06000C, 0, 1⟩
-- `OUT_SYNCSTAT` (R257)
abbrev Reg.OUT_SYNCSTAT.SEQ : Fld := ⟨0x060010, 0, 8⟩
abbrev Reg.OUT_SYNCSTAT.SYNCD : Fld := ⟨0x060010, 8, 1⟩
abbrev Reg.OUT_SYNCSTAT.IGNORED : Fld := ⟨0x060010, 9, 1⟩
abbrev Reg.OUT_SYNCSTAT.COUNT : Fld := ⟨0x060010, 16, 16⟩
-- `OUT_CMD` (R257)
abbrev Reg.OUT_CMD.SYNC : Fld := ⟨0x060014, 0, 1⟩
-- `OUT_SYNCIGN` (R257)
abbrev Reg.OUT_SYNCIGN.COUNT : Fld := ⟨0x060018, 0, 16⟩
-- `OUT_CFG` (R257)
abbrev Reg.OUT_CFG.SRC (i : Nat) : Fld := ⟨0x061000 + 0x40 * i, 0, 3⟩
abbrev Reg.OUT_CFG.FMT (i : Nat) : Fld := ⟨0x061000 + 0x40 * i, 3, 4⟩
abbrev Reg.OUT_CFG.SWING (i : Nat) : Fld := ⟨0x061000 + 0x40 * i, 7, 3⟩
abbrev Reg.OUT_CFG.INV (i : Nat) : Fld := ⟨0x061000 + 0x40 * i, 10, 1⟩
abbrev Reg.OUT_CFG.ANCH (i : Nat) : Fld := ⟨0x061000 + 0x40 * i, 11, 1⟩
abbrev Reg.OUT_CFG.PSEC (i : Nat) : Fld := ⟨0x061000 + 0x40 * i, 12, 8⟩
-- `OUT_SAFE` (R257)
abbrev Reg.OUT_SAFE.LEVEL (i : Nat) : Fld := ⟨0x061004 + 0x40 * i, 0, 2⟩
-- `OUT_TMIN` (R257)
abbrev Reg.OUT_TMIN.VAL (i : Nat) : Fld := ⟨0x061008 + 0x40 * i, 0, 28⟩
abbrev Reg.OUT_TMIN.UNIT (i : Nat) : Fld := ⟨0x061008 + 0x40 * i, 28, 2⟩
-- `OUT_SKIM` (R257)
abbrev Reg.OUT_SKIM.TARGET (i : Nat) : Fld := ⟨0x06100C + 0x40 * i, 0, 32⟩
-- `OUT_SKIMCFG` (R257)
abbrev Reg.OUT_SKIMCFG.RATE (i : Nat) : Fld := ⟨0x061010 + 0x40 * i, 0, 5⟩
-- `OUT_SKIMCUR` (R257)
abbrev Reg.OUT_SKIMCUR.S (i : Nat) : Fld := ⟨0x061014 + 0x40 * i, 0, 32⟩
-- `OUT_STAT` (R257)
abbrev Reg.OUT_STAT.SEQ (i : Nat) : Fld := ⟨0x061018 + 0x40 * i, 0, 8⟩
abbrev Reg.OUT_STAT.GUARDD (i : Nat) : Fld := ⟨0x061018 + 0x40 * i, 8, 1⟩
abbrev Reg.OUT_STAT.SKIMD (i : Nat) : Fld := ⟨0x061018 + 0x40 * i, 9, 1⟩
abbrev Reg.OUT_STAT.SYNCD (i : Nat) : Fld := ⟨0x061018 + 0x40 * i, 10, 1⟩
abbrev Reg.OUT_STAT.SQD (i : Nat) : Fld := ⟨0x061018 + 0x40 * i, 11, 1⟩
abbrev Reg.OUT_STAT.RUN (i : Nat) : Fld := ⟨0x061018 + 0x40 * i, 12, 1⟩
abbrev Reg.OUT_STAT.CFGERR (i : Nat) : Fld := ⟨0x061018 + 0x40 * i, 13, 1⟩
abbrev Reg.OUT_STAT.NOCLK (i : Nat) : Fld := ⟨0x061018 + 0x40 * i, 14, 1⟩
abbrev Reg.OUT_STAT.UNANCH (i : Nat) : Fld := ⟨0x061018 + 0x40 * i, 15, 1⟩
abbrev Reg.OUT_STAT.SQUELCH (i : Nat) : Fld := ⟨0x061018 + 0x40 * i, 16, 1⟩
abbrev Reg.OUT_STAT.FORCED (i : Nat) : Fld := ⟨0x061018 + 0x40 * i, 17, 1⟩
abbrev Reg.OUT_STAT.SKEWPEND (i : Nat) : Fld := ⟨0x061018 + 0x40 * i, 18, 1⟩
-- `OUT_GCNT` (R257)
abbrev Reg.OUT_GCNT.COUNT (i : Nat) : Fld := ⟨0x06101C + 0x40 * i, 0, 32⟩
-- `OUT_SKEW` (R257)
abbrev Reg.OUT_SKEW.SKEW (i : Nat) : Fld := ⟨0x061020 + 0x40 * i, 0, 32⟩
-- `PLS_CFG` (R257)
abbrev Reg.PLS_CFG.MODE (i : Nat) : Fld := ⟨0x062000 + 0x40 * i, 0, 2⟩
abbrev Reg.PLS_CFG.INDEX (i : Nat) : Fld := ⟨0x062000 + 0x40 * i, 2, 5⟩
abbrev Reg.PLS_CFG.CHAN (i : Nat) : Fld := ⟨0x062000 + 0x40 * i, 7, 3⟩
abbrev Reg.PLS_CFG.POL (i : Nat) : Fld := ⟨0x062000 + 0x40 * i, 10, 1⟩
abbrev Reg.PLS_CFG.K (i : Nat) : Fld := ⟨0x062000 + 0x40 * i, 12, 4⟩
abbrev Reg.PLS_CFG.FMT (i : Nat) : Fld := ⟨0x062000 + 0x40 * i, 16, 2⟩
-- `PLS_OFFLO` (R257)
abbrev Reg.PLS_OFFLO.OFF (i : Nat) : Fld := ⟨0x062004 + 0x40 * i, 0, 32⟩
-- `PLS_OFFHI` (R257)
abbrev Reg.PLS_OFFHI.OFF (i : Nat) : Fld := ⟨0x062008 + 0x40 * i, 0, 16⟩
-- `PLS_WIDTH` (R257)
abbrev Reg.PLS_WIDTH.NS (i : Nat) : Fld := ⟨0x06200C + 0x40 * i, 0, 32⟩
-- `PLS_FRAME` (R257)
abbrev Reg.PLS_FRAME.MUL (i : Nat) : Fld := ⟨0x062010 + 0x40 * i, 0, 16⟩
abbrev Reg.PLS_FRAME.DIV (i : Nat) : Fld := ⟨0x062010 + 0x40 * i, 16, 8⟩
-- `PLS_SAFE` (R257)
abbrev Reg.PLS_SAFE.LEVEL (i : Nat) : Fld := ⟨0x062014 + 0x40 * i, 0, 2⟩
-- `PLS_TMIN` (R257)
abbrev Reg.PLS_TMIN.TMIN (i : Nat) : Fld := ⟨0x062018 + 0x40 * i, 0, 32⟩
-- `PLS_STAT` (R257)
abbrev Reg.PLS_STAT.SEQ (i : Nat) : Fld := ⟨0x06201C + 0x40 * i, 0, 8⟩
abbrev Reg.PLS_STAT.DROP (i : Nat) : Fld := ⟨0x06201C + 0x40 * i, 8, 1⟩
abbrev Reg.PLS_STAT.LATE (i : Nat) : Fld := ⟨0x06201C + 0x40 * i, 9, 1⟩
abbrev Reg.PLS_STAT.CFGERR (i : Nat) : Fld := ⟨0x06201C + 0x40 * i, 10, 1⟩
abbrev Reg.PLS_STAT.NOIN (i : Nat) : Fld := ⟨0x06201C + 0x40 * i, 11, 1⟩
abbrev Reg.PLS_STAT.FLY (i : Nat) : Fld := ⟨0x06201C + 0x40 * i, 12, 1⟩
abbrev Reg.PLS_STAT.RUN (i : Nat) : Fld := ⟨0x06201C + 0x40 * i, 13, 1⟩
abbrev Reg.PLS_STAT.SQUELCH (i : Nat) : Fld := ⟨0x06201C + 0x40 * i, 14, 1⟩
-- `PLS_CNT` (R257)
abbrev Reg.PLS_CNT.DROPS (i : Nat) : Fld := ⟨0x062020 + 0x40 * i, 0, 16⟩
abbrev Reg.PLS_CNT.LATE (i : Nat) : Fld := ⟨0x062020 + 0x40 * i, 16, 16⟩
-- `PLS_TRKERR` (R257)
abbrev Reg.PLS_TRKERR.ERR (i : Nat) : Fld := ⟨0x062024 + 0x40 * i, 0, 32⟩
-- `TSC_SUM` (R279)
abbrev Reg.TSC_SUM.UNSET : Fld := ⟨0x070000, 0, 4⟩
abbrev Reg.TSC_SUM.TRACK : Fld := ⟨0x070000, 4, 4⟩
abbrev Reg.TSC_SUM.TRGRUN : Fld := ⟨0x070000, 8, 8⟩
abbrev Reg.TSC_SUM.PRIMER : Fld := ⟨0x070000, 16, 1⟩
abbrev Reg.TSC_SUM.FROZEN : Fld := ⟨0x070000, 17, 1⟩
-- `TSC_SNAP` (R279)
abbrev Reg.TSC_SNAP.MASK : Fld := ⟨0x070004, 0, 4⟩
abbrev Reg.TSC_SNAP.GO : Fld := ⟨0x070004, 4, 1⟩
-- `TSC_SNAPST` (R279)
abbrev Reg.TSC_SNAPST.SNAPSEQ : Fld := ⟨0x070008, 0, 16⟩
-- `TSC_SNAPCCLO` (R279)
abbrev Reg.TSC_SNAPCCLO.COUNT : Fld := ⟨0x07000C, 0, 32⟩
-- `TSC_SNAPCCHI` (R279)
abbrev Reg.TSC_SNAPCCHI.COUNT : Fld := ⟨0x070010, 0, 32⟩
-- `TSC_TRGENA` (R279)
abbrev Reg.TSC_TRGENA.EN : Fld := ⟨0x070014, 0, 8⟩
-- `TSC_CFG` (R279)
abbrev Reg.TSC_CFG.EN (i : Nat) : Fld := ⟨0x071000 + 0x100 * i, 0, 1⟩
abbrev Reg.TSC_CFG.FOLLOW (i : Nat) : Fld := ⟨0x071000 + 0x100 * i, 1, 1⟩
abbrev Reg.TSC_CFG.CHAN (i : Nat) : Fld := ⟨0x071000 + 0x100 * i, 2, 3⟩
abbrev Reg.TSC_CFG.TSCALE (i : Nat) : Fld := ⟨0x071000 + 0x100 * i, 5, 1⟩
-- `TSC_FRAC` (R279)
abbrev Reg.TSC_FRAC.FRAC (i : Nat) : Fld := ⟨0x071004 + 0x100 * i, 0, 16⟩
-- `TSC_NS` (R279)
abbrev Reg.TSC_NS.NS (i : Nat) : Fld := ⟨0x071008 + 0x100 * i, 0, 30⟩
-- `TSC_SECLO` (R279)
abbrev Reg.TSC_SECLO.SEC (i : Nat) : Fld := ⟨0x07100C + 0x100 * i, 0, 32⟩
-- `TSC_SECHI` (R279)
abbrev Reg.TSC_SECHI.SEC (i : Nat) : Fld := ⟨0x071010 + 0x100 * i, 0, 16⟩
-- `TSC_SETSECLO` (R279)
abbrev Reg.TSC_SETSECLO.SEC (i : Nat) : Fld := ⟨0x071014 + 0x100 * i, 0, 32⟩
-- `TSC_SETSECHI` (R279)
abbrev Reg.TSC_SETSECHI.SEC (i : Nat) : Fld := ⟨0x071018 + 0x100 * i, 0, 16⟩
-- `TSC_SETNS` (R279)
abbrev Reg.TSC_SETNS.NS (i : Nat) : Fld := ⟨0x07101C + 0x100 * i, 0, 30⟩
-- `TSC_SETFRAC` (R279)
abbrev Reg.TSC_SETFRAC.FRAC (i : Nat) : Fld := ⟨0x071020 + 0x100 * i, 0, 16⟩
-- `TSC_STEPLO` (R279)
abbrev Reg.TSC_STEPLO.STEP (i : Nat) : Fld := ⟨0x071024 + 0x100 * i, 0, 32⟩
-- `TSC_STEPHI` (R279)
abbrev Reg.TSC_STEPHI.STEP (i : Nat) : Fld := ⟨0x071028 + 0x100 * i, 0, 16⟩
-- `TSC_CMD` (R279)
abbrev Reg.TSC_CMD.CMD (i : Nat) : Fld := ⟨0x07102C + 0x100 * i, 0, 2⟩
-- `TSC_RATELO` (R279)
abbrev Reg.TSC_RATELO.RATE (i : Nat) : Fld := ⟨0x071030 + 0x100 * i, 0, 32⟩
-- `TSC_RATEHI` (R279)
abbrev Reg.TSC_RATEHI.RATE (i : Nat) : Fld := ⟨0x071034 + 0x100 * i, 0, 16⟩
abbrev Reg.TSC_RATEHI.SAT (i : Nat) : Fld := ⟨0x071034 + 0x100 * i, 16, 1⟩
-- `TSC_SRV` (R279)
abbrev Reg.TSC_SRV.SRC (i : Nat) : Fld := ⟨0x071038 + 0x100 * i, 0, 3⟩
abbrev Reg.TSC_SRV.IDX (i : Nat) : Fld := ⟨0x071038 + 0x100 * i, 3, 5⟩
abbrev Reg.TSC_SRV.STEPEN (i : Nat) : Fld := ⟨0x071038 + 0x100 * i, 8, 1⟩
-- `TSC_SRVBW` (R279)
abbrev Reg.TSC_SRVBW.BW (i : Nat) : Fld := ⟨0x07103C + 0x100 * i, 0, 32⟩
-- `TSC_SRVLOOP` (R279)
abbrev Reg.TSC_SRVLOOP.DAMP (i : Nat) : Fld := ⟨0x071040 + 0x100 * i, 0, 8⟩
abbrev Reg.TSC_SRVLOOP.SLEW (i : Nat) : Fld := ⟨0x071040 + 0x100 * i, 8, 14⟩
-- `TSC_SRVCLAMP` (R279)
abbrev Reg.TSC_SRVCLAMP.LIM (i : Nat) : Fld := ⟨0x071044 + 0x100 * i, 0, 32⟩
-- `TSC_STEPLIM` (R279)
abbrev Reg.TSC_STEPLIM.LIM (i : Nat) : Fld := ⟨0x071048 + 0x100 * i, 0, 32⟩
-- `TSC_LOCKLIM` (R279)
abbrev Reg.TSC_LOCKLIM.LIM (i : Nat) : Fld := ⟨0x07104C + 0x100 * i, 0, 32⟩
-- `TSC_SRVTIM` (R279)
abbrev Reg.TSC_SRVTIM.TIMEOUT (i : Nat) : Fld := ⟨0x071050 + 0x100 * i, 0, 8⟩
abbrev Reg.TSC_SRVTIM.LOCKCNT (i : Nat) : Fld := ⟨0x071050 + 0x100 * i, 8, 8⟩
-- `TSC_PPSOFFLO` (R279)
abbrev Reg.TSC_PPSOFFLO.OFF (i : Nat) : Fld := ⟨0x071054 + 0x100 * i, 0, 32⟩
-- `TSC_PPSOFFHI` (R279)
abbrev Reg.TSC_PPSOFFHI.OFF (i : Nat) : Fld := ⟨0x071058 + 0x100 * i, 0, 16⟩
-- `TSC_SWOFFLO` (R279)
abbrev Reg.TSC_SWOFFLO.OFF (i : Nat) : Fld := ⟨0x07105C + 0x100 * i, 0, 32⟩
-- `TSC_SWOFFHI` (R279)
abbrev Reg.TSC_SWOFFHI.OFF (i : Nat) : Fld := ⟨0x071060 + 0x100 * i, 0, 16⟩
-- `TSC_SRVSTAT` (R279)
abbrev Reg.TSC_SRVSTAT.SEQ (i : Nat) : Fld := ⟨0x071064 + 0x100 * i, 0, 8⟩
abbrev Reg.TSC_SRVSTAT.STEPD (i : Nat) : Fld := ⟨0x071064 + 0x100 * i, 8, 1⟩
abbrev Reg.TSC_SRVSTAT.TRACKD (i : Nat) : Fld := ⟨0x071064 + 0x100 * i, 9, 1⟩
abbrev Reg.TSC_SRVSTAT.COASTD (i : Nat) : Fld := ⟨0x071064 + 0x100 * i, 10, 1⟩
abbrev Reg.TSC_SRVSTAT.CFGERR (i : Nat) : Fld := ⟨0x071064 + 0x100 * i, 11, 1⟩
abbrev Reg.TSC_SRVSTAT.STATE (i : Nat) : Fld := ⟨0x071064 + 0x100 * i, 12, 2⟩
abbrev Reg.TSC_SRVSTAT.BWLIM (i : Nat) : Fld := ⟨0x071064 + 0x100 * i, 14, 1⟩
abbrev Reg.TSC_SRVSTAT.SLEWING (i : Nat) : Fld := ⟨0x071064 + 0x100 * i, 15, 1⟩
-- `TSC_SRVELO` (R279)
abbrev Reg.TSC_SRVELO.ERR (i : Nat) : Fld := ⟨0x071068 + 0x100 * i, 0, 32⟩
-- `TSC_SRVEHI` (R279)
abbrev Reg.TSC_SRVEHI.ERR (i : Nat) : Fld := ⟨0x07106C + 0x100 * i, 0, 16⟩
-- `TSC_UTC` (R279)
abbrev Reg.TSC_UTC.OFFSET (i : Nat) : Fld := ⟨0x071070 + 0x100 * i, 0, 16⟩
abbrev Reg.TSC_UTC.LEAP (i : Nat) : Fld := ⟨0x071070 + 0x100 * i, 16, 2⟩
abbrev Reg.TSC_UTC.VALID (i : Nat) : Fld := ⟨0x071070 + 0x100 * i, 18, 1⟩
-- `TSC_LEAPSEC` (R279)
abbrev Reg.TSC_LEAPSEC.SEC (i : Nat) : Fld := ⟨0x071074 + 0x100 * i, 0, 32⟩
-- `TSC_EVT` (R279)
abbrev Reg.TSC_EVT.SEQ (i : Nat) : Fld := ⟨0x071078 + 0x100 * i, 0, 8⟩
abbrev Reg.TSC_EVT.SETD (i : Nat) : Fld := ⟨0x071078 + 0x100 * i, 8, 1⟩
abbrev Reg.TSC_EVT.STEPPED (i : Nat) : Fld := ⟨0x071078 + 0x100 * i, 9, 1⟩
abbrev Reg.TSC_EVT.LEAPD (i : Nat) : Fld := ⟨0x071078 + 0x100 * i, 10, 1⟩
abbrev Reg.TSC_EVT.REJ (i : Nat) : Fld := ⟨0x071078 + 0x100 * i, 11, 1⟩
abbrev Reg.TSC_EVT.SETPEND (i : Nat) : Fld := ⟨0x071078 + 0x100 * i, 12, 1⟩
-- `TSC_CNT` (R279)
abbrev Reg.TSC_CNT.STEPS (i : Nat) : Fld := ⟨0x07107C + 0x100 * i, 0, 16⟩
abbrev Reg.TSC_CNT.SETS (i : Nat) : Fld := ⟨0x07107C + 0x100 * i, 16, 16⟩
-- `TSC_CAPSECLO` (R279)
abbrev Reg.TSC_CAPSECLO.SEC (i : Nat) : Fld := ⟨0x071080 + 0x100 * i, 0, 32⟩
-- `TSC_CAPSECHI` (R279)
abbrev Reg.TSC_CAPSECHI.SEC (i : Nat) : Fld := ⟨0x071084 + 0x100 * i, 0, 16⟩
-- `TSC_CAPNS` (R279)
abbrev Reg.TSC_CAPNS.NS (i : Nat) : Fld := ⟨0x071088 + 0x100 * i, 0, 30⟩
-- `TSC_CAPFRAC` (R279)
abbrev Reg.TSC_CAPFRAC.FRAC (i : Nat) : Fld := ⟨0x07108C + 0x100 * i, 0, 16⟩
-- `TRG_CFG` (R279)
abbrev Reg.TRG_CFG.MODE (i : Nat) : Fld := ⟨0x072000 + 0x40 * i, 0, 1⟩
abbrev Reg.TRG_CFG.SCALE (i : Nat) : Fld := ⟨0x072000 + 0x40 * i, 1, 2⟩
abbrev Reg.TRG_CFG.POL (i : Nat) : Fld := ⟨0x072000 + 0x40 * i, 3, 1⟩
abbrev Reg.TRG_CFG.FMT (i : Nat) : Fld := ⟨0x072000 + 0x40 * i, 4, 2⟩
-- `TRG_STSEC` (R279)
abbrev Reg.TRG_STSEC.SEC (i : Nat) : Fld := ⟨0x072004 + 0x40 * i, 0, 32⟩
-- `TRG_STNS` (R279)
abbrev Reg.TRG_STNS.NS (i : Nat) : Fld := ⟨0x072008 + 0x40 * i, 0, 30⟩
-- `TRG_STFRAC` (R279)
abbrev Reg.TRG_STFRAC.FRAC (i : Nat) : Fld := ⟨0x07200C + 0x40 * i, 0, 16⟩
-- `TRG_PERSEC` (R279)
abbrev Reg.TRG_PERSEC.SEC (i : Nat) : Fld := ⟨0x072010 + 0x40 * i, 0, 17⟩
-- `TRG_PERNS` (R279)
abbrev Reg.TRG_PERNS.NS (i : Nat) : Fld := ⟨0x072014 + 0x40 * i, 0, 30⟩
-- `TRG_PERFRAC` (R279)
abbrev Reg.TRG_PERFRAC.FRAC (i : Nat) : Fld := ⟨0x072018 + 0x40 * i, 0, 16⟩
-- `TRG_WIDTH` (R279)
abbrev Reg.TRG_WIDTH.NS (i : Nat) : Fld := ⟨0x07201C + 0x40 * i, 0, 32⟩
-- `TRG_COUNT` (R279)
abbrev Reg.TRG_COUNT.COUNT (i : Nat) : Fld := ⟨0x072020 + 0x40 * i, 0, 32⟩
-- `TRG_CMD` (R279)
abbrev Reg.TRG_CMD.ARM (i : Nat) : Fld := ⟨0x072024 + 0x40 * i, 0, 1⟩
abbrev Reg.TRG_CMD.DISARM (i : Nat) : Fld := ⟨0x072024 + 0x40 * i, 1, 1⟩
-- `TRG_STAT` (R279)
abbrev Reg.TRG_STAT.SEQ (i : Nat) : Fld := ⟨0x072028 + 0x40 * i, 0, 8⟩
abbrev Reg.TRG_STAT.FIRED (i : Nat) : Fld := ⟨0x072028 + 0x40 * i, 8, 1⟩
abbrev Reg.TRG_STAT.LATE (i : Nat) : Fld := ⟨0x072028 + 0x40 * i, 9, 1⟩
abbrev Reg.TRG_STAT.SKIPD (i : Nat) : Fld := ⟨0x072028 + 0x40 * i, 10, 1⟩
abbrev Reg.TRG_STAT.DONE (i : Nat) : Fld := ⟨0x072028 + 0x40 * i, 11, 1⟩
abbrev Reg.TRG_STAT.ARMED (i : Nat) : Fld := ⟨0x072028 + 0x40 * i, 12, 1⟩
abbrev Reg.TRG_STAT.RUN (i : Nat) : Fld := ⟨0x072028 + 0x40 * i, 13, 1⟩
abbrev Reg.TRG_STAT.SQUELCH (i : Nat) : Fld := ⟨0x072028 + 0x40 * i, 14, 1⟩
abbrev Reg.TRG_STAT.CFGERR (i : Nat) : Fld := ⟨0x072028 + 0x40 * i, 15, 1⟩
-- `TRG_FIRES` (R279)
abbrev Reg.TRG_FIRES.COUNT (i : Nat) : Fld := ⟨0x07202C + 0x40 * i, 0, 32⟩
-- `TRG_CNT` (R279)
abbrev Reg.TRG_CNT.LATE (i : Nat) : Fld := ⟨0x072030 + 0x40 * i, 0, 16⟩
abbrev Reg.TRG_CNT.SKIPS (i : Nat) : Fld := ⟨0x072030 + 0x40 * i, 16, 16⟩
-- `TRG_SAFE` (R279)
abbrev Reg.TRG_SAFE.LEVEL (i : Nat) : Fld := ⟨0x072034 + 0x40 * i, 0, 2⟩
-- `TRG_NEXTSEC` (R279)
abbrev Reg.TRG_NEXTSEC.SEC (i : Nat) : Fld := ⟨0x072038 + 0x40 * i, 0, 32⟩
-- `TRG_NEXTNS` (R279)
abbrev Reg.TRG_NEXTNS.NS (i : Nat) : Fld := ⟨0x07203C + 0x40 * i, 0, 30⟩
-- `EVT_SUM` (R303)
abbrev Reg.EVT_SUM.ARMED : Fld := ⟨0x080000, 0, 4⟩
abbrev Reg.EVT_SUM.MEAS : Fld := ⟨0x080000, 4, 4⟩
abbrev Reg.EVT_SUM.PRIMER : Fld := ⟨0x080000, 8, 1⟩
abbrev Reg.EVT_SUM.DEGRADED : Fld := ⟨0x080000, 9, 1⟩
abbrev Reg.EVT_SUM.CFGERR : Fld := ⟨0x080000, 10, 1⟩
-- `EVT_TCAL` (R303)
abbrev Reg.EVT_TCAL.PERIOD : Fld := ⟨0x080004, 0, 12⟩
abbrev Reg.EVT_TCAL.EN : Fld := ⟨0x080004, 12, 1⟩
abbrev Reg.EVT_TCAL.AUTOSUB : Fld := ⟨0x080004, 13, 1⟩
-- `EVT_TACHO` (R303)
abbrev Reg.EVT_TACHO.POS : Fld := ⟨0x080008, 0, 5⟩
abbrev Reg.EVT_TACHO.TAC : Fld := ⟨0x080008, 5, 6⟩
abbrev Reg.EVT_TACHO.GO : Fld := ⟨0x080008, 11, 1⟩
-- `EVT_HOSTAT` (R303)
abbrev Reg.EVT_HOSTAT.SEQ : Fld := ⟨0x08000C, 0, 8⟩
abbrev Reg.EVT_HOSTAT.DONE : Fld := ⟨0x08000C, 8, 1⟩
abbrev Reg.EVT_HOSTAT.REJECTED : Fld := ⟨0x08000C, 9, 1⟩
abbrev Reg.EVT_HOSTAT.BUSY : Fld := ⟨0x08000C, 10, 1⟩
abbrev Reg.EVT_HOSTAT.POS : Fld := ⟨0x08000C, 11, 5⟩
abbrev Reg.EVT_HOSTAT.OLD : Fld := ⟨0x08000C, 16, 6⟩
-- `EVT_RETLO` (R303)
abbrev Reg.EVT_RETLO.TACS : Fld := ⟨0x080010, 0, 32⟩
-- `EVT_RETHI` (R303)
abbrev Reg.EVT_RETHI.TACS : Fld := ⟨0x080014, 0, 2⟩
-- `EVT_CFG` (R303)
abbrev Reg.EVT_CFG.EN (i : Nat) : Fld := ⟨0x081000 + 0x40 * i, 0, 1⟩
abbrev Reg.EVT_CFG.EDGE (i : Nat) : Fld := ⟨0x081000 + 0x40 * i, 1, 2⟩
abbrev Reg.EVT_CFG.IOSTD (i : Nat) : Fld := ⟨0x081000 + 0x40 * i, 3, 2⟩
abbrev Reg.EVT_CFG.TERM (i : Nat) : Fld := ⟨0x081000 + 0x40 * i, 5, 1⟩
abbrev Reg.EVT_CFG.THR (i : Nat) : Fld := ⟨0x081000 + 0x40 * i, 6, 2⟩
abbrev Reg.EVT_CFG.PRE (i : Nat) : Fld := ⟨0x081000 + 0x40 * i, 8, 4⟩
abbrev Reg.EVT_CFG.HOLDOFF (i : Nat) : Fld := ⟨0x081000 + 0x40 * i, 12, 4⟩
abbrev Reg.EVT_CFG.GROUP (i : Nat) : Fld := ⟨0x081000 + 0x40 * i, 16, 2⟩
abbrev Reg.EVT_CFG.REC (i : Nat) : Fld := ⟨0x081000 + 0x40 * i, 18, 1⟩
abbrev Reg.EVT_CFG.GATED (i : Nat) : Fld := ⟨0x081000 + 0x40 * i, 19, 1⟩
-- `EVT_DELAY` (R303)
abbrev Reg.EVT_DELAY.DELAY (i : Nat) : Fld := ⟨0x081004 + 0x40 * i, 0, 32⟩
-- `EVT_STAT` (R303)
abbrev Reg.EVT_STAT.SEQ (i : Nat) : Fld := ⟨0x081008 + 0x40 * i, 0, 8⟩
abbrev Reg.EVT_STAT.DROPD (i : Nat) : Fld := ⟨0x081008 + 0x40 * i, 8, 1⟩
abbrev Reg.EVT_STAT.GLITCHD (i : Nat) : Fld := ⟨0x081008 + 0x40 * i, 9, 1⟩
abbrev Reg.EVT_STAT.CFGERR (i : Nat) : Fld := ⟨0x081008 + 0x40 * i, 10, 1⟩
abbrev Reg.EVT_STAT.OPEN (i : Nat) : Fld := ⟨0x081008 + 0x40 * i, 11, 1⟩
-- `EVT_CNTLO` (R303)
abbrev Reg.EVT_CNTLO.EVENTS (i : Nat) : Fld := ⟨0x08100C + 0x40 * i, 0, 32⟩
-- `EVT_CNTHI` (R303)
abbrev Reg.EVT_CNTHI.EVENTS (i : Nat) : Fld := ⟨0x081010 + 0x40 * i, 0, 32⟩
-- `EVT_DROPS` (R303)
abbrev Reg.EVT_DROPS.DROPS (i : Nat) : Fld := ⟨0x081014 + 0x40 * i, 0, 16⟩
abbrev Reg.EVT_DROPS.GLITCH (i : Nat) : Fld := ⟨0x081014 + 0x40 * i, 16, 16⟩
-- `EVT_PLACE` (R303)
abbrev Reg.EVT_PLACE.TACA (i : Nat) : Fld := ⟨0x081018 + 0x40 * i, 0, 6⟩
abbrev Reg.EVT_PLACE.TACB (i : Nat) : Fld := ⟨0x081018 + 0x40 * i, 8, 6⟩
abbrev Reg.EVT_PLACE.EPOCH (i : Nat) : Fld := ⟨0x081018 + 0x40 * i, 16, 1⟩
-- `EVT_LASTLO` (R303)
abbrev Reg.EVT_LASTLO.COARSE (i : Nat) : Fld := ⟨0x08101C + 0x40 * i, 0, 32⟩
-- `EVT_LASTHI` (R303)
abbrev Reg.EVT_LASTHI.COARSE (i : Nat) : Fld := ⟨0x081020 + 0x40 * i, 0, 32⟩
-- `EVT_LASTF` (R303)
abbrev Reg.EVT_LASTF.FINE (i : Nat) : Fld := ⟨0x081024 + 0x40 * i, 0, 14⟩
-- `EG_CFG` (R303)
abbrev Reg.EG_CFG.EN (i : Nat) : Fld := ⟨0x082000 + 0x40 * i, 0, 1⟩
abbrev Reg.EG_CFG.START (i : Nat) : Fld := ⟨0x082000 + 0x40 * i, 1, 4⟩
abbrev Reg.EG_CFG.GATE (i : Nat) : Fld := ⟨0x082000 + 0x40 * i, 5, 2⟩
-- `EG_STOPS` (R303)
abbrev Reg.EG_STOPS.MASK (i : Nat) : Fld := ⟨0x082004 + 0x40 * i, 0, 16⟩
-- `EG_TMO` (R303)
abbrev Reg.EG_TMO.TMO (i : Nat) : Fld := ⟨0x082008 + 0x40 * i, 0, 32⟩
-- `EG_TMOCFG` (R303)
abbrev Reg.EG_TMOCFG.ESC (i : Nat) : Fld := ⟨0x08200C + 0x40 * i, 0, 8⟩
abbrev Reg.EG_TMOCFG.STOP (i : Nat) : Fld := ⟨0x08200C + 0x40 * i, 8, 1⟩
-- `EG_CMD` (R303)
abbrev Reg.EG_CMD.ARM (i : Nat) : Fld := ⟨0x082010 + 0x40 * i, 0, 1⟩
abbrev Reg.EG_CMD.DISARM (i : Nat) : Fld := ⟨0x082010 + 0x40 * i, 1, 1⟩
-- `EG_COUNT` (R303)
abbrev Reg.EG_COUNT.COUNT (i : Nat) : Fld := ⟨0x082014 + 0x40 * i, 0, 32⟩
-- `EG_STAT` (R303)
abbrev Reg.EG_STAT.SEQ (i : Nat) : Fld := ⟨0x082018 + 0x40 * i, 0, 8⟩
abbrev Reg.EG_STAT.DONE (i : Nat) : Fld := ⟨0x082018 + 0x40 * i, 8, 1⟩
abbrev Reg.EG_STAT.TMOD (i : Nat) : Fld := ⟨0x082018 + 0x40 * i, 9, 1⟩
abbrev Reg.EG_STAT.GATEDD (i : Nat) : Fld := ⟨0x082018 + 0x40 * i, 10, 1⟩
abbrev Reg.EG_STAT.ESCD (i : Nat) : Fld := ⟨0x082018 + 0x40 * i, 11, 1⟩
abbrev Reg.EG_STAT.ABORTD (i : Nat) : Fld := ⟨0x082018 + 0x40 * i, 12, 1⟩
abbrev Reg.EG_STAT.STATE (i : Nat) : Fld := ⟨0x082018 + 0x40 * i, 13, 3⟩
abbrev Reg.EG_STAT.CFGERR (i : Nat) : Fld := ⟨0x082018 + 0x40 * i, 16, 1⟩
abbrev Reg.EG_STAT.GATEOPEN (i : Nat) : Fld := ⟨0x082018 + 0x40 * i, 17, 1⟩
-- `EG_MEAS` (R303)
abbrev Reg.EG_MEAS.COUNT (i : Nat) : Fld := ⟨0x08201C + 0x40 * i, 0, 32⟩
-- `EG_TMOCNT` (R303)
abbrev Reg.EG_TMOCNT.RUN (i : Nat) : Fld := ⟨0x082020 + 0x40 * i, 0, 16⟩
abbrev Reg.EG_TMOCNT.TOTAL (i : Nat) : Fld := ⟨0x082020 + 0x40 * i, 16, 16⟩
-- `EG_REMAIN` (R303)
abbrev Reg.EG_REMAIN.COUNT (i : Nat) : Fld := ⟨0x082024 + 0x40 * i, 0, 32⟩
-- `EVT_TSTAT` (R303)
abbrev Reg.EVT_TSTAT.CALOK (i : Nat) : Fld := ⟨0x083000 + 0x10 * i, 0, 1⟩
abbrev Reg.EVT_TSTAT.RETIRED (i : Nat) : Fld := ⟨0x083000 + 0x10 * i, 1, 1⟩
abbrev Reg.EVT_TSTAT.FREE (i : Nat) : Fld := ⟨0x083000 + 0x10 * i, 2, 1⟩
abbrev Reg.EVT_TSTAT.POS (i : Nat) : Fld := ⟨0x083000 + 0x10 * i, 3, 5⟩
abbrev Reg.EVT_TSTAT.REJECTS (i : Nat) : Fld := ⟨0x083000 + 0x10 * i, 8, 3⟩
-- `EVT_TGAIN` (R303)
abbrev Reg.EVT_TGAIN.LSB (i : Nat) : Fld := ⟨0x083004 + 0x10 * i, 0, 16⟩
abbrev Reg.EVT_TGAIN.INL (i : Nat) : Fld := ⟨0x083004 + 0x10 * i, 16, 16⟩
-- `EVT_TCALN` (R303)
abbrev Reg.EVT_TCALN.COUNT (i : Nat) : Fld := ⟨0x083008 + 0x10 * i, 0, 32⟩
-- `EVT_TCALT` (R303)
abbrev Reg.EVT_TCALT.TIME (i : Nat) : Fld := ⟨0x08300C + 0x10 * i, 0, 32⟩
-- `PRT_CFG` (R327)
abbrev Reg.PRT_CFG.EN (i : Nat) : Fld := ⟨0x090000 + 0x2000 * i, 0, 1⟩
abbrev Reg.PRT_CFG.SPEED (i : Nat) : Fld := ⟨0x090000 + 0x2000 * i, 1, 1⟩
abbrev Reg.PRT_CFG.FEC (i : Nat) : Fld := ⟨0x090000 + 0x2000 * i, 2, 1⟩
abbrev Reg.PRT_CFG.PASS (i : Nat) : Fld := ⟨0x090000 + 0x2000 * i, 3, 1⟩
abbrev Reg.PRT_CFG.TXCLK (i : Nat) : Fld := ⟨0x090000 + 0x2000 * i, 4, 1⟩
abbrev Reg.PRT_CFG.TXCHAN (i : Nat) : Fld := ⟨0x090000 + 0x2000 * i, 5, 3⟩
-- `PRT_STAT` (R327)
abbrev Reg.PRT_STAT.SEQ (i : Nat) : Fld := ⟨0x090004 + 0x2000 * i, 0, 8⟩
abbrev Reg.PRT_STAT.LINKD (i : Nat) : Fld := ⟨0x090004 + 0x2000 * i, 8, 1⟩
abbrev Reg.PRT_STAT.DOWND (i : Nat) : Fld := ⟨0x090004 + 0x2000 * i, 9, 1⟩
abbrev Reg.PRT_STAT.FCSD (i : Nat) : Fld := ⟨0x090004 + 0x2000 * i, 10, 1⟩
abbrev Reg.PRT_STAT.OVFD (i : Nat) : Fld := ⟨0x090004 + 0x2000 * i, 11, 1⟩
abbrev Reg.PRT_STAT.LINK (i : Nat) : Fld := ⟨0x090004 + 0x2000 * i, 12, 1⟩
abbrev Reg.PRT_STAT.HIBER (i : Nat) : Fld := ⟨0x090004 + 0x2000 * i, 13, 1⟩
abbrev Reg.PRT_STAT.FECLOCK (i : Nat) : Fld := ⟨0x090004 + 0x2000 * i, 14, 1⟩
abbrev Reg.PRT_STAT.CFGERR (i : Nat) : Fld := ⟨0x090004 + 0x2000 * i, 15, 1⟩
abbrev Reg.PRT_STAT.PRIMER (i : Nat) : Fld := ⟨0x090004 + 0x2000 * i, 16, 1⟩
-- `PRT_INLAT` (R327)
abbrev Reg.PRT_INLAT.LAT (i : Nat) : Fld := ⟨0x090008 + 0x2000 * i, 0, 32⟩
-- `PRT_EGLAT` (R327)
abbrev Reg.PRT_EGLAT.LAT (i : Nat) : Fld := ⟨0x09000C + 0x2000 * i, 0, 32⟩
-- `PRT_ASYMLO` (R327)
abbrev Reg.PRT_ASYMLO.ASYM (i : Nat) : Fld := ⟨0x090010 + 0x2000 * i, 0, 32⟩
-- `PRT_ASYMHI` (R327)
abbrev Reg.PRT_ASYMHI.ASYM (i : Nat) : Fld := ⟨0x090014 + 0x2000 * i, 0, 16⟩
-- `PRT_FIXIN` (R327)
abbrev Reg.PRT_FIXIN.LAT (i : Nat) : Fld := ⟨0x090018 + 0x2000 * i, 0, 32⟩
-- `PRT_FIXEG` (R327)
abbrev Reg.PRT_FIXEG.LAT (i : Nat) : Fld := ⟨0x09001C + 0x2000 * i, 0, 32⟩
-- `PRT_CALIN` (R327)
abbrev Reg.PRT_CALIN.LAT (i : Nat) : Fld := ⟨0x090020 + 0x2000 * i, 0, 32⟩
-- `PRT_CALEG` (R327)
abbrev Reg.PRT_CALEG.LAT (i : Nat) : Fld := ⟨0x090024 + 0x2000 * i, 0, 32⟩
-- `PRT_PTPCFG` (R327)
abbrev Reg.PRT_PTPCFG.EN (i : Nat) : Fld := ⟨0x090028 + 0x2000 * i, 0, 1⟩
abbrev Reg.PRT_PTPCFG.DOMAIN (i : Nat) : Fld := ⟨0x090028 + 0x2000 * i, 1, 8⟩
abbrev Reg.PRT_PTPCFG.SCALE (i : Nat) : Fld := ⟨0x090028 + 0x2000 * i, 9, 2⟩
abbrev Reg.PRT_PTPCFG.TRANS (i : Nat) : Fld := ⟨0x090028 + 0x2000 * i, 11, 2⟩
abbrev Reg.PRT_PTPCFG.ONESTEP (i : Nat) : Fld := ⟨0x090028 + 0x2000 * i, 13, 1⟩
abbrev Reg.PRT_PTPCFG.P2P (i : Nat) : Fld := ⟨0x090028 + 0x2000 * i, 14, 1⟩
abbrev Reg.PRT_PTPCFG.PROFILE (i : Nat) : Fld := ⟨0x090028 + 0x2000 * i, 15, 1⟩
abbrev Reg.PRT_PTPCFG.ROLE (i : Nat) : Fld := ⟨0x090028 + 0x2000 * i, 16, 2⟩
abbrev Reg.PRT_PTPCFG.NONFWD (i : Nat) : Fld := ⟨0x090028 + 0x2000 * i, 18, 1⟩
-- `PRT_PTPINT` (R327)
abbrev Reg.PRT_PTPINT.SYNC (i : Nat) : Fld := ⟨0x09002C + 0x2000 * i, 0, 4⟩
abbrev Reg.PRT_PTPINT.ANN (i : Nat) : Fld := ⟨0x09002C + 0x2000 * i, 4, 4⟩
abbrev Reg.PRT_PTPINT.DREQ (i : Nat) : Fld := ⟨0x09002C + 0x2000 * i, 8, 4⟩
abbrev Reg.PRT_PTPINT.PDREQ (i : Nat) : Fld := ⟨0x09002C + 0x2000 * i, 12, 4⟩
abbrev Reg.PRT_PTPINT.ANNTO (i : Nat) : Fld := ⟨0x09002C + 0x2000 * i, 16, 8⟩
abbrev Reg.PRT_PTPINT.MPDN (i : Nat) : Fld := ⟨0x09002C + 0x2000 * i, 24, 6⟩
-- `PRT_PTPST` (R327)
abbrev Reg.PRT_PTPST.STATE (i : Nat) : Fld := ⟨0x090030 + 0x2000 * i, 0, 4⟩
abbrev Reg.PRT_PTPST.PRESENT (i : Nat) : Fld := ⟨0x090030 + 0x2000 * i, 4, 1⟩
abbrev Reg.PRT_PTPST.SAMPLED (i : Nat) : Fld := ⟨0x090030 + 0x2000 * i, 5, 1⟩
-- `PRT_PTPEVT` (R327)
abbrev Reg.PRT_PTPEVT.SEQ (i : Nat) : Fld := ⟨0x090034 + 0x2000 * i, 0, 8⟩
abbrev Reg.PRT_PTPEVT.STATED (i : Nat) : Fld := ⟨0x090034 + 0x2000 * i, 8, 1⟩
abbrev Reg.PRT_PTPEVT.PARENTD (i : Nat) : Fld := ⟨0x090034 + 0x2000 * i, 9, 1⟩
abbrev Reg.PRT_PTPEVT.PRESD (i : Nat) : Fld := ⟨0x090034 + 0x2000 * i, 10, 1⟩
abbrev Reg.PRT_PTPEVT.DISCD (i : Nat) : Fld := ⟨0x090034 + 0x2000 * i, 11, 1⟩
-- `PRT_OFFLO` (R327)
abbrev Reg.PRT_OFFLO.OFF (i : Nat) : Fld := ⟨0x090038 + 0x2000 * i, 0, 32⟩
-- `PRT_OFFHI` (R327)
abbrev Reg.PRT_OFFHI.OFF (i : Nat) : Fld := ⟨0x09003C + 0x2000 * i, 0, 16⟩
-- `PRT_MPDLO` (R327)
abbrev Reg.PRT_MPDLO.MPD (i : Nat) : Fld := ⟨0x090040 + 0x2000 * i, 0, 32⟩
-- `PRT_MPDHI` (R327)
abbrev Reg.PRT_MPDHI.MPD (i : Nat) : Fld := ⟨0x090044 + 0x2000 * i, 0, 16⟩
-- `PRT_PKTSIG` (R327)
abbrev Reg.PRT_PKTSIG.SIG (i : Nat) : Fld := ⟨0x090048 + 0x2000 * i, 0, 16⟩
-- `PRT_SYNCE` (R327)
abbrev Reg.PRT_SYNCE.QLGATE (i : Nat) : Fld := ⟨0x09004C + 0x2000 * i, 0, 1⟩
abbrev Reg.PRT_SYNCE.QLMIN (i : Nat) : Fld := ⟨0x09004C + 0x2000 * i, 1, 4⟩
abbrev Reg.PRT_SYNCE.TXQL (i : Nat) : Fld := ⟨0x09004C + 0x2000 * i, 5, 4⟩
abbrev Reg.PRT_SYNCE.RXQL (i : Nat) : Fld := ⟨0x09004C + 0x2000 * i, 9, 4⟩
abbrev Reg.PRT_SYNCE.ESMCEN (i : Nat) : Fld := ⟨0x09004C + 0x2000 * i, 13, 1⟩
abbrev Reg.PRT_SYNCE.ESMCTO (i : Nat) : Fld := ⟨0x09004C + 0x2000 * i, 14, 1⟩
-- `PRT_REC` (R327)
abbrev Reg.PRT_REC.MSG (i : Nat) : Fld := ⟨0x090050 + 0x2000 * i, 0, 16⟩
abbrev Reg.PRT_REC.TC (i : Nat) : Fld := ⟨0x090050 + 0x2000 * i, 16, 1⟩
-- `PRT_VLAN` (R327)
abbrev Reg.PRT_VLAN.VID (i : Nat) : Fld := ⟨0x090054 + 0x2000 * i, 0, 12⟩
abbrev Reg.PRT_VLAN.PCP (i : Nat) : Fld := ⟨0x090054 + 0x2000 * i, 12, 3⟩
abbrev Reg.PRT_VLAN.EN (i : Nat) : Fld := ⟨0x090054 + 0x2000 * i, 15, 1⟩
-- `PRT_MACLO` (R327)
abbrev Reg.PRT_MACLO.MAC (i : Nat) : Fld := ⟨0x090058 + 0x2000 * i, 0, 32⟩
-- `PRT_MACHI` (R327)
abbrev Reg.PRT_MACHI.MAC (i : Nat) : Fld := ⟨0x09005C + 0x2000 * i, 0, 16⟩
-- `PRT_IPV4` (R327)
abbrev Reg.PRT_IPV4.ADDR (i : Nat) : Fld := ⟨0x090060 + 0x2000 * i, 0, 32⟩
-- `PRT_IPV6_0` (R327)
abbrev Reg.PRT_IPV6_0.ADDR (i : Nat) : Fld := ⟨0x090064 + 0x2000 * i, 0, 32⟩
-- `PRT_IPV6_1` (R327)
abbrev Reg.PRT_IPV6_1.ADDR (i : Nat) : Fld := ⟨0x090068 + 0x2000 * i, 0, 32⟩
-- `PRT_IPV6_2` (R327)
abbrev Reg.PRT_IPV6_2.ADDR (i : Nat) : Fld := ⟨0x09006C + 0x2000 * i, 0, 32⟩
-- `PRT_IPV6_3` (R327)
abbrev Reg.PRT_IPV6_3.ADDR (i : Nat) : Fld := ⟨0x090070 + 0x2000 * i, 0, 32⟩
-- `PRT_RXLO` (R327)
abbrev Reg.PRT_RXLO.FRAMES (i : Nat) : Fld := ⟨0x090074 + 0x2000 * i, 0, 32⟩
-- `PRT_RXHI` (R327)
abbrev Reg.PRT_RXHI.FRAMES (i : Nat) : Fld := ⟨0x090078 + 0x2000 * i, 0, 32⟩
-- `PRT_TXLO` (R327)
abbrev Reg.PRT_TXLO.FRAMES (i : Nat) : Fld := ⟨0x09007C + 0x2000 * i, 0, 32⟩
-- `PRT_TXHI` (R327)
abbrev Reg.PRT_TXHI.FRAMES (i : Nat) : Fld := ⟨0x090080 + 0x2000 * i, 0, 32⟩
-- `PRT_ERRCNT` (R327)
abbrev Reg.PRT_ERRCNT.FCSBAD (i : Nat) : Fld := ⟨0x090084 + 0x2000 * i, 0, 16⟩
abbrev Reg.PRT_ERRCNT.DISCARD (i : Nat) : Fld := ⟨0x090084 + 0x2000 * i, 16, 16⟩
-- `PRT_TCCNT` (R327)
abbrev Reg.PRT_TCCNT.TCSKIP (i : Nat) : Fld := ⟨0x090088 + 0x2000 * i, 0, 16⟩
abbrev Reg.PRT_TCCNT.OVF (i : Nat) : Fld := ⟨0x090088 + 0x2000 * i, 16, 16⟩
-- `PRT_FECCNT` (R327)
abbrev Reg.PRT_FECCNT.COR (i : Nat) : Fld := ⟨0x09008C + 0x2000 * i, 0, 16⟩
abbrev Reg.PRT_FECCNT.UNC (i : Nat) : Fld := ⟨0x09008C + 0x2000 * i, 16, 16⟩
-- `PRT_PTPCNT` (R327)
abbrev Reg.PRT_PTPCNT.SAMPLES (i : Nat) : Fld := ⟨0x090090 + 0x2000 * i, 0, 16⟩
abbrev Reg.PRT_PTPCNT.MISS (i : Nat) : Fld := ⟨0x090090 + 0x2000 * i, 16, 16⟩
-- `RLY_CFG` (R353)
abbrev Reg.RLY_CFG.EN (i : Nat) : Fld := ⟨0x0A0000 + 0x100 * i, 0, 1⟩
abbrev Reg.RLY_CFG.ROLE (i : Nat) : Fld := ⟨0x0A0000 + 0x100 * i, 1, 1⟩
abbrev Reg.RLY_CFG.SCALE (i : Nat) : Fld := ⟨0x0A0000 + 0x100 * i, 2, 2⟩
abbrev Reg.RLY_CFG.STEER (i : Nat) : Fld := ⟨0x0A0000 + 0x100 * i, 4, 1⟩
abbrev Reg.RLY_CFG.REC (i : Nat) : Fld := ⟨0x0A0000 + 0x100 * i, 5, 1⟩
abbrev Reg.RLY_CFG.SGAIN (i : Nat) : Fld := ⟨0x0A0000 + 0x100 * i, 6, 3⟩
-- `RLY_STAT` (R353)
abbrev Reg.RLY_STAT.SEQ (i : Nat) : Fld := ⟨0x0A0004 + 0x100 * i, 0, 8⟩
abbrev Reg.RLY_STAT.TRACKD (i : Nat) : Fld := ⟨0x0A0004 + 0x100 * i, 8, 1⟩
abbrev Reg.RLY_STAT.LOSTD (i : Nat) : Fld := ⟨0x0A0004 + 0x100 * i, 9, 1⟩
abbrev Reg.RLY_STAT.AMBIGD (i : Nat) : Fld := ⟨0x0A0004 + 0x100 * i, 10, 1⟩
abbrev Reg.RLY_STAT.ACALD (i : Nat) : Fld := ⟨0x0A0004 + 0x100 * i, 11, 1⟩
abbrev Reg.RLY_STAT.ACALREJ (i : Nat) : Fld := ⟨0x0A0004 + 0x100 * i, 12, 1⟩
abbrev Reg.RLY_STAT.STATE (i : Nat) : Fld := ⟨0x0A0004 + 0x100 * i, 13, 3⟩
abbrev Reg.RLY_STAT.CFGERR (i : Nat) : Fld := ⟨0x0A0004 + 0x100 * i, 16, 1⟩
abbrev Reg.RLY_STAT.UNSYNT (i : Nat) : Fld := ⟨0x0A0004 + 0x100 * i, 17, 1⟩
abbrev Reg.RLY_STAT.PRIMER (i : Nat) : Fld := ⟨0x0A0004 + 0x100 * i, 18, 1⟩
-- `RLY_OFFLO` (R353)
abbrev Reg.RLY_OFFLO.OFF (i : Nat) : Fld := ⟨0x0A0008 + 0x100 * i, 0, 32⟩
-- `RLY_OFFHI` (R353)
abbrev Reg.RLY_OFFHI.OFF (i : Nat) : Fld := ⟨0x0A000C + 0x100 * i, 0, 16⟩
-- `RLY_RTTLO` (R353)
abbrev Reg.RLY_RTTLO.RTT (i : Nat) : Fld := ⟨0x0A0010 + 0x100 * i, 0, 32⟩
-- `RLY_RTTHI` (R353)
abbrev Reg.RLY_RTTHI.RTT (i : Nat) : Fld := ⟨0x0A0014 + 0x100 * i, 0, 16⟩
-- `RLY_PHI` (R353)
abbrev Reg.RLY_PHI.PHI (i : Nat) : Fld := ⟨0x0A0018 + 0x100 * i, 0, 32⟩
-- `RLY_PSI` (R353)
abbrev Reg.RLY_PSI.PSI (i : Nat) : Fld := ⟨0x0A001C + 0x100 * i, 0, 32⟩
-- `RLY_ASYMLO` (R353)
abbrev Reg.RLY_ASYMLO.ASYM (i : Nat) : Fld := ⟨0x0A0020 + 0x100 * i, 0, 32⟩
-- `RLY_ASYMHI` (R353)
abbrev Reg.RLY_ASYMHI.ASYM (i : Nat) : Fld := ⟨0x0A0024 + 0x100 * i, 0, 16⟩
-- `RLY_ALPHA` (R353)
abbrev Reg.RLY_ALPHA.ALPHA (i : Nat) : Fld := ⟨0x0A0028 + 0x100 * i, 0, 32⟩
-- `RLY_DELTALO` (R353)
abbrev Reg.RLY_DELTALO.DELTA (i : Nat) : Fld := ⟨0x0A002C + 0x100 * i, 0, 32⟩
-- `RLY_DELTAHI` (R353)
abbrev Reg.RLY_DELTAHI.DELTA (i : Nat) : Fld := ⟨0x0A0030 + 0x100 * i, 0, 16⟩
-- `RLY_STEERLO` (R353)
abbrev Reg.RLY_STEERLO.TERM (i : Nat) : Fld := ⟨0x0A0034 + 0x100 * i, 0, 32⟩
-- `RLY_STEERHI` (R353)
abbrev Reg.RLY_STEERHI.TERM (i : Nat) : Fld := ⟨0x0A0038 + 0x100 * i, 0, 16⟩
-- `RLY_CALTX` (R353)
abbrev Reg.RLY_CALTX.LAT (i : Nat) : Fld := ⟨0x0A003C + 0x100 * i, 0, 32⟩
-- `RLY_CALRX` (R353)
abbrev Reg.RLY_CALRX.LAT (i : Nat) : Fld := ⟨0x0A0040 + 0x100 * i, 0, 32⟩
-- `RLY_CNT` (R353)
abbrev Reg.RLY_CNT.SAMPLES (i : Nat) : Fld := ⟨0x0A0044 + 0x100 * i, 0, 16⟩
abbrev Reg.RLY_CNT.DISCARD (i : Nat) : Fld := ⟨0x0A0044 + 0x100 * i, 16, 16⟩
-- `RLY_SIG` (R353)
abbrev Reg.RLY_SIG.SIG (i : Nat) : Fld := ⟨0x0A0048 + 0x100 * i, 0, 16⟩
-- `RLY_ACAL` (R353)
abbrev Reg.RLY_ACAL.TIME (i : Nat) : Fld := ⟨0x0A004C + 0x100 * i, 0, 12⟩
abbrev Reg.RLY_ACAL.MODE (i : Nat) : Fld := ⟨0x0A004C + 0x100 * i, 12, 1⟩
abbrev Reg.RLY_ACAL.GO (i : Nat) : Fld := ⟨0x0A004C + 0x100 * i, 13, 1⟩
abbrev Reg.RLY_ACAL.BUSY (i : Nat) : Fld := ⟨0x0A004C + 0x100 * i, 14, 1⟩
-- `RLY_LANE` (R353)
abbrev Reg.RLY_LANE.LANE (i : Nat) : Fld := ⟨0x0A0050 + 0x100 * i, 0, 5⟩
-- `RLY_MATECFG` (R353)
abbrev Reg.RLY_MATECFG.EN : Fld := ⟨0x0A1000, 0, 1⟩
abbrev Reg.RLY_MATECFG.PREF : Fld := ⟨0x0A1000, 1, 1⟩
abbrev Reg.RLY_MATECFG.HBTO : Fld := ⟨0x0A1000, 2, 8⟩
abbrev Reg.RLY_MATECFG.READYT : Fld := ⟨0x0A1000, 10, 12⟩
abbrev Reg.RLY_MATECFG.SCALES : Fld := ⟨0x0A1000, 22, 4⟩
-- `RLY_MATESTEER` (R353)
abbrev Reg.RLY_MATESTEER.MASK : Fld := ⟨0x0A1004, 0, 8⟩
-- `RLY_MATEST` (R353)
abbrev Reg.RLY_MATEST.ROLE : Fld := ⟨0x0A1008, 0, 2⟩
abbrev Reg.RLY_MATEST.LINK : Fld := ⟨0x0A1008, 2, 1⟩
abbrev Reg.RLY_MATEST.HB : Fld := ⟨0x0A1008, 3, 1⟩
abbrev Reg.RLY_MATEST.PREADY : Fld := ⟨0x0A1008, 4, 1⟩
abbrev Reg.RLY_MATEST.READY : Fld := ⟨0x0A1008, 5, 1⟩
abbrev Reg.RLY_MATEST.PMODE : Fld := ⟨0x0A1008, 6, 3⟩
-- `RLY_MATEEVT` (R353)
abbrev Reg.RLY_MATEEVT.SEQ : Fld := ⟨0x0A100C, 0, 8⟩
abbrev Reg.RLY_MATEEVT.TAKEND : Fld := ⟨0x0A100C, 8, 1⟩
abbrev Reg.RLY_MATEEVT.RELD : Fld := ⟨0x0A100C, 9, 1⟩
abbrev Reg.RLY_MATEEVT.HBLOSTD : Fld := ⟨0x0A100C, 10, 1⟩
abbrev Reg.RLY_MATEEVT.PARTNERD : Fld := ⟨0x0A100C, 11, 1⟩
abbrev Reg.RLY_MATEEVT.DUALD : Fld := ⟨0x0A100C, 12, 1⟩
abbrev Reg.RLY_MATEEVT.REJ : Fld := ⟨0x0A100C, 13, 1⟩
abbrev Reg.RLY_MATEEVT.UNREADY : Fld := ⟨0x0A100C, 14, 1⟩
-- `RLY_MATECMD` (R353)
abbrev Reg.RLY_MATECMD.RELINQ : Fld := ⟨0x0A1010, 0, 1⟩
abbrev Reg.RLY_MATECMD.TAKE : Fld := ⟨0x0A1010, 1, 1⟩
-- `RLY_MATECNT` (R353)
abbrev Reg.RLY_MATECNT.TAKES : Fld := ⟨0x0A1014, 0, 16⟩
abbrev Reg.RLY_MATECNT.HBLOSS : Fld := ⟨0x0A1014, 16, 16⟩
-- `RLY_MATESTEP` (R353)
abbrev Reg.RLY_MATESTEP.STEP : Fld := ⟨0x0A1018, 0, 32⟩
-- `RLY_PSER` (R353)
abbrev Reg.RLY_PSER.SERIAL : Fld := ⟨0x0A101C, 0, 32⟩
-- `RLY_IMPCFG` (R353)
abbrev Reg.RLY_IMPCFG.DIR (i : Nat) : Fld := ⟨0x0A2000 + 0x40 * i, 0, 2⟩
abbrev Reg.RLY_IMPCFG.SEL (i : Nat) : Fld := ⟨0x0A2000 + 0x40 * i, 2, 3⟩
abbrev Reg.RLY_IMPCFG.ACT (i : Nat) : Fld := ⟨0x0A2000 + 0x40 * i, 5, 2⟩
abbrev Reg.RLY_IMPCFG.MODE (i : Nat) : Fld := ⟨0x0A2000 + 0x40 * i, 7, 1⟩
abbrev Reg.RLY_IMPCFG.RATE (i : Nat) : Fld := ⟨0x0A2000 + 0x40 * i, 8, 8⟩
abbrev Reg.RLY_IMPCFG.BYTE (i : Nat) : Fld := ⟨0x0A2000 + 0x40 * i, 16, 14⟩
abbrev Reg.RLY_IMPCFG.FCSFIX (i : Nat) : Fld := ⟨0x0A2000 + 0x40 * i, 30, 1⟩
-- `RLY_IMPDUR` (R353)
abbrev Reg.RLY_IMPDUR.DURATION (i : Nat) : Fld := ⟨0x0A2004 + 0x40 * i, 0, 12⟩
-- `RLY_IMPCMD` (R353)
abbrev Reg.RLY_IMPCMD.ARM (i : Nat) : Fld := ⟨0x0A2008 + 0x40 * i, 0, 1⟩
abbrev Reg.RLY_IMPCMD.DISARM (i : Nat) : Fld := ⟨0x0A2008 + 0x40 * i, 1, 1⟩
-- `RLY_IMPSTAT` (R353)
abbrev Reg.RLY_IMPSTAT.SEQ (i : Nat) : Fld := ⟨0x0A200C + 0x40 * i, 0, 8⟩
abbrev Reg.RLY_IMPSTAT.ENDD (i : Nat) : Fld := ⟨0x0A200C + 0x40 * i, 8, 1⟩
abbrev Reg.RLY_IMPSTAT.REJ (i : Nat) : Fld := ⟨0x0A200C + 0x40 * i, 9, 1⟩
abbrev Reg.RLY_IMPSTAT.ARMED (i : Nat) : Fld := ⟨0x0A200C + 0x40 * i, 10, 1⟩
abbrev Reg.RLY_IMPSTAT.REMAIN (i : Nat) : Fld := ⟨0x0A200C + 0x40 * i, 16, 12⟩
-- `RLY_IMPCNT` (R353)
abbrev Reg.RLY_IMPCNT.COUNT (i : Nat) : Fld := ⟨0x0A2010 + 0x40 * i, 0, 32⟩
-- `RLY_IMPSEED` (R353)
abbrev Reg.RLY_IMPSEED.SEED (i : Nat) : Fld := ⟨0x0A2014 + 0x40 * i, 0, 16⟩
-- `REC_CFG` (R380)
abbrev Reg.REC_CFG.MODE : Fld := ⟨0x0B0000, 0, 1⟩
abbrev Reg.REC_CFG.BLIMIT : Fld := ⟨0x0B0000, 8, 8⟩
abbrev Reg.REC_CFG.HOLDLIM : Fld := ⟨0x0B0000, 16, 8⟩
-- `REC_STARVTH` (R380)
abbrev Reg.REC_STARVTH.THRESH : Fld := ⟨0x0B0004, 0, 16⟩
-- `REC_EN` (R380)
abbrev Reg.REC_EN.SLOTS : Fld := ⟨0x0B0008, 0, 16⟩
-- `REC_STAT` (R380)
abbrev Reg.REC_STAT.SEQ : Fld := ⟨0x0B000C, 0, 8⟩
abbrev Reg.REC_STAT.STARVD : Fld := ⟨0x0B000C, 8, 1⟩
abbrev Reg.REC_STAT.HOLDD : Fld := ⟨0x0B000C, 9, 1⟩
abbrev Reg.REC_STAT.WDOGD : Fld := ⟨0x0B000C, 10, 1⟩
abbrev Reg.REC_STAT.PRIMER : Fld := ⟨0x0B000C, 11, 1⟩
abbrev Reg.REC_STAT.DEGRADED : Fld := ⟨0x0B000C, 12, 1⟩
-- `REC_SLOTFLAG` (R380)
abbrev Reg.REC_SLOTFLAG.STARVING : Fld := ⟨0x0B0010, 0, 16⟩
abbrev Reg.REC_SLOTFLAG.MASKED : Fld := ⟨0x0B0010, 16, 16⟩
-- `REC_CMD` (R380)
abbrev Reg.REC_CMD.UNMASK : Fld := ⟨0x0B0014, 0, 16⟩
abbrev Reg.REC_CMD.CLR : Fld := ⟨0x0B0014, 16, 16⟩
-- `REC_BUF` (R380)
abbrev Reg.REC_BUF.FILL : Fld := ⟨0x0B0018, 0, 14⟩
abbrev Reg.REC_BUF.PEAK : Fld := ⟨0x0B0018, 16, 14⟩
-- `REC_VOID` (R380)
abbrev Reg.REC_VOID.COUNT : Fld := ⟨0x0B001C, 0, 32⟩
-- `REC_SLOTCFG` (R380)
abbrev Reg.REC_SLOTCFG.WEIGHT (i : Nat) : Fld := ⟨0x0B0100 + 0x20 * i, 0, 4⟩
abbrev Reg.REC_SLOTCFG.CH (i : Nat) : Fld := ⟨0x0B0100 + 0x20 * i, 4, 3⟩
-- `REC_GRANTS` (R380)
abbrev Reg.REC_GRANTS.COUNT (i : Nat) : Fld := ⟨0x0B0104 + 0x20 * i, 0, 32⟩
-- `REC_WAITLO` (R380)
abbrev Reg.REC_WAITLO.CYCLES (i : Nat) : Fld := ⟨0x0B0108 + 0x20 * i, 0, 32⟩
-- `REC_WAITHI` (R380)
abbrev Reg.REC_WAITHI.CYCLES (i : Nat) : Fld := ⟨0x0B010C + 0x20 * i, 0, 16⟩
-- `REC_LONGEST` (R380)
abbrev Reg.REC_LONGEST.CYCLES (i : Nat) : Fld := ⟨0x0B0110 + 0x20 * i, 0, 16⟩
-- `REC_SLOTDROP` (R380)
abbrev Reg.REC_SLOTDROP.COUNT (i : Nat) : Fld := ⟨0x0B0114 + 0x20 * i, 0, 16⟩
-- `DMA_SUM` (R381)
abbrev Reg.DMA_SUM.BUSY : Fld := ⟨0x0C0000, 0, 8⟩
abbrev Reg.DMA_SUM.HALTED : Fld := ⟨0x0C0000, 8, 8⟩
abbrev Reg.DMA_SUM.LINK : Fld := ⟨0x0C0000, 16, 1⟩
abbrev Reg.DMA_SUM.PRIMER : Fld := ⟨0x0C0000, 17, 1⟩
-- `DMA_CHCFG` (R381)
abbrev Reg.DMA_CHCFG.EN (i : Nat) : Fld := ⟨0x0C0100 + 0x40 * i, 0, 1⟩
abbrev Reg.DMA_CHCFG.PRIO (i : Nat) : Fld := ⟨0x0C0100 + 0x40 * i, 1, 3⟩
abbrev Reg.DMA_CHCFG.OWNER (i : Nat) : Fld := ⟨0x0C0100 + 0x40 * i, 4, 1⟩
abbrev Reg.DMA_CHCFG.HALTDROP (i : Nat) : Fld := ⟨0x0C0100 + 0x40 * i, 5, 1⟩
abbrev Reg.DMA_CHCFG.FLUSH (i : Nat) : Fld := ⟨0x0C0100 + 0x40 * i, 6, 8⟩
-- `DMA_CHBUF` (R381)
abbrev Reg.DMA_CHBUF.BASE (i : Nat) : Fld := ⟨0x0C0104 + 0x40 * i, 0, 9⟩
abbrev Reg.DMA_CHBUF.SIZE (i : Nat) : Fld := ⟨0x0C0104 + 0x40 * i, 16, 9⟩
-- `DMA_CHHEAD` (R381)
abbrev Reg.DMA_CHHEAD.HEAD (i : Nat) : Fld := ⟨0x0C0108 + 0x40 * i, 0, 6⟩
-- `DMA_CHTAIL` (R381)
abbrev Reg.DMA_CHTAIL.TAIL (i : Nat) : Fld := ⟨0x0C010C + 0x40 * i, 0, 6⟩
-- `DMA_CHSTAT` (R381)
abbrev Reg.DMA_CHSTAT.SEQ (i : Nat) : Fld := ⟨0x0C0110 + 0x40 * i, 0, 8⟩
abbrev Reg.DMA_CHSTAT.DONED (i : Nat) : Fld := ⟨0x0C0110 + 0x40 * i, 8, 1⟩
abbrev Reg.DMA_CHSTAT.ERRD (i : Nat) : Fld := ⟨0x0C0110 + 0x40 * i, 9, 1⟩
abbrev Reg.DMA_CHSTAT.EMPTYD (i : Nat) : Fld := ⟨0x0C0110 + 0x40 * i, 10, 1⟩
abbrev Reg.DMA_CHSTAT.FULLD (i : Nat) : Fld := ⟨0x0C0110 + 0x40 * i, 11, 1⟩
abbrev Reg.DMA_CHSTAT.BUSY (i : Nat) : Fld := ⟨0x0C0110 + 0x40 * i, 12, 1⟩
abbrev Reg.DMA_CHSTAT.HALTED (i : Nat) : Fld := ⟨0x0C0110 + 0x40 * i, 13, 1⟩
abbrev Reg.DMA_CHSTAT.ERR (i : Nat) : Fld := ⟨0x0C0110 + 0x40 * i, 16, 4⟩
-- `DMA_CHFILL` (R381)
abbrev Reg.DMA_CHFILL.FILL (i : Nat) : Fld := ⟨0x0C0114 + 0x40 * i, 0, 14⟩
abbrev Reg.DMA_CHFILL.PEAK (i : Nat) : Fld := ⟨0x0C0114 + 0x40 * i, 16, 14⟩
-- `DMA_CHCMD` (R381)
abbrev Reg.DMA_CHCMD.RESUME (i : Nat) : Fld := ⟨0x0C0118 + 0x40 * i, 0, 1⟩
abbrev Reg.DMA_CHCMD.FLUSH (i : Nat) : Fld := ⟨0x0C0118 + 0x40 * i, 1, 1⟩
abbrev Reg.DMA_CHCMD.DISCARD (i : Nat) : Fld := ⟨0x0C0118 + 0x40 * i, 2, 1⟩
-- `DMA_CHBYTLO` (R381)
abbrev Reg.DMA_CHBYTLO.BYTES (i : Nat) : Fld := ⟨0x0C011C + 0x40 * i, 0, 32⟩
-- `DMA_CHBYTHI` (R381)
abbrev Reg.DMA_CHBYTHI.BYTES (i : Nat) : Fld := ⟨0x0C0120 + 0x40 * i, 0, 32⟩
-- `DMA_CHRESUME` (R381)
abbrev Reg.DMA_CHRESUME.ADDR (i : Nat) : Fld := ⟨0x0C0124 + 0x40 * i, 0, 26⟩
-- `DMA_CHWB` (R381)
abbrev Reg.DMA_CHWB.ADDR (i : Nat) : Fld := ⟨0x0C0128 + 0x40 * i, 0, 26⟩
abbrev Reg.DMA_CHWB.EN (i : Nat) : Fld := ⟨0x0C0128 + 0x40 * i, 31, 1⟩
-- `DMA_CHDROP` (R381)
abbrev Reg.DMA_CHDROP.COUNT (i : Nat) : Fld := ⟨0x0C012C + 0x40 * i, 0, 32⟩
-- `FLT_SUM` (R453)
abbrev Reg.FLT_SUM.ACTIVE : Fld := ⟨0x0D0000, 0, 4⟩
abbrev Reg.FLT_SUM.FSTATE : Fld := ⟨0x0D0000, 4, 1⟩
abbrev Reg.FLT_SUM.FAULTL : Fld := ⟨0x0D0000, 5, 1⟩
abbrev Reg.FLT_SUM.IRQL : Fld := ⟨0x0D0000, 6, 1⟩
abbrev Reg.FLT_SUM.INJ : Fld := ⟨0x0D0000, 7, 1⟩
abbrev Reg.FLT_SUM.PRIMER : Fld := ⟨0x0D0000, 8, 1⟩
abbrev Reg.FLT_SUM.FALLBACK : Fld := ⟨0x0D0000, 9, 1⟩
-- `FLT_STAT` (R453)
abbrev Reg.FLT_STAT.SEQ : Fld := ⟨0x0D0004, 0, 8⟩
abbrev Reg.FLT_STAT.SAFED : Fld := ⟨0x0D0004, 8, 1⟩
abbrev Reg.FLT_STAT.RECOVD : Fld := ⟨0x0D0004, 9, 1⟩
abbrev Reg.FLT_STAT.LIMITD : Fld := ⟨0x0D0004, 10, 1⟩
abbrev Reg.FLT_STAT.BROKEND : Fld := ⟨0x0D0004, 11, 1⟩
abbrev Reg.FLT_STAT.OVFD : Fld := ⟨0x0D0004, 12, 1⟩
-- `FLT_SHADOW` (R453)
abbrev Reg.FLT_SHADOW.TIME : Fld := ⟨0x0D0008, 0, 16⟩
-- `FLT_FAULTL` (R453)
abbrev Reg.FLT_FAULTL.MODE : Fld := ⟨0x0D000C, 0, 2⟩
abbrev Reg.FLT_FAULTL.RELEASE : Fld := ⟨0x0D000C, 2, 1⟩
-- `FLT_RECOV` (R453)
abbrev Reg.FLT_RECOV.EN : Fld := ⟨0x0D0010, 0, 1⟩
abbrev Reg.FLT_RECOV.RLIMIT : Fld := ⟨0x0D0010, 1, 8⟩
-- `FLT_QUIET` (R453)
abbrev Reg.FLT_QUIET.MS : Fld := ⟨0x0D0014, 0, 22⟩
-- `FLT_RCOUNT` (R453)
abbrev Reg.FLT_RCOUNT.COUNT : Fld := ⟨0x0D0018, 0, 24⟩
abbrev Reg.FLT_RCOUNT.RUN : Fld := ⟨0x0D0018, 24, 8⟩
-- `FLT_PEND0` (R453)
abbrev Reg.FLT_PEND0.PEND : Fld := ⟨0x0D0020, 0, 32⟩
-- `FLT_PEND1` (R453)
abbrev Reg.FLT_PEND1.PEND : Fld := ⟨0x0D0024, 0, 32⟩
-- `FLT_PEND2` (R453)
abbrev Reg.FLT_PEND2.PEND : Fld := ⟨0x0D0028, 0, 32⟩
-- `FLT_PEND3` (R453)
abbrev Reg.FLT_PEND3.PEND : Fld := ⟨0x0D002C, 0, 32⟩
-- `FLT_ACT0` (R453)
abbrev Reg.FLT_ACT0.ACT : Fld := ⟨0x0D0030, 0, 32⟩
-- `FLT_ACT1` (R453)
abbrev Reg.FLT_ACT1.ACT : Fld := ⟨0x0D0034, 0, 32⟩
-- `FLT_ACT2` (R453)
abbrev Reg.FLT_ACT2.ACT : Fld := ⟨0x0D0038, 0, 32⟩
-- `FLT_ACT3` (R453)
abbrev Reg.FLT_ACT3.ACT : Fld := ⟨0x0D003C, 0, 32⟩
-- `FLT_MRG0` (R453)
abbrev Reg.FLT_MRG0.MRG : Fld := ⟨0x0D0040, 0, 32⟩
-- `FLT_MRG1` (R453)
abbrev Reg.FLT_MRG1.MRG : Fld := ⟨0x0D0044, 0, 32⟩
-- `FLT_MRG2` (R453)
abbrev Reg.FLT_MRG2.MRG : Fld := ⟨0x0D0048, 0, 32⟩
-- `FLT_MRG3` (R453)
abbrev Reg.FLT_MRG3.MRG : Fld := ⟨0x0D004C, 0, 32⟩
-- `FLT_OPEN` (R453)
abbrev Reg.FLT_OPEN.COUNT : Fld := ⟨0x0D0050, 0, 5⟩
-- `FLT_FESTAT` (R453)
abbrev Reg.FLT_FESTAT.SEQ : Fld := ⟨0x0D0060, 0, 8⟩
abbrev Reg.FLT_FESTAT.VALID : Fld := ⟨0x0D0060, 8, 1⟩
abbrev Reg.FLT_FESTAT.SOURCE : Fld := ⟨0x0D0060, 9, 7⟩
abbrev Reg.FLT_FESTAT.MASTER : Fld := ⟨0x0D0060, 16, 2⟩
abbrev Reg.FLT_FESTAT.WRITE : Fld := ⟨0x0D0060, 18, 1⟩
abbrev Reg.FLT_FESTAT.SIZE : Fld := ⟨0x0D0060, 19, 2⟩
abbrev Reg.FLT_FESTAT.ALIAS : Fld := ⟨0x0D0060, 21, 1⟩
abbrev Reg.FLT_FESTAT.ADDRV : Fld := ⟨0x0D0060, 22, 1⟩
abbrev Reg.FLT_FESTAT.DEGRADED : Fld := ⟨0x0D0060, 23, 1⟩
-- `FLT_FEADDR` (R453)
abbrev Reg.FLT_FEADDR.ADDR : Fld := ⟨0x0D0064, 0, 32⟩
-- `FLT_FESEC` (R453)
abbrev Reg.FLT_FESEC.SEC : Fld := ⟨0x0D0068, 0, 32⟩
-- `FLT_FENS` (R453)
abbrev Reg.FLT_FENS.NS : Fld := ⟨0x0D006C, 0, 30⟩
-- `FLT_FEFRAC` (R453)
abbrev Reg.FLT_FEFRAC.FRAC : Fld := ⟨0x0D0070, 0, 16⟩
-- `FLT_FECNT` (R453)
abbrev Reg.FLT_FECNT.COUNT : Fld := ⟨0x0D0074, 0, 16⟩
-- `FLT_INJ` (R453)
abbrev Reg.FLT_INJ.SOURCE : Fld := ⟨0x0D0080, 0, 7⟩
abbrev Reg.FLT_INJ.KIND : Fld := ⟨0x0D0080, 8, 2⟩
abbrev Reg.FLT_INJ.GO : Fld := ⟨0x0D0080, 10, 1⟩
abbrev Reg.FLT_INJ.STOP : Fld := ⟨0x0D0080, 11, 1⟩
-- `FLT_INJST` (R453)
abbrev Reg.FLT_INJST.ACTIVE : Fld := ⟨0x0D0084, 0, 1⟩
abbrev Reg.FLT_INJST.SOURCE : Fld := ⟨0x0D0084, 1, 7⟩
abbrev Reg.FLT_INJST.COUNT : Fld := ⟨0x0D0084, 16, 16⟩
-- `FLT_SRCCFG` (R453)
abbrev Reg.FLT_SRCCFG.LOG (i : Nat) : Fld := ⟨0x0D1000 + 0x10 * i, 0, 1⟩
abbrev Reg.FLT_SRCCFG.INT (i : Nat) : Fld := ⟨0x0D1000 + 0x10 * i, 1, 1⟩
abbrev Reg.FLT_SRCCFG.EMCY (i : Nat) : Fld := ⟨0x0D1000 + 0x10 * i, 2, 1⟩
abbrev Reg.FLT_SRCCFG.BLK (i : Nat) : Fld := ⟨0x0D1000 + 0x10 * i, 3, 1⟩
abbrev Reg.FLT_SRCCFG.SAFE (i : Nat) : Fld := ⟨0x0D1000 + 0x10 * i, 4, 1⟩
abbrev Reg.FLT_SRCCFG.IRQ (i : Nat) : Fld := ⟨0x0D1000 + 0x10 * i, 5, 1⟩
abbrev Reg.FLT_SRCCFG.VEC (i : Nat) : Fld := ⟨0x0D1000 + 0x10 * i, 8, 4⟩
abbrev Reg.FLT_SRCCFG.CLASS (i : Nat) : Fld := ⟨0x0D1000 + 0x10 * i, 12, 2⟩
abbrev Reg.FLT_SRCCFG.TYPE (i : Nat) : Fld := ⟨0x0D1000 + 0x10 * i, 14, 1⟩
-- `FLT_SRCST` (R453)
abbrev Reg.FLT_SRCST.SEQ (i : Nat) : Fld := ⟨0x0D1004 + 0x10 * i, 0, 8⟩
abbrev Reg.FLT_SRCST.PEND (i : Nat) : Fld := ⟨0x0D1004 + 0x10 * i, 8, 1⟩
abbrev Reg.FLT_SRCST.OCCD (i : Nat) : Fld := ⟨0x0D1004 + 0x10 * i, 9, 1⟩
abbrev Reg.FLT_SRCST.ACTIVE (i : Nat) : Fld := ⟨0x0D1004 + 0x10 * i, 10, 1⟩
abbrev Reg.FLT_SRCST.BROKEN (i : Nat) : Fld := ⟨0x0D1004 + 0x10 * i, 11, 1⟩
abbrev Reg.FLT_SRCST.INJ (i : Nat) : Fld := ⟨0x0D1004 + 0x10 * i, 12, 1⟩
-- `FLT_SRCCNT` (R453)
abbrev Reg.FLT_SRCCNT.COUNT (i : Nat) : Fld := ⟨0x0D1008 + 0x10 * i, 0, 32⟩
-- `FLT_SRCLAST` (R453)
abbrev Reg.FLT_SRCLAST.SEC (i : Nat) : Fld := ⟨0x0D100C + 0x10 * i, 0, 32⟩
-- `NVM_CMD` (R472)
abbrev Reg.NVM_CMD.CMD : Fld := ⟨0x0E0000, 0, 4⟩
-- `NVM_STAT` (R472)
abbrev Reg.NVM_STAT.SEQ : Fld := ⟨0x0E0004, 0, 8⟩
abbrev Reg.NVM_STAT.COMMITD : Fld := ⟨0x0E0004, 8, 1⟩
abbrev Reg.NVM_STAT.CMTFAIL : Fld := ⟨0x0E0004, 9, 1⟩
abbrev Reg.NVM_STAT.RETIRED : Fld := ⟨0x0E0004, 10, 1⟩
abbrev Reg.NVM_STAT.UNCORD : Fld := ⟨0x0E0004, 11, 1⟩
abbrev Reg.NVM_STAT.SAVED : Fld := ⟨0x0E0004, 12, 1⟩
abbrev Reg.NVM_STAT.BUSY : Fld := ⟨0x0E0004, 13, 1⟩
abbrev Reg.NVM_STAT.RBUSY : Fld := ⟨0x0E0004, 14, 1⟩
abbrev Reg.NVM_STAT.UNCOR : Fld := ⟨0x0E0004, 15, 1⟩
abbrev Reg.NVM_STAT.CODE : Fld := ⟨0x0E0004, 16, 4⟩
-- `NVM_PAGE` (R472)
abbrev Reg.NVM_PAGE.PAGE : Fld := ⟨0x0E0008, 0, 11⟩
-- `NVM_BUFPTR` (R472)
abbrev Reg.NVM_BUFPTR.WORD : Fld := ⟨0x0E000C, 2, 5⟩
-- `NVM_BUFDATA` (R472)
abbrev Reg.NVM_BUFDATA.DATA : Fld := ⟨0x0E0010, 0, 32⟩
-- `NVM_RPAGE` (R472)
abbrev Reg.NVM_RPAGE.PAGE : Fld := ⟨0x0E0014, 0, 11⟩
-- `NVM_PART` (R472)
abbrev Reg.NVM_PART.PART : Fld := ⟨0x0E0018, 0, 2⟩
abbrev Reg.NVM_PART.ACC : Fld := ⟨0x0E0018, 2, 1⟩
-- `NVM_PWLO` (R472)
abbrev Reg.NVM_PWLO.PW : Fld := ⟨0x0E001C, 0, 32⟩
-- `NVM_PWHI` (R472)
abbrev Reg.NVM_PWHI.PW : Fld := ⟨0x0E0020, 0, 32⟩
-- `NVM_PWCMD` (R472)
abbrev Reg.NVM_PWCMD.SETPW : Fld := ⟨0x0E0024, 0, 1⟩
abbrev Reg.NVM_PWCMD.LOGCLR : Fld := ⟨0x0E0024, 1, 1⟩
-- `NVM_UNLK` (R472)
abbrev Reg.NVM_UNLK.UNLK : Fld := ⟨0x0E0028, 0, 32⟩
-- `NVM_POOL` (R472)
abbrev Reg.NVM_POOL.FREE : Fld := ⟨0x0E002C, 0, 7⟩
abbrev Reg.NVM_POOL.RETIRED : Fld := ⟨0x0E002C, 8, 7⟩
abbrev Reg.NVM_POOL.QUEUE : Fld := ⟨0x0E002C, 16, 5⟩
-- `NVM_OWNER` (R472)
abbrev Reg.NVM_OWNER.MASTER : Fld := ⟨0x0E0030, 0, 2⟩
abbrev Reg.NVM_OWNER.HELD : Fld := ⟨0x0E0030, 2, 1⟩
-- `NVM_HOURS` (R472)
abbrev Reg.NVM_HOURS.HOURS : Fld := ⟨0x0E0034, 0, 32⟩
-- `NVM_LOGHEAD` (R472)
abbrev Reg.NVM_LOGHEAD.HEAD : Fld := ⟨0x0E0038, 0, 12⟩
abbrev Reg.NVM_LOGHEAD.WRAP : Fld := ⟨0x0E0038, 12, 1⟩
-- `NVM_CFGGEN` (R472)
abbrev Reg.NVM_CFGGEN.GEN : Fld := ⟨0x0E003C, 0, 8⟩
abbrev Reg.NVM_CFGGEN.IMG : Fld := ⟨0x0E003C, 8, 1⟩
-- `NVM_ERRPAGE` (R472)
abbrev Reg.NVM_ERRPAGE.PAGE : Fld := ⟨0x0E0040, 0, 12⟩
-- `CAL_OVSTAT` (R208)
abbrev Reg.CAL_OVSTAT.ACTIVE : Fld := ⟨0x0F8000, 0, 1⟩
abbrev Reg.CAL_OVSTAT.HOBUSY : Fld := ⟨0x0F8000, 1, 1⟩
abbrev Reg.CAL_OVSTAT.DISAGREE : Fld := ⟨0x0F8000, 2, 1⟩
-- `CAL_OVEVT` (R208)
abbrev Reg.CAL_OVEVT.SEQ : Fld := ⟨0x0F8004, 0, 8⟩
abbrev Reg.CAL_OVEVT.HOD : Fld := ⟨0x0F8004, 8, 1⟩
abbrev Reg.CAL_OVEVT.EMERG : Fld := ⟨0x0F8004, 9, 1⟩
abbrev Reg.CAL_OVEVT.HOREJ : Fld := ⟨0x0F8004, 10, 1⟩
abbrev Reg.CAL_OVEVT.WARMCHG : Fld := ⟨0x0F8004, 11, 1⟩
abbrev Reg.CAL_OVEVT.FITREJ : Fld := ⟨0x0F8004, 12, 1⟩
abbrev Reg.CAL_OVEVT.XCHK : Fld := ⟨0x0F8004, 13, 1⟩
-- `CAL_OVHO` (R208)
abbrev Reg.CAL_OVHO.GO : Fld := ⟨0x0F8008, 0, 1⟩
abbrev Reg.CAL_OVHO.AUTO : Fld := ⟨0x0F8008, 1, 1⟩
-- `CAL_OVXCHK` (R208)
abbrev Reg.CAL_OVXCHK.LIM : Fld := ⟨0x0F800C, 0, 16⟩
abbrev Reg.CAL_OVXCHK.XCNT : Fld := ⟨0x0F800C, 16, 8⟩
abbrev Reg.CAL_OVXCHK.EN : Fld := ⟨0x0F800C, 24, 1⟩
-- `CAL_OVMCFG` (R208)
abbrev Reg.CAL_OVMCFG.EN : Fld := ⟨0x0F8010, 0, 1⟩
abbrev Reg.CAL_OVMCFG.TRAIN : Fld := ⟨0x0F8010, 1, 3⟩
abbrev Reg.CAL_OVMCFG.FITWIN : Fld := ⟨0x0F8010, 4, 9⟩
-- `CAL_OVBTEMP` (R208)
abbrev Reg.CAL_OVBTEMP.TEMP : Fld := ⟨0x0F8014, 0, 16⟩
-- `CAL_OVHOSTEP` (R208)
abbrev Reg.CAL_OVHOSTEP.STEP : Fld := ⟨0x0F8018, 0, 32⟩
-- `CAL_OVHOTIM` (R208)
abbrev Reg.CAL_OVHOTIM.TIME : Fld := ⟨0x0F801C, 0, 32⟩
-- `CAL_OVSTS` (R208)
abbrev Reg.CAL_OVSTS.WARM (i : Nat) : Fld := ⟨0x0F8040 + 0x40 * i, 0, 1⟩
abbrev Reg.CAL_OVSTS.OSC (i : Nat) : Fld := ⟨0x0F8040 + 0x40 * i, 1, 1⟩
abbrev Reg.CAL_OVSTS.FAULT (i : Nat) : Fld := ⟨0x0F8040 + 0x40 * i, 2, 1⟩
abbrev Reg.CAL_OVSTS.FCAUSE (i : Nat) : Fld := ⟨0x0F8040 + 0x40 * i, 3, 3⟩
abbrev Reg.CAL_OVSTS.MSTAT (i : Nat) : Fld := ⟨0x0F8040 + 0x40 * i, 6, 2⟩
abbrev Reg.CAL_OVSTS.RETIRED (i : Nat) : Fld := ⟨0x0F8040 + 0x40 * i, 8, 1⟩
-- `CAL_OVTEMP` (R208)
abbrev Reg.CAL_OVTEMP.INNER (i : Nat) : Fld := ⟨0x0F8044 + 0x40 * i, 0, 16⟩
abbrev Reg.CAL_OVTEMP.OUTER (i : Nat) : Fld := ⟨0x0F8044 + 0x40 * i, 16, 16⟩
-- `CAL_OVPWR` (R208)
abbrev Reg.CAL_OVPWR.PWR (i : Nat) : Fld := ⟨0x0F8048 + 0x40 * i, 0, 16⟩
abbrev Reg.CAL_OVPWR.WARMT (i : Nat) : Fld := ⟨0x0F8048 + 0x40 * i, 16, 16⟩
-- `CAL_OVMLO` (R208)
abbrev Reg.CAL_OVMLO.M (i : Nat) : Fld := ⟨0x0F804C + 0x40 * i, 0, 32⟩
-- `CAL_OVMHI` (R208)
abbrev Reg.CAL_OVMHI.M (i : Nat) : Fld := ⟨0x0F8050 + 0x40 * i, 0, 16⟩
-- `CAL_OVC0` (R208)
abbrev Reg.CAL_OVC0.C0 (i : Nat) : Fld := ⟨0x0F8054 + 0x40 * i, 0, 32⟩
-- `CAL_OVC1` (R208)
abbrev Reg.CAL_OVC1.C1 (i : Nat) : Fld := ⟨0x0F8058 + 0x40 * i, 0, 32⟩
-- `CAL_OVK1` (R208)
abbrev Reg.CAL_OVK1.K1 (i : Nat) : Fld := ⟨0x0F805C + 0x40 * i, 0, 32⟩
-- `CAL_OVRES` (R208)
abbrev Reg.CAL_OVRES.RES (i : Nat) : Fld := ⟨0x0F8060 + 0x40 * i, 0, 32⟩
-- `CAL_OVFIT` (R208)
abbrev Reg.CAL_OVFIT.POINTS (i : Nat) : Fld := ⟨0x0F8064 + 0x40 * i, 0, 9⟩
abbrev Reg.CAL_OVFIT.FITS (i : Nat) : Fld := ⟨0x0F8064 + 0x40 * i, 16, 16⟩
-- `CAL_OVFITT` (R208)
abbrev Reg.CAL_OVFITT.TIME (i : Nat) : Fld := ⟨0x0F8068 + 0x40 * i, 0, 32⟩
-- `CAL_CFG` (R473)
abbrev Reg.CAL_CFG.EN : Fld := ⟨0x0F0000, 0, 1⟩
abbrev Reg.CAL_CFG.ITEMS : Fld := ⟨0x0F0000, 8, 8⟩
abbrev Reg.CAL_CFG.PERIOD : Fld := ⟨0x0F0000, 16, 10⟩
-- `CAL_CMD` (R473)
abbrev Reg.CAL_CMD.GO : Fld := ⟨0x0F0004, 0, 1⟩
abbrev Reg.CAL_CMD.ITEMS : Fld := ⟨0x0F0004, 8, 8⟩
-- `CAL_STAT` (R473)
abbrev Reg.CAL_STAT.SEQ : Fld := ⟨0x0F0008, 0, 8⟩
abbrev Reg.CAL_STAT.STEPD : Fld := ⟨0x0F0008, 8, 1⟩
abbrev Reg.CAL_STAT.REJD : Fld := ⟨0x0F0008, 9, 1⟩
abbrev Reg.CAL_STAT.ABNDD : Fld := ⟨0x0F0008, 10, 1⟩
abbrev Reg.CAL_STAT.BUSY : Fld := ⟨0x0F0008, 11, 1⟩
abbrev Reg.CAL_STAT.CALOK : Fld := ⟨0x0F0008, 12, 1⟩
-- `CAL_TJ` (R473)
abbrev Reg.CAL_TJ.TJ : Fld := ⟨0x0F000C, 0, 16⟩
-- `CAL_TRACE` (R473)
abbrev Reg.CAL_TRACE.ID : Fld := ⟨0x0F0010, 0, 32⟩
-- `CAL_LAST` (R473)
abbrev Reg.CAL_LAST.ITEM : Fld := ⟨0x0F0014, 0, 4⟩
abbrev Reg.CAL_LAST.UNIT : Fld := ⟨0x0F0014, 8, 6⟩
abbrev Reg.CAL_LAST.GAP : Fld := ⟨0x0F0014, 16, 4⟩
abbrev Reg.CAL_LAST.RESULT : Fld := ⟨0x0F0014, 20, 2⟩
-- `CAL_LASTSEC` (R473)
abbrev Reg.CAL_LASTSEC.SEC : Fld := ⟨0x0F0018, 0, 32⟩
-- `CAL_LASTDUR` (R473)
abbrev Reg.CAL_LASTDUR.US : Fld := ⟨0x0F001C, 0, 32⟩
-- `CAL_LASTCHG` (R473)
abbrev Reg.CAL_LASTCHG.CHG : Fld := ⟨0x0F0020, 0, 32⟩
-- `CAL_CNT` (R473)
abbrev Reg.CAL_CNT.ACCEPT : Fld := ⟨0x0F0024, 0, 12⟩
abbrev Reg.CAL_CNT.REJECT : Fld := ⟨0x0F0024, 12, 10⟩
abbrev Reg.CAL_CNT.SKIPS : Fld := ⟨0x0F0024, 22, 10⟩
-- `CAL_INTERP` (R473)
abbrev Reg.CAL_INTERP.LO : Fld := ⟨0x0F0028, 0, 3⟩
abbrev Reg.CAL_INTERP.HI : Fld := ⟨0x0F0028, 4, 3⟩
abbrev Reg.CAL_INTERP.W : Fld := ⟨0x0F0028, 8, 9⟩
-- `CAL_VIEW` (R473)
abbrev Reg.CAL_VIEW.ITEM : Fld := ⟨0x0F002C, 0, 4⟩
abbrev Reg.CAL_VIEW.UNIT : Fld := ⟨0x0F002C, 8, 6⟩
abbrev Reg.CAL_VIEW.SET : Fld := ⟨0x0F002C, 16, 3⟩
-- `CAL_VIEWFAC` (R473)
abbrev Reg.CAL_VIEWFAC.VAL : Fld := ⟨0x0F0030, 0, 32⟩
-- `CAL_VIEWFLD` (R473)
abbrev Reg.CAL_VIEWFLD.VAL : Fld := ⟨0x0F0034, 0, 32⟩
-- `CAL_VIEWCUR` (R473)
abbrev Reg.CAL_VIEWCUR.VAL : Fld := ⟨0x0F0038, 0, 32⟩
-- `CAL_VIEWUSE` (R473)
abbrev Reg.CAL_VIEWUSE.VAL : Fld := ⟨0x0F003C, 0, 32⟩
-- `CAL_FRESET` (R473)
abbrev Reg.CAL_FRESET.ITEMS : Fld := ⟨0x0F0040, 0, 8⟩

end Sys2Proof.Machine
end

