-- ==== Sys2Proof/Config.lean ====
section
/-! DEFINITION. What an implementation fixes and the spec leaves open: constants without a body, so that no proof can see
a value of them. Each is named in the assumption log. -/

namespace Sys2Proof

/-- The quiet-NaN word an entry without a valid statistic reads as (R8: the payload is open). -/
opaque Config.nanWord : Word
/-- Depth of the queue of record slot `q` (R33, R361 name it and give no figure). -/
opaque Config.slotDepth (q : Nat) : Nat
/-- Detail bytes 24 and 25 of `FE11` for slot `q`, whose queue is no row of R32. -/
opaque Config.slotOverflowDetail (q : Nat) : Nat
/-- ω_n of R165 in 1/s, from the bandwidth in µHz and ζ in 1/16: π and a square root, which the spec meets within ±5 %. -/
opaque Config.omegaN (bw : Rat) (damp : Nat) : Rat
/-- Active width in ns of a trigger whose `TRG_WIDTH` exceeds the 500,000,000 of R272 (its effect is not stated). -/
opaque Config.trigWidthAbove (w : Nat) : Nat
/-- Calibrated delay of a lane in u, which R98 takes when an overlap holds fewer than 16 edges (no rule gives its value). -/
opaque Config.laneDelayU (lane : Nat) : Int
/-- y₂₂ in 2⁻⁶⁰ of an oven handover for which index 22 holds no line (R203 gives none). -/
opaque Config.unfittedY22 : Int
/-- `CAL_OVHOSTEP` of such a handover. -/
opaque Config.unfittedStep : Int
/-- Coefficients of an oven fit whose normal equations are singular (constant temperature; R196 gives no result). -/
opaque Config.singularFit : List (Rat × Rat × Rat) → Rat × Rat × Rat
/-- Tuning voltage of APLL slot `s` in % at model time `t` (`APL_AVT.VT`; the spec gives it no value). -/
opaque Config.tuningVoltage (s t : Nat) : Nat
/-- The ordering code is SZM-8820-AA (R16). -/
opaque Config.orderingAA : Bool
/-- The serial number of object 0x1018:04 (R18). -/
opaque Config.serialNumber : Nat
/-- Whether the impairment engine's LFSR selects frame `n` since `ARM` with this seed at probability 2^−rate (R350 gives
the register's width and seed, and no polynomial). -/
opaque Config.impairPick (seed rate n : Nat) : Bool
/-- The channel `MATE`'s transmit clock follows (R330, R343 name a `TXCHAN` and no register gives one for `MATE`). -/
opaque Config.mateTxChan : Nat

/-- Hokunte's CiA vendor identifier (R423: as on the module data label). -/
opaque Config.vendorId : Nat
/-- The version string of the firmware in a bank (object 0x100A). -/
opaque Config.firmwareVersion (bank : Nat) : List Byte
/-- Whether the words of a firmware bank carry Hokunte's signature and their checksum (R78). -/
opaque Config.imageGenuine (words : List (Nat × Word)) : Bool
/-- The data of the n-th read that the spec calls undefined (R398). -/
opaque Config.undefinedRead (n : Nat) : Word
/-- Byte `o` of NVM page `p` while it holds a record of the module's own whose layout the spec does not give. -/
opaque Config.recordByte (version p o : Nat) : Byte
/-- The FACTORY write password at delivery, less 1: Hokunte holds it (R459), and it is not the open one. -/
opaque Config.factoryPassword : Nat
/-- Factory calibration set value of an item and unit at set temperature `set`, in 1/256 of the item's unit; `entry` counts
the entries of the tables of items 1 and 2 (R466, R468). -/
opaque Config.factorySet (item unit set entry : Nat) : Int
/-- The logical page that the n-th internal write of record kind `kind` goes to, within the CONFIG system records (R455). -/
opaque Config.recordPage (kind n : Nat) : Nat
/-- What view register `k` shows for item 8 (R473 selects it; its values have no single form). -/
opaque Config.viewOven (k unit set : Nat) : Int

end Sys2Proof
end

