-- ==== Sys2Proof/Machine/RegMap.lean ====
section
/-! DEFINITION. The register map: one row per register of the spec's register tables (R413 stands apart, in the typed
`Kep`), with its reset value (R14) and the masks of its access codes (R11, R12). Offsets no table lists are RV (R383). -/

namespace Sys2Proof.Machine

/-- One register of the maps (or one row of instances): byte address of instance 0, stride and count of the
instances, reset value per instance, and one mask of bits per access code of R11. -/
structure RegRow where
  addr : Nat
  stride : Nat := 4
  count : Nat := 1
  reset : Nat → Nat := fun _ => 0
  /-- RW bits, and TV bits that carry neither WK nor RO -/
  rw : Nat := 0
  /-- key-guarded bits, WK and WK/WO and WK/TV -/
  wk : Nat := 0
  /-- write-only bits -/
  wo : Nat := 0
  /-- sequence-clear bits, the SEQ field included -/
  sq : Nat := 0
  /-- write-once bits -/
  w1 : Nat := 0
  /-- triplicated bits -/
  tv : Nat := 0
  /-- reserved bits -/
  rv : Nat := 0

/-- The reset weights of R360. -/
def slotWeight (q : Nat) : Nat :=
  if q = 0 then 4 else if q < 5 then 8 else if q < 13 then 2 else if q = 13 then 15 else if q = 14 then 1 else 2

/-- The reset routes of R360. -/
def slotRoute (q : Nat) : Nat :=
  if q = 0 then 0 else if q < 5 then 1 else if q < 11 then 2 else q - 8

/-- The fault sources of R438 that are not reserved: class (0 INFO, 1 WARN, 2 ERROR, 3 CRITICAL), whether of type
LEVEL, and default reactions (bit 0 log, 1 interrupt, 2 EMCY, 3 block action, 4 entry into SAFE). -/
def sourceTable : List (Nat × Nat × Bool × Nat) := [
  (0, 0, false, 1), (1, 2, false, 7), (2, 1, false, 3), (3, 0, false, 1), (4, 2, true, 7), (5, 2, true, 15),
  (6, 1, false, 3), (7, 1, false, 3), (8, 1, false, 3), (9, 0, false, 1), (10, 0, false, 1), (11, 1, false, 3),
  (12, 2, false, 7), (13, 0, false, 1), (14, 1, false, 7), (15, 2, true, 7), (16, 1, false, 3), (17, 2, false, 15),
  (18, 1, false, 3), (19, 1, false, 3), (20, 1, false, 3), (21, 0, false, 1), (22, 1, true, 3), (23, 0, false, 1),
  (24, 2, false, 15), (25, 2, false, 15), (26, 2, false, 15), (27, 2, false, 15), (28, 2, false, 15), (29, 2, false, 15),
  (30, 2, false, 15), (31, 2, false, 15), (32, 0, false, 1), (33, 1, true, 3), (34, 1, false, 3), (35, 2, true, 15),
  (36, 3, true, 23), (37, 1, true, 3), (38, 0, false, 1), (39, 1, false, 3), (40, 2, false, 15), (41, 2, true, 7),
  (42, 0, false, 1), (43, 2, true, 7), (44, 0, false, 1), (45, 1, false, 3), (46, 0, false, 1), (48, 1, false, 3),
  (49, 2, false, 15), (50, 1, false, 3), (51, 1, false, 3), (52, 1, false, 7), (53, 1, false, 3), (54, 1, false, 3),
  (55, 2, false, 15), (56, 2, false, 7), (57, 2, false, 15), (58, 1, true, 3), (59, 3, true, 23), (64, 0, false, 2),
  (65, 0, false, 2), (66, 0, false, 2), (67, 0, false, 2), (68, 0, false, 2), (69, 0, false, 2), (70, 0, false, 2),
  (71, 0, false, 2)]

/-- The row of a source in R438; none for a reserved source. -/
def sourceRow (s : Nat) : Option (Nat × Bool × Nat) := sourceTable.lookup s
/-- A reserved source of R438. -/
def sourceReserved (s : Nat) : Bool := (sourceRow s).isNone
/-- The fixed class of a source (R439); a reserved source reads 0. -/
def sourceClass (s : Nat) : Nat := match sourceRow s with | some (c, _, _) => c | none => 0
/-- Whether a source is of type LEVEL (R436). -/
def sourceLevel (s : Nat) : Bool := match sourceRow s with | some (_, l, _) => l | none => false
/-- Default reactions of a source. -/
def sourceDefault (s : Nat) : Nat := match sourceRow s with | some (_, _, d) => d | none => 0
/-- Default reaction `k` (0 log .. 4 SAFE). -/
def reactionBit (s k : Nat) : Nat := sourceDefault s / 2 ^ k % 2
/-- A source with a block action (column Default of R438). -/
def sourceHasBlock (s : Nat) : Bool := reactionBit s 3 == 1

/-- Registers of block `GLB`, in the order of the spec's tables. -/
def rowsGLB : List RegRow := [
  { addr := 0x000000, reset := fun _ => 0x88200B00 }, -- GLB_ID
  { addr := 0x000004, reset := fun _ => 0x25201, rv := 0xFF000000 }, -- GLB_MODE
  { addr := 0x000008, rw := 0xFF, rv := 0xFFFFFF00 }, -- GLB_MODECFG
  { addr := 0x00000C, wk := 0xF, wo := 0xF, rv := 0xFFFFFFF0 }, -- GLB_MODECMD
  { addr := 0x000010, wo := 0xFFFFFFFF }, -- GLB_KEY
  { addr := 0x000014, rv := 0xFFFFFFF8 }, -- GLB_KEYST
  { addr := 0x000018, wo := 0xF, rv := 0xFC00F0F0 }, -- GLB_TXN
  { addr := 0x00001C, reset := fun _ => 0xA, rw := 0x3FF, rv := 0xFFFFFC00 }, -- GLB_TXNCFG
  { addr := 0x000020, sq := 0x3FFF, rv := 0xFFFFC000 }, -- GLB_TXNST
  { addr := 0x000024, reset := fun _ => 0x8000, wk := 0x1800, wo := 0x1800, sq := 0x7FF, rv := 0xFFFF0000 }, -- GLB_FWCTL
  { addr := 0x000028, rw := 0xFFFFC, rv := 0xFFF00000 }, -- GLB_FWPTR
  { addr := 0x00002C, wo := 0xFFFFFFFF }, -- GLB_FWDATA
  { addr := 0x000030, w1 := 0x1FFFF, rv := 0xFFFE0000 }, -- GLB_LOCK
  { addr := 0x000034, rv := 0xFFFF0000 }, -- GLB_TVSTAT
  { addr := 0x000038, rv := 0xFFE00000 }, -- GLB_TVADDR
  { addr := 0x00003C, rv := 0xFFFF0000 }, -- GLB_RVSTAT
  { addr := 0x000040, rv := 0xFFE00000 }, -- GLB_RVADDR
  { addr := 0x000044 }, -- GLB_BUS
  { addr := 0x000048, rv := 0xFFFFFE00 }, -- GLB_AUTHST
  { addr := 0x00004C, reset := fun _ => 0x20000, rv := 0xFFF80000 }] -- GLB_SUM

/-- Registers of block `REF`, in the order of the spec's tables. -/
def rowsREF_0 : List RegRow := [
  { addr := 0x010000, reset := fun _ => 0x1000000, rv := 0xF8000000 }, -- REF_SUM
  { addr := 0x010004, rv := 0xFF000000 }, -- REF_FALM
  { addr := 0x010008, rv := 0xFF000000 }, -- REF_PALM
  { addr := 0x010010, reset := fun _ => 0x303C, rw := 0x3FFF, rv := 0xFFFFC000 }, -- REF_TCAL
  { addr := 0x010014, rv := 0xF0000000 }, -- REF_RETIRE
  { addr := 0x010018, reset := fun _ => 0x800, wk := 0x3FFF, wo := 0x2000, rv := 0xFFFFC000 }, -- REF_LANEHO
  { addr := 0x01001C, sq := 0x7FF, rv := 0xFFC00000 }, -- REF_HOSTAT
  { addr := 0x010020, rv := 0xFFFF00FC }, -- REF_CALPPS
  { addr := 0x011000, stride := 0x80, count := 24, reset := fun i => (if i = 22 then 1 else 0) + (if i = 22 then 0 else 1) <<< 5, rw := 0x1FFFF, rv := 0xFFFE0000 }, -- REF_CFG
  { addr := 0x011004, stride := 0x80, count := 24, reset := fun _ => 0x98968000, rw := 0xFFFFFFFF }, -- REF_NOMLO
  { addr := 0x011008, stride := 0x80, count := 24, rw := 0xFF, rv := 0xFFFFFF00 }, -- REF_NOMHI
  { addr := 0x01100C, stride := 0x80, count := 24, reset := fun _ => 0x40000A, rw := 0x3FFFFFF, rv := 0xFC000000 }, -- REF_PRES
  { addr := 0x011010, stride := 0x80, count := 24, reset := fun _ => 0x33, rw := 0xF7, rv := 0xFFFFFF08 }, -- REF_FMON
  { addr := 0x011014, stride := 0x80, count := 24, reset := fun _ => 0x2AF32, rw := 0xFFFFFFFF }, -- REF_FLIMSET
  { addr := 0x011018, stride := 0x80, count := 24, reset := fun _ => 0x15799, rw := 0xFFFFFFFF }, -- REF_FLIMCLR
  { addr := 0x01101C, stride := 0x80, count := 24, reset := fun _ => 0x10000, rw := 0xFFFFFFFF }, -- REF_PLIM
  { addr := 0x011020, stride := 0x80, count := 24, reset := fun _ => 0x4, rw := 0x7, rv := 0xFFFFFFF8 }, -- REF_REC
  { addr := 0x011024, stride := 0x80, count := 24, sq := 0xFFF, rv := 0xFFFFC000 }, -- REF_STAT
  { addr := 0x011028, stride := 0x80, count := 24 }, -- REF_PHLO
  { addr := 0x01102C, stride := 0x80, count := 24 }, -- REF_PHHI
  { addr := 0x011030, stride := 0x80, count := 24 }, -- REF_FRLO
  { addr := 0x011034, stride := 0x80, count := 24, rv := 0xFFFF0000 }, -- REF_FRHI
  { addr := 0x011038, stride := 0x80, count := 24 }, -- REF_EDGLO
  { addr := 0x01103C, stride := 0x80, count := 24 }, -- REF_EDGHI
  { addr := 0x011040, stride := 0x80, count := 24 }, -- REF_CNT
  { addr := 0x011044, stride := 0x80, count := 24, reset := fun i => (i), rv := 0xFFFFFEE0 }, -- REF_PLACE
  { addr := 0x011048, stride := 0x80, count := 24, rv := 0xFFFF0000 }, -- REF_OVR
  { addr := 0x012000, stride := 0x10, count := 28, reset := fun i => (if i < 24 then 0 else 1) <<< 3 + (if i < 24 then i else 31) <<< 4, rv := 0xFFFFF000 }, -- REF_LSTAT
  { addr := 0x012004, stride := 0x10, count := 28 }, -- REF_LCAL
  { addr := 0x012008, stride := 0x10, count := 28 }] -- REF_LCALN
def rowsREF_1 : List RegRow := [
  { addr := 0x01200C, stride := 0x10, count := 28 }] -- REF_LCALT
def rowsREF : List RegRow := rowsREF_0 ++ rowsREF_1

/-- Registers of block `UMP`, in the order of the spec's tables. -/
def rowsUMP_0 : List RegRow := [
  { addr := 0x020000, reset := fun _ => 0x2FF00, rv := 0xFFF80000 }, -- UMP_SUM
  { addr := 0x020004, rv := 0xFF000000 }, -- UMP_QUAL
  { addr := 0x020008, rv := 0xFF000000 }, -- UMP_SUSP
  { addr := 0x02000C, rv := 0xFF000000 }, -- UMP_DISQ
  { addr := 0x020010, reset := fun _ => 0x12C03C, rw := 0xFFFFFF, rv := 0xFF000000 }, -- UMP_TIMES
  { addr := 0x020014, reset := fun _ => 0x25828064, rw := 0xFFFFFFFF }, -- UMP_DRIFT
  { addr := 0x020018, reset := fun _ => 0x232F33, rw := 0xFFFFFFFF }, -- UMP_DSET
  { addr := 0x02001C, reset := fun _ => 0x11979A, rw := 0xFFFFFFFF }, -- UMP_DCLR
  { addr := 0x020020, reset := fun _ => 0xAFEBFF, rw := 0xFFFFFFFF }, -- UMP_DQLIM
  { addr := 0x020024, reset := fun _ => 0xD, rw := 0xF, rv := 0xFFFFFFF0 }, -- UMP_DISP
  { addr := 0x020028, reset := fun _ => 0x3089705F, rw := 0xFFFFFFFF }, -- UMP_DISPLIM
  { addr := 0x02002C }, -- UMP_CONSLO
  { addr := 0x020030, rv := 0xFF800000 }, -- UMP_CONSHI
  { addr := 0x020034, reset := fun _ => 0x3, rw := 0x1F, rv := 0xFFFFFFE0 }, -- UMP_QUORUM
  { addr := 0x020038, reset := fun _ => 0x31, rw := 0x3F, rv := 0xFFFFFFC0 }, -- UMP_PUTTY
  { addr := 0x021000, stride := 0x40, count := 24, reset := fun _ => 0x1, rw := 0xF, rv := 0xFFFFFFF0 }, -- UMP_IDX
  { addr := 0x021004, stride := 0x40, count := 24, sq := 0x38FF, rv := 0xFFFC0000 }, -- UMP_ISTAT
  { addr := 0x021008, stride := 0x40, count := 24 }, -- UMP_ITIME
  { addr := 0x02100C, stride := 0x40, count := 24 }, -- UMP_DEVLO
  { addr := 0x021010, stride := 0x40, count := 24, rv := 0xFFFF0000 }, -- UMP_DEVHI
  { addr := 0x021014, stride := 0x40, count := 24, wk := 0x3, wo := 0x3, rv := 0xFFFFFFFC }, -- UMP_ICMD
  { addr := 0x022000, stride := 0x40, count := 8, rw := 0xFFFFFFFF }, -- UMP_RANK0
  { addr := 0x022004, stride := 0x40, count := 8, rw := 0xFFFFFFFF }, -- UMP_RANK1
  { addr := 0x022008, stride := 0x40, count := 8, rw := 0xFFFFFFFF }, -- UMP_RANK2
  { addr := 0x02200C, stride := 0x40, count := 8, reset := fun _ => 0x1E6, rw := 0x7FFF, rv := 0xFFFF8000 }, -- UMP_CHCFG
  { addr := 0x022010, stride := 0x40, count := 8, reset := fun _ => 0x40, wk := 0x7F, tv := 0x7F, rv := 0xFFFFFF80 }, -- UMP_OVR
  { addr := 0x022014, stride := 0x40, count := 8, reset := fun _ => 0x1F1F, rv := 0xFFFFE000 }, -- UMP_SEL
  { addr := 0x022018, stride := 0x40, count := 8, sq := 0xFFF, rv := 0xFFFFF000 }, -- UMP_SWSTAT
  { addr := 0x02201C, stride := 0x40, count := 8 }, -- UMP_SWCNT
  { addr := 0x022020, stride := 0x40, count := 8 }] -- UMP_BOLO
def rowsUMP_1 : List RegRow := [
  { addr := 0x022024, stride := 0x40, count := 8 }, -- UMP_BOHI
  { addr := 0x022028, stride := 0x40, count := 8, reset := fun _ => 0x3FF, rv := 0xFFFF8000 }, -- UMP_LSW
  { addr := 0x02202C, stride := 0x40, count := 8, rv := 0xFFFF0000 }, -- UMP_LSWSIG
  { addr := 0x022030, stride := 0x40, count := 8 }, -- UMP_LSWTIM
  { addr := 0x022034, stride := 0x40, count := 8 }, -- UMP_LSWDLO
  { addr := 0x022038, stride := 0x40, count := 8 }, -- UMP_LSWDHI
  { addr := 0x02203C, stride := 0x40, count := 8, wk := 0x1, wo := 0x3, rv := 0xFFFFFFFC }] -- UMP_CHCMD
def rowsUMP : List RegRow := rowsUMP_0 ++ rowsUMP_1

/-- Registers of block `LDG`, in the order of the spec's tables. -/
def rowsLDG : List RegRow := [
  { addr := 0x038000, reset := fun _ => 0x1900A01, rw := 0x3FFFF01, rv := 0xFC0000FE }, -- LDG_CFG
  { addr := 0x038004, reset := fun _ => 0x18010, rw := 0xFFFFF, rv := 0xFFF00000 }, -- LDG_DIAG
  { addr := 0x038008, reset := fun _ => 0x1680, rw := 0xFFFF, rv := 0xFFFF0000 }, -- LDG_MTIE
  { addr := 0x03800C, reset := fun _ => 0x1, rw := 0x1, rv := 0xFFFFFFFE }, -- LDG_VIEW
  { addr := 0x038010, rw := 0x1FFE, wo := 0x1, rv := 0xFFFFE000 }, -- LDG_SNAPCTL
  { addr := 0x038014, rv := 0xFFF80000 }, -- LDG_SNAPST
  { addr := 0x038018 }, -- LDG_SNAPTIM
  { addr := 0x03801C }, -- LDG_SNAPCCLO
  { addr := 0x038020 }, -- LDG_SNAPCCHI
  { addr := 0x038024, reset := fun _ => 0x101, rw := 0xFF07, rv := 0xFFFF00F8 }, -- LDG_REC
  { addr := 0x038028, sq := 0x7FF, rv := 0xFFFFF800 }, -- LDG_STAT
  { addr := 0x03802C, rv := 0xFFFF0000 }, -- LDG_RECDROP
  { addr := 0x038030, wk := 0x7F, wo := 0x40, rv := 0xFFFFFF80 }, -- LDG_RST
  { addr := 0x038034 }, -- LDG_UPD
  { addr := 0x038038, reset := fun _ => 0x1, rv := 0xFC000000 }, -- LDG_SUM
  { addr := 0x039000, stride := 0x10, count := 24, rv := 0xFE000000 }, -- LDG_ISTAT
  { addr := 0x039004, stride := 0x10, count := 24 }, -- LDG_IAGE
  { addr := 0x039008, stride := 0x10, count := 24 }, -- LDG_ILGAP
  { addr := 0x03900C, stride := 0x10, count := 24, rv := 0xFFFFFFFF }] -- reserved

/-- Registers of block `DPL`, in the order of the spec's tables. -/
def rowsDPL_0 : List RegRow := [
  { addr := 0x040000, stride := 0x1000, count := 8, reset := fun _ => 0x20, rw := 0x39, wk := 0x6, rv := 0xFFFFFFC0 }, -- DPL_CTL
  { addr := 0x040004, stride := 0x1000, count := 8, reset := fun _ => 0x186A0, rw := 0xFFFFFFFF }, -- DPL_BW
  { addr := 0x040008, stride := 0x1000, count := 8, rw := 0xFFFFFFFF }, -- DPL_ACQBW
  { addr := 0x04000C, stride := 0x1000, count := 8, reset := fun _ => 0x50, rw := 0x3FFFFF, rv := 0xFFC00000 }, -- DPL_LOOP
  { addr := 0x040010, stride := 0x1000, count := 8, reset := fun _ => 0x10C6F7A, rw := 0xFFFFFFFF }, -- DPL_FCLAMP
  { addr := 0x040014, stride := 0x1000, count := 8, reset := fun _ => 0x1000A, rw := 0xFFFFF, rv := 0xFFF00000 }, -- DPL_LOCK
  { addr := 0x040018, stride := 0x1000, count := 8, reset := fun _ => 0x10000, rw := 0xFFFFFFFF }, -- DPL_LOCKPHI
  { addr := 0x04001C, stride := 0x1000, count := 8, reset := fun _ => 0x40000, rw := 0xFFFFFFFF }, -- DPL_UNLKPHI
  { addr := 0x040020, stride := 0x1000, count := 8, reset := fun _ => 0x3E8, rw := 0x1FFFF, rv := 0xFFFE0000 }, -- DPL_HOWIN
  { addr := 0x040024, stride := 0x1000, count := 8, reset := fun _ => 0x103C, rw := 0x7FFFFFF, rv := 0xF8000000 }, -- DPL_HOCFG
  { addr := 0x040028, stride := 0x1000, count := 8, rw := 0xFFFFFFFF }, -- DPL_FRFLO
  { addr := 0x04002C, stride := 0x1000, count := 8, rw := 0xFFFF, rv := 0xFFFF0000 }, -- DPL_FRFHI
  { addr := 0x040030, stride := 0x1000, count := 8, rw := 0xFFFFFFFF }, -- DPL_PHOFFLO
  { addr := 0x040034, stride := 0x1000, count := 8, rw := 0xFFFF, rv := 0xFFFF0000 }, -- DPL_PHOFFHI
  { addr := 0x040038, stride := 0x1000, count := 8, sq := 0x1FFF, rv := 0xFFFFE000 }, -- DPL_STAT
  { addr := 0x04003C, stride := 0x1000, count := 8, reset := fun i => 0x407C + (i) <<< 15, rv := 0xFFF00000 }, -- DPL_STATE
  { addr := 0x040040, stride := 0x1000, count := 8 }, -- DPL_FWLO
  { addr := 0x040044, stride := 0x1000, count := 8, rv := 0xFFFF0000 }, -- DPL_FWHI
  { addr := 0x040048, stride := 0x1000, count := 8 }, -- DPL_PELO
  { addr := 0x04004C, stride := 0x1000, count := 8 }, -- DPL_PEHI
  { addr := 0x040050, stride := 0x1000, count := 8 }, -- DPL_HOFLO
  { addr := 0x040054, stride := 0x1000, count := 8, rv := 0xFFFF0000 }, -- DPL_HOFHI
  { addr := 0x040058, stride := 0x1000, count := 8 }, -- DPL_HOTIME
  { addr := 0x04005C, stride := 0x1000, count := 8 }, -- DPL_LOCKTIM
  { addr := 0x040060, stride := 0x1000, count := 8, reset := fun _ => 0x1000, rv := 0xFFFC0000 }, -- DPL_HIST
  { addr := 0x040064, stride := 0x1000, count := 8 }, -- DPL_STCNT
  { addr := 0x048000, reset := fun _ => 0x1, rw := 0x1, rv := 0xFFFFFFFE }, -- DPL_GCFG
  { addr := 0x048004, reset := fun _ => 0x40, wk := 0xFF, wo := 0x80, rv := 0xFFFFFF00 }, -- DPL_MIG
  { addr := 0x048008, sq := 0xFFF, rv := 0xFF000000 }, -- DPL_MIGSTAT
  { addr := 0x04800C, reset := fun _ => (768) <<< 10, rv := 0xC0000000 }] -- DPL_UNITS
def rowsDPL_1 : List RegRow := [
  { addr := 0x048010, rw := 0xF, rv := 0xFFFFFFF0 }, -- DPL_HSEL
  { addr := 0x048014 }, -- DPL_HSEQ
  { addr := 0x048018 }] -- DPL_MIGERR
def rowsDPL : List RegRow := rowsDPL_0 ++ rowsDPL_1

/-- Registers of block `APL`, in the order of the spec's tables. -/
def rowsAPL : List RegRow := [
  { addr := 0x050000, reset := fun _ => 0x100000, rv := 0xFFE08080 }, -- APL_SUM
  { addr := 0x050004, reset := fun _ => 0x4, rw := 0xF, rv := 0xFFFFFFF0 }, -- APL_HOPCFG
  { addr := 0x050008, wk := 0xFF, wo := 0x80, rv := 0xFFFFFF00 }, -- APL_HOP
  { addr := 0x05000C, rw := 0xFFFFFFFF }, -- APL_HOPSEC
  { addr := 0x050010, sq := 0xFFF, rv := 0xFC000000 }, -- APL_HOPSTAT
  { addr := 0x050014 }, -- APL_HOPTIME
  { addr := 0x050018, rv := 0xFFFFC000 }, -- APL_BADREC
  { addr := 0x05001C, reset := fun _ => 0xB, rw := 0xF, rv := 0xFFFFFFF0 }, -- APL_LOLCFG
  { addr := 0x050020, reset := fun _ => 0x6, rw := 0x7, rv := 0xFFFFFFF8 }, -- APL_SPARE
  { addr := 0x050024, wk := 0xF, wo := 0x8, rv := 0xFFFFFFF0 }, -- APL_HO
  { addr := 0x050028, sq := 0xFFF, rv := 0xFFC00000 }, -- APL_HOSTAT
  { addr := 0x05002C }, -- APL_HOSTEP
  { addr := 0x050030, wk := 0xFF, wo := 0xFF, rv := 0xFFFFFF00 }, -- APL_CMD
  { addr := 0x050100, stride := 0x20, count := 8, reset := fun i => 0x100000 + (i) <<< 14, rv := 0xFF800000 }, -- APL_ASTAT
  { addr := 0x050104, stride := 0x20, count := 8, sq := 0x1FFF, rv := 0xFFFFE000 }, -- APL_AEVT
  { addr := 0x050108, stride := 0x20, count := 8 }, -- APL_ACNT
  { addr := 0x05010C, stride := 0x20, count := 8, rv := 0xFFFF0000 }, -- APL_AVT
  { addr := 0x050110, stride := 0x20, count := 8, rv := 0xFFFFFFFF }, -- reserved
  { addr := 0x050114, stride := 0x20, count := 8, rv := 0xFFFFFFFF }, -- reserved
  { addr := 0x050118, stride := 0x20, count := 8, rv := 0xFFFFFFFF }, -- reserved
  { addr := 0x05011C, stride := 0x20, count := 8, rv := 0xFFFFFFFF }] -- reserved

/-- Registers of block `OUT`, in the order of the spec's tables. -/
def rowsOUT : List RegRow := [
  { addr := 0x060000, rw := 0xFFFFFFF, tv := 0xFFFFFFF, rv := 0xF0000000 }, -- OUT_ENA
  { addr := 0x060004, reset := fun _ => 0x10000000, rv := 0x80000000 }, -- OUT_SUM
  { addr := 0x060008, reset := fun _ => 0xFFFFFF, rw := 0xFFFFFF, rv := 0xFF000000 }, -- OUT_SYNCMASK
  { addr := 0x06000C, rw := 0x1, rv := 0xFFFFFFFE }, -- OUT_SYNCCFG
  { addr := 0x060010, sq := 0x3FF, rv := 0xFC00 }, -- OUT_SYNCSTAT
  { addr := 0x060014, wo := 0x1, rv := 0xFFFFFFFE }, -- OUT_CMD
  { addr := 0x060018, rv := 0xFFFF0000 }, -- OUT_SYNCIGN
  { addr := 0x061000, stride := 0x40, count := 24, reset := fun i => 0x1A00 + (if i < 20 then 0 else 6) + (if i < 20 then 0 else 2) <<< 3, rw := 0xFFFFF, rv := 0xFFF00000 }, -- OUT_CFG
  { addr := 0x061004, stride := 0x40, count := 24, reset := fun i => (if i < 20 then 0 else 2), wk := 0x3, tv := 0x3, rv := 0xFFFFFFFC }, -- OUT_SAFE
  { addr := 0x061008, stride := 0x40, count := 24, reset := fun _ => 0x10000000, rw := 0x3FFFFFFF, rv := 0xC0000000 }, -- OUT_TMIN
  { addr := 0x06100C, stride := 0x40, count := 24, rw := 0xFFFFFFFF }, -- OUT_SKIM
  { addr := 0x061010, stride := 0x40, count := 24, reset := fun _ => 0x4, rw := 0x1F, rv := 0xFFFFFFE0 }, -- OUT_SKIMCFG
  { addr := 0x061014, stride := 0x40, count := 24 }, -- OUT_SKIMCUR
  { addr := 0x061018, stride := 0x40, count := 24, reset := fun _ => 0x10000, sq := 0xFFF, rv := 0xFFF80000 }, -- OUT_STAT
  { addr := 0x06101C, stride := 0x40, count := 24 }, -- OUT_GCNT
  { addr := 0x061020, stride := 0x40, count := 24 }, -- OUT_SKEW
  { addr := 0x062000, stride := 0x40, count := 4, reset := fun _ => 0x4001, rw := 0x3F7FF, rv := 0xFFFC0800 }, -- PLS_CFG
  { addr := 0x062004, stride := 0x40, count := 4, rw := 0xFFFFFFFF }, -- PLS_OFFLO
  { addr := 0x062008, stride := 0x40, count := 4, rw := 0xFFFF, rv := 0xFFFF0000 }, -- PLS_OFFHI
  { addr := 0x06200C, stride := 0x40, count := 4, reset := fun _ => 0x186A0, rw := 0xFFFFFFFF }, -- PLS_WIDTH
  { addr := 0x062010, stride := 0x40, count := 4, reset := fun _ => 0x10001, rw := 0xFFFFFF, rv := 0xFF000000 }, -- PLS_FRAME
  { addr := 0x062014, stride := 0x40, count := 4, wk := 0x3, tv := 0x3, rv := 0xFFFFFFFC }, -- PLS_SAFE
  { addr := 0x062018, stride := 0x40, count := 4, reset := fun _ => 0x10000000, rw := 0xFFFFFFFF }, -- PLS_TMIN
  { addr := 0x06201C, stride := 0x40, count := 4, reset := fun _ => 0x4000, sq := 0x3FF, rv := 0xFFFF8000 }, -- PLS_STAT
  { addr := 0x062020, stride := 0x40, count := 4 }, -- PLS_CNT
  { addr := 0x062024, stride := 0x40, count := 4 }] -- PLS_TRKERR

/-- Registers of block `TSC`, in the order of the spec's tables. -/
def rowsTSC_0 : List RegRow := [
  { addr := 0x070000, reset := fun _ => 0x1000F, rv := 0xFFFC0000 }, -- TSC_SUM
  { addr := 0x070004, reset := fun _ => 0xF, rw := 0xF, wo := 0x10, rv := 0xFFFFFFE0 }, -- TSC_SNAP
  { addr := 0x070008, rv := 0xFFFF0000 }, -- TSC_SNAPST
  { addr := 0x07000C }, -- TSC_SNAPCCLO
  { addr := 0x070010 }, -- TSC_SNAPCCHI
  { addr := 0x070014, rw := 0xFF, tv := 0xFF, rv := 0xFFFFFF00 }, -- TSC_TRGENA
  { addr := 0x071000, stride := 0x100, count := 4, reset := fun i => (if i = 0 then 1 else 0), rw := 0x3F, rv := 0xFFFFFFC0 }, -- TSC_CFG
  { addr := 0x071004, stride := 0x100, count := 4, rv := 0xFFFF0000 }, -- TSC_FRAC
  { addr := 0x071008, stride := 0x100, count := 4, rv := 0xC0000000 }, -- TSC_NS
  { addr := 0x07100C, stride := 0x100, count := 4, tv := 0xFFFFFFFF }, -- TSC_SECLO
  { addr := 0x071010, stride := 0x100, count := 4, tv := 0xFFFF, rv := 0xFFFF0000 }, -- TSC_SECHI
  { addr := 0x071014, stride := 0x100, count := 4, wk := 0xFFFFFFFF, tv := 0xFFFFFFFF }, -- TSC_SETSECLO
  { addr := 0x071018, stride := 0x100, count := 4, wk := 0xFFFF, tv := 0xFFFF, rv := 0xFFFF0000 }, -- TSC_SETSECHI
  { addr := 0x07101C, stride := 0x100, count := 4, wk := 0x3FFFFFFF, rv := 0xC0000000 }, -- TSC_SETNS
  { addr := 0x071020, stride := 0x100, count := 4, wk := 0xFFFF, rv := 0xFFFF0000 }, -- TSC_SETFRAC
  { addr := 0x071024, stride := 0x100, count := 4, wk := 0xFFFFFFFF }, -- TSC_STEPLO
  { addr := 0x071028, stride := 0x100, count := 4, wk := 0xFFFF, rv := 0xFFFF0000 }, -- TSC_STEPHI
  { addr := 0x07102C, stride := 0x100, count := 4, wk := 0x3, wo := 0x3, rv := 0xFFFFFFFC }, -- TSC_CMD
  { addr := 0x071030, stride := 0x100, count := 4 }, -- TSC_RATELO
  { addr := 0x071034, stride := 0x100, count := 4, rv := 0xFFFE0000 }, -- TSC_RATEHI
  { addr := 0x071038, stride := 0x100, count := 4, reset := fun _ => 0x100, rw := 0x1FF, rv := 0xFFFFFE00 }, -- TSC_SRV
  { addr := 0x07103C, stride := 0x100, count := 4, reset := fun _ => 0x2710, rw := 0xFFFFFFFF }, -- TSC_SRVBW
  { addr := 0x071040, stride := 0x100, count := 4, reset := fun _ => 0x50, rw := 0x3FFFFF, rv := 0xFFC00000 }, -- TSC_SRVLOOP
  { addr := 0x071044, stride := 0x100, count := 4, reset := fun _ => 0x10C6F7A, rw := 0xFFFFFFFF }, -- TSC_SRVCLAMP
  { addr := 0x071048, stride := 0x100, count := 4, reset := fun _ => 0x4000000, rw := 0xFFFFFFFF }, -- TSC_STEPLIM
  { addr := 0x07104C, stride := 0x100, count := 4, reset := fun _ => 0xA0000, rw := 0xFFFFFFFF }, -- TSC_LOCKLIM
  { addr := 0x071050, stride := 0x100, count := 4, reset := fun _ => 0xA03, rw := 0xFFFF, rv := 0xFFFF0000 }, -- TSC_SRVTIM
  { addr := 0x071054, stride := 0x100, count := 4, rw := 0xFFFFFFFF }, -- TSC_PPSOFFLO
  { addr := 0x071058, stride := 0x100, count := 4, rw := 0xFFFF, rv := 0xFFFF0000 }, -- TSC_PPSOFFHI
  { addr := 0x07105C, stride := 0x100, count := 4, rw := 0xFFFFFFFF }] -- TSC_SWOFFLO
def rowsTSC_1 : List RegRow := [
  { addr := 0x071060, stride := 0x100, count := 4, rw := 0xFFFF, rv := 0xFFFF0000 }, -- TSC_SWOFFHI
  { addr := 0x071064, stride := 0x100, count := 4, sq := 0x7FF, rv := 0xFFFF0000 }, -- TSC_SRVSTAT
  { addr := 0x071068, stride := 0x100, count := 4 }, -- TSC_SRVELO
  { addr := 0x07106C, stride := 0x100, count := 4, rv := 0xFFFF0000 }, -- TSC_SRVEHI
  { addr := 0x071070, stride := 0x100, count := 4, reset := fun _ => 0x25, wk := 0x7FFFF, rv := 0xFFF80000 }, -- TSC_UTC
  { addr := 0x071074, stride := 0x100, count := 4, wk := 0xFFFFFFFF }, -- TSC_LEAPSEC
  { addr := 0x071078, stride := 0x100, count := 4, sq := 0xFFF, rv := 0xFFFFE000 }, -- TSC_EVT
  { addr := 0x07107C, stride := 0x100, count := 4 }, -- TSC_CNT
  { addr := 0x071080, stride := 0x100, count := 4 }, -- TSC_CAPSECLO
  { addr := 0x071084, stride := 0x100, count := 4, rv := 0xFFFF0000 }, -- TSC_CAPSECHI
  { addr := 0x071088, stride := 0x100, count := 4, rv := 0xC0000000 }, -- TSC_CAPNS
  { addr := 0x07108C, stride := 0x100, count := 4, rv := 0xFFFF0000 }, -- TSC_CAPFRAC
  { addr := 0x072000, stride := 0x40, count := 8, rw := 0x3F, rv := 0xFFFFFFC0 }, -- TRG_CFG
  { addr := 0x072004, stride := 0x40, count := 8, rw := 0xFFFFFFFF }, -- TRG_STSEC
  { addr := 0x072008, stride := 0x40, count := 8, rw := 0x3FFFFFFF, rv := 0xC0000000 }, -- TRG_STNS
  { addr := 0x07200C, stride := 0x40, count := 8, rw := 0xFFFF, rv := 0xFFFF0000 }, -- TRG_STFRAC
  { addr := 0x072010, stride := 0x40, count := 8, rw := 0x1FFFF, rv := 0xFFFE0000 }, -- TRG_PERSEC
  { addr := 0x072014, stride := 0x40, count := 8, rw := 0x3FFFFFFF, rv := 0xC0000000 }, -- TRG_PERNS
  { addr := 0x072018, stride := 0x40, count := 8, rw := 0xFFFF, rv := 0xFFFF0000 }, -- TRG_PERFRAC
  { addr := 0x07201C, stride := 0x40, count := 8, reset := fun _ => 0x3E8, rw := 0xFFFFFFFF }, -- TRG_WIDTH
  { addr := 0x072020, stride := 0x40, count := 8, rw := 0xFFFFFFFF }, -- TRG_COUNT
  { addr := 0x072024, stride := 0x40, count := 8, wo := 0x3, rv := 0xFFFFFFFC }, -- TRG_CMD
  { addr := 0x072028, stride := 0x40, count := 8, reset := fun _ => 0x4000, sq := 0xFFF, rv := 0xFFFF0000 }, -- TRG_STAT
  { addr := 0x07202C, stride := 0x40, count := 8 }, -- TRG_FIRES
  { addr := 0x072030, stride := 0x40, count := 8 }, -- TRG_CNT
  { addr := 0x072034, stride := 0x40, count := 8, wk := 0x3, tv := 0x3, rv := 0xFFFFFFFC }, -- TRG_SAFE
  { addr := 0x072038, stride := 0x40, count := 8 }, -- TRG_NEXTSEC
  { addr := 0x07203C, stride := 0x40, count := 8, rv := 0xC0000000 }] -- TRG_NEXTNS
def rowsTSC : List RegRow := rowsTSC_0 ++ rowsTSC_1

/-- Registers of block `EVT`, in the order of the spec's tables. -/
def rowsEVT : List RegRow := [
  { addr := 0x080000, reset := fun _ => 0x100, rv := 0xFFFFF800 }, -- EVT_SUM
  { addr := 0x080004, reset := fun _ => 0x303C, rw := 0x3FFF, rv := 0xFFFFC000 }, -- EVT_TCAL
  { addr := 0x080008, reset := fun _ => 0x400, wk := 0xFFF, wo := 0x800, rv := 0xFFFFF000 }, -- EVT_TACHO
  { addr := 0x08000C, sq := 0x3FF, rv := 0xFFC00000 }, -- EVT_HOSTAT
  { addr := 0x080010 }, -- EVT_RETLO
  { addr := 0x080014, rv := 0xFFFFFFFC }, -- EVT_RETHI
  { addr := 0x081000, stride := 0x40, count := 16, reset := fun i => 0x20 + (i / 4) <<< 16, rw := 0xFFFFF, rv := 0xFFF00000 }, -- EVT_CFG
  { addr := 0x081004, stride := 0x40, count := 16 }, -- EVT_DELAY
  { addr := 0x081008, stride := 0x40, count := 16, sq := 0x3FF, rv := 0xFFFFF000 }, -- EVT_STAT
  { addr := 0x08100C, stride := 0x40, count := 16 }, -- EVT_CNTLO
  { addr := 0x081010, stride := 0x40, count := 16 }, -- EVT_CNTHI
  { addr := 0x081014, stride := 0x40, count := 16 }, -- EVT_DROPS
  { addr := 0x081018, stride := 0x40, count := 16, reset := fun i => (2 * i) + (2 * i + 1) <<< 8, rv := 0xFFFEC0C0 }, -- EVT_PLACE
  { addr := 0x08101C, stride := 0x40, count := 16 }, -- EVT_LASTLO
  { addr := 0x081020, stride := 0x40, count := 16 }, -- EVT_LASTHI
  { addr := 0x081024, stride := 0x40, count := 16, rv := 0xFFFFC000 }, -- EVT_LASTF
  { addr := 0x082000, stride := 0x40, count := 4, rw := 0x7F, rv := 0xFFFFFF80 }, -- EG_CFG
  { addr := 0x082004, stride := 0x40, count := 4, rw := 0xFFFF, rv := 0xFFFF0000 }, -- EG_STOPS
  { addr := 0x082008, stride := 0x40, count := 4, reset := fun _ => 0x2710, rw := 0xFFFFFFFF }, -- EG_TMO
  { addr := 0x08200C, stride := 0x40, count := 4, reset := fun _ => 0x10, rw := 0x1FF, rv := 0xFFFFFE00 }, -- EG_TMOCFG
  { addr := 0x082010, stride := 0x40, count := 4, wo := 0x3, rv := 0xFFFFFFFC }, -- EG_CMD
  { addr := 0x082014, stride := 0x40, count := 4, rw := 0xFFFFFFFF }, -- EG_COUNT
  { addr := 0x082018, stride := 0x40, count := 4, sq := 0x1FFF, rv := 0xFFFC0000 }, -- EG_STAT
  { addr := 0x08201C, stride := 0x40, count := 4 }, -- EG_MEAS
  { addr := 0x082020, stride := 0x40, count := 4 }, -- EG_TMOCNT
  { addr := 0x082024, stride := 0x40, count := 4 }, -- EG_REMAIN
  { addr := 0x083000, stride := 0x10, count := 34, reset := fun i => (if i < 32 then 0 else 1) <<< 2 + (if i < 32 then i else 31) <<< 3, rv := 0xFFFFF800 }, -- EVT_TSTAT
  { addr := 0x083004, stride := 0x10, count := 34 }, -- EVT_TGAIN
  { addr := 0x083008, stride := 0x10, count := 34 }, -- EVT_TCALN
  { addr := 0x08300C, stride := 0x10, count := 34 }] -- EVT_TCALT

/-- Registers of block `PRT`, in the order of the spec's tables. -/
def rowsPRT_0 : List RegRow := [
  { addr := 0x090000, stride := 0x2000, count := 6, reset := fun _ => 0x2, rw := 0xFF, rv := 0xFFFFFF00 }, -- PRT_CFG
  { addr := 0x090004, stride := 0x2000, count := 6, reset := fun _ => 0x10000, sq := 0xFFF, rv := 0xFFFE0000 }, -- PRT_STAT
  { addr := 0x090008, stride := 0x2000, count := 6, rw := 0xFFFFFFFF }, -- PRT_INLAT
  { addr := 0x09000C, stride := 0x2000, count := 6, rw := 0xFFFFFFFF }, -- PRT_EGLAT
  { addr := 0x090010, stride := 0x2000, count := 6, rw := 0xFFFFFFFF }, -- PRT_ASYMLO
  { addr := 0x090014, stride := 0x2000, count := 6, rw := 0xFFFF, rv := 0xFFFF0000 }, -- PRT_ASYMHI
  { addr := 0x090018, stride := 0x2000, count := 6 }, -- PRT_FIXIN
  { addr := 0x09001C, stride := 0x2000, count := 6 }, -- PRT_FIXEG
  { addr := 0x090020, stride := 0x2000, count := 6 }, -- PRT_CALIN
  { addr := 0x090024, stride := 0x2000, count := 6 }, -- PRT_CALEG
  { addr := 0x090028, stride := 0x2000, count := 6, reset := fun _ => 0x200, rw := 0x77FFF, wk := 0x8000, rv := 0xFFF80000 }, -- PRT_PTPCFG
  { addr := 0x09002C, stride := 0x2000, count := 6, reset := fun _ => 0x10030C1C, rw := 0x3FFFFFFF, rv := 0xC0000000 }, -- PRT_PTPINT
  { addr := 0x090030, stride := 0x2000, count := 6, reset := fun _ => 0x3, rv := 0xFFFFFFC0 }, -- PRT_PTPST
  { addr := 0x090034, stride := 0x2000, count := 6, sq := 0xFFF, rv := 0xFFFFF000 }, -- PRT_PTPEVT
  { addr := 0x090038, stride := 0x2000, count := 6 }, -- PRT_OFFLO
  { addr := 0x09003C, stride := 0x2000, count := 6, rv := 0xFFFF0000 }, -- PRT_OFFHI
  { addr := 0x090040, stride := 0x2000, count := 6 }, -- PRT_MPDLO
  { addr := 0x090044, stride := 0x2000, count := 6, rv := 0xFFFF0000 }, -- PRT_MPDHI
  { addr := 0x090048, stride := 0x2000, count := 6, reset := fun _ => 0xFFFF, rv := 0xFFFF0000 }, -- PRT_PKTSIG
  { addr := 0x09004C, stride := 0x2000, count := 6, reset := fun _ => 0x1FF6, rw := 0x21FF, rv := 0xFFFF8000 }, -- PRT_SYNCE
  { addr := 0x090050, stride := 0x2000, count := 6, reset := fun _ => 0x3, rw := 0x1FFFF, rv := 0xFFFE0000 }, -- PRT_REC
  { addr := 0x090054, stride := 0x2000, count := 6, reset := fun _ => 0x7000, rw := 0xFFFF, rv := 0xFFFF0000 }, -- PRT_VLAN
  { addr := 0x090058, stride := 0x2000, count := 6, rw := 0xFFFFFFFF }, -- PRT_MACLO
  { addr := 0x09005C, stride := 0x2000, count := 6, rw := 0xFFFF, rv := 0xFFFF0000 }, -- PRT_MACHI
  { addr := 0x090060, stride := 0x2000, count := 6, rw := 0xFFFFFFFF }, -- PRT_IPV4
  { addr := 0x090064, stride := 0x2000, count := 6, rw := 0xFFFFFFFF }, -- PRT_IPV6_0
  { addr := 0x090068, stride := 0x2000, count := 6, rw := 0xFFFFFFFF }, -- PRT_IPV6_1
  { addr := 0x09006C, stride := 0x2000, count := 6, rw := 0xFFFFFFFF }, -- PRT_IPV6_2
  { addr := 0x090070, stride := 0x2000, count := 6, rw := 0xFFFFFFFF }, -- PRT_IPV6_3
  { addr := 0x090074, stride := 0x2000, count := 6 }] -- PRT_RXLO
def rowsPRT_1 : List RegRow := [
  { addr := 0x090078, stride := 0x2000, count := 6 }, -- PRT_RXHI
  { addr := 0x09007C, stride := 0x2000, count := 6 }, -- PRT_TXLO
  { addr := 0x090080, stride := 0x2000, count := 6 }, -- PRT_TXHI
  { addr := 0x090084, stride := 0x2000, count := 6 }, -- PRT_ERRCNT
  { addr := 0x090088, stride := 0x2000, count := 6 }, -- PRT_TCCNT
  { addr := 0x09008C, stride := 0x2000, count := 6 }, -- PRT_FECCNT
  { addr := 0x090090, stride := 0x2000, count := 6 }] -- PRT_PTPCNT
def rowsPRT : List RegRow := rowsPRT_0 ++ rowsPRT_1

/-- Registers of block `RLY`, in the order of the spec's tables. -/
def rowsRLY_0 : List RegRow := [
  { addr := 0x0A0000, stride := 0x100, count := 7, reset := fun _ => 0xA0, rw := 0x1FF, rv := 0xFFFFFE00 }, -- RLY_CFG
  { addr := 0x0A0004, stride := 0x100, count := 7, reset := fun _ => 0x40000, sq := 0x1FFF, rv := 0xFFF80000 }, -- RLY_STAT
  { addr := 0x0A0008, stride := 0x100, count := 7 }, -- RLY_OFFLO
  { addr := 0x0A000C, stride := 0x100, count := 7, rv := 0xFFFF0000 }, -- RLY_OFFHI
  { addr := 0x0A0010, stride := 0x100, count := 7 }, -- RLY_RTTLO
  { addr := 0x0A0014, stride := 0x100, count := 7, rv := 0xFFFF0000 }, -- RLY_RTTHI
  { addr := 0x0A0018, stride := 0x100, count := 7 }, -- RLY_PHI
  { addr := 0x0A001C, stride := 0x100, count := 7 }, -- RLY_PSI
  { addr := 0x0A0020, stride := 0x100, count := 7, rw := 0xFFFFFFFF }, -- RLY_ASYMLO
  { addr := 0x0A0024, stride := 0x100, count := 7, rw := 0xFFFF, rv := 0xFFFF0000 }, -- RLY_ASYMHI
  { addr := 0x0A0028, stride := 0x100, count := 7, rw := 0xFFFFFFFF }, -- RLY_ALPHA
  { addr := 0x0A002C, stride := 0x100, count := 7 }, -- RLY_DELTALO
  { addr := 0x0A0030, stride := 0x100, count := 7, rv := 0xFFFF0000 }, -- RLY_DELTAHI
  { addr := 0x0A0034, stride := 0x100, count := 7 }, -- RLY_STEERLO
  { addr := 0x0A0038, stride := 0x100, count := 7, rv := 0xFFFF0000 }, -- RLY_STEERHI
  { addr := 0x0A003C, stride := 0x100, count := 7 }, -- RLY_CALTX
  { addr := 0x0A0040, stride := 0x100, count := 7 }, -- RLY_CALRX
  { addr := 0x0A0044, stride := 0x100, count := 7 }, -- RLY_CNT
  { addr := 0x0A0048, stride := 0x100, count := 7, reset := fun _ => 0xFFFF, rv := 0xFFFF0000 }, -- RLY_SIG
  { addr := 0x0A004C, stride := 0x100, count := 7, reset := fun _ => 0x258, rw := 0x1FFF, wk := 0x2000, wo := 0x2000, rv := 0xFFFF8000 }, -- RLY_ACAL
  { addr := 0x0A0050, stride := 0x100, count := 7, reset := fun _ => 0x1F, rv := 0xFFFFFFE0 }, -- RLY_LANE
  { addr := 0x0A1000, reset := fun _ => 0x40F028, rw := 0x3FFFFFF, rv := 0xFC000000 }, -- RLY_MATECFG
  { addr := 0x0A1004, reset := fun _ => 0xFF, rw := 0xFF, rv := 0xFFFFFF00 }, -- RLY_MATESTEER
  { addr := 0x0A1008, rv := 0xFFFFFE00 }, -- RLY_MATEST
  { addr := 0x0A100C, sq := 0x7FFF, rv := 0xFFFF8000 }, -- RLY_MATEEVT
  { addr := 0x0A1010, wk := 0x3, wo := 0x3, rv := 0xFFFFFFFC }, -- RLY_MATECMD
  { addr := 0x0A1014 }, -- RLY_MATECNT
  { addr := 0x0A1018 }, -- RLY_MATESTEP
  { addr := 0x0A101C }, -- RLY_PSER
  { addr := 0x0A2000, stride := 0x40, count := 6, reset := fun _ => 0x800, wk := 0x7FFFFFFF, rv := 0x80000000 }] -- RLY_IMPCFG
def rowsRLY_1 : List RegRow := [
  { addr := 0x0A2004, stride := 0x40, count := 6, reset := fun _ => 0x3C, wk := 0xFFF, rv := 0xFFFFF000 }, -- RLY_IMPDUR
  { addr := 0x0A2008, stride := 0x40, count := 6, wk := 0x1, wo := 0x3, rv := 0xFFFFFFFC }, -- RLY_IMPCMD
  { addr := 0x0A200C, stride := 0x40, count := 6, sq := 0x3FF, rv := 0xF000F800 }, -- RLY_IMPSTAT
  { addr := 0x0A2010, stride := 0x40, count := 6 }, -- RLY_IMPCNT
  { addr := 0x0A2014, stride := 0x40, count := 6, reset := fun _ => 0xACE1, rw := 0xFFFF, rv := 0xFFFF0000 }] -- RLY_IMPSEED
def rowsRLY : List RegRow := rowsRLY_0 ++ rowsRLY_1

/-- Registers of block `REC`, in the order of the spec's tables. -/
def rowsREC : List RegRow := [
  { addr := 0x0B0000, reset := fun _ => 0x81000, rw := 0xFFFF01, rv := 0xFF0000FE }, -- REC_CFG
  { addr := 0x0B0004, reset := fun _ => 0x400, rw := 0xFFFF, rv := 0xFFFF0000 }, -- REC_STARVTH
  { addr := 0x0B0008, reset := fun _ => 0xFFFF, rw := 0xFFFF, rv := 0xFFFF0000 }, -- REC_EN
  { addr := 0x0B000C, reset := fun _ => 0x800, sq := 0x7FF, rv := 0xFFFFE000 }, -- REC_STAT
  { addr := 0x0B0010 }, -- REC_SLOTFLAG
  { addr := 0x0B0014, wo := 0xFFFFFFFF }, -- REC_CMD
  { addr := 0x0B0018, rv := 0xC000C000 }, -- REC_BUF
  { addr := 0x0B001C }, -- REC_VOID
  { addr := 0x0B0100, stride := 0x20, count := 16, reset := fun i => (slotWeight i) + (slotRoute i) <<< 4, rw := 0x7F, rv := 0xFFFFFF80 }, -- REC_SLOTCFG
  { addr := 0x0B0104, stride := 0x20, count := 16 }, -- REC_GRANTS
  { addr := 0x0B0108, stride := 0x20, count := 16 }, -- REC_WAITLO
  { addr := 0x0B010C, stride := 0x20, count := 16, rv := 0xFFFF0000 }, -- REC_WAITHI
  { addr := 0x0B0110, stride := 0x20, count := 16, rv := 0xFFFF0000 }, -- REC_LONGEST
  { addr := 0x0B0114, stride := 0x20, count := 16, rv := 0xFFFF0000 }] -- REC_SLOTDROP

/-- Registers of block `DMA`, in the order of the spec's tables. -/
def rowsDMA : List RegRow := [
  { addr := 0x0C0000, reset := fun _ => 0x20000, rv := 0xFFFC0000 }, -- DMA_SUM
  { addr := 0x0C0100, stride := 0x40, count := 8, reset := fun _ => 0x280, rw := 0x3FEF, wk := 0x10, rv := 0xFFFFC000 }, -- DMA_CHCFG
  { addr := 0x0C0104, stride := 0x40, count := 8, reset := fun i => 0x200000 + (i * 32), rw := 0x1FF01FF, rv := 0xFE00FE00 }, -- DMA_CHBUF
  { addr := 0x0C0108, stride := 0x40, count := 8, rv := 0xFFFFFFC0 }, -- DMA_CHHEAD
  { addr := 0x0C010C, stride := 0x40, count := 8, rw := 0x3F, rv := 0xFFFFFFC0 }, -- DMA_CHTAIL
  { addr := 0x0C0110, stride := 0x40, count := 8, sq := 0xFFF, rv := 0xFFF0C000 }, -- DMA_CHSTAT
  { addr := 0x0C0114, stride := 0x40, count := 8, rv := 0xC000C000 }, -- DMA_CHFILL
  { addr := 0x0C0118, stride := 0x40, count := 8, wk := 0x4, wo := 0x7, rv := 0xFFFFFFF8 }, -- DMA_CHCMD
  { addr := 0x0C011C, stride := 0x40, count := 8 }, -- DMA_CHBYTLO
  { addr := 0x0C0120, stride := 0x40, count := 8 }, -- DMA_CHBYTHI
  { addr := 0x0C0124, stride := 0x40, count := 8, rv := 0xFC000000 }, -- DMA_CHRESUME
  { addr := 0x0C0128, stride := 0x40, count := 8, rw := 0x83FFFFFF, rv := 0x7C000000 }, -- DMA_CHWB
  { addr := 0x0C012C, stride := 0x40, count := 8 }, -- DMA_CHDROP
  { addr := 0x0C1000, stride := 0x10, count := 512, rw := 0xFFFFFFFF }, -- descriptor word 0 (R371)
  { addr := 0x0C1004, stride := 0x10, count := 512, rw := 0xFFFFFFFF }, -- word 1
  { addr := 0x0C1008, stride := 0x10, count := 512, rw := 0xFFFFFFFF }, -- word 2
  { addr := 0x0C100C, stride := 0x10, count := 512 }, -- word 3
  { addr := 0x0C4000, stride := 8, count := 1024, rw := 0xFFFF0001, rv := 0xFFFE }, -- translation entry, low word
  { addr := 0x0C4004, stride := 8, count := 1024, rw := 0xFFFFFFFF }] -- high word

/-- Registers of block `FLT`, in the order of the spec's tables. -/
def rowsFLT_0 : List RegRow := [
  { addr := 0x0D0000, reset := fun _ => 0x100, rv := 0xFFFFFC00 }, -- FLT_SUM
  { addr := 0x0D0004, sq := 0x1FFF, rv := 0xFFFFE000 }, -- FLT_STAT
  { addr := 0x0D0008, reset := fun _ => 0xC8, rw := 0xFFFF, rv := 0xFFFF0000 }, -- FLT_SHADOW
  { addr := 0x0D000C, reset := fun _ => 0x2, rw := 0x3, wo := 0x4, rv := 0xFFFFFFF8 }, -- FLT_FAULTL
  { addr := 0x0D0010, reset := fun _ => 0x7, wk := 0x1FF, tv := 0x1FF, rv := 0xFFFFFE00 }, -- FLT_RECOV
  { addr := 0x0D0014, reset := fun _ => 0x2710, rw := 0x3FFFFF, rv := 0xFFC00000 }, -- FLT_QUIET
  { addr := 0x0D0018 }, -- FLT_RCOUNT
  { addr := 0x0D0020 }, -- FLT_PEND0
  { addr := 0x0D0024 }, -- FLT_PEND1
  { addr := 0x0D0028 }, -- FLT_PEND2
  { addr := 0x0D002C }, -- FLT_PEND3
  { addr := 0x0D0030 }, -- FLT_ACT0
  { addr := 0x0D0034 }, -- FLT_ACT1
  { addr := 0x0D0038 }, -- FLT_ACT2
  { addr := 0x0D003C }, -- FLT_ACT3
  { addr := 0x0D0040 }, -- FLT_MRG0
  { addr := 0x0D0044 }, -- FLT_MRG1
  { addr := 0x0D0048 }, -- FLT_MRG2
  { addr := 0x0D004C }, -- FLT_MRG3
  { addr := 0x0D0050, rv := 0xFFFFFFE0 }, -- FLT_OPEN
  { addr := 0x0D0060, sq := 0x1FF, rv := 0xFF000000 }, -- FLT_FESTAT
  { addr := 0x0D0064 }, -- FLT_FEADDR
  { addr := 0x0D0068 }, -- FLT_FESEC
  { addr := 0x0D006C, rv := 0xC0000000 }, -- FLT_FENS
  { addr := 0x0D0070, rv := 0xFFFF0000 }, -- FLT_FEFRAC
  { addr := 0x0D0074, rv := 0xFFFF0000 }, -- FLT_FECNT
  { addr := 0x0D0080, wk := 0x77F, wo := 0xC00, rv := 0xFFFFF000 }, -- FLT_INJ
  { addr := 0x0D0084, rv := 0xFF00 }, -- FLT_INJST
  { addr := 0x0D1000, stride := 0x10, count := 128, reset := fun i => 0x20 + (reactionBit i 0) + (reactionBit i 1) <<< 1 + (reactionBit i 2) <<< 2 + (reactionBit i 3) <<< 3 + (reactionBit i 4) <<< 4 + (sourceClass i) <<< 8 + (sourceClass i) <<< 12 + (if sourceLevel i then 1 else 0) <<< 14, rw := 0xF2F, wk := 0x10, tv := 0x10, rv := 0xFFFF80C0 }, -- FLT_SRCCFG
  { addr := 0x0D1004, stride := 0x10, count := 128, sq := 0x3FF, rv := 0xFFFFE000 }] -- FLT_SRCST
def rowsFLT_1 : List RegRow := [
  { addr := 0x0D1008, stride := 0x10, count := 128 }, -- FLT_SRCCNT
  { addr := 0x0D100C, stride := 0x10, count := 128 }] -- FLT_SRCLAST
def rowsFLT : List RegRow := rowsFLT_0 ++ rowsFLT_1

/-- Registers of block `NVM`, in the order of the spec's tables. -/
def rowsNVM : List RegRow := [
  { addr := 0x0E0000, wo := 0xF, rv := 0xFFFFFFF0 }, -- NVM_CMD
  { addr := 0x0E0004, sq := 0x1FFF, rv := 0xFFF00000 }, -- NVM_STAT
  { addr := 0x0E0008, rw := 0x7FF, rv := 0xFFFFF800 }, -- NVM_PAGE
  { addr := 0x0E000C, rw := 0x7C, rv := 0xFFFFFF80 }, -- NVM_BUFPTR
  { addr := 0x0E0010, wo := 0xFFFFFFFF }, -- NVM_BUFDATA
  { addr := 0x0E0014, rw := 0x7FF, rv := 0xFFFFF800 }, -- NVM_RPAGE
  { addr := 0x0E0018, rw := 0x7, rv := 0xFFFFFFF8 }, -- NVM_PART
  { addr := 0x0E001C, wo := 0xFFFFFFFF }, -- NVM_PWLO
  { addr := 0x0E0020, wo := 0xFFFFFFFF }, -- NVM_PWHI
  { addr := 0x0E0024, wk := 0x3, wo := 0x3, rv := 0xFFFFFFFC }, -- NVM_PWCMD
  { addr := 0x0E0028 }, -- NVM_UNLK
  { addr := 0x0E002C, reset := fun _ => (64), rv := 0xFFE08080 }, -- NVM_POOL
  { addr := 0x0E0030, rv := 0xFFFFFFF8 }, -- NVM_OWNER
  { addr := 0x0E0034 }, -- NVM_HOURS
  { addr := 0x0E0038, rv := 0xFFFFE000 }, -- NVM_LOGHEAD
  { addr := 0x0E003C, rv := 0xFFFFFE00 }, -- NVM_CFGGEN
  { addr := 0x0E0040, rv := 0xFFFFF000 }] -- NVM_ERRPAGE

/-- Registers of block `CAL`, in the order of the spec's tables. -/
def rowsCAL_0 : List RegRow := [
  { addr := 0x0F8000, rv := 0xFFFFFFF8 }, -- CAL_OVSTAT
  { addr := 0x0F8004, sq := 0x3FFF, rv := 0xFFFFC000 }, -- CAL_OVEVT
  { addr := 0x0F8008, reset := fun _ => 0x2, wk := 0x3, wo := 0x1, rv := 0xFFFFFFFC }, -- CAL_OVHO
  { addr := 0x0F800C, reset := fun _ => 0x11E06DF, rw := 0x1FFFFFF, rv := 0xFE000000 }, -- CAL_OVXCHK
  { addr := 0x0F8010, reset := fun _ => 0x1501, rw := 0x1FFF, rv := 0xFFFFE000 }, -- CAL_OVMCFG
  { addr := 0x0F8014, rv := 0xFFFF0000 }, -- CAL_OVBTEMP
  { addr := 0x0F8018 }, -- CAL_OVHOSTEP
  { addr := 0x0F801C }, -- CAL_OVHOTIM
  { addr := 0x0F8040, stride := 0x40, count := 2, rv := 0xFFFFFE00 }, -- CAL_OVSTS
  { addr := 0x0F8044, stride := 0x40, count := 2 }, -- CAL_OVTEMP
  { addr := 0x0F8048, stride := 0x40, count := 2 }, -- CAL_OVPWR
  { addr := 0x0F804C, stride := 0x40, count := 2 }, -- CAL_OVMLO
  { addr := 0x0F8050, stride := 0x40, count := 2, rv := 0xFFFF0000 }, -- CAL_OVMHI
  { addr := 0x0F8054, stride := 0x40, count := 2 }, -- CAL_OVC0
  { addr := 0x0F8058, stride := 0x40, count := 2 }, -- CAL_OVC1
  { addr := 0x0F805C, stride := 0x40, count := 2 }, -- CAL_OVK1
  { addr := 0x0F8060, stride := 0x40, count := 2, reset := fun _ => (Config.nanWord.toNat) }, -- CAL_OVRES
  { addr := 0x0F8064, stride := 0x40, count := 2, rv := 0xFE00 }, -- CAL_OVFIT
  { addr := 0x0F8068, stride := 0x40, count := 2 }, -- CAL_OVFITT
  { addr := 0x0F0000, reset := fun _ => 0x18F801, rw := 0x3FFFF01, rv := 0xFC0000FE }, -- CAL_CFG
  { addr := 0x0F0004, wo := 0xFF01, rv := 0xFFFF00FE }, -- CAL_CMD
  { addr := 0x0F0008, sq := 0x7FF, rv := 0xFFFFE000 }, -- CAL_STAT
  { addr := 0x0F000C, rv := 0xFFFF0000 }, -- CAL_TJ
  { addr := 0x0F0010, rw := 0xFFFFFFFF }, -- CAL_TRACE
  { addr := 0x0F0014, rv := 0xFFC0C0F0 }, -- CAL_LAST
  { addr := 0x0F0018 }, -- CAL_LASTSEC
  { addr := 0x0F001C }, -- CAL_LASTDUR
  { addr := 0x0F0020 }, -- CAL_LASTCHG
  { addr := 0x0F0024 }, -- CAL_CNT
  { addr := 0x0F0028, rv := 0xFFFE0088 }] -- CAL_INTERP
def rowsCAL_1 : List RegRow := [
  { addr := 0x0F002C, reset := fun _ => 0x3, rw := 0x73F0F, rv := 0xFFF8C0F0 }, -- CAL_VIEW
  { addr := 0x0F0030 }, -- CAL_VIEWFAC
  { addr := 0x0F0034 }, -- CAL_VIEWFLD
  { addr := 0x0F0038 }, -- CAL_VIEWCUR
  { addr := 0x0F003C }, -- CAL_VIEWUSE
  { addr := 0x0F0040, wk := 0xFF, wo := 0xFF, rv := 0xFFFFFF00 }] -- CAL_FRESET
def rowsCAL : List RegRow := rowsCAL_0 ++ rowsCAL_1

/-- The rows of a block, by the 64 KiB blocks of R383. -/
def blockRows (b : Nat) : List RegRow :=
  match b with
  | 0 => rowsGLB
  | 1 => rowsREF
  | 2 => rowsUMP
  | 3 => rowsLDG
  | 4 => rowsDPL
  | 5 => rowsAPL
  | 6 => rowsOUT
  | 7 => rowsTSC
  | 8 => rowsEVT
  | 9 => rowsPRT
  | 10 => rowsRLY
  | 11 => rowsREC
  | 12 => rowsDMA
  | 13 => rowsFLT
  | 14 => rowsNVM
  | 15 => rowsCAL
  | _ => []

/-- Whether a row holds the word at byte address `a`, and which instance it is. -/
def RegRow.instOf (r : RegRow) (a : Nat) : Option Nat :=
  if r.addr ≤ a ∧ (a - r.addr) % r.stride = 0 ∧ (a - r.addr) / r.stride < r.count then
    some ((a - r.addr) / r.stride) else none

/-- The row, and the instance, of the word at byte address `a`; none for an offset no table lists. -/
def regRow (a : Nat) : Option (RegRow × Nat) :=
  (blockRows (a / 0x10000)).findSome? fun r => (r.instOf a).map fun i => (r, i)

/-- Reset value of the word at byte address `a` (R14). Words no table lists reset to 0 (DESIGN CHOICE, log 3). -/
def resetWord (a : Nat) : Word :=
  match regRow a with
  | some (r, i) => BitVec.ofNat 32 (r.reset i)
  | none => 0

end Sys2Proof.Machine
end

