-- ==== Sys2Proof/Machine/Table.lean ====
section
/-! DEFINITION. Sparse tables: the one form in which State holds what is indexed (registers, per-instance state, pages).
A table is a list of (key, value) pairs in canonical form: keys strictly rising, no entry equal to what an unlisted key
reads as. A write keeps the form, so equal contents are equal data. -/

namespace Sys2Proof.Machine

/-- A sparse table. What an unlisted key reads as is an argument of the operations. -/
abbrev Tab (α : Type) := List (Nat × α)

/-- What key `k` reads as; `d` gives the value of unlisted keys. -/
def Tab.getF {α : Type} (d : Nat → α) : Tab α → Nat → α
  | [], k => d k
  | (j, v) :: t, k => if j = k then v else Tab.getF d t k

/-- Put an entry at its place in key order. -/
def Tab.ins {α : Type} (k : Nat) (v : α) : Tab α → Tab α
  | [] => [(k, v)]
  | (j, w) :: t => if k ≤ j then (k, v) :: (j, w) :: t else (j, w) :: Tab.ins k v t

/-- Without the entries of key `k`. -/
def Tab.del {α : Type} (k : Nat) (m : Tab α) : Tab α := m.filter fun p => p.1 != k

/-- Write `v` at key `k`; a value equal to what the key reads as unlisted removes the entry. -/
def Tab.setF {α : Type} [DecidableEq α] (d : Nat → α) (m : Tab α) (k : Nat) (v : α) : Tab α :=
  if v = d k then m.del k else Tab.ins k v (m.del k)

/-- The canonical form: keys strictly rising and no entry at its default. -/
def Tab.wfF {α : Type} [DecidableEq α] (d : Nat → α) : Tab α → Bool
  | [] => true
  | [(k, v)] => decide (v ≠ d k)
  | (k, v) :: (j, w) :: t => decide (v ≠ d k) && decide (k < j) && Tab.wfF d ((j, w) :: t)

/-- Reading a table whose unlisted keys hold `default`. -/
def Tab.get {α : Type} [Inhabited α] (m : Tab α) (k : Nat) : α := m.getF (fun _ => default) k
/-- Writing such a table. -/
def Tab.set {α : Type} [Inhabited α] [DecidableEq α] (m : Tab α) (k : Nat) (v : α) : Tab α :=
  m.setF (fun _ => default) k v
/-- Changing one entry. -/
def Tab.mod {α : Type} [Inhabited α] [DecidableEq α] (m : Tab α) (k : Nat) (f : α → α) : Tab α :=
  m.set k (f (m.get k))
/-- The canonical form of such a table. -/
def Tab.wf {α : Type} [Inhabited α] [DecidableEq α] (m : Tab α) : Bool := m.wfF (fun _ => default)

/-- `n` bits of a word from bit `lsb`, as a number. -/
def wordBits (w : Word) (lsb n : Nat) : Nat := (w.toNat >>> lsb) % 2 ^ n
/-- The mask of `n` bits from bit `lsb`. -/
def maskAt (lsb n : Nat) : Word := BitVec.ofNat 32 ((2 ^ n - 1) <<< lsb)
/-- Two's complement reading of an `n`-bit number. -/
def signed (n v : Nat) : Int := if v < 2 ^ (n - 1) then (v : Int) else (v : Int) - 2 ^ n
/-- The `n`-bit two's complement code of an integer, wrapping. -/
def code (n : Nat) (x : Int) : Nat := (x % (2 : Int) ^ n).toNat
/-- Saturation of an integer to signed `n` bits. -/
def satS (n : Nat) (x : Int) : Int := max (-(2 : Int) ^ (n - 1)) (min ((2 : Int) ^ (n - 1) - 1) x)
/-- Nearest integer to `p / q`, ties away from zero (R6); `q` is positive. -/
def roundDiv (p : Int) (q : Nat) : Int :=
  if 0 ≤ p then (2 * p + q) / (2 * q) else -((2 * -p + q) / (2 * q))
/-- Nearest integer to a rational, ties away from zero (R6). -/
def roundRat (x : Rat) : Int := roundDiv x.num x.den
/-- `n` bytes of a number, little-endian. -/
def leBytes : Nat → Nat → List Byte
  | 0, _ => []
  | n + 1, v => BitVec.ofNat 8 v :: leBytes n (v / 256)
/-- The number little-endian bytes spell. -/
def ofLe : List Byte → Nat
  | [] => 0
  | b :: t => b.toNat + 256 * ofLe t
/-- `n` bytes of a number, big-endian. -/
def beBytes (n v : Nat) : List Byte := (leBytes n v).reverse
/-- The number big-endian bytes spell. -/
def ofBe (l : List Byte) : Nat := ofLe l.reverse
/-- A flag as a number. -/
def bit (b : Bool) : Nat := if b then 1 else 0

end Sys2Proof.Machine
end

