-- ==== Sys2Proof/Machine/State.lean ====
section
/-! DEFINITION. The state of the module, as plain data. Every register field of the spec's tables lives in `Asic.regs`
(one sparse word table with the two further copies of triplicated fields beside it); the state the spec gives the
module beyond its register tables (timers, queues, counters that no register shows, what is in flight) lives in the
typed structures below, one per chapter. What survives SHELF is apart: `Kep` (R413), `Nvm` (chapter 18) and `Supply`. -/

namespace Sys2Proof.Machine

/-- A record: 32 bytes (R354). -/
abbrev Record := List Byte

/-- What leaves the module at its interfaces, in order. The spec gives these to the outside; no rule reads them back. -/
inductive Tx where
  /-- a byte sequence answered on SPI (R393) -/
  | spi (bytes : List Byte)
  /-- a PCIe completion: status 0 success, 1 Completer Abort; its data words (R398) -/
  | completion (status : Nat) (data : List Word)
  /-- a posted write toward the host: host address and bytes (R376) -/
  | hostWrite (addr : Nat) (bytes : List Byte)
  /-- a write into HKC data memory by an `OWNER` = 1 channel (R371) -/
  | hkcWrite (offset : Nat) (bytes : List Byte)
  /-- an MSI-X message on a vector (R442) -/
  | msix (vector : Nat)
  /-- an uncorrectable non-fatal Completer Abort report (R398) -/
  | aer
  /-- a CAN frame: identifier, format (0 classical, 1 FD, 2 FD with bit-rate switch, R416) and data -/
  | can (id format : Nat) (data : List Byte)
  /-- a frame or PDU sent by a port; `kind` is the PTP messageType, 0x100 ESMC, 0x101 Rally, 0x102 cut-through -/
  | port (port kind : Nat) (fields : List Int)
  /-- a frame forwarded by cut-through: egress port, bytes, FCS 0 good, 1 inverted, 2 ended by an error block (R322) -/
  | frame (port : Nat) (bytes : List Byte) (fcs : Nat)
  /-- a `MATE` heartbeat (R340) -/
  | heartbeat (fields : List Nat)
  /-- an edge that leaves J1: pin number per R438 (24–27 `PLS`, 28–35 `TRG`), time in u -/
  | edge (pin : Nat) (time : Int)
  deriving DecidableEq, Repr

/-- What the module commits to NVM of its own accord; each kind takes its content when its commit starts (R457). -/
inductive Commit where
  /-- the placement map (R38) -/
  | placement
  /-- the firmware bank pointer (R79) -/
  | bank
  /-- the recovery counter (R449) -/
  | recovery
  /-- the hour meter (R460) -/
  | hours
  /-- the hop-table entries (R222) -/
  | hopTable
  /-- an oven's last accepted fit (R197) -/
  | model (oven : Nat)
  /-- the field calibration sets (R469) -/
  | calSets
  /-- a Rally asymmetry (R339) -/
  | rally (inst : Nat)
  /-- log entries from a place of the ring on, all of one page (R465) -/
  | log (slot : Nat) (entries : List (List Byte))
  /-- the running plan (R225) -/
  | plan
  /-- the communication-area objects (R423) -/
  | comm
  /-- a page software committed (R456): logical page and content -/
  | page (page : Nat) (data : List Byte)
  /-- the configuration image of SAVECFG (R463): register words as differences from reset, the active plan bank -/
  | config (words plan : Tab Word)
  /-- a page rewritten with its own content (R462) -/
  | rewrite (page : Nat)
  /-- a password (R459): partition, access, value -/
  | password (part acc : Nat) (pw : Nat)
  deriving DecidableEq, Repr, Inhabited

/-- Clocks and the common timeline (R21, R29, R30, R74–R77). Times are in TDC cycles of 800 ps. -/
structure Clk where
  /-- the model's time -/
  now : Nat
  /-- the coarse counter of R21 -/
  coarse : Nat
  /-- the coarse counter counts (from the end of COLD) -/
  coarseOn : Bool
  /-- BKPLL is locked, or runs free, so that SYSFB runs -/
  bkLocked : Bool
  /-- when BKPLL started on the selected oven, or ran free -/
  bkAt : Option Nat
  /-- SYSPLL is locked -/
  sysLocked : Bool
  /-- since when SYSPLL holds lock during a fallback -/
  relockAt : Option Nat
  /-- when the present loss of lock was declared -/
  lossAt : Option Nat
  /-- FE5 was raised for the present loss -/
  sustained : Bool
  /-- fallbacks on the coarse timeline (start, end) that may still matter, newest first, and the start of a running one -/
  fbk : List (Nat × Nat)
  fbkFrom : Option Nat
  /-- records up to this time lie in the span of R205 and carry DEGRADED -/
  degradedUntil : Nat
  deriving DecidableEq, Repr, Inhabited

/-- The device modes beyond `GLB_MODE` (R45–R68). -/
structure Modes where
  /-- the COLD sequence runs, perhaps beneath SAFE (R51) -/
  coldOn : Bool
  /-- t0 of R55 -/
  t0 : Nat
  /-- configuration was loaded (R55) -/
  loaded : Bool
  /-- the CONFIG partition failed its check (R57) -/
  loadFailed : Bool
  /-- a channel has been LOCKED to a time reference since COLD (R49) -/
  everLocked : Bool
  /-- the active oven has set WARM since COLD (R50) -/
  warmSeen : Bool
  /-- per channel: since when LOCKED to a time reference without interruption (R49) -/
  lockedSince : Tab (Option Nat)
  /-- the anchor condition holds -/
  anchor : Bool
  /-- what set `ADMIT`: 2 WARM, 3 the anchor condition (codes of R47); what ended it: 11 -/
  admitWhy : Nat
  /-- mode before SAFE (R66) -/
  beforeSafe : Nat
  deriving DecidableEq, Repr, Inhabited

/-- The firmware bank swap (R78–R81). -/
structure Fw where
  /-- when the swap was armed -/
  armedAt : Option Nat
  /-- the swap boundary t0 whose checkpoint has begun -/
  boundary : Option Nat
  /-- a swap was made at this time and its `ALIVE` is awaited -/
  swappedAt : Option Nat
  deriving DecidableEq, Repr, Inhabited

/-- What access a fault names (R439). -/
structure Access where
  addr : Nat
  master : Nat
  write : Bool
  size : Nat
  aliased : Bool
  deriving DecidableEq, Repr, Inhabited

/-- One occurrence on its way to the collector (R435, R436): asserted at `at`. -/
structure Occ where
  src : Nat
  /-- bytes 30:24 of the record, byte 24 lowest -/
  detail : Nat
  /-- model time of assertion at the collector input -/
  time : Nat
  coarse : Nat
  sec : Nat
  ns : Nat
  frac : Nat
  degraded : Bool
  injected : Bool
  broken : Bool
  access : Option Access
  deriving DecidableEq, Repr, Inhabited

/-- The pair of one source (R435–R437). -/
structure Pair where
  /-- an EVENT source holds its pair asserted until this time -/
  heldUntil : Nat
  /-- occurrences counted in the block while the pair was held (8 bits) -/
  extra : Nat
  /-- the units that hold a LEVEL source asserted, with their detail -/
  units : List (Nat × Nat)
  /-- since when the pair reads deasserted -/
  offSince : Nat
  /-- injection held (R451): 1 PULSE, 2 HOLD, 3 STUCK -/
  inject : Nat
  deriving DecidableEq, Repr, Inhabited

/-- One open fault record (R444–R446). -/
structure OpenRec where
  first : Occ
  count : Nat
  mask : Nat
  cls : Nat
  /-- reactions taken: bit 0 log, 1 interrupt, 2 EMCY, 3 block action, 4 SAFE -/
  taken : Nat
  merged : Bool
  /-- other sources merged, one bit per source -/
  mergedSet : Nat
  captured : Bool
  closeAt : Nat
  deriving DecidableEq, Repr, Inhabited

/-- The fault collector beyond its registers (chapter 17). -/
structure Flt where
  /-- occurrences asserted and not yet accepted, oldest first -/
  raised : List Occ
  pairs : Tab Pair
  /-- open records, oldest first (at most 16) -/
  opened : List OpenRec
  /-- `FAULT_L` is low, and since when -/
  faultL : Bool
  faultLAt : Nat
  /-- a RELEASE was written while `FAULT_L` was low (R441) -/
  releaseAsked : Bool
  /-- the collector is in its fault state (R448) -/
  fstate : Bool
  /-- the entry into SAFE came from an injected fault -/
  fstateInjected : Bool
  /-- since when no source with the SAFE reaction has been active -/
  quietSince : Nat
  /-- the last entry into SAFE -/
  lastSafe : Nat
  /-- sources whose closed records sent an EMCY that is not yet withdrawn (R430) -/
  emcyOpen : List (Nat × List Byte)
  deriving DecidableEq, Repr, Inhabited

/-- The record path beyond its registers (chapter 14). -/
structure RecPath where
  /-- records offered and not yet granted, per slot, oldest first -/
  queue : Tab (List Record)
  /-- records in the region of each DMA channel, oldest first, with their time of arrival -/
  region : Tab (List (Record × Nat))
  /-- credit counters, kept as WEIGHT less credit so that 0 is full (R362) -/
  spent : Tab Nat
  /-- weights taken at the last reload; 0 the reset weight -/
  weight : Tab Nat
  /-- the rotation pointer PTR -/
  ptr : Nat
  /-- the burst-mode holder, and the transfer slots its grant has used (R365) -/
  holder : Option (Nat × Nat)
  /-- since when each slot requests without a grant -/
  wait : Tab (Option Nat)
  /-- a starvation was raised in the current run -/
  starved : Tab Bool
  /-- a transfer of the slot is in progress since this time (R368) -/
  transfer : Tab (Option Nat)
  deriving DecidableEq, Repr, Inhabited

/-- One time scale (R258, R259): value in units of 2⁻⁶⁴ ns / 5 at coarse time `tu`, and rate in 2⁻⁶⁰. -/
structure Scale where
  base : Nat
  tu : Nat
  rate : Int
  /-- the second whose beginning was last handled -/
  sec : Nat
  /-- SETNOW or SETSEC has been applied (clears UNSET) -/
  isSet : Bool
  /-- servo: integrator I and P, 2⁻⁶⁰ -/
  integ : Int
  prop : Int
  /-- samples delivered and not yet taken: offset in PQ, time taken (coarse), DEGRADED (R266) -/
  samples : List (Int × Nat × Bool)
  /-- time of the last valid sample, coarse; none before the first since entry from IDLE or COAST -/
  lastSample : Option Nat
  /-- since when TIMEOUT runs -/
  quietFrom : Nat
  /-- consecutive samples inside LOCKLIM, and outside 4 × LOCKLIM -/
  inside : Nat
  outside : Nat
  /-- last set or step, coarse: samples taken before it are discarded (R267) -/
  lastJump : Nat
  deriving DecidableEq, Repr, Inhabited

/-- One trigger (R272–R277). -/
structure Trig where
  /-- X in PQ, seconds by their low 32 bits -/
  x : Nat
  /-- remaining count, 0 unlimited -/
  left : Nat
  /-- edges handed over and not yet emitted: instant at J1, in u of the coarse timeline -/
  queue : List Int
  /-- the one-shot edge of this arming has been handed over -/
  handed : Bool
  /-- coarse time at which the active level began, while it lasts -/
  activeAt : Option Nat
  deriving DecidableEq, Repr, Inhabited

/-- Time scales and triggers beyond their registers (chapter 10). -/
structure Tsc where
  scale : Tab Scale
  trig : Tab Trig
  deriving DecidableEq, Repr, Inhabited

/-- Epoch parity of a function (R27, R28). -/
structure Parity where
  par : Bool
  changedAt : Option Nat
  deriving DecidableEq, Repr, Inhabited

/-- A placement change, or a withheld epoch change, that waits for the 1 ms spacing of R28. -/
inductive Deferred where
  /-- a lane handover of an index to a lane, started by software or automatically -/
  | lane (idx lane overlap : Nat) (soft : Bool)
  /-- a migration of a channel to a unit that software asked for -/
  | dpll (chan unit : Nat)
  /-- an automatic migration of a channel -/
  | dpllAuto (chan : Nat)
  /-- a TAC handover of a position to a TAC -/
  | tac (pos tac : Nat) (soft : Bool)
  /-- the withheld parity inversion and marker of index 22 (R28): lane, new source -/
  | epoch22 (lane src : Nat)
  deriving DecidableEq, Repr

/-- A tick sample: mean phase in PQ of a tick that ended at coarse time `t`, its edges, and its numbering run (R101). -/
structure Sample where
  t : Nat
  phase : Int
  edges : Nat
  run : Nat
  deriving DecidableEq, Repr, Inhabited

/-- One reference index in the phase collector and its monitors (R86–R109). -/
structure RefInp where
  /-- coarse time of the last edge the holdoff accepted -/
  held : Option Nat
  /-- selected edges since the last prescaler output -/
  pre : Nat
  /-- the present presence window holds an accepted edge; consecutive windows that held one -/
  windowEdge : Bool
  good : Nat
  /-- presence of a packet reference in PTP mode comes from the port; the SSM gate withholds it (R324) -/
  gated : Bool
  /-- edges are numbered; run counts restarts -/
  numbered : Bool
  run : Nat
  /-- number, phase (PQ) and time (u) of the last edge -/
  n : Int
  phase : Int
  tU : Int
  /-- edges of the open tick: sum of phases and number -/
  tickSum : Int
  tickN : Nat
  /-- last tick sample -/
  last : Option Sample
  /-- frequency monitor: the last tick sample at or before the window's start, y of the last valid window -/
  fStart : Option Sample
  y : Option Int
  runOver : Nat
  under : Nat
  /-- phase-jump monitor: run of good samples -/
  calm : Nat
  /-- open phase record: sum of edge phases, edges, first and last tick sample, status bits, lane, and whether it began
  in PRIMER or in fallback -/
  recSum : Int
  recN : Nat
  recFirst : Option Sample
  recBefore : Option Sample
  recLast : Option Sample
  recStatus : Nat
  recLane : Nat
  recPrimer : Bool
  recDegraded : Bool
  /-- sums of tick samples per second of the Ledger: (second, sum, number) -/
  seconds : List (Nat × Int × Nat)
  deriving DecidableEq, Repr, Inhabited

/-- One TDC lane (R89, R96, R97). -/
structure Lane where
  /-- coarse time of the previous accepted edge -/
  last : Option Nat
  /-- a calibration collects hits -/
  collecting : Bool
  /-- an accepted table (span, widest, boundaries) waits for an idle cycle -/
  accepted : Option (Nat × Nat × List Nat)
  /-- the 255 bin boundaries in use -/
  table : List Nat
  deriving DecidableEq, Repr, Inhabited

/-- A lane handover in progress (R98). -/
structure LaneHo where
  idx : Nat
  old : Nat
  new : Nat
  start : Nat
  overlap : Nat
  /-- sum of the lanes' phase differences (u) and number of edges seen by both -/
  diff : Int
  edges : Nat
  soft : Bool
  deriving DecidableEq, Repr, Inhabited

/-- References and lanes beyond their registers (chapter 3). -/
structure Ref where
  inp : Tab RefInp
  lane : Tab Lane
  ho : Option LaneHo
  /-- automatic substitutions that wait for the handover unit: (index, failed lane) -/
  wait : List (Nat × Nat)
  /-- phase correction left by lane handovers, in u, per index -/
  shift : Tab Int
  /-- coarse time of the last CALPPS edge -/
  ppsAt : Option Nat
  deriving DecidableEq, Repr, Inhabited

/-- One reference index in the Umpire (R112–R119). -/
structure UmpIdx where
  /-- soak timer, evaluations SUSPECT, evaluations clear while DISQUALIFIED -/
  soak : Nat
  suspect : Nat
  clear : Nat
  /-- causes held, bit n for code n of `UMP_ISTAT.CAUSE` -/
  causes : Nat
  /-- deviations from consensus, newest first (R118), their mean, and the runs above DSET and below DCLR -/
  devs : List Rat
  dev : Option Rat
  runOver : Nat
  under : Nat
  /-- entry into the present state, and since when QUALIFIED without interruption -/
  enteredAt : Nat
  qualAt : Option Nat
  /-- Putty's samples of the index since the later of its RESTART and entry to QUALIFIED, newest first (R131) -/
  fit : List Sample
  deriving DecidableEq, Repr, Inhabited

/-- A switch decided and not yet in effect (R132). -/
structure Switch where
  old : Nat
  new : Nat
  t0 : Nat
  reason : Nat
  deriving DecidableEq, Repr, Inhabited

/-- One channel in the Umpire. -/
structure UmpCh where
  /-- decided disputes that still blame: (blamed index, other index) -/
  blames : List (Nat × Nat)
  /-- the undecided pair of R122 -/
  pair : Option (Nat × Nat)
  /-- base values of R122 per index -/
  base : Tab (Option Rat)
  switch : Option Switch
  /-- `BOCLR` waits for a tick boundary -/
  boclr : Bool
  deriving DecidableEq, Repr, Inhabited

/-- The Umpire beyond its registers (chapter 4). -/
structure Ump where
  idx : Tab UmpIdx
  ch : Tab UmpCh
  deriving DecidableEq, Repr, Inhabited

/-- Sums of one hour's 1 s values for the drift fit (R145): t is the second number, x in 2⁻³² PQ. -/
structure HourSum where
  hour : Nat
  n : Nat
  t1 : Int
  t2 : Int
  t3 : Int
  t4 : Int
  x : Int
  xt : Int
  xt2 : Int
  deriving DecidableEq, Repr, Inhabited

/-- One index in the Stability Engine (R142–R144). -/
structure LdgIdx where
  /-- second of the first value kept since the last restart -/
  start : Option Nat
  /-- second of the first value the diagonal estimators use: later than `start` after an oven handover (R154) -/
  diagFrom : Option Nat
  /-- 1 s values (second, x in 2⁻³² PQ), newest first -/
  hist : List (Nat × Int)
  hours : List HourSum
  gapRun : Nat
  /-- a restart waits for the next pass -/
  restart : Bool
  /-- `REF_CFG.EN` or a configuration error changed while the index was absent (R144) -/
  changed : Bool
  deriving DecidableEq, Repr, Inhabited

/-- An averaged estimator (R148): number of terms, average. -/
structure Est where
  n : Nat
  v : Rat
  deriving DecidableEq, Repr, Inhabited

/-- An MTIE estimator (R147): largest value per segment of the observation period, newest first. -/
structure MtieSegs where
  segs : List (Nat × Int)
  deriving DecidableEq, Repr, Inhabited

/-- The Ledger and the Stability Engine beyond their registers (chapter 5). Entries are keyed by
(i × 24 + j) × 8 + k; an entry without a word is a quiet NaN. -/
structure Ldg where
  live : Tab (Option Word)
  /-- the entries before the latest pass wrote its pair cells, which the evaluation of that second reads (R151) -/
  before : Tab (Option Word)
  shown : Tab (Option Word)
  hidden : Tab (Option Word)
  idx : Tab LdgIdx
  est : Tab Est
  mtie : Tab MtieSegs
  /-- pass count of the last record of each cell half -/
  recAt : Tab (Option Nat)
  /-- passes since the last automatic snapshot request -/
  autoPasses : Nat
  /-- an oven handover waits for the next pass (R154) -/
  ovenRestart : Bool
  /-- the restarting pass of `EN` = 0 has run -/
  stopped : Bool
  /-- the latest pass followed a gap second of some index -/
  gap : Bool
  /-- `LDG_MTIE.SEG` and `LDG_CFG.MINTERM` the latest pass ran with (R153) -/
  seg : Nat
  mint : Nat
  /-- `ALL` was requested -/
  restartAll : Bool
  deriving DecidableEq, Repr, Inhabited

/-- One control-history entry (R176). -/
structure HistEntry where
  mean : Int
  valid : Bool
  frozen : Bool
  /-- its midpoint, coarse time -/
  mid : Nat
  deriving DecidableEq, Repr, Inhabited

/-- What a unit writes after each good update (R183). -/
structure Checkpoint where
  integ : Int
  prop : Int
  theta : Int
  thetaAt : Nat
  okTime : Nat
  bad : Nat
  deriving DecidableEq, Repr, Inhabited

/-- One DPLL channel beyond its registers (R163–R185). Frequency words are in 2⁻⁶⁰, θ in 2⁻³² PQ. -/
structure Dpl where
  integ : Int
  prop : Int
  theta : Int
  thetaAt : Nat
  /-- time of the previous update of the run -/
  lastUpdate : Option Nat
  /-- time of the sample last used -/
  lastSample : Nat
  lockedBefore : Bool
  /-- time every update has passed the test of transition 3 -/
  okTime : Nat
  okMark : Nat
  bad : Nat
  badClamp : Nat
  lockedAt : Nat
  /-- holdover: t_c (coarse) and the board temperature then, time counted (paused in fallback), time of its last count,
  limit raised -/
  tCentre : Nat
  tempCentre : Rat
  hoTime : Nat
  hoMark : Nat
  limitDone : Bool
  ck : Checkpoint
  /-- the Rally term of R334, PQ -/
  rally : Int
  /-- history, newest first, and the open entry: ∫y over it, its start, whether still valid, FROZEN seen -/
  hist : List HistEntry
  open_ : Option Nat
  openSum : Int
  openOk : Bool
  openFrozen : Bool
  appended : Nat
  /-- telemetry interval: start, ∫y, updates, Σe, peak, whether it held a fallback or PRIMER -/
  teleFrom : Nat
  teleY : Int
  teleN : Nat
  teleE : Int
  telePeak : Nat
  teleDegraded : Bool
  telePrimer : Bool
  teleSat : Bool
  /-- ∫y since the channel's reset -/
  total : Int
  /-- time up to which the integrals are formed -/
  mark : Nat
  deriving DecidableEq, Repr, Inhabited

/-- A migration in progress (R184): channel, target unit, t0, state copied. -/
structure Migration where
  chan : Nat
  unit : Nat
  t0 : Nat
  copied : Bool
  deriving DecidableEq, Repr, Inhabited

/-- The DPLL channels beyond their registers (chapter 6). -/
structure Dpll where
  ch : Tab Dpl
  mig : Option Migration
  /-- requests that wait (R186) -/
  wait : List (Nat × Nat)
  /-- channels whose unit failed and whose automatic migration waits for the next tick boundary -/
  auto : List Nat
  deriving DecidableEq, Repr, Inhabited

/-- One hourly model point (R195): value in 2⁻⁶⁰, mean board temperature in 1/256 °C, closing `TS0` seconds. -/
structure OvenPoint where
  p : Rat
  temp : Rat
  time : Nat
  valid : Bool
  deriving DecidableEq, Repr, Inhabited

/-- A fit of the model (R194, R196): coefficients with t_f and θ_f. Dimensionless, per day, per K; θ in 1/256 °C. -/
structure Fit where
  c0 : Rat
  c1 : Rat
  k1 : Rat
  tf : Int
  thetaF : Rat
  deriving DecidableEq, Repr, Inhabited

/-- One oven beyond its registers (R189–R206). -/
structure Oven where
  /-- since when the WARM criteria, and the loss criterion, have held -/
  warmSince : Option Nat
  coldSince : Option Nat
  /-- when WARM was cleared and has not set again (FCAUSE TEMP) -/
  lostAt : Option Nat
  /-- causes held: bit n for FCAUSE n -/
  causes : Nat
  /-- since when the causes the module itself judges have been absent -/
  clearSince : Nat
  /-- the last accepted fit -/
  fit : Option Fit
  /-- a fit accepted and waiting for the next second boundary (R196) -/
  pending : Option Fit
  /-- coefficients in use -/
  use : Fit
  /-- hourly points, newest first -/
  points : List OvenPoint
  /-- cross-check run (R199) -/
  blame : Nat
  deriving DecidableEq, Repr, Inhabited

/-- The ovens beyond their registers (chapter 7). -/
structure Ovens where
  oven : Tab Oven
  /-- the last 100 board temperature samples, newest first -/
  temps : List Int
  /-- θ at past second boundaries (coarse time, mean in 1/256 °C), newest first -/
  tempHist : List (Nat × Rat)
  /-- open hour: its start, the training channel's ∫y then, sums of y22 and of θ with their numbers, validity -/
  hourFrom : Nat
  hourY : Int
  hourY22 : Rat
  hourN22 : Nat
  hourT : Rat
  hourNT : Nat
  hourOk : Bool
  hourOk22 : Bool
  hourCold : Tab Bool
  /-- disagreement runs -/
  disOver : Nat
  disUnder : Nat
  /-- handover: t0 (coarse), Ts (coarse) once switched, emergency; `CAL_OVHOSTEP` and `CAL_OVHOTIM` to be shown -/
  hoReq : Option Nat
  hoAt : Option Nat
  emerg : Bool
  hoStep : Int
  hoSec : Nat
  /-- a request that waits (R204) -/
  hoWait : Bool
  /-- a handover due to an active-oven fault that waits for the inactive oven's WARM (R201) -/
  autoWait : Bool
  /-- the OSC fault of the active oven waits for the inactive oven's next edge (R205) -/
  oscLost : Bool
  /-- fit of index 22's stream: its tick samples of the last 2^17 ticks, newest first -/
  fit22 : List Sample
  /-- ovens marked OSC faulted at COLD, to be raised once the collector runs (R202) -/
  coldFault : List Nat
  /-- time of the last daily model commit -/
  committed : Nat
  deriving DecidableEq, Repr, Inhabited
/-- One physical APLL unit (R209, R214–R217). -/
structure AplUnit where
  /-- 0 off, 1 band step, 2 settling, 3 locked, 4 retrying, 5 failed -/
  phase : Nat
  /-- the band step is a full search -/
  full : Bool
  /-- model time at which the band step starts; at which it ended; of the lock declaration -/
  stepAt : Nat
  stepEnd : Nat
  lockAt : Nat
  retries : Nat
  /-- an own relock starts at this time (R229) -/
  relockAt : Option Nat
  deriving DecidableEq, Repr, Inhabited

/-- An APLL handover (R231): accepted, then started once nothing defers it. -/
structure AplHo where
  fn : Nat
  target : Nat
  started : Bool
  /-- t1: the target is locked and the comparator runs from here -/
  since : Nat
  tries : Nat
  /-- the last measurement was within 0.5 ps -/
  ready : Bool
  step : Int
  deriving DecidableEq, Repr, Inhabited

/-- APLLs, plans and hops beyond their registers (chapter 8). Plan words are keyed plan × 64 + word; the running set by
word; hop-table entries plan × 8 + slot. -/
structure Apl where
  unit : Tab AplUnit
  active : Tab Word
  staged : Tab Word
  running : Tab Word
  hopTable : Tab Word
  /-- the function unit 7 follows: the one it carries, shadows, or is about to take -/
  follow7 : Option Nat
  /-- a requested hop: plan, and the second of a scheduled one -/
  hopReq : Option (Nat × Option Nat)
  /-- coarse start of the running hop, functions whose outputs await their restart, functions that glide with the end -/
  hopAt : Nat
  hopWait : List Nat
  glides : List (Nat × Nat)
  /-- substitutions whose outputs await their restart: function and t0 -/
  subs : List (Nat × Nat)
  ho : Option AplHo
  deriving DecidableEq, Repr, Inhabited

/-- What a clock output's pin shows. -/
inductive Pin where
  /-- its safe level (R242) -/
  | safe
  /-- its clock -/
  | clock
  /-- the last level of a forced squelch, until it has lasted `Tmin`/2 (R241) -/
  | held
  /-- low, in a hold of a glide hop (R226) -/
  | low
  deriving DecidableEq, Repr, Inhabited

/-- One clock output beyond its registers (R240–R250). -/
structure Out where
  pin : Pin
  /-- an internal sync is requested, not before this coarse time -/
  syncAt : Option Nat
  /-- the sync its grid follows: coarse time, and whether a `SYNC_L` edge made it -/
  gridAt : Nat
  gridSyncL : Bool
  /-- ratio in use less 1 -/
  div : Nat
  /-- a Skim move in progress: from S at a coarse time -/
  skimFrom : Option (Int × Nat)
  deriving DecidableEq, Repr, Inhabited

/-- A scheduled pulse of a generator, or the equally spaced pulses of `MUL`: the first instant in u, their spacing in u,
how many have left, how many in all. -/
structure Pulse where
  start : Int
  step : Rat
  k : Nat
  n : Nat
  deriving DecidableEq, Repr, Inhabited

/-- One pulse output beyond its registers (R251–R255). -/
structure Pls where
  /-- the tracker runs: φ̂ in 2⁻³² PQ, its slot and numbering run -/
  tracking : Bool
  phi : Int
  slot : Int
  run : Nat
  /-- relayed edges since the last pulse -/
  relayed : Nat
  queue : List Pulse
  /-- the active pulse: its start and end, u; the start of the last pulse -/
  active : Option (Int × Int)
  lastStart : Option Int
  deriving DecidableEq, Repr, Inhabited

/-- Outputs beyond their registers (chapter 9). -/
structure Outs where
  out : Tab Out
  pls : Tab Pls
  /-- coarse time of the last accepted `SYNC_L` edge -/
  syncLAt : Option Nat
  /-- the drivers are on; off (HIGHZ) in SHELF (R242) -/
  drivers : Bool
  deriving DecidableEq, Repr, Inhabited

/-- One capture (R286): time in LSB of 800 ps / 2¹⁴, half, edge (falling), DEGRADED. -/
structure Capture where
  t : Int
  half : Nat
  falling : Bool
  degraded : Bool
  deriving DecidableEq, Repr, Inhabited

/-- An open acceptance window (R288): its captures in order, edges dropped, gate at the first capture, a code at an end
of the ADC range, PRIMER, and `TS0` at the first capture. -/
structure EvtWindow where
  caps : List Capture
  dropped : Nat
  gate : Bool
  sat : Bool
  primer : Bool
  ts : Nat
  deriving DecidableEq, Repr, Inhabited

/-- One event input (R281–R291). -/
structure EvtInp where
  /-- coarse time of the last edge that passed the holdoff -/
  held : Option Nat
  /-- edges since the prescaler's last output -/
  pre : Nat
  window : Option EvtWindow
  deriving DecidableEq, Repr, Inhabited

/-- One event group (R292–R297). -/
structure EvtGroup where
  /-- level of the `GATE` pin -/
  pin : Bool
  /-- captures of the measurement by input -/
  caps : Tab (Option Capture)
  /-- later captures, and inputs with a dropped edge -/
  repeats : Tab Nat
  dropped : Nat
  /-- J1 time (LSB) of the opening capture -/
  openedAt : Int
  /-- J1 time of the last capture needed -/
  fullAt : Option Int
  /-- coarse time of the measurement's end -/
  endAt : Nat
  /-- `EG_COUNT` was not 0 at the arming -/
  limited : Bool
  deriving DecidableEq, Repr, Inhabited

/-- A TAC ramp table: LSB in 0.001 fs and 64 segment corrections in 0.01 LSB (R298). -/
structure TacTable where
  lsb : Nat
  corr : List Int
  deriving DecidableEq, Repr, Inhabited

/-- One TAC (R285, R298). -/
structure Tac where
  /-- coarse time of its last capture -/
  last : Option Nat
  collecting : Bool
  accepted : Option TacTable
  table : TacTable
  deriving DecidableEq, Repr, Inhabited

/-- A TAC handover in progress (R300). -/
structure TacHo where
  pos : Nat
  old : Nat
  new : Nat
  soft : Bool
  accepted : Bool
  deriving DecidableEq, Repr, Inhabited

/-- The event path beyond its registers (chapter 11). -/
structure Evts where
  inp : Tab EvtInp
  group : Tab EvtGroup
  tac : Tab Tac
  ho : Option TacHo
  /-- automatic substitutions that wait for the handover unit: (position, failed TAC) -/
  wait : List (Nat × Nat)
  deriving DecidableEq, Repr, Inhabited

/-- A frame at a port on its way through the impairment engine (R350). -/
inductive Transit where
  /-- received at a terminating port -/
  | rx (f : Frame)
  /-- built by the module: messageType (0x100 ESMC, 0x101 Rally) and what it carries -/
  | built (kind : Nat) (fields : List Int)
  /-- passing from a port whose ingress time was `tin` (u); the egress start block relative to it -/
  | cut (ingress : Nat) (f : Frame) (tin : Int) (broken : Bool)
  deriving DecidableEq, Repr

/-- A frame held for REORDER. -/
structure HeldFrame where
  egress : Bool
  cls : Nat
  msg : Nat
  seq : Nat
  len : Nat
  item : Transit
  start : Nat
  /-- the next frame in the same direction has passed -/
  next : Bool
  deriving DecidableEq, Repr

/-- The impairment engine of a port (R349, R350): seed and frames of the class since `ARM`, what it holds, its start. -/
structure Impair where
  seed : Nat
  seen : Nat
  held : List HeldFrame
  start : Nat
  deriving DecidableEq, Repr, Inhabited

/-- A frame taken up and not yet parsed (R32): its class, ingress time (u), its reading of the bound scale (PQ), DEGRADED. -/
structure Taken where
  cls : Nat
  f : Frame
  t : Int
  scale : Int
  degraded : Bool
  deriving DecidableEq, Repr, Inhabited

/-- One half of an exchange (R316): sequenceId, local time, the partner's time, sum of corrections, DEGRADED, and the
set-and-step count of the bound scale at its first timestamp. -/
structure Half where
  seq : Nat
  own : Int
  far : Option Int
  corr : Int
  degraded : Bool
  jumps : Nat
  /-- grid second of a Sync's t2 -/
  sec : Nat
  deriving DecidableEq, Repr, Inhabited

/-- A peer-delay exchange: t1, t4, the responder's times, corrections. -/
structure PeerHalf where
  seq : Nat
  t1 : Int
  t4 : Option Int
  t2 : Int
  t3 : Option Int
  corr : Int
  degraded : Bool
  jumps : Nat
  deriving DecidableEq, Repr, Inhabited

/-- A request the HKC still answers: requester, sequenceId, receipt time, correction. -/
structure Owed where
  req : Nat
  seq : Nat
  t : Int
  corr : Int
  deriving DecidableEq, Repr, Inhabited

/-- One port (R304–R326). -/
structure Port where
  /-- pass-through is in use -/
  passing : Bool
  inbox : List Taken
  sync : Option Half
  dreq : Option Half
  peer : Option PeerHalf
  owed : List Owed
  owedPeer : List Owed
  /-- a peer response awaits its Follow_Up: requester, sequenceId, t3 -/
  peerFollow : Option Owed
  /-- a two-step Sync awaits its Follow_Up: sequenceId, egress time -/
  follow : Option (Nat × Int)
  /-- mpd1 or mld values, newest first -/
  delays : List Int
  /-- negated offsets per grid second: (second, sum, number) -/
  offs : List (Nat × Int × Nat)
  /-- n₀ and S₀ of R317 -/
  first : Option (Nat × Int)
  /-- the last 64 samples -/
  phis : List Int
  lastSample : Option Nat
  validRun : Nat
  lastAnn : Nat
  /-- since when neither the link nor the configuration holds the port in FAULTY -/
  clearSince : Nat
  seqs : Tab Nat
  esmcAt : Nat
  /-- state before STANDBY held the port in PASSIVE; 0 none -/
  heldState : Nat
  deriving DecidableEq, Repr, Inhabited

/-- The ports beyond their registers (chapter 12) with their impairment engines. -/
structure Ports where
  port : Tab Port
  imp : Tab Impair
  deriving DecidableEq, Repr, Inhabited

/-- One Rally instance (R328–R339). Scale times in PQ, phases in 2⁻³² PQ. -/
structure Rally where
  /-- egress time of the last frame sent, ingress time of the last received -/
  egress : Option Int
  ingress : Option Int
  /-- exchange terms of the present second: sums and numbers -/
  inSum : Int
  inN : Nat
  outSum : Int
  outN : Nat
  /-- the second is spoilt by a set or step, or by DEGRADED -/
  spoilt : Bool
  steps : Nat
  /-- the partner's latest frame, and its ingress on the common timeline (u) -/
  partner : Option (RallyFrame × Int)
  /-- coarse time of the last partner frame -/
  heard : Nat
  /-- consecutive samples without AMBIG -/
  run : Nat
  phi : Option Int
  /-- own ψ, and its rate in 2⁻⁶⁰ -/
  psi : Option Int
  psiRate : Int
  /-- newest O values, at most 64, and the time of the last -/
  offs : List Int
  /-- since when TRACK has lasted -/
  trackSince : Nat
  /-- since when no SUSPEND cause holds -/
  clearSince : Nat
  rtt : Int
  m : Int
  restart : Bool
  /-- asymmetry calibration: start, sum of x in PQ, number, spoilt -/
  acalFrom : Nat
  acalSum : Int
  acalN : Nat
  acalBad : Bool
  /-- numbering run of index 23 at its start -/
  acalRun : Nat
  deriving DecidableEq, Repr, Inhabited

/-- `MATE` redundancy (R340–R348). -/
structure Mate where
  sealOpen : Bool
  /-- coarse-independent time of the last heartbeat -/
  lastHb : Nat
  roleSince : Nat
  partner : Option Heartbeat
  /-- T_s of a pending handover, model time -/
  ts : Option Nat
  relinquish : Bool
  take : Bool
  deriving DecidableEq, Repr, Inhabited

/-- Rally and `MATE` beyond their registers (chapter 13). -/
structure Rly where
  inst : Tab Rally
  mate : Mate
  deriving DecidableEq, Repr, Inhabited

/-- A burst issued and not yet acknowledged (R376, R377): its window address, host address, bytes, and the records of the
region it carries. -/
structure Burst where
  addr : Nat
  host : Nat
  bytes : List Byte
  recs : Nat
  deriving DecidableEq, Repr, Inhabited

/-- One DMA channel beyond its registers (R370–R377). -/
structure DmaCh where
  /-- the descriptor at HEAD has been taken; bytes written of it; PRIMER and DEGRADED seen (bits 0, 1) -/
  taken : Bool
  done : Nat
  flags : Nat
  /-- the last burst left the region empty -/
  drained : Bool
  /-- a flush runs -/
  flushing : Bool
  /-- an M3 read of the descriptor was rejected -/
  copyBad : Bool
  /-- bursts in flight, oldest first, and how many of them are to be issued again -/
  flight : List Burst
  resend : Nat
  deriving DecidableEq, Repr, Inhabited

/-- The DMA engine beyond its registers. -/
structure Dma where
  ch : Tab DmaCh
  /-- the channel that last took the path -/
  last : Nat
  deriving DecidableEq, Repr, Inhabited

/-- The PCIe function (R376, R397–R399, R442). MSI-X table words are keyed vector × 4 + word. -/
structure Pcie where
  link : Bool
  busMaster : Bool
  /-- Max_Payload_Size code of PCIe: 128 × 2^code bytes -/
  payload : Nat
  msix : Bool
  msixMask : Bool
  table : Tab Word
  /-- the pending-bit array -/
  pba : Nat
  aer : Bool
  deriving DecidableEq, Repr, Inhabited

/-- The register bus beyond its registers (chapter 15). Latches and holds are keyed owner × 2²⁴ + word number, owner 0–3 a
master and 4 the SDO server (R387, R425). -/
structure Bus where
  latch : Tab (Option Nat)
  hold : Tab (Option Nat)
  /-- when `GLB_KEY` was unlocked -/
  keyAt : Nat
  /-- the transaction lock: lease end, lease left while the check runs, and a release that awaits its end -/
  leaseEnd : Nat
  leaseLeft : Nat
  checkDrop : Bool
  /-- `GLB_LOCK` has taken its one write since COLD (R402) -/
  lockWritten : Bool
  /-- the previous SPI frame ended before its last status byte (R395) -/
  spiPrev : Bool
  /-- how often the link layer was asked for data the spec leaves undefined -/
  undefinedReads : Nat
  pcie : Pcie
  deriving DecidableEq, Repr, Inhabited

/-- An open segmented session (R422): object key, data left to send or received so far, toggle, whether an upload, the
size announced, and the time of its last segment. -/
structure Sdo where
  key : Nat
  data : List Byte
  toggle : Bool
  upload : Bool
  size : Nat
  at_ : Nat
  deriving DecidableEq, Repr, Inhabited

/-- One TPDO (R428): last transmission, its data, SYNCs counted, a transmission held by the inhibit time. -/
structure Tpdo where
  sent : Option Nat
  data : List Byte
  syncs : Nat
  held : Bool
  deriving DecidableEq, Repr, Inhabited

/-- The CANopen node (chapter 16). Objects are keyed index × 256 + sub-index and held as their difference from the reset
value. -/
structure Can where
  /-- NMT state: 0 INITIALISATION, 4 STOPPED, 5 OPERATIONAL, 127 PRE-OPERATIONAL -/
  nmt : Nat
  /-- communication-area objects that software changed -/
  objects : Tab (Option Nat)
  /-- node-ID and bit rates in effect; 0 the reset node-ID -/
  node : Nat
  rate : Nat
  rateD : Nat
  sdo : Option Sdo
  /-- EMCY messages waiting, oldest first, when the last was sent, messages lost, and the error field of 0x1003 -/
  emcy : List (List Byte)
  emcyAt : Option Nat
  lost : Nat
  errors : List Nat
  errorPassive : Bool
  /-- consumers of 0x1016: last heartbeat, and whether it is absent -/
  heard : Tab (Option Nat)
  absent : Tab Bool
  beatAt : Nat
  tpdo : Tab Tpdo
  /-- RPDOs that wait for SYNC, in reception order -/
  rpdo : List (Nat × List Byte)
  /-- the presence window: its end and the source of its last assertion -/
  window : Option Nat
  source : Nat
  /-- frames that wait while the HKC is stopped (R79), oldest first -/
  rx : List Instr
  /-- the status sample of 0x5F10 -/
  status : List Nat
  deriving DecidableEq, Repr, Inhabited

/-- A field step that is measuring (R470). -/
structure CalStep where
  item : Nat
  unit : Nat
  /-- gap code of `CAL_LAST.GAP` -/
  gap : Nat
  /-- coarse count and `TS0` seconds at its start -/
  start : Nat
  sec : Nat
  /-- index 23 failed R469 during it -/
  bad : Bool
  deriving DecidableEq, Repr, Inhabited

/-- The calibration manager beyond its registers (R466–R470). Values are keyed item × 64 + unit. -/
structure Cal where
  /-- field sets as their difference from the factory sets, keyed ((item × 64 + unit) × 8 + set) × 1024 + entry -/
  fld : Tab Int
  /-- v(Tj) as last computed, 1/256 of the item's unit -/
  v : Tab Int
  /-- value applied in the unit's path, whole units -/
  inUse : Tab Int
  /-- Tj of the last computation, 1/16 °C -/
  tjAt : Option Int
  /-- units whose field step is due in the present round -/
  due : Tab Bool
  /-- start of the present round -/
  roundAt : Nat
  step : Option CalStep
  deriving DecidableEq, Repr, Inhabited

/-- The NVM controller's working state (R456–R465); transition 14 resets it but for the commit in flight. -/
structure Nvc where
  /-- the page buffer, its last access by its owner, and a commit of it queued -/
  buffer : List Byte
  bufAt : Nat
  bufCommit : Bool
  /-- the read window, and the page it shows -/
  window : List Byte
  winPage : Nat
  /-- failures of the commit at the head of the queue (R461) -/
  retries : Nat
  /-- pages on their way: into the buffer or the window -/
  loads : List (Bool × Nat)
  /-- per master: last NVM access -/
  access : Tab Nat
  /-- per partition: mismatches in a row, and the end of a lockout -/
  fails : Tab Nat
  lockedTo : Tab Nat
  /-- log entries not yet committed, oldest first, and the time of the first -/
  log : List (List Byte)
  logAt : Nat
  /-- start of the running hour of the hour meter -/
  hourAt : Nat
  deriving DecidableEq, Repr, Inhabited

/-- The timing ASIC: what transition 14 resets (R72). -/
structure Asic where
  clk : Clk
  modes : Modes
  fw : Fw
  /-- first copy of every register word, and the difference of the second and third copies from it (R404) -/
  regs : Tab Word
  tv1 : Tab Word
  tv2 : Tab Word
  parity : Tab Parity
  deferred : List Deferred
  ref : Ref
  ump : Ump
  ldg : Ldg
  dpl : Dpll
  ovn : Ovens
  cal : Cal
  apl : Apl
  out : Outs
  tsc : Tsc
  evt : Evts
  prt : Ports
  rly : Rly
  recs : RecPath
  dma : Dma
  bus : Bus
  can : Can
  flt : Flt
  nvc : Nvc
  /-- commits queued, oldest first (R457); lost at transition 14 -/
  commits : List Commit
  /-- fill of the dual-clock queues of R32 by row × 32 + instance, and their discard counters (R33) -/
  fill : Tab Nat
  discards : Tab Nat
  tx : List Tx
  deriving DecidableEq, Repr, Inhabited

/-- The keep-alive block (R413, R414): its registers, the seal sampler and the SHELF second. -/
structure Kep where
  keepOk : Bool
  vkeepOk : Bool
  fresh : Bool
  sec : Nat
  lastMode : Nat
  resets : Nat
  braces : Nat
  shelfTime : Nat
  /-- seconds of the present SHELF stay -/
  shelfNow : Nat
  intact : Bool
  broken : Bool
  count : Nat
  sealTime : Nat
  scratch : Word
  ovenSel : Nat
  /-- reserved bits of the block that software changed, by byte address (R391) -/
  reserved : Tab Word
  /-- the last sample of the loop read open -/
  openBefore : Bool
  /-- the present opening has been counted, or the loop has not yet read closed -/
  counted : Bool
  deriving DecidableEq, Repr, Inhabited

/-- A configuration image (R463): valid, generation, the words it holds, and the active plan bank. -/
structure Image where
  valid : Bool
  gen : Nat
  words : Tab Word
  plan : Tab Word
  deriving DecidableEq, Repr, Inhabited

/-- A commit in flight (R457): what it carries, its start, the physical page taken, and how often it has failed. -/
structure Flight where
  commit : Commit
  start : Nat
  page : Nat
  tries : Nat
  /-- the content taken at its start: words of the placement map, the hop table or a Rally
result; objects; field sets; fits; a number -/
  words : Tab Word
  objects : Tab (Option Nat)
  sets : Tab Int
  fits : List (Option Fit)
  number : Nat
  deriving DecidableEq, Repr, Inhabited

/-- The non-volatile memory and the firmware store (R78, R454–R468). Field calibration sets are held as differences from the
factory sets. Passwords are keyed partition × 2 + access; firmware
words bank × 2¹⁸ + word; calibration sets ((item × 64 + unit) × 8 + set) × 1024 + entry, in 1/256 of the item's unit. -/
structure Nvm where
  /-- content of the logical pages software or the log has written; an unlisted byte list reads as zeros -/
  pages : Tab (List Byte)
  /-- physical page per logical page, as its difference from the delivery mapping -/
  map : Tab Int
  pool : List Nat
  retired : List Nat
  cycles : Tab Nat
  /-- logical pages with an uncorrectable error -/
  uncor : Tab Bool
  password : Tab Nat
  placement : Tab Word
  bank : Nat
  plan : Nat
  hopTable : Tab Word
  fits : Tab (Option Fit)
  objects : Tab (Option Nat)
  recovery : Nat
  hours : Nat
  rally : Tab (Word × Word × Word)
  field : Tab Int
  imageA : Image
  imageB : Image
  logHead : Nat
  logWrap : Bool
  sealLogged : Nat
  /-- how often an internal record was written: the bytes of its page are not given -/
  version : Nat
  flight : Option Flight
  firmware : Tab Word
  deriving DecidableEq, Repr, Inhabited

/-- The supply as its comparators see it (R69, R70, R485): asserted, and since when. -/
structure Supply where
  /-- the module is in SHELF -/
  shelf : Bool
  warning : Bool
  warningAt : Nat
  reset : Bool
  resetAt : Nat
  /-- `VIN`, 10 mV, as last reported; and since when it has stood at 10.4 V or more -/
  vin : Nat
  goodAt : Option Nat
  /-- the hold-up store has run out since transition 14 -/
  held : Bool
  deriving DecidableEq, Repr, Inhabited

/-- The module. -/
structure Dev where
  kep : Kep
  nvm : Nvm
  sup : Supply
  asic : Asic
  deriving DecidableEq, Repr, Inhabited

/-- The state of the block: the module and the commands that wait, first in, first out. -/
structure State where
  dev : Dev
  pending : List Instr
  deriving DecidableEq, Repr, Inhabited

/-- No command faults: a block has no access that ends the machine. The type is closed and empty. -/
inductive Fault where
  deriving DecidableEq, Repr

/-- Why a command is refused. -/
inductive Refusal where
  /-- raised by an arm of `exec` whose command has no meaning yet; safe: nothing can be proved of what it would do -/
  | notModelled (mnemonic : String)
  deriving DecidableEq, Repr

/-- The clocks as COLD leaves them: SYSPLL in lock, the coarse counter at 0 (R21, R55). -/
def Clk.started : Clk := { (default : Clk) with coarseOn := true, bkLocked := true, sysLocked := true }
/-- The ASIC right after it leaves COLD (R14): every register at its reset value, configuration loaded, no event yet. -/
def Asic.fresh : Asic :=
  { (default : Asic) with
    clk := Clk.started
    modes := { (default : Modes) with loaded := true }
    out := { (default : Outs) with drivers := true }
    can := { (default : Can) with nmt := 127 } }
/-- The keep-alive block after both supplies have been absent (R413). -/
def Kep.blank : Kep := { (default : Kep) with keepOk := true, vkeepOk := true, fresh := true, intact := true, counted := true }
/-- A delivered NVM: nothing written yet, the free pool whole (R454), every password open but the FACTORY write password
(R459). -/
def Nvm.delivered : Nvm :=
  { (default : Nvm) with pool := (List.range 64).map (2048 + ·), password := [(1, Config.factoryPassword + 1)] }
/-- The supply with `VIN` at 12 V. -/
def Supply.good : Supply := { (default : Supply) with vin := 1200, goodAt := some 0 }

/-- The module right after reset, that is when it has left COLD (R14), with no command waiting. -/
def State.reset : State :=
  { dev := { kep := Kep.blank, nvm := Nvm.delivered, sup := Supply.good, asic := Asic.fresh}, pending := [] }

end Sys2Proof.Machine
end

