-- ==== Sys2Proof/Machine/Ops.lean ====
section
/-! DEFINITION. The named operations over State that every family uses: register fields, events, the common timeline and
the time scales, raising a fault source, offering a record, changing the device mode. -/

namespace Sys2Proof.Machine

/-! ### Register fields -/

/-- The first copy of a register word. -/
def Asic.stored (a : Asic) (addr : Nat) : Word := a.regs.getF resetWord addr

/-- A register word as every reader takes it: the bitwise two-of-three majority of its copies (R404). The second and
third copies are held as their difference from the first, so bits that are not triplicated read as stored. -/
def Asic.word (a : Asic) (addr : Nat) : Word := a.stored addr ^^^ (a.tv1.get addr &&& a.tv2.get addr)

/-- Write the bits of `mask` in all three copies (R404). -/
def Asic.setMasked (a : Asic) (addr : Nat) (mask v : Word) : Asic :=
  { a with
    regs := a.regs.setF resetWord addr ((a.stored addr &&& ~~~mask) ||| (v &&& mask))
    tv1 := a.tv1.set addr (a.tv1.get addr &&& ~~~mask)
    tv2 := a.tv2.set addr (a.tv2.get addr &&& ~~~mask) }

/-- A field's value. -/
def Asic.get (a : Asic) (f : Fld) : Nat := wordBits (a.word f.addr) f.lsb f.width
/-- A field as a flag. -/
def Asic.flag (a : Asic) (f : Fld) : Bool := a.get f != 0
/-- A field as two's complement. -/
def Asic.getS (a : Asic) (f : Fld) : Int := signed f.width (a.get f)
/-- Write a field; the number wraps to the field's width. -/
def Asic.put (a : Asic) (f : Fld) (n : Nat) : Asic :=
  a.setMasked f.addr (maskAt f.lsb f.width) (BitVec.ofNat 32 ((n % 2 ^ f.width) <<< f.lsb))
/-- Write a whole word. -/
def Asic.putWord (a : Asic) (addr n : Nat) : Asic := a.setMasked addr (maskAt 0 32) (BitVec.ofNat 32 n)
/-- Write an integer as two's complement. -/
def Asic.putS (a : Asic) (f : Fld) (x : Int) : Asic := a.put f (code f.width x)
/-- Write a flag. -/
def Asic.putB (a : Asic) (f : Fld) (b : Bool) : Asic := a.put f (bit b)
/-- Add to a counter that wraps. -/
def Asic.addWrap (a : Asic) (f : Fld) (n : Nat) : Asic := a.put f (a.get f + n)
/-- Add to a counter that saturates. -/
def Asic.addSat (a : Asic) (f : Fld) (n : Nat) : Asic := a.put f (min (2 ^ f.width - 1) (a.get f + n))
/-- A 64-bit pair (R387), low word first. -/
def Asic.get2 (a : Asic) (lo hi : Fld) : Nat := a.get lo + 2 ^ lo.width * a.get hi
/-- A pair as two's complement over both widths. -/
def Asic.get2S (a : Asic) (lo hi : Fld) : Int := signed (lo.width + hi.width) (a.get2 lo hi)
/-- Write a pair. -/
def Asic.put2 (a : Asic) (lo hi : Fld) (n : Nat) : Asic := (a.put lo n).put hi (n / 2 ^ lo.width)
/-- Write a pair as two's complement. -/
def Asic.put2S (a : Asic) (lo hi : Fld) (x : Int) : Asic := a.put2 lo hi (code (lo.width + hi.width) x)
/-- Set an SQ event bit; `SEQ` in bits 7:0 counts modulo 256 (R405). -/
def Asic.event (a : Asic) (f : Fld) : Asic := (a.put f 1).addWrap ⟨f.addr, 0, 8⟩ 1
/-- Apply a change only under a condition. -/
def Asic.onlyIf (a : Asic) (c : Bool) (f : Asic → Asic) : Asic := if c then f a else a
/-- Apply a change for each number of a list, in order. -/
def Asic.each (a : Asic) (l : List Nat) (f : Asic → Nat → Asic) : Asic := l.foldl f a
/-- Bit `i` of a number. -/
def hasBit (n i : Nat) : Bool := n.testBit i

/-! ### Time -/

/-- TDC cycles in a microsecond, a millisecond and a second (R29). -/
def usec : Nat := 1250
def msec : Nat := 1250000
def second : Nat := 1250000000
/-- Sub-cycle positions are counted in u = 800 ps / 2¹⁸, one fifth of a PQ (R5). -/
def uPerCycle : Int := 262144
/-- The present instant of the common timeline, in u. -/
def Asic.nowU (a : Asic) : Int := a.clk.coarse * uPerCycle
/-- Whole TDC cycles since a model time. -/
def Asic.elapsed (a : Asic) (t : Nat) : Nat := a.clk.now - t

/-- The device mode and the underlying mode (R45, R46). -/
def Asic.mode (a : Asic) : Nat := a.get Reg.GLB_MODE.MODE
def Asic.target (a : Asic) : Nat := a.get Reg.GLB_MODE.TARGET
/-- PRIMER as R59 counts it. -/
def Asic.primer (a : Asic) : Bool := a.mode == 2 || a.target == 2
def Asic.fallback (a : Asic) : Bool := a.flag Reg.GLB_MODE.FALLBACK
def Asic.brace (a : Asic) : Bool := a.flag Reg.GLB_MODE.BRACE
/-- DEGRADED (R21), which includes the span of R205 after an emergency handover. -/
def Asic.degraded (a : Asic) : Bool := a.fallback || decide (a.clk.now < a.clk.degradedUntil)

/-! ### Time scales (R258, R259) -/

/-- Units of a scale value (2⁻⁶⁴ ns / 5) in a nanosecond, a PQ and a second. -/
def nsUnits : Nat := 5 * 2 ^ 64
def pqUnits : Nat := 5 * 2 ^ 48
def secUnits : Nat := 1000000000 * nsUnits
/-- The scale wraps after 2⁴⁸ seconds. -/
def scaleWrap : Nat := 2 ^ 48 * secUnits

/-- What a scale reads at instant `t` (u of the common timeline), not wrapped: the law of R259. -/
def Scale.raw (s : Scale) (t : Int) : Int :=
  s.base + (t - s.tu * uPerCycle) * (4 * 2 ^ 64 + 64 * s.rate) / uPerCycle

def Asic.scale (a : Asic) (k : Nat) : Scale := a.tsc.scale.get k
def Asic.setScale (a : Asic) (k : Nat) (s : Scale) : Asic := { a with tsc := { a.tsc with scale := a.tsc.scale.set k s } }
/-- What scale `k` reads at instant `t`; a disabled scale holds its value. -/
def Asic.scaleAt (a : Asic) (k : Nat) (t : Int) : Nat :=
  if a.flag (Reg.TSC_CFG.EN k) then ((a.scale k).raw t % scaleWrap).toNat else (a.scale k).base
/-- Seconds, nanoseconds and fraction (PQ) of a scale value. -/
def secOf (v : Nat) : Nat := v / secUnits
def nsOf (v : Nat) : Nat := v % secUnits / nsUnits
def fracOf (v : Nat) : Nat := v % nsUnits / pqUnits
/-- A scale value in PQ. -/
def pqOf (v : Nat) : Nat := v / pqUnits
/-- `TS0` now. -/
def Asic.ts0 (a : Asic) : Nat := a.scaleAt 0 a.nowU
/-- Take a scale's present value as its new base, so that its rate may change. -/
def Asic.rebase (a : Asic) (k : Nat) : Asic :=
  a.setScale k { a.scale k with base := a.scaleAt k a.nowU, tu := a.clk.coarse }

/-! ### Fault sources (R435, R436) -/

def Asic.pair (a : Asic) (s : Nat) : Pair := a.flt.pairs.get s
def Asic.setPair (a : Asic) (s : Nat) (p : Pair) : Asic := { a with flt := { a.flt with pairs := a.flt.pairs.set s p } }

/-- An occurrence of source `s` asserted at the collector input now. -/
def Asic.occ (a : Asic) (s detail : Nat) : Occ :=
  { src := s, detail, time := a.clk.now, coarse := a.clk.coarse, sec := secOf a.ts0, ns := nsOf a.ts0, frac := fracOf a.ts0,
    degraded := a.degraded, injected := false, broken := false, access := none }

/-- Put an occurrence on its way to the collector. -/
def Asic.assertOcc (a : Asic) (o : Occ) : Asic := { a with flt := { a.flt with raised := a.flt.raised ++ [o] } }

/-- The pair of an EVENT source is held 32 SYS cycles (80 TDC cycles) per occurrence; occurrences that arise while it
is held are counted in the block's 8-bit counter (R436). -/
def Asic.raiseOcc (a : Asic) (s : Nat) (o : Occ) : Asic :=
  if sourceReserved s then a
  else if a.clk.now < (a.pair s).heldUntil then
    a.setPair s { a.pair s with extra := min 255 ((a.pair s).extra + 1) }
  else (a.setPair s { a.pair s with heldUntil := a.clk.now + 80 }).assertOcc o

/-- Raise an EVENT source with its detail bytes (byte 24 lowest). -/
def Asic.raise (a : Asic) (s detail : Nat) : Asic := a.raiseOcc s (a.occ s detail)

/-- Raise `FE7`, `FE8` or `FE9` with the access format of R439. -/
def Asic.raiseAccess (a : Asic) (s : Nat) (x : Access) : Asic :=
  a.raiseOcc s { a.occ s (x.addr % 2 ^ 32 + 2 ^ 32 * (x.master % 4 + 4 * bit x.write + 8 * x.size + 32 * bit x.aliased)) with
    access := some x }

/-- The unit holds the pair of a LEVEL source asserted. -/
def Pair.has (p : Pair) (unit : Nat) : Bool := p.units.any fun u => u.1 == unit
/-- A unit of a LEVEL source becomes faulty: one occurrence with its own detail (R436). -/
def Asic.levelOn (a : Asic) (s unit detail : Nat) : Asic :=
  if (a.pair s).has unit then a
  else (a.setPair s { a.pair s with units := (a.pair s).units ++ [(unit, detail)] }).assertOcc (a.occ s detail)

/-- A unit of a LEVEL source becomes clear: no occurrence; the pair deasserts with its last unit (R436). -/
def Asic.levelOff (a : Asic) (s unit : Nat) : Asic :=
  if (a.pair s).has unit then
    let left := (a.pair s).units.filter fun u => u.1 != unit
    a.setPair s { a.pair s with units := left, offSince := if left = [] then a.clk.now else (a.pair s).offSince }
  else a

/-- Drive a unit of a LEVEL source by its condition. -/
def Asic.level (a : Asic) (s unit detail : Nat) (on : Bool) : Asic :=
  if on then a.levelOn s unit detail else a.levelOff s unit

/-! ### Dual-clock queues (R32, R33) -/

/-- A full queue of a row of R32 discards an entry: its 16-bit counter saturates, and `FE11` is raised. -/
def Asic.overflow (a : Asic) (row inst : Nat) : Asic :=
  { a with discards := a.discards.set (row * 32 + inst) (min 65535 (a.discards.get (row * 32 + inst) + 1)) }.raise 11 (row + 256 * inst)
/-- Offer an entry to a queue; whether it was taken. -/
def Asic.enqueue (a : Asic) (row inst depth : Nat) : Asic × Bool :=
  let k := row * 32 + inst
  if depth ≤ a.fill.get k then (a.overflow row inst, false) else ({ a with fill := a.fill.set k (a.fill.get k + 1) }, true)

/-! ### Records (R354, R360, R361) -/

/-- Byte 1 of a record (R354). -/
def Asic.flagsByte (a : Asic) (parity : Bool) : Nat := bit a.primer + 2 * bit a.degraded + 4 * bit parity

/-- The records the region of channel `c` may hold (R359). -/
def Asic.regionRoom (a : Asic) (c : Nat) : Nat := 32 * a.get (Reg.DMA_CHBUF.SIZE c)

/-- Whether the region of channel `c` is full. -/
def Asic.regionFull (a : Asic) (c : Nat) : Bool := decide (a.regionRoom c ≤ (a.recs.region.get c).length)

/-- Offer a record at slot `q`: discarded and counted while the slot is disabled (R360); lost when the slot's channel
has no room and the slot's own queue is full (R33, R361); else queued in order (R356). -/
def Asic.emit (a : Asic) (q : Nat) (r : Record) : Asic :=
  if !hasBit (a.get Reg.REC_EN.SLOTS) q then a.addSat (Reg.REC_SLOTDROP.COUNT q) 1
  else if a.regionFull (a.get (Reg.REC_SLOTCFG.CH q)) && decide (Config.slotDepth q ≤ (a.recs.queue.get q).length) then
    (a.addSat (Reg.REC_SLOTDROP.COUNT q) 1).raise 11 (Config.slotOverflowDetail q)
  else
    let since := if a.recs.queue.get q = [] then some a.clk.now else a.recs.wait.get q
    { a with recs := { a.recs with queue := a.recs.queue.set q (a.recs.queue.get q ++ [r]), wait := a.recs.wait.set q since } }

/-- Bytes 15:8, 19:16 and 23:20 of a record: coarse count, `TS0` seconds and nanoseconds, now. -/
def Asic.stampBytes (a : Asic) : List Byte :=
  leBytes 8 a.clk.coarse ++ leBytes 4 (secOf a.ts0) ++ leBytes 4 (nsOf a.ts0)

/-- Something leaves the module. -/
def Asic.send (a : Asic) (x : Tx) : Asic := { a with tx := a.tx ++ [x] }

/-- Queue a commit of the module's own (R457). -/
def Asic.askCommit (a : Asic) (c : Commit) : Asic := { a with commits := a.commits ++ [c] }

/-! ### Epoch parity and placement changes (R27, R28) -/

/-- The key of a function: kind of R358 and its number. -/
def parityKey (kind fn : Nat) : Nat := 64 * kind + fn
def Asic.parityOf (a : Asic) (kind fn : Nat) : Bool := (a.parity.get (parityKey kind fn)).par
/-- A placement change of the function is due now: its last parity change is 1 ms old (R28). -/
def Asic.parityFree (a : Asic) (kind fn : Nat) : Bool :=
  match (a.parity.get (parityKey kind fn)).changedAt with
  | none => true
  | some t => decide (t + msec ≤ a.clk.now)

/-- Steps 1 and 2 of R27: invert the parity and emit the epoch marker of R358 through slot `q`. -/
def Asic.changeEpoch (a : Asic) (q kind fn old new cause extra : Nat) : Asic :=
  let par := !a.parityOf kind fn
  let a1 := { a with parity := a.parity.set (parityKey kind fn) { par, changedAt := some a.clk.now } }
  a1.emit q (leBytes 1 8 ++ leBytes 1 (4 * bit par) ++ leBytes 1 kind ++ leBytes 1 fn ++ leBytes 1 old ++ leBytes 1 new
    ++ leBytes 1 cause ++ leBytes 1 extra ++ a1.stampBytes ++ leBytes 8 0)

/-! ### Device mode -/

/-- Make a transition (R46, R48): `PREV`, `MODE`, `CAUSE`, `SEQ`, and the mode-change source `FE0`. -/
def Asic.transition (a : Asic) (m cause : Nat) : Asic :=
  let prev := a.mode
  let a := (((a.put Reg.GLB_MODE.PREV prev).put Reg.GLB_MODE.MODE m).put Reg.GLB_MODE.CAUSE cause).addWrap Reg.GLB_MODE.SEQ 1
  a.raise 0 (m + 256 * prev + 65536 * cause)

end Sys2Proof.Machine
end

