-- ==== Sys2Proof/Machine/Operands.lean ====
section
/-! DEFINITION. Number formats and fits: binary32 (R8, R150), integer square roots, least-squares lines and planes, the
nominal frequency and period of a reference (R85, R87, R99), and the values the families read of one another. -/

namespace Sys2Proof.Machine

/-! ### binary32 -/

/-- The value of a binary32 word; none for a NaN or an infinity. -/
def f32ToRat (w : Word) : Option Rat :=
  let s : Rat := if wordBits w 31 1 = 1 then -1 else 1
  let e := wordBits w 23 8
  let m := wordBits w 0 23
  if e = 255 then none
  else if e = 0 then some (s * m / 2 ^ 149)
  else if 150 ≤ e then some (s * (2 ^ 23 + m) * 2 ^ (e - 150))
  else some (s * (2 ^ 23 + m) / 2 ^ (150 - e))

/-- `n / d` scaled by `2 ^ k`, `k` of either sign. -/
def scale2 (n d : Nat) (k : Int) : Nat × Nat :=
  if 0 ≤ k then (n * 2 ^ k.toNat, d) else (n, d * 2 ^ (-k).toNat)

/-- Quotient rounded to nearest, ties to even. -/
def divEven (n d : Nat) : Nat :=
  let q := n / d
  let r := 2 * (n % d)
  if r < d then q else if d < r then q + 1 else q + q % 2

/-- The exponent e with 2^e ≤ n/d < 2^(e+1). -/
def exponent (n d : Nat) : Int :=
  let e : Int := (Nat.log2 n : Int) - (Nat.log2 d : Int)
  let (a, b) := scale2 n d (-e)
  if a < b then e - 1 else e

/-- Conversion to binary32 by round-to-nearest-even; below 2⁻¹²⁶ in magnitude +0.0, an overflow the largest finite value
of its sign; the flag tells the overflow (R150). -/
def ratToF32 (x : Rat) : Word × Bool :=
  let n := x.num.natAbs
  let d := x.den
  if n = 0 then (0, false) else
  let e := exponent n d
  let s : Nat := if x.num < 0 then 2 ^ 31 else 0
  if e < -126 then (0, false) else
  let (a, b) := scale2 n d (23 - e)
  let q := divEven a b
  let (q, e) := if q = 2 ^ 24 then (2 ^ 23, e + 1) else (q, e)
  if 127 < e then (BitVec.ofNat 32 (s + 0x7F7FFFFF), true)
  else (BitVec.ofNat 32 (s + (e + 127).toNat * 2 ^ 23 + (q - 2 ^ 23)), false)

/-- Integer square root by bits. -/
def isqrtBits (n : Nat) : Nat → Nat → Nat
  | 0, r => r
  | b + 1, r => isqrtBits n b (if (r + 2 ^ b) * (r + 2 ^ b) ≤ n then r + 2 ^ b else r)
/-- The largest r with r² ≤ n. -/
def isqrt (n : Nat) : Nat := isqrtBits n (Nat.log2 n / 2 + 1) 0
/-- The square root of a rational, rounded to the nearest integer. -/
def sqrtRound (x : Rat) : Nat := (isqrt (4 * x.num.natAbs / x.den) + 1) / 2
/-- The square root of a rational in binary32, correctly rounded: an integer root of at least 26 bits with a sticky bit. -/
def sqrtF32 (x : Rat) : Word × Bool :=
  let n := x.num.natAbs
  let d := x.den
  if n = 0 then (0, false) else
  let k := 40 + (Nat.log2 d - Nat.log2 n) / 2
  let s := isqrt (n * 2 ^ (2 * k) / d)
  let exact := s * s * d = n * 2 ^ (2 * k)
  ratToF32 ((2 * s + (if exact then 0 else 1) : Nat) / ((2 ^ (k + 1) : Nat) : Rat))

/-- The magnitude of a rational. -/
def absRat (x : Rat) : Rat := if x < 0 then -x else x

/-! ### Fits -/

/-- The least-squares line through points (t, v): its value at t = 0 and its slope; none below two distinct t. -/
def lineFit (l : List (Int × Int)) : Option (Rat × Rat) :=
  let n : Int := l.length
  let st := l.foldl (fun s p => s + p.1) 0
  let sv := l.foldl (fun s p => s + p.2) 0
  let stt := l.foldl (fun s p => s + p.1 * p.1) 0
  let stv := l.foldl (fun s p => s + p.1 * p.2) 0
  let den := n * stt - st * st
  if den = 0 then none
  else some (((sv * stt - st * stv : Int) : Rat) / (den : Int), ((n * stv - st * sv : Int) : Rat) / (den : Int))

/-- A 3 × 3 determinant. -/
def det3 (a b c d e f g h i : Rat) : Rat := a * (e * i - f * h) - b * (d * i - f * g) + c * (d * h - e * g)

/-- The solution of symmetric normal equations with three unknowns by Cramer's rule; none if singular. -/
def solve3 (m11 m12 m13 m22 m23 m33 r1 r2 r3 : Rat) : Option (Rat × Rat × Rat) :=
  let d := det3 m11 m12 m13 m12 m22 m23 m13 m23 m33
  if d = 0 then none
  else some (det3 r1 m12 m13 r2 m22 m23 r3 m23 m33 / d, det3 m11 r1 m13 m12 r2 m23 m13 r3 m33 / d,
    det3 m11 m12 r1 m12 m22 r2 m13 m23 r3 / d)

/-! ### References -/

/-- The nominal frequency of an index in 2⁻⁸ Hz (R85); 10 MHz on index 22 (R106). -/
def Asic.nominal (a : Asic) (i : Nat) : Nat :=
  if i = 22 then 0x98968000 else a.get (Reg.REF_NOMLO.NOM i) + 2 ^ 32 * a.get (Reg.REF_NOMHI.NOM i)
/-- The prescaler ratio 2^PRE (R87). -/
def Asic.preRatio (a : Asic) (i : Nat) : Nat := 2 ^ a.get (Reg.REF_CFG.PRE i)
/-- The prescaled nominal period is `periodNum / periodDen` PQ (R99). -/
def Asic.periodNum (a : Asic) (i : Nat) : Nat := 1000000000 * 2 ^ 16 * 2 ^ 8 * a.preRatio i
def Asic.periodDen (a : Asic) (i : Nat) : Nat := a.nominal i
/-- The prescaled nominal frequency is at or above `f` Hz. -/
def Asic.rateAtLeast (a : Asic) (i f : Nat) : Bool := decide (f * 256 * a.preRatio i ≤ a.nominal i)
/-- A packet reference in PTP mode (R102). -/
def Asic.ptpMode (a : Asic) (i : Nat) : Bool := 16 ≤ i && i ≤ 21 && a.flag (Reg.REF_CFG.PKTMODE i)
/-- The index's prescaled nominal frequency is below 2 Hz, or it is a packet reference in PTP mode (R142). -/
def Asic.slow (a : Asic) (i : Nat) : Bool := a.ptpMode i || !a.rateAtLeast i 2
def Asic.inp (a : Asic) (i : Nat) : RefInp := a.ref.inp.get i
def Asic.setInp (a : Asic) (i : Nat) (x : RefInp) : Asic := { a with ref := { a.ref with inp := a.ref.inp.set i x } }
/-- A fallback touched the span of coarse times [t1, t2]. -/
def Asic.fallbackIn (a : Asic) (t1 t2 : Nat) : Bool :=
  (match a.clk.fbkFrom with | some f => decide (f ≤ t2) | none => false)
    || a.clk.fbk.any fun (f, e) => decide (f ≤ t2) && decide (t1 ≤ e)

/-! ### The Ledger as others read it -/

/-- The key of entry `k` of cell (i, j), which is also its word offset (R139). -/
def cellKey (i j k : Nat) : Nat := (i * 24 + j) * 8 + k
/-- The value of a diagonal entry; none for a NaN. -/
def Asic.diag (a : Asic) (i k : Nat) : Option Rat := (a.ldg.live.get (cellKey i i k)).bind f32ToRat
/-- The MTIE of a pair at τ index `k`, as the evaluation of this second sees it (R140, R151). -/
def Asic.mtie (a : Asic) (i j k : Nat) : Option Rat := (a.ldg.before.get (cellKey (max i j) (min i j) k)).bind f32ToRat

/-! ### The oven model as others read it (R193, R194) -/

def Asic.activeOven (a : Asic) : Nat := a.get Reg.CAL_OVSTAT.ACTIVE
/-- The active oven has set WARM (R193). -/
def Asic.warm (a : Asic) : Bool := a.flag (Reg.CAL_OVSTS.WARM a.activeOven)
/-- The last evaluation of m(t) of an oven, 2⁻⁶⁰. -/
def Asic.ovenM (a : Asic) (o : Nat) : Int := a.get2S (Reg.CAL_OVMLO.M o) (Reg.CAL_OVMHI.M o)
/-- The model's estimate of the active oven's offset as the monitors and the Umpire add it: 0 before WARM. -/
def Asic.ovenOffset (a : Asic) : Int := if a.warm then a.ovenM a.activeOven else 0

/-! ### Channels and selection as others read them -/

/-- The selected index of a channel; 31 none (R128). -/
def Asic.sel (a : Asic) (c : Nat) : Nat := a.get (Reg.UMP_SEL.INDEX c)
/-- The channel state: 0 FREERUN, 1 ACQUIRE, 2 LOCKED, 3 HOLDOVER (R172). -/
def Asic.chanState (a : Asic) (c : Nat) : Nat := a.get (Reg.DPL_STATE.STATE c)
/-- The qualification state: 0 ABSENT, 1 SOAK, 2 QUALIFIED, 3 SUSPECT, 4 DISQUALIFIED (R112). -/
def Asic.qual (a : Asic) (i : Nat) : Nat := a.get (Reg.UMP_ISTAT.STATE i)
/-- A time reference (R49). -/
def Asic.timeRef (a : Asic) (i : Nat) : Bool := decide (i ≤ 23) && decide (i ≠ 22) && a.qual i == 2
/-- The frequency word y of a channel, 2⁻⁶⁰. -/
def Asic.chanY (a : Asic) (c : Nat) : Int := a.get2S (Reg.DPL_FWLO.FREQ c) (Reg.DPL_FWHI.FREQ c)
/-- The build-out B of a channel (R130). -/
def Asic.buildOut (a : Asic) (c : Nat) : Int := a.get2S (Reg.UMP_BOLO.BO c) (Reg.UMP_BOHI.BO c)

end Sys2Proof.Machine
end

