-- ==== Sys2Proof/Machine/Scales.lean ====
section
/-! DEFINITION. Time scales, servos and triggers (chapter 10): the operations behind the commands of the `TSC` block. -/

namespace Sys2Proof.Machine

/-- The outcome of an operation that a rule may reject: the state, and whether it was rejected (R403). -/
abbrev Ruled := Asic × Bool
/-- Performed. -/
def ok (a : Asic) : Ruled := (a, false)
/-- Rejected; the state holds only what the rule says a rejection sets. -/
def rej (a : Asic) : Ruled := (a, true)

/-! ### Rate -/

/-- b_k of R260. -/
def Asic.scaleB (a : Asic) (k : Nat) : Int :=
  if a.flag (Reg.TSC_CFG.FOLLOW k) then a.chanY (a.get (Reg.TSC_CFG.CHAN k)) else 0
/-- u_k: clamp(I + P) (R268). -/
def Asic.servoClamp (a : Asic) (k : Nat) : Int := a.get (Reg.TSC_SRVCLAMP.LIM k) * 2 ^ 16
def clampTo (lim x : Int) : Int := max (-lim) (min lim x)
def Asic.scaleU (a : Asic) (k : Nat) : Int := clampTo (a.servoClamp k) ((a.scale k).integ + (a.scale k).prop)
/-- Bring r_k of scale `k` up to date (R260): a change of rate takes the present value as the new base (R259). -/
def Asic.refreshRate (a : Asic) (k : Nat) : Asic :=
  let r := a.scaleB k + a.scaleU k
  let r' := satS 48 r
  let a := a.putB (Reg.TSC_RATEHI.SAT k) (r' != r)
  if r' = (a.scale k).rate then a
  else
    let a := a.rebase k
    a.setScale k { a.scale k with rate := r' }
/-- Bring every rate up to date. -/
def Asic.refreshRates (a : Asic) : Asic := a.each [0, 1, 2, 3] fun a k => a.refreshRate k

/-! ### Triggers -/

def Asic.trig (a : Asic) (n : Nat) : Trig := a.tsc.trig.get n
def Asic.setTrig (a : Asic) (n : Nat) (x : Trig) : Asic := { a with tsc := { a.tsc with trig := a.tsc.trig.set n x } }
/-- PQ in a second and in a nanosecond. -/
def pqPerSec : Nat := 1000000000 * 65536
def pqPerNs : Nat := 65536
/-- The period of a trigger, PQ. -/
def Asic.trigPeriod (a : Asic) (n : Nat) : Nat :=
  a.get (Reg.TRG_PERSEC.SEC n) * pqPerSec + a.get (Reg.TRG_PERNS.NS n) * pqPerNs + a.get (Reg.TRG_PERFRAC.FRAC n)
/-- The active width, ns (R272). -/
def Asic.trigWidth (a : Asic) (n : Nat) : Nat :=
  let w := a.get (Reg.TRG_WIDTH.NS n)
  if 500000000 < w then Config.trigWidthAbove w else max 8 w
/-- A configuration error of R277. -/
def Asic.trigCfgErr (a : Asic) (n : Nat) : Bool :=
  decide (1000000000 ≤ a.get (Reg.TRG_STNS.NS n)) || decide (1000000000 ≤ a.get (Reg.TRG_PERNS.NS n))
    || decide (86400 < a.get (Reg.TRG_PERSEC.SEC n)) || a.get (Reg.TRG_CFG.FMT n) == 3
    || (a.flag (Reg.TRG_CFG.MODE n)
        && (decide (a.trigPeriod n < 100 * pqPerNs) || decide (a.trigPeriod n ≤ (a.trigWidth n + 8) * pqPerNs)))
def Asic.trigArmed (a : Asic) (n : Nat) : Bool := a.flag (Reg.TRG_STAT.ARMED n)
/-- The trigger emits: R272's four conditions. -/
def Asic.trigRun (a : Asic) (n : Nat) : Bool :=
  hasBit (a.get Reg.TSC_TRGENA.EN) n && a.trigArmed n && !a.trigCfgErr n && a.mode != 6 && a.mode != 5
def Asic.trigScale (a : Asic) (n : Nat) : Nat := a.get (Reg.TRG_CFG.SCALE n)

/-- The signed difference D of R265, in PQ, between a scale value and a target in PQ whose seconds count modulo 2³². -/
def diffPq (v x : Nat) : Int :=
  signed 32 ((secOf v + 2 ^ 32 - x / pqPerSec % 2 ^ 32) % 2 ^ 32) * pqPerSec
    + ((v % secUnits / pqUnits : Nat) : Int) - ((x % pqPerSec : Nat) : Int)
def Asic.trigDiff (a : Asic) (n : Nat) : Int := diffPq (a.scaleAt (a.trigScale n) a.nowU) (a.trig n).x

/-- The remaining time to X on the common timeline, u, at the present rate (R274). -/
def Asic.toTimeline (a : Asic) (k : Nat) (pq : Int) : Int := pq * pqUnits * uPerCycle / (4 * 2 ^ 64 + 64 * (a.scale k).rate)

/-- Disarm with DONE. -/
def Asic.trigDone (a : Asic) (n : Nat) : Asic := (a.put (Reg.TRG_STAT.ARMED n) 0).event (Reg.TRG_STAT.DONE n)

/-- R275: an edge less than 200 ns ahead when first evaluated. -/
def Asic.trigEvaluate (a : Asic) (n : Nat) : Asic :=
  let t := a.trig n
  let ahead := -a.trigDiff n
  if !a.trigArmed n || a.trigCfgErr n || a.fallback || t.handed || decide ((200 * pqPerNs : Int) ≤ ahead) then a
  else if !a.flag (Reg.TRG_CFG.MODE n) then
    ((a.setTrig n { t with queue := t.queue ++ [a.nowU + 250 * uPerCycle], handed := true }).event (Reg.TRG_STAT.LATE n)).addSat
      (Reg.TRG_CNT.LATE n) 1
  else
    let p := a.trigPeriod n
    let k := ((200 * pqPerNs - ahead + p - 1) / p).toNat
    let k' := if t.left = 0 then k else min k t.left
    let a := ((a.setTrig n { t with x := (t.x + k * p) % (2 ^ 32 * pqPerSec), left := t.left - k' }).addSat (Reg.TRG_CNT.SKIPS n) k').event
      (Reg.TRG_STAT.SKIPD n)
    if t.left ≠ 0 ∧ k' = t.left then a.trigDone n else a

/-- Re-evaluate every trigger of a scale after a set or a step (R275). -/
def Asic.trigsOf (a : Asic) (k : Nat) : Asic :=
  a.each (List.range 8) fun a n => if a.trigScale n = k then a.trigEvaluate n else a

/-- ARM (R273, R280). -/
def Asic.trigArm (a : Asic) (n : Nat) : Ruled :=
  if a.trigCfgErr n then rej a
  else ok (((a.put (Reg.TRG_STAT.ARMED n) 1).setTrig n { a.trig n with
      x := a.get (Reg.TRG_STSEC.SEC n) * pqPerSec + a.get (Reg.TRG_STNS.NS n) * pqPerNs + a.get (Reg.TRG_STFRAC.FRAC n)
      left := a.get (Reg.TRG_COUNT.COUNT n), handed := false }).trigEvaluate n)
/-- DISARM (R273): edges handed over stay queued (R274). -/
def Asic.trigDisarm (a : Asic) (n : Nat) : Asic := a.put (Reg.TRG_STAT.ARMED n) 0

/-- Hand-over of the next edge (R274) when D ≥ −1 µs; the edge queue holds 8 entries (R32, R33). -/
def Asic.trigHandover (a : Asic) (n : Nat) : Asic :=
  let t := a.trig n
  if !a.trigArmed n || a.trigCfgErr n || !a.flag (Reg.TSC_CFG.EN (a.trigScale n)) || t.handed
      || decide (a.trigDiff n < -(1000 * pqPerNs : Int)) || (t.left != 0 && decide (t.left ≤ t.queue.length)) then a
  else
    let edge := a.nowU + a.toTimeline (a.trigScale n) (-a.trigDiff n)
    let t' : Trig := if a.flag (Reg.TRG_CFG.MODE n) then { t with x := (t.x + a.trigPeriod n) % (2 ^ 32 * pqPerSec) }
      else { t with handed := true }
    if 8 ≤ t.queue.length then (a.setTrig n t').overflow 2 (4 + n)
    else a.setTrig n { t' with queue := t.queue ++ [edge] }

/-- An edge falls due (R273, R276, R278). -/
def Asic.trigEdge (a : Asic) (n : Nat) : Asic :=
  let t := a.trig n
  match t.queue with
  | [] => a
  | e :: rest =>
    if a.nowU < e then a
    else
      let last := !a.flag (Reg.TRG_CFG.MODE n) || t.left == 1
      let squelched := !hasBit (a.get Reg.TSC_TRGENA.EN) n || a.trigCfgErr n || a.mode == 6 || a.mode == 5
      let a := a.setTrig n { t with queue := rest, left := t.left - 1 }
      let a :=
        if squelched then a.addSat (Reg.TRG_CNT.SKIPS n) 1
        else
          let a := ((a.setTrig n { a.trig n with activeAt := some a.clk.coarse }).send (.edge (28 + n) e)).event (Reg.TRG_STAT.FIRED n)
          let a := a.addWrap (Reg.TRG_FIRES.COUNT n) 1
          if a.fallback then (a.event (Reg.TRG_STAT.LATE n)).addSat (Reg.TRG_CNT.LATE n) 1 else a
      if last && a.trigArmed n then a.trigDone n else a

/-- The active level ends TRG_WIDTH after its edge (R272). -/
def Asic.trigPulseEnd (a : Asic) (n : Nat) : Asic :=
  match (a.trig n).activeAt with
  | none => a
  | some s => if (a.clk.coarse - s) * 4 < a.trigWidth n * 5 then a else a.setTrig n { a.trig n with activeAt := none }

/-! ### Setting and stepping (R264) -/

/-- A new value of scale `k`, with the effects of R264 that every set and step has: kind 1 SETNOW, 2 SETSEC, 3 STEP,
4 servo. -/
def Asic.jumpScale (a : Asic) (k kind v : Nat) : Asic :=
  let s := { a.scale k with base := v % scaleWrap, tu := a.clk.coarse, sec := secOf (v % scaleWrap), lastJump := a.clk.coarse,
                            isSet := (a.scale k).isSet || decide (kind ≤ 2) }
  let a := a.setScale k s
  let a := if kind ≤ 2 then (a.addSat (Reg.TSC_CNT.SETS k) 1).event (Reg.TSC_EVT.SETD k)
    else if kind = 3 then (a.addSat (Reg.TSC_CNT.STEPS k) 1).event (Reg.TSC_EVT.STEPPED k)
    else a.addSat (Reg.TSC_CNT.STEPS k) 1
  (a.raise 44 (k + 256 * kind)).trigsOf k

/-- A change of scale `k` by a signed number of units. -/
def Asic.shiftScale (a : Asic) (k kind : Nat) (d : Int) : Asic :=
  a.jumpScale k kind (((a.scaleAt k a.nowU : Int) + d) % scaleWrap).toNat

def Asic.setSecValue (a : Asic) (k : Nat) : Nat := a.get2 (Reg.TSC_SETSECLO.SEC k) (Reg.TSC_SETSECHI.SEC k)

/-- A command is rejected with REJ (R264, R280). -/
def Asic.tscReject (a : Asic) (k : Nat) : Ruled := rej (a.event (Reg.TSC_EVT.REJ k))

/-- CANCEL. -/
def Asic.tscCancel (a : Asic) (k : Nat) : Ruled :=
  if !a.flag (Reg.TSC_CFG.EN k) then a.tscReject k else ok (a.put (Reg.TSC_EVT.SETPEND k) 0)
/-- SETNOW. -/
def Asic.tscSetnow (a : Asic) (k : Nat) : Ruled :=
  if !a.flag (Reg.TSC_CFG.EN k) || decide (1000000000 ≤ a.get (Reg.TSC_SETNS.NS k)) then a.tscReject k
  else ok ((a.put (Reg.TSC_EVT.SETPEND k) 0).jumpScale k 1
    (a.setSecValue k * secUnits + a.get (Reg.TSC_SETNS.NS k) * nsUnits + a.get (Reg.TSC_SETFRAC.FRAC k) * pqUnits))
/-- SETSEC. -/
def Asic.tscSetsec (a : Asic) (k : Nat) : Ruled :=
  if !a.flag (Reg.TSC_CFG.EN k) then a.tscReject k else ok (a.put (Reg.TSC_EVT.SETPEND k) 1)
/-- STEP. -/
def Asic.tscStep (a : Asic) (k : Nat) : Ruled :=
  if !a.flag (Reg.TSC_CFG.EN k) then a.tscReject k
  else ok ((a.put (Reg.TSC_EVT.SETPEND k) 0).shiftScale k 3 (a.get2S (Reg.TSC_STEPLO.STEP k) (Reg.TSC_STEPHI.STEP k) * pqUnits))
/-- `TSC_CMD` (R264). -/
def Asic.tscCommand (a : Asic) (k cmd : Nat) : Ruled :=
  match cmd with
  | 0 => a.tscCancel k
  | 1 => a.tscSetnow k
  | 2 => a.tscSetsec k
  | _ => a.tscStep k

/-- `TSC_SNAP.GO` (R263). -/
def Asic.tscSnapshot (a : Asic) (mask : Nat) : Asic :=
  let a := a.each ((List.range 4).filter (hasBit mask)) fun a k =>
    let v := a.scaleAt k a.nowU
    ((a.put2 (Reg.TSC_CAPSECLO.SEC k) (Reg.TSC_CAPSECHI.SEC k) (secOf v)).put (Reg.TSC_CAPNS.NS k) (nsOf v)).put (Reg.TSC_CAPFRAC.FRAC k) (fracOf v)
  (a.put2 Reg.TSC_SNAPCCLO.COUNT Reg.TSC_SNAPCCHI.COUNT a.clk.coarse).addWrap Reg.TSC_SNAPST.SNAPSEQ 1

/-- The beginning of a second of scale `k` (R258): a pending SETSEC (R264), a leap (R271). It is due when the scale has
carried since the last one handled. -/
def Asic.secondBoundary (a : Asic) (k : Nat) : Asic :=
  let v := a.scaleAt k a.nowU
  if !a.flag (Reg.TSC_CFG.EN k) || secOf v == (a.scale k).sec then a
  else
    let ended := (secOf v + 2 ^ 48 - 1) % 2 ^ 48
    let leap := a.get (Reg.TSC_UTC.LEAP k)
    let a := a.setScale k { a.scale k with sec := secOf v }
    let a := if (leap == 1 || leap == 2) && ended % 2 ^ 32 == a.get (Reg.TSC_LEAPSEC.SEC k) then
        (((a.putS (Reg.TSC_UTC.OFFSET k) (a.getS (Reg.TSC_UTC.OFFSET k) + (if leap = 1 then 1 else -1))).put (Reg.TSC_UTC.LEAP k) 0).event
          (Reg.TSC_EVT.LEAPD k)).raise 46 (k + 256 * leap)
      else a
    if a.flag (Reg.TSC_EVT.SETPEND k) then
      (a.put (Reg.TSC_EVT.SETPEND k) 0).jumpScale k 2 (a.setSecValue k * secUnits + v % secUnits)
    else a

/-! ### Servo (R266–R270) -/

/-- The configuration error of R267. -/
def Asic.servoCfgErr (a : Asic) (k : Nat) : Bool :=
  let idx := a.get (Reg.TSC_SRV.IDX k)
  match a.get (Reg.TSC_SRV.SRC k) with
  | 1 => !(idx == 23 || (decide (idx ≤ 15) && a.flag (Reg.REF_CFG.TYPE idx) && a.nominal idx == 256))
  | 2 => decide (5 < idx)
  | 3 => decide (3 < idx) || idx == k || !a.flag (Reg.TSC_CFG.EN idx) || a.get (Reg.TSC_SRV.SRC idx) == 3
  | _ => false
/-- The servo takes no samples at all: SRC none, a configuration error, or the scale disabled (R269). -/
def Asic.servoIdle (a : Asic) (k : Nat) : Bool :=
  let src := a.get (Reg.TSC_SRV.SRC k)
  src == 0 || decide (6 ≤ src) || a.servoCfgErr k || !a.flag (Reg.TSC_CFG.EN k)
/-- IDLE and COAST: P is 0 and u = I. -/
def Asic.servoRest (a : Asic) (k st : Nat) : Asic :=
  ((a.put (Reg.TSC_SRVSTAT.STATE k) st).setScale k { a.scale k with prop := 0, lastSample := none, inside := 0, outside := 0 }).refreshRate k
/-- Bring CFGERR and the IDLE transition up to date after a change of configuration. -/
def Asic.servoRefresh (a : Asic) (k : Nat) : Asic :=
  let a := a.putB (Reg.TSC_SRVSTAT.CFGERR k) (a.servoCfgErr k)
  if a.servoIdle k && a.get (Reg.TSC_SRVSTAT.STATE k) != 0 then a.servoRest k 0 else a

/-- Deliver an offset sample to every scale whose servo takes it from this source (R266). -/
def Asic.deliverSample (a : Asic) (k : Nat) (e : Int) (t : Nat) (degraded : Bool) : Asic :=
  a.setScale k { a.scale k with samples := (a.scale k).samples ++ [(e, t, degraded)] }

/-- f_u of the servo in Hz (R268). -/
def Asic.servoRate (a : Asic) (k : Nat) : Nat := if a.get (Reg.TSC_SRV.SRC k) = 3 then 1000 else 1
/-- Bandwidth in µHz with the ceiling f_u/25 of R166, and whether the ceiling is in force. -/
def Asic.servoBw (a : Asic) (k : Nat) : Rat × Bool :=
  let bw : Rat := (max 10 (min 10000000 (a.get (Reg.TSC_SRVBW.BW k))) : Nat)
  let top : Rat := (a.servoRate k * 40000 : Nat)
  if top < bw then (top, true) else (bw, false)
/-- ζ in 1/16; below 8 acts as 8. -/
def dampOf (n : Nat) : Nat := max 8 n
/-- A limit in ns/s as a frequency in 2⁻⁶⁰, rounded. -/
def slopeLimit (ns : Nat) : Int := roundDiv ((min 10000 ns : Nat) * 2 ^ 60) 1000000000

/-- The servo's step at a valid sample e (PQ) taken at coarse time `t` (R268, R269). -/
def Asic.servoTake (a : Asic) (k : Nat) (e : Int) (t : Nat) : Asic :=
  let st := a.get (Reg.TSC_SRVSTAT.STATE k)
  let s := a.scale k
  let a := a.put2S (Reg.TSC_SRVELO.ERR k) (Reg.TSC_SRVEHI.ERR k) e
  let (bw, ceil) := a.servoBw k
  let a := a.putB (Reg.TSC_SRVSTAT.BWLIM k) ceil
  let fresh := st == 0 || st == 3
  let delta : Rat := if fresh then (1 : Rat) / (a.servoRate k) else match s.lastSample with
    | some t0 => ((t - t0 : Nat) : Rat) / second
    | none => (1 : Rat) / (a.servoRate k)
  if a.flag (Reg.TSC_SRV.STEPEN k) && decide ((a.get (Reg.TSC_STEPLIM.LIM k) : Int) < (e.natAbs : Int)) then
    let a := a.setScale k { s with prop := 0, lastSample := some t, quietFrom := a.clk.coarse, inside := 0, outside := 0 }
    let a := ((a.put (Reg.TSC_SRVSTAT.STATE k) 1).event (Reg.TSC_SRVSTAT.STEPD k)).put (Reg.TSC_SRVSTAT.SLEWING k) 0
    (a.refreshRate k).shiftScale k 4 (e * pqUnits)
  else
    let zeta := dampOf (a.get (Reg.TSC_SRVLOOP.DAMP k))
    let w := Config.omegaN bw zeta
    let es : Rat := (e : Rat) / (pqPerSec : Nat)
    let p := roundRat (2 * (zeta : Rat) / 16 * w * es * 2 ^ 60)
    let slew := a.get (Reg.TSC_SRVLOOP.SLEW k)
    let lim := slopeLimit slew
    let limited := slew != 0 && decide (lim < (p.natAbs : Int))
    let p' := if limited then (if p < 0 then -lim else lim) else p
    let i := if limited then s.integ else s.integ + roundRat (w * w * delta * es * 2 ^ 60)
    let i := clampTo (a.servoClamp k) i
    let within := decide ((e.natAbs : Int) ≤ a.get (Reg.TSC_LOCKLIM.LIM k))
    let beyond := decide ((4 * a.get (Reg.TSC_LOCKLIM.LIM k) : Nat) < (e.natAbs : Int))
    let inside := if within then (if fresh then 0 else s.inside) + 1 else 0
    let outside := if beyond then s.outside + 1 else 0
    let cnt := max 1 (a.get (Reg.TSC_SRVTIM.LOCKCNT k))
    let track := st != 2 && decide (cnt ≤ inside)
    let lost := st == 2 && decide (cnt ≤ outside)
    let st' := if track then 2 else if lost then 1 else if st = 2 then 2 else 1
    let a := a.setScale k { s with integ := i, prop := p', lastSample := some t, quietFrom := a.clk.coarse, inside := inside,
                                   outside := outside }
    let a := ((a.put (Reg.TSC_SRVSTAT.STATE k) st').putB (Reg.TSC_SRVSTAT.SLEWING k) limited).refreshRate k
    if track then a.event (Reg.TSC_SRVSTAT.TRACKD k) else a

/-- The offset a servo takes now, with the coarse time it was taken at and DEGRADED; none when no sample waits (R266). -/
def Asic.servoOffset (a : Asic) (k : Nat) (delayU : Nat → Int) : Option (Int × Nat × Bool) :=
  let idx := a.get (Reg.TSC_SRV.IDX k)
  match a.get (Reg.TSC_SRV.SRC k) with
  | 1 =>
    let x := a.inp idx
    let t := (x.tU / uPerCycle).toNat
    if !x.numbered || (match (a.scale k).lastSample with | some t0 => decide (t ≤ t0) | none => false) then none
    else
      let v : Int := a.scaleAt k (x.tU - delayU idx)
      let off := a.get2S (Reg.TSC_PPSOFFLO.OFF k) (Reg.TSC_PPSOFFHI.OFF k) * pqUnits
      let n := (2 * (v - off) + secUnits) / (2 * secUnits)
      some (roundDiv (n * secUnits + off - v) pqUnits, t, a.degraded)
  | 3 => some (roundDiv ((a.scaleAt idx a.nowU : Int) - a.scaleAt k a.nowU) pqUnits, a.clk.coarse, a.degraded)
  | _ => (a.scale k).samples.head?

/-- A sample is discarded (R267, R270). -/
def Asic.servoDiscards (a : Asic) (k t : Nat) (degraded : Bool) : Bool :=
  let src := a.get (Reg.TSC_SRV.SRC k)
  let idx := a.get (Reg.TSC_SRV.IDX k)
  degraded || a.fallback || (src == 1 && a.qual idx != 2 && a.qual idx != 3) || decide (t < (a.scale k).lastJump)
    || (src == 3 && decide (t < (a.scale idx).lastJump))

/-- SERVO_SAMPLE: take the waiting sample, or discard it. -/
def Asic.servoSample (a : Asic) (k : Nat) (delayU : Nat → Int) : Asic :=
  if a.servoIdle k then a.setScale k { a.scale k with samples := [] }
  else match a.servoOffset k delayU with
    | none => a
    | some (e, t, degraded) =>
      let a := a.setScale k { a.scale k with samples := (a.scale k).samples.tail }
      if a.servoDiscards k t degraded then a else a.servoTake k e t

/-- No valid sample for TIMEOUT seconds (R269). -/
def Asic.servoCoast (a : Asic) (k : Nat) : Asic :=
  let st := a.get (Reg.TSC_SRVSTAT.STATE k)
  if (st != 1 && st != 2) || a.fallback
      || decide (a.clk.coarse < (a.scale k).quietFrom + second * max 1 (a.get (Reg.TSC_SRVTIM.TIMEOUT k))) then a
  else ((a.servoRest k 3).event (Reg.TSC_SRVSTAT.COASTD k)).raise 45 k

end Sys2Proof.Machine
end

