-- ==== Sys2Proof/Machine/Channels.lean ====
section
/-! DEFINITION. DPLL channels, holdover and migration (chapter 6): the operations behind the commands of the `DPL` block,
and the anchor condition (R49, R50), which follows the channels. -/

namespace Sys2Proof.Machine

def Asic.chan (a : Asic) (c : Nat) : Dpl := a.dpl.ch.get c
def Asic.setChan (a : Asic) (c : Nat) (x : Dpl) : Asic := { a with dpl := { a.dpl with ch := a.dpl.ch.set c x } }
def Asic.modChan (a : Asic) (c : Nat) (f : Dpl → Dpl) : Asic := a.setChan c (f (a.chan c))

/-! ### The anchor condition (R49, R50) -/

/-- The channel is LOCKED to a time reference. -/
def Asic.lockedToTime (a : Asic) (c : Nat) : Bool := a.chanState c == 2 && a.timeRef (a.sel c)
/-- An enabled channel follows a time reference (R49). -/
def Asic.follows (a : Asic) (c : Nat) : Bool :=
  a.flag (Reg.DPL_CTL.EN c) && (a.chanState c == 1 || a.chanState c == 2) && a.timeRef (a.sel c)
/-- The channel's run of R49 has lasted 10 s. -/
def Asic.anchored (a : Asic) (c : Nat) : Bool :=
  hasBit (a.get Reg.GLB_MODECFG.ANCHOR) c && a.flag (Reg.DPL_CTL.EN c) && a.lockedToTime c
    && (match a.modes.lockedSince.get c with | some t => decide (t + 10 * second ≤ a.clk.now) | none => false)
/-- Follow a change of channel state, selection or qualification: the runs of R49, and the end of the anchor condition,
which clears `ADMIT` while WARM has not set since COLD (R50). -/
def Asic.refreshAnchor (a : Asic) : Asic :=
  let a := a.each (List.range 8) fun a c =>
    let since := if a.lockedToTime c then some ((a.modes.lockedSince.get c).getD a.clk.now) else none
    { a with modes := { a.modes with lockedSince := a.modes.lockedSince.set c since
                                     everLocked := a.modes.everLocked || a.lockedToTime c } }
  if a.modes.anchor && !(List.range 8).any a.anchored then
    let a := { a with modes := { a.modes with anchor := false } }
    if a.modes.warmSeen then a else a.put Reg.GLB_MODE.ADMIT 0
  else a
/-- The holdover condition of R49. -/
def Asic.holdoverCondition (a : Asic) : Bool := a.modes.everLocked && !(List.range 8).any a.follows

/-! ### Frequency word and phase -/

/-- θ at coarse time `t`, 2⁻³² PQ: a positive y makes θ fall (R163). -/
def Asic.thetaTime (a : Asic) (c t : Nat) : Int :=
  (a.chan c).theta - roundDiv (a.chanY c * ((t : Int) - (a.chan c).thetaAt)) 5120
/-- Form the integrals of y up to now and bring θ to now. -/
def Asic.settleChan (a : Asic) (c : Nat) : Asic :=
  let d := a.chan c
  let w := a.chanY c * ((a.clk.coarse : Int) - d.mark)
  a.setChan c { d with theta := a.thetaTime c a.clk.coarse, thetaAt := a.clk.coarse, teleY := d.teleY + w,
                       openSum := d.openSum + w, total := d.total + w, mark := a.clk.coarse }
/-- The clamp of R168 in 2⁻⁶⁰. -/
def Asic.fclamp (a : Asic) (c : Nat) : Int := (min (2 ^ 31) (a.get (Reg.DPL_FCLAMP.LIM c)) : Nat) * 2 ^ 16
/-- Take a new frequency word (clamped, R168): θ keeps its value, every followed scale takes the word (R260). -/
def Asic.setY (a : Asic) (c : Nat) (y : Int) : Asic :=
  let a := a.settleChan c
  let y := clampTo (a.fclamp c) y
  let a := a.modChan c fun d => { d with teleSat := d.teleSat || satS 48 y != y }
  (a.put2S (Reg.DPL_FWLO.FREQ c) (Reg.DPL_FWHI.FREQ c) (satS 48 y)).refreshRates
/-- `CLAMP`, its event and `FE33` follow whether I or y is at the clamp (R168); a clamped training channel spoils its hour
(R195). -/
def Asic.noteClamp (a : Asic) (c : Nat) (clamped : Bool) : Asic :=
  let was := a.flag (Reg.DPL_STATE.CLAMP c)
  let a := a.putB (Reg.DPL_STATE.CLAMP c) clamped
  let a := if clamped && !was then a.event (Reg.DPL_STAT.CLAMPD c) else a
  let a := a.level 33 c c clamped
  if clamped && c == a.get Reg.CAL_OVMCFG.TRAIN then { a with ovn := { a.ovn with hourOk := false } } else a
/-- Take a holdover or free-run word, clamped in the same way (R168): I and y are the word, P is 0. -/
def Asic.takeWord (a : Asic) (c : Nat) (w : Int) : Asic :=
  let fc := a.fclamp c
  let w := clampTo fc w
  ((a.modChan c fun d => { d with integ := w, prop := 0 }).setY c w).noteClamp c (decide (fc ≤ (w.natAbs : Int)))
/-- The free-run word of R169. -/
def Asic.freeRun (a : Asic) (c : Nat) : Int := a.get2S (Reg.DPL_FRFLO.FREQ c) (Reg.DPL_FRFHI.FREQ c)

/-! ### Telemetry (R181, R182) -/

/-- Offer a telemetry record and begin the next interval. -/
def Asic.telemetry (a : Asic) (c : Nat) (event short : Bool) : Asic :=
  let a := a.settleChan c
  let d := a.chan c
  let span := a.clk.coarse - d.teleFrom
  let y := if span = 0 then a.chanY c else roundDiv d.teleY span
  let e := if d.teleN = 0 then 0 else roundDiv d.teleE (d.teleN * 2 ^ 32)
  let st := Reg.DPL_STATE.STATE c
  let flags := bit (a.primer || d.telePrimer) + 2 * bit (a.degraded || d.teleDegraded) + 4 * bit (a.parityOf 2 c)
  let status := a.get (Reg.DPL_STATE.FROZEN c) + 2 * a.get (Reg.DPL_STATE.CLAMP c) + 4 * a.get (Reg.DPL_STATE.SLEWING c)
    + 8 * a.get (Reg.DPL_STATE.BWLIM c) + 16 * a.get (Reg.DPL_STATE.MODELED c) + 32 * bit d.teleSat + 64 * bit event + 128 * bit short
  let r := leBytes 1 6 ++ leBytes 1 flags ++ leBytes 1 c ++ leBytes 1 (a.get (Reg.DPL_STATE.UNIT c))
    ++ leBytes 1 (a.get st + 4 * a.sel c) ++ leBytes 1 status ++ leBytes 2 (min 65535 d.teleN) ++ leBytes 8 a.clk.coarse
    ++ leBytes 6 (code 48 y) ++ leBytes 6 (code 48 (satS 48 e)) ++ leBytes 4 (min (2 ^ 32 - 1) d.telePeak)
  (a.emit 12 r).setChan c { d with teleFrom := a.clk.coarse, teleY := 0, teleN := 0, teleE := 0, telePeak := 0,
                                   teleDegraded := a.fallback, telePrimer := a.primer, teleSat := false }

/-! ### State transitions (R172) -/

/-- Enter channel state `s`: the state itself, its telemetry event record (R181) and `FE32` (R180's source). -/
def Asic.moveChan (a : Asic) (c s : Nat) : Asic :=
  let old := a.chanState c
  let a := (a.put (Reg.DPL_STATE.STATE c) s).telemetry c true false
  let a := a.modChan c fun d => { d with openOk := d.openOk && s == 2 }
  (a.raise 32 (c + 256 * s + 65536 * old + 2 ^ 24 * (if s = 3 then a.get (Reg.DPL_STATE.HOQUAL c) else 255))).refreshAnchor

/-- Transitions 1 and 6: FREERUN, with its word, and every history entry invalid (R169, R177). -/
def Asic.toFreerun (a : Asic) (c : Nat) : Asic :=
  if a.chanState c = 0 then a.takeWord c (a.freeRun c)
  else
    let a := a.modChan c fun d => { d with
      lockedBefore := false, okTime := 0, bad := 0, badClamp := 0,
      lastUpdate := none, hist := d.hist.map fun h => { h with valid := false }, openOk := false }
    ((a.put (Reg.DPL_STATE.MODELED c) 0).put (Reg.DPL_STATE.SLEWING c) 0).moveChan c 0 |>.takeWord c (a.freeRun c)

/-- Transitions 2 and 7: ACQUIRE. From FREERUN, I starts from the free-run word and B is 0 (R128, R175). -/
def Asic.toAcquire (a : Asic) (c : Nat) : Asic :=
  let free := a.chanState c == 0
  let a := a.modChan c fun d => { d with
    integ := if free then a.freeRun c else d.integ, prop := 0, lastUpdate := none, okTime := 0, okMark := a.clk.coarse,
    bad := 0, badClamp := 0, lastSample := if free then a.clk.coarse else d.lastSample,
    hoTime := if free then d.hoTime else d.hoTime + (if a.fallback then 0 else a.clk.coarse - d.hoMark) }
  let a := a.onlyIf free fun a => a.put2S (Reg.UMP_BOLO.BO c) (Reg.UMP_BOHI.BO c) 0
  (a.put (Reg.DPL_STATE.MODELED c) 0).moveChan c 1

/-- WIN, GUARD and h of R176. -/
def Asic.hoWin (a : Asic) (c : Nat) : Nat := max 1 (min 86400 (a.get (Reg.DPL_HOWIN.WIN c)))
def Asic.hoGuard (a : Asic) (c : Nat) : Nat := min 3600 (a.get (Reg.DPL_HOCFG.GUARD c))
def Asic.hoInterval (a : Asic) (c : Nat) : Nat := (a.hoWin c + a.hoGuard c + 999) / 1000
/-- The guard and window entries of R178, newest first. -/
def Asic.guardEntries (a : Asic) (c : Nat) : List HistEntry :=
  (a.chan c).hist.take ((a.hoGuard c + a.hoInterval c - 1) / a.hoInterval c)
def Asic.windowCount (a : Asic) (c : Nat) : Nat := (a.hoWin c + a.hoInterval c - 1) / a.hoInterval c
def Asic.windowEntries (a : Asic) (c : Nat) : List HistEntry :=
  ((a.chan c).hist.drop ((a.hoGuard c + a.hoInterval c - 1) / a.hoInterval c)).take (a.windowCount c)
/-- The mean of y over entries, and the mean of their midpoints. -/
def meanEntries (l : List HistEntry) : Int × Nat :=
  (roundDiv (l.foldl (fun s h => s + h.mean) 0) l.length, l.foldl (fun s h => s + h.mid) 0 / l.length)
/-- `HOQUAL`, y_avg and t_c an entry to HOLDOVER would use now (R178). -/
def Asic.hoAverage (a : Asic) (c : Nat) : Nat × Int × Nat :=
  let w := (a.windowEntries c).filter HistEntry.valid
  let g := (a.guardEntries c).filter HistEntry.valid
  if w ≠ [] then (if 9 * a.windowCount c ≤ 10 * w.length then 0 else 1, meanEntries w)
  else if g ≠ [] then (2, meanEntries g)
  else (3, (a.chan c).integ, a.clk.coarse)

/-- θ(t), the mean of the last 100 board temperature samples, 1/256 °C (R194). -/
def Asic.theta (a : Asic) : Rat :=
  if a.ovn.temps = [] then (a.getS Reg.CAL_OVBTEMP.TEMP : Rat) else ((a.ovn.temps.foldl (· + ·) 0 : Int) : Rat) / (a.ovn.temps.length : Nat)
/-- θ at a past coarse time. -/
def Asic.thetaPast (a : Asic) (t : Nat) : Rat :=
  match a.ovn.tempHist.find? fun p => decide (p.1 ≤ t) with
  | some p => p.2
  | none => match a.ovn.tempHist.getLast? with
    | some p => p.2
    | none => a.theta
/-- m(t) − m(t_c) of the active oven, 2⁻⁶⁰ (R179, R194): c0 cancels. -/
def Asic.modelShift (a : Asic) (c : Nat) : Int :=
  let o := a.ovn.oven.get a.activeOven
  let d := a.chan c
  roundRat ((o.use.c1 * (((a.clk.coarse : Int) - d.tCentre : Int) : Rat) / (86400 * second : Nat) + o.use.k1 * (a.theta - d.tempCentre) / 256) * 2 ^ 60)
/-- The holdover word of R179 takes the oven-model correction. -/
def Asic.hoModeled (a : Asic) (c : Nat) : Bool :=
  a.flag (Reg.DPL_HOCFG.MODEL c) && a.warm && a.get (Reg.DPL_STATE.HOQUAL c) != 3
/-- y_ho(t) now. -/
def Asic.hoWord (a : Asic) (c : Nat) : Int :=
  let avg := a.get2S (Reg.DPL_HOFLO.FREQ c) (Reg.DPL_HOFHI.FREQ c)
  if a.hoModeled c then avg - a.modelShift c else avg
/-- Take the holdover word in force: I, y and `MODELED`. -/
def Asic.takeHoWord (a : Asic) (c : Nat) : Asic :=
  (a.putB (Reg.DPL_STATE.MODELED c) (a.hoModeled c)).takeWord c (a.hoWord c)

/-- Transitions 5 and 8: HOLDOVER with an average, its quality and t_c (R175, R178–R180). -/
def Asic.toHoldoverWith (a : Asic) (c qual : Nat) (avg : Int) (tc : Nat) : Asic :=
  let a := (a.put (Reg.DPL_STATE.HOQUAL c) qual).put2S (Reg.DPL_HOFLO.FREQ c) (Reg.DPL_HOFHI.FREQ c) avg
  let a := a.modChan c fun d => { d with
    tCentre := tc, tempCentre := a.thetaPast tc, hoTime := 0, hoMark := a.clk.coarse, limitDone := false,
    bad := 0, badClamp := 0 }
  let a := (a.put (Reg.DPL_STATE.SLEWING c) 0).moveChan c 3
  (((a.event (Reg.DPL_STAT.HOENTD c)).addSat (Reg.DPL_STCNT.HOENTRY c) 1)).takeHoWord c
/-- Entry to HOLDOVER from the history (R178). -/
def Asic.toHoldover (a : Asic) (c : Nat) : Asic :=
  let (q, avg, tc) := a.hoAverage c
  a.toHoldoverWith c q avg tc

/-- The channel follows a change of its selection (R172, transitions 2, 5, 6, 7). -/
def Asic.selectionChanged (a : Asic) (c : Nat) : Asic :=
  let st := a.chanState c
  let carried := a.get (Reg.DPL_STATE.UNIT c) != 15
  let force := a.get (Reg.DPL_CTL.FORCE c)
  let auto := force == 0 || force == 3
  let a := a.refreshAnchor
  if a.sel c = 31 then
    if carried && (st == 1 || st == 2) then (if (a.chan c).lockedBefore then a.toHoldover c else a.toFreerun c) else a
  else if carried && auto && (st == 3 || (st == 0 && a.flag (Reg.DPL_CTL.EN c))) then a.toAcquire c
  else a

/-! ### The update (R164–R168) -/

/-- The nominal update rate f_u in µHz of a channel's reference (R166). -/
def Asic.updateRate (a : Asic) (i : Nat) : Rat :=
  if a.ptpMode i then 1000000
  else if a.rateAtLeast i 100000 then 100000000000
  else ((a.nominal i * 1000000 : Nat) : Rat) / (256 * a.preRatio i : Nat)
/-- Effective bandwidth in µHz and BWLIM (R166). -/
def Asic.chanBw (a : Asic) (c i : Nat) : Rat × Bool :=
  let acq := a.get (Reg.DPL_ACQBW.BW c)
  let set := if a.chanState c = 1 ∧ acq ≠ 0 then acq else a.get (Reg.DPL_BW.BW c)
  let bw : Rat := (max 10 (min 4000000000 set) : Nat)
  let top := a.updateRate i / 25
  if top < bw then (top, true) else (bw, false)

/-- Transition 4. -/
def Asic.unlock (a : Asic) (c : Nat) : Asic :=
  (((a.event (Reg.DPL_STAT.UNLOCKD c)).addSat (Reg.DPL_STCNT.UNLOCKS c) 1).modChan c fun d =>
    { d with lastUpdate := none, okTime := 0, okMark := a.clk.coarse, bad := 0, badClamp := 0 }).moveChan c 1
/-- Transition 3. -/
def Asic.lock (a : Asic) (c : Nat) : Asic :=
  ((a.event (Reg.DPL_STAT.LOCKD c)).modChan c fun d =>
    { d with lockedBefore := true, lockedAt := a.clk.coarse, bad := 0, badClamp := 0 }).moveChan c 2

/-- A sample that the channel has not used waits at its selected index. -/
def Asic.sampleDue (a : Asic) (c : Nat) : Option Sample :=
  match (a.inp (a.sel c)).last with
  | some s => if (a.chan c).lastSample < s.t then some s else none
  | none => none
def Asic.unitFaulty (a : Asic) (c : Nat) : Bool := hasBit (a.get Reg.DPL_UNITS.FAULT) (a.get (Reg.DPL_STATE.UNIT c))
/-- The channel takes samples: ACQUIRE or LOCKED, carried by a sound unit, not frozen. -/
def Asic.updates (a : Asic) (c : Nat) : Bool :=
  (a.chanState c == 1 || a.chanState c == 2) && !a.fallback && a.get (Reg.DPL_STATE.UNIT c) != 15 && !a.unitFaulty c
    && a.sel c != 31

/-- One update with a sample (R164–R168, and the tests of transitions 3 and 4). -/
def Asic.updateWith (a : Asic) (c : Nat) (s : Sample) : Asic :=
  let a := a.settleChan c
  let d := a.chan c
  let st := a.chanState c
  let (bw, ceil) := a.chanBw c (a.sel c)
  let zeta := dampOf (a.get (Reg.DPL_LOOP.DAMP c))
  let w := Config.omegaN bw zeta
  let phoff := a.get2S (Reg.DPL_PHOFFLO.PHOFF c) (Reg.DPL_PHOFFHI.PHOFF c) + d.rally
  let e : Int := (s.phase - a.buildOut c + phoff) * 2 ^ 32 - a.thetaTime c s.t
  let es : Rat := (e : Rat) / (pqPerSec * 2 ^ 32 : Nat)
  let delta : Rat := match d.lastUpdate with
    | some t => ((s.t - t : Nat) : Rat) / second
    | none => 1000000 / a.updateRate (a.sel c)
  let p := roundRat (-(2 * (zeta : Rat) / 16 * w * es) * 2 ^ 60)
  let psl := a.get (Reg.DPL_LOOP.PSL c)
  let lim := slopeLimit psl
  let limited := psl != 0 && decide (lim < (p.natAbs : Int))
  let p := if limited then (if p < 0 then -lim else lim) else p
  let fc := a.fclamp c
  let i := clampTo fc (if limited then d.integ else d.integ - roundRat (w * w * delta * es * 2 ^ 60))
  let y := clampTo fc (i + p)
  let clamped := decide (fc ≤ (i.natAbs : Int)) || decide (fc ≤ (y.natAbs : Int))
  let ePq := roundDiv e (2 ^ 32)
  let inside := decide ((ePq.natAbs : Int) ≤ a.get (Reg.DPL_LOCKPHI.LIM c)) && !limited && !clamped
  let unl := max (a.get (Reg.DPL_UNLKPHI.LIM c)) (a.get (Reg.DPL_LOCKPHI.LIM c))
  let outside := decide ((unl : Int) < (ePq.natAbs : Int)) && !limited
  let okTime := if inside then d.okTime + (a.clk.coarse - d.okMark) else 0
  let bad := if outside then d.bad + 1 else 0
  let badClamp := if clamped then d.badClamp + 1 else 0
  let cnt := max 1 (a.get (Reg.DPL_LOCK.UNLCNT c))
  let time := max 1 (min 3600 (a.get (Reg.DPL_LOCK.LOCKTIME c)))
  let a := a.setChan c { d with
    integ := i, prop := p, lastUpdate := some s.t, lastSample := s.t, okTime, okMark := a.clk.coarse, bad, badClamp,
    openOk := d.openOk && !clamped, teleN := d.teleN + 1, teleE := d.teleE + e, telePeak := max d.telePeak ePq.natAbs,
    ck := { integ := i, prop := p, theta := d.theta, thetaAt := d.thetaAt, okTime, bad } }
  let a := (a.putB (Reg.DPL_STATE.BWLIM c) ceil).putB (Reg.DPL_STATE.SLEWING c) limited
  let a := ((a.put2S (Reg.DPL_PELO.ERR c) (Reg.DPL_PEHI.ERR c) ePq).setY c y).noteClamp c clamped
  if st = 1 then (if time * second ≤ okTime then a.lock c else a)
  else if cnt ≤ bad ∨ cnt ≤ badClamp then a.unlock c
  else a

/-- A failed check: the channel's fault source, and the unit marked (R183). The failed update is not made. -/
def Asic.unitFails (a : Asic) (c code : Nat) : Asic :=
  let u := a.get (Reg.DPL_STATE.UNIT c)
  (a.put Reg.DPL_UNITS.FAULT (a.get Reg.DPL_UNITS.FAULT ||| 2 ^ u)).raise (24 + c) (u + 256 * code)

/-! ### Placement of the channels (R162, R183–R186) -/

/-- A unit software may name (R186): it carries nothing and has not failed. -/
def Asic.unitFree (a : Asic) (u : Nat) : Bool :=
  decide (u ≤ 9) && hasBit (a.get Reg.DPL_UNITS.FREE) u && !hasBit (a.get Reg.DPL_UNITS.FAULT) u
/-- The lowest-numbered spare an automatic migration may take (R185): never a retired unit. -/
def Asic.spareUnit (a : Asic) : Option Nat :=
  [8, 9].find? fun u => a.unitFree u && !hasBit (a.get Reg.DPL_UNITS.RETIRED) u
/-- A mask without, or with, a bit. -/
def clearBit (n i : Nat) : Nat := if hasBit n i then n - 2 ^ i else n
def setBit (n i : Nat) : Nat := n ||| 2 ^ i

/-- The cut-over steps of R184: SHORT telemetry with the old parity, the marker, the feeds, the retirement of R39. -/
def Asic.cutOverUnit (a : Asic) (c u cause : Nat) : Asic :=
  let old := a.get (Reg.DPL_STATE.UNIT c)
  let back := hasBit (a.get Reg.DPL_UNITS.RETIRED) u
  let a := (a.telemetry c false true).changeEpoch 12 2 c old u cause 0
  let a := a.put (Reg.DPL_STATE.UNIT c) u
  let a := a.put Reg.DPL_UNITS.FREE (clearBit (if old = 15 then a.get Reg.DPL_UNITS.FREE else setBit (a.get Reg.DPL_UNITS.FREE) old) u)
  let a := a.put Reg.DPL_UNITS.RETIRED
    (clearBit (if old = 15 ∨ back then a.get Reg.DPL_UNITS.RETIRED else setBit (a.get Reg.DPL_UNITS.RETIRED) old) u)
  let a := ((a.put Reg.DPL_MIGSTAT.FUNC c).put Reg.DPL_MIGSTAT.OLD old).put Reg.DPL_MIGSTAT.NEW u
  ((a.event Reg.DPL_MIGSTAT.DONE).event (Reg.DPL_STAT.MIGD c)).askCommit .placement

/-- Load the channel's checkpoint (R185): I, θ, limiter and lock counters. -/
def Asic.loadCheckpoint (a : Asic) (c : Nat) : Asic :=
  a.modChan c fun d => { d with integ := d.ck.integ, prop := d.ck.prop, okTime := d.ck.okTime, bad := d.ck.bad }

/-- No spare is free, or none may be taken: the channel holds the checkpoint word on no unit (R40, R185). -/
def Asic.loseUnit (a : Asic) (c : Nat) : Asic :=
  let u := a.get (Reg.DPL_STATE.UNIT c)
  let a := a.put (Reg.DPL_STATE.UNIT c) 15
  let a := if u = 15 then a else a.put Reg.DPL_UNITS.FREE (setBit (a.get Reg.DPL_UNITS.FREE) u)
  if a.chanState c = 1 ∨ a.chanState c = 2 then a.toHoldoverWith c 3 (a.chanY c) a.clk.coarse else a

/-- AUTO_MIGRATION_LOAD: at the tick boundary after the failure (R185). -/
def Asic.autoMigrate (a : Asic) (c : Nat) : Asic :=
  if !a.dpl.auto.contains c then a
  else if !a.parityFree 2 c then
    if a.deferred.contains (.dpllAuto c) then a else { a with deferred := a.deferred ++ [.dpllAuto c] }
  else
    let a := { a with dpl := { a.dpl with auto := a.dpl.auto.filter (· != c) }, deferred := a.deferred.filter (· != Deferred.dpllAuto c) }
    match a.spareUnit with
    | none => (a.raise 12 (1 + 256 * c)).loseUnit c
    | some u =>
      let a := (a.loadCheckpoint c).cutOverUnit c u 1
      (a.event Reg.DPL_MIGSTAT.CHECKPOINT).putS Reg.DPL_MIGERR.STEP (roundDiv ((a.chan c).prop.natAbs * 20000 * 65536) (2 ^ 60))

/-- A migration may start: none runs, no fallback (R186), no oven handover (R204). -/
def Asic.migrationClear (a : Asic) : Bool := a.dpl.mig.isNone && !a.fallback && !a.flag Reg.CAL_OVSTAT.HOBUSY
/-- Start a migration at t0 = now (R184), or defer it (R28, R186). -/
def Asic.requestMigration (a : Asic) (c u : Nat) : Asic :=
  if !a.migrationClear then { a with dpl := { a.dpl with wait := a.dpl.wait ++ [(c, u)] } }
  else if !a.parityFree 2 c then { a with deferred := a.deferred ++ [.dpll c u] }
  else
    { (a.put Reg.DPL_MIGSTAT.BUSY 1).put Reg.DPL_MIGSTAT.FUNC c with
        dpl := { a.dpl with mig := some { chan := c, unit := u, t0 := a.clk.coarse, copied := false } } }
/-- `DPL_MIG.GO` (R184, R187). -/
def Asic.migrationGo (a : Asic) : Ruled :=
  let u := a.get Reg.DPL_MIG.UNIT
  if !a.unitFree u then rej (a.event Reg.DPL_MIGSTAT.REJECTED) else ok (a.requestMigration (a.get Reg.DPL_MIG.FUNC) u)
/-- A waiting request starts once nothing bars it (R186); its unit is judged again. -/
def Asic.resumeMigration (a : Asic) : Asic :=
  match a.dpl.wait with
  | [] => a
  | (c, u) :: rest =>
    if !a.migrationClear then a
    else
      let a := { a with dpl := { a.dpl with wait := rest } }
      if a.unitFree u then a.requestMigration c u else a.event Reg.DPL_MIGSTAT.REJECTED
/-- The first tick boundary at or after `t`. -/
def tickAfter (t : Nat) : Nat := (t + 12499) / 12500 * 12500
def Asic.endMigration (a : Asic) : Asic :=
  ({ a with dpl := { a.dpl with mig := none } }.put Reg.DPL_MIGSTAT.BUSY 0).resumeMigration
/-- MIGRATION_START: at Tc the state is copied by Tc + 2.044 µs; a channel without a unit loads its checkpoint and is cut
over at once (R184, R185). -/
def Asic.migrationStart (a : Asic) : Asic :=
  match a.dpl.mig with
  | none => a.resumeMigration
  | some m =>
    let tc := tickAfter (m.t0 + 125)
    if a.get (Reg.DPL_STATE.UNIT m.chan) = 15 then
      if a.clk.coarse < tc then a
      else
        let a := ((a.loadCheckpoint m.chan).cutOverUnit m.chan m.unit 0).event Reg.DPL_MIGSTAT.CHECKPOINT
        a.endMigration.selectionChanged m.chan
    else if a.clk.coarse < tc + 2555 || m.copied then a
    else { a with dpl := { a.dpl with mig := some { m with copied := true } } }
/-- MIGRATION_CUTOVER: at Th = Tc + 160 µs + 46 ns. -/
def Asic.migrationCutover (a : Asic) : Asic :=
  match a.dpl.mig with
  | none => a
  | some m =>
    if !m.copied || decide (a.clk.coarse < tickAfter (m.t0 + 125) + 200058) then a
    else (a.cutOverUnit m.chan m.unit 0).endMigration
/-- The two units of a running migration differ at a tick (R184). -/
def Asic.migrationMismatch (a : Asic) (c : Nat) : Asic :=
  match a.dpl.mig with
  | some m => if m.chan = c ∧ m.copied then (a.event Reg.DPL_MIGSTAT.MISMATCH).raise (24 + c) m.unit |>.endMigration else a
  | none => a

/-- DPLL_UPDATE: `code` 0 passed, 1 residue, 2 ECC (R183); `same` for a migration's comparison. -/
def Asic.dpllUpdate (a : Asic) (c code : Nat) (same : Bool) : Asic :=
  if !a.updates c then a
  else match a.sampleDue c with
    | none => a
    | some s =>
      if code ≠ 0 then a.unitFails c code
      else
        let a := a.updateWith c s
        if same then a else a.migrationMismatch c

/-! ### History, holdover and freeze -/

/-- HISTORY_ENTRY_CLOSE: append the entry that ends and open the next at a whole multiple of h (R176). -/
def Asic.historyClose (a : Asic) (c : Nat) : Asic :=
  let a := a.settleChan c
  let d := a.chan c
  let h := a.hoInterval c * second
  let start := a.clk.coarse / h * h
  let fresh := { d with open_ := some start, openSum := 0, openFrozen := a.fallback,
                        openOk := a.chanState c == 2 && !a.fallback && !a.flag (Reg.DPL_STATE.CLAMP c) }
  match d.open_ with
  | none => a.setChan c fresh
  | some t =>
    if a.clk.coarse < t + h then a
    else a.setChan c { fresh with appended := d.appended + 1, hist :=
      ({ mean := roundDiv d.openSum (a.clk.coarse - t), valid := d.openOk, frozen := d.openFrozen, mid := (t + a.clk.coarse) / 2 } :: d.hist).take 1024 }
/-- A change of WIN or GUARD that changes h (R177): `old` is the interval before the write. -/
def Asic.historyReset (a : Asic) (c old : Nat) : Asic :=
  let a := a.put (Reg.DPL_HIST.INT c) (a.hoInterval c)
  if a.hoInterval c = old then a
  else (a.settleChan c).modChan c fun d => { d with open_ := none, hist := d.hist.map fun h => { h with valid := false } }

/-- HOLDOVER_MODEL_UPDATE at a second boundary (R179, R174). -/
def Asic.holdoverModel (a : Asic) (c : Nat) : Asic :=
  if a.chanState c = 3 ∧ !a.fallback ∧ a.get (Reg.DPL_STATE.UNIT c) ≠ 15 then a.takeHoWord c else a
/-- Whole seconds in the current or last HOLDOVER (R180). -/
def Asic.hoSeconds (a : Asic) (c : Nat) : Nat :=
  ((a.chan c).hoTime + (if a.chanState c = 3 ∧ !a.fallback then a.clk.coarse - (a.chan c).hoMark else 0)) / second
/-- HOLDOVER_LIMIT (R180). -/
def Asic.holdoverLimit (a : Asic) (c : Nat) : Asic :=
  let l := min 8760 (a.get (Reg.DPL_HOCFG.LIMIT c))
  if a.chanState c = 3 ∧ l ≠ 0 ∧ l * 3600 ≤ a.hoSeconds c ∧ !a.fallback ∧ !(a.chan c).limitDone then
    (a.modChan c fun d => { d with limitDone := true }).raise 34 c
  else a

/-- A fallback begins (R173, R174): every channel freezes. -/
def Asic.freezeChannels (a : Asic) : Asic :=
  a.each (List.range 8) fun a c =>
    (a.settleChan c).put (Reg.DPL_STATE.FROZEN c) 1 |>.modChan c fun d => { d with
      teleDegraded := true, openOk := false, openFrozen := true,
      hoTime := if a.chanState c = 3 then d.hoTime + (a.clk.coarse - d.hoMark) else d.hoTime }
/-- A fallback ends (R76, R174): timers run again, the first update is the first of a run. -/
def Asic.thawChannels (a : Asic) : Asic :=
  a.each (List.range 8) fun a c =>
    (a.put (Reg.DPL_STATE.FROZEN c) 0).modChan c fun d => { d with lastUpdate := none, okMark := a.clk.coarse, hoMark := a.clk.coarse }

/-- DPLL_TELEMETRY_RECORD at an interval end (R181): nothing while REC is 0, 6 or 7. -/
def Asic.telemetryRecord (a : Asic) (c : Nat) : Asic :=
  let r := a.get (Reg.DPL_CTL.REC c)
  if r = 0 ∨ 6 ≤ r then a else a.telemetry c false false

end Sys2Proof.Machine
end

