-- ==== Sys2Proof/Machine/Umpire.lean ====
section
/-! DEFINITION. The Umpire (chapter 4): qualification states, consensus, drift, disputes, selection, switches, Putty. -/

namespace Sys2Proof.Machine

def Asic.ui (a : Asic) (i : Nat) : UmpIdx := a.ump.idx.get i
def Asic.modUi (a : Asic) (i : Nat) (f : UmpIdx → UmpIdx) : Asic := { a with ump := { a.ump with idx := a.ump.idx.set i (f (a.ui i)) } }
def Asic.uc (a : Asic) (c : Nat) : UmpCh := a.ump.ch.get c
def Asic.modUc (a : Asic) (c : Nat) (f : UmpCh → UmpCh) : Asic := { a with ump := { a.ump with ch := a.ump.ch.set c (f (a.uc c)) } }
def indices : List Nat := List.range 24
def channels : List Nat := List.range 8

/-- Live alarms (R104, R105) and the causes of `UMP_ISTAT.CAUSE`: 1 FALM, 2 PALM, 3 DRIFT, 4 DISPUTE, 5 hard limit,
6 software, 7 time. -/
def Asic.falm (a : Asic) (i : Nat) : Bool := hasBit (a.get Reg.REF_FALM.FALM) i
def Asic.palm (a : Asic) (i : Nat) : Bool := hasBit (a.get Reg.REF_PALM.PALM) i
def Asic.present (a : Asic) (i : Nat) : Bool := a.flag (Reg.REF_STAT.PRESENT i)

/-! ### Qualification states (R112–R115) -/

/-- Enter a state (R112, R136): its event, its fault source, its times. -/
def Asic.enterQual (a : Asic) (i st : Nat) : Asic :=
  let a := a.put (Reg.UMP_ISTAT.STATE i) st
  let a := a.modUi i fun u => { u with
    enteredAt := a.clk.now, soak := 0, suspect := 0, clear := 0, qualAt := if st = 2 then some a.clk.now else none,
    fit := if st = 2 then [] else u.fit,
    causes := if st = 0 ∨ st = 1 ∨ st = 2 then 0 else u.causes }
  if st = 2 then a.event (Reg.UMP_ISTAT.QUALD i)
  else if st = 3 then (a.event (Reg.UMP_ISTAT.SUSPD i)).raise 18 (i + 256 * a.get (Reg.UMP_ISTAT.CAUSE i))
  else if st = 4 then (a.event (Reg.UMP_ISTAT.DISQD i)).raise 19 (i + 256 * a.get (Reg.UMP_ISTAT.CAUSE i))
  else a
/-- An index holds a further cause; `CAUSE` shows the most recent (R119). -/
def Asic.addCause (a : Asic) (i k : Nat) : Asic :=
  (a.modUi i fun u => { u with causes := setBit u.causes k }).put (Reg.UMP_ISTAT.CAUSE i) k
/-- A cause that makes a QUALIFIED index SUSPECT, and that a SUSPECT index also holds. -/
def Asic.suspectFor (a : Asic) (i k : Nat) : Asic :=
  if a.qual i = 2 then (a.addCause i k).enterQual i 3
  else if a.qual i = 3 ∧ !hasBit (a.ui i).causes k then a.addCause i k
  else a
/-- To DISQUALIFIED for a cause. -/
def Asic.disqualify (a : Asic) (i k : Nat) : Asic := (a.addCause i k).enterQual i 4
/-- To ABSENT: the drift history is discarded (R118). -/
def Asic.toAbsent (a : Asic) (i : Nat) : Asic :=
  if a.qual i = 0 then a
  else ((a.enterQual i 0).put (Reg.UMP_ISTAT.CAUSE i) 0).modUi i fun u => { u with devs := [], dev := none, runOver := 0, under := 0 }
/-- ABSENT to SOAK. -/
def Asic.toSoak (a : Asic) (i : Nat) : Asic := (a.enterQual i 1).put (Reg.UMP_ISTAT.CAUSE i) 0

/-! ### Selection (R124–R128) -/

/-- The rank of index `i` on channel `c`; index 22 has none (R124). -/
def Asic.rank (a : Asic) (c i : Nat) : Nat :=
  if i = 22 then 0
  else if i < 8 then a.get (Reg.UMP_RANK0.RANK c) / 16 ^ i % 16
  else if i < 16 then a.get (Reg.UMP_RANK1.RANK c) / 16 ^ (i - 8) % 16
  else if i < 24 then a.get (Reg.UMP_RANK2.RANK c) / 16 ^ (i - 16) % 16
  else 0
/-- Blamed in a dispute on `c`. -/
def Asic.blamed (a : Asic) (c i : Nat) : Bool := (a.uc c).blames.any fun p => p.1 == i
def Asic.selectable (a : Asic) (c i : Nat) : Bool := a.qual i == 2 && a.rank c i != 0 && !a.blamed c i
/-- The magnitude of y_i corrected by the active oven's model (R122). -/
def Asic.corrected (a : Asic) (i : Nat) : Option Rat := (a.diag i 1).map fun y => absRat (y + (a.ovenOffset : Rat) / 2 ^ 60)
/-- The current reference of a disputed pair has become worse (R122). -/
def Asic.worse (a : Asic) (c i : Nat) : Bool :=
  a.qual i != 2 || (a.warm && match (a.uc c).base.get i, a.corrected i with
    | some b, some y => decide (b + (a.get Reg.UMP_DSET.LIM : Rat) / 2 ^ 60 < y)
    | _, _ => false)
/-- The member of an undecided pair that R122 favours on `c`. -/
def Asic.favoured (a : Asic) (c : Nat) : Option Nat :=
  match (a.uc c).pair with
  | none => none
  | some (i, j) =>
    let cur := a.sel c
    if cur = i then some (if a.worse c i then j else i)
    else if cur = j then some (if a.worse c j then i else j)
    else if a.warm then
      match a.corrected i, a.corrected j with
      | some y, some z => some (if z < y then j else i)
      | _, _ => some (min i j)
    else some (min i j)
def Asic.consValid (a : Asic) : Bool := a.flag Reg.UMP_CONSHI.VALID
/-- Index `i` comes before `j` under the keys of R125. -/
def Asic.precedes (a : Asic) (c i j : Nat) : Bool :=
  let k2 := fun x => if a.favoured c = some x then 0 else 1
  let k3 := fun x => if a.sel c = x then 0 else 1
  let d := fun x => ((a.ui x).dev.getD 0)
  if a.rank c i ≠ a.rank c j then decide (a.rank c i < a.rank c j)
  else if k2 i ≠ k2 j then decide (k2 i < k2 j)
  else if k3 i ≠ k3 j then decide (k3 i < k3 j)
  else if a.consValid && decide (absRat (d i) ≠ absRat (d j)) then decide (absRat (d i) < absRat (d j))
  else decide (i < j)
/-- The selectable index R125 puts first. -/
def Asic.bestIndex (a : Asic) (c : Nat) : Option Nat :=
  (indices.filter (a.selectable c)).foldl (fun b i => match b with
    | none => some i
    | some j => if a.precedes c i j then some i else some j) none
/-- The override's index is usable (R127). -/
def Asic.forcedIndex (a : Asic) (c : Nat) : Option Nat :=
  if a.flag (Reg.UMP_OVR.EN c) then
    let i := a.get (Reg.UMP_OVR.INDEX c)
    if a.qual i = 2 ∨ a.qual i = 3 then some i else none
  else none
/-- What the rules want selected on `c`, the override included. -/
def Asic.wanted (a : Asic) (c : Nat) : Option Nat :=
  match a.forcedIndex c with
  | some i => some i
  | none => if a.flag (Reg.UMP_OVR.EN c) && !a.flag (Reg.UMP_OVR.FALLBACK c) then none else a.bestIndex c

/-- Why the channel leaves index `o` (codes of `UMP_LSW.REASON`): the state of `o` first, then its rank, then a dispute. -/
def Asic.leaveReason (a : Asic) (c o : Nat) : Nat :=
  match a.qual o with
  | 0 => 1
  | 1 => 1
  | 3 => 2
  | 4 => 3
  | _ => if a.rank c o = 0 then 5 else 6

/-- The switch R126 and R127 command from `o` to `n`, with its reason; `written` tells that `UMP_OVR` was written. -/
def Asic.switchReason (a : Asic) (c o n : Nat) (written : Bool) : Option Nat :=
  if written then some 4
  else if a.forcedIndex c = some n then some (if a.selectable c o then 4 else a.leaveReason c o)
  else if !a.selectable c o then some (a.leaveReason c o)
  else if (match (a.uc c).pair with
      | some (i, j) => ((o == i || o == j) && a.worse c o) || (o != i && o != j && (n == i || n == j))
      | none => false) then some 6
  else if a.flag (Reg.UMP_CHCFG.REVERT c) && decide (a.rank c n < a.rank c o)
      && (match (a.ui n).qualAt with
          | some t => decide (t + second * min 3600 (a.get (Reg.UMP_CHCFG.RHOLD c)) ≤ a.clk.now)
          | none => false) then some 0
  else none

/-- Decide a switch (R129, R132). -/
def Asic.startSwitch (a : Asic) (c o n reason : Nat) : Asic :=
  (a.put (Reg.UMP_SEL.SWBUSY c) 1).modUc c fun u => { u with switch := some { old := o, new := n, t0 := a.clk.coarse, reason } }

/-- The target of a pending switch is still what the rules allow. -/
def Asic.targetGood (a : Asic) (c n : Nat) : Bool := a.selectable c n || a.forcedIndex c == some n

/-- Abandon a pending switch (R129). -/
def Asic.abortSwitch (a : Asic) (c : Nat) : Asic :=
  ((a.put (Reg.UMP_SEL.SWBUSY c) 0).modUc c fun u => { u with switch := none }).event (Reg.UMP_SWSTAT.ABORTED c)

/-- Re-evaluate selection on channel `c` (R125–R129). -/
def Asic.selectOn (a : Asic) (written : Bool) (c : Nat) : Asic :=
  if a.fallback then a
  else
    let a := match (a.uc c).switch with
      | some w => if a.targetGood c w.new then a else a.abortSwitch c
      | none => a
    if (a.uc c).switch.isSome then a
    else
      let o := a.sel c
      let a := a.putB (Reg.UMP_SEL.FORCED c) (match a.forcedIndex c with
        | some i => decide (i = o)
        | none => false)
      match a.wanted c with
      | none =>
        if o = 31 then (if (a.pair 22).has c then a else (a.event (Reg.UMP_SWSTAT.NOSEL c)).levelOn 22 c c)
        else (((a.put (Reg.UMP_SEL.INDEX c) 31).event (Reg.UMP_SWSTAT.NOSEL c)).levelOn 22 c c).selectionChanged c
      | some n =>
        if o = n then a
        else if o = 31 then
          if a.chanState c = 3 then a.startSwitch c 31 n 7
          else (((a.put (Reg.UMP_SEL.INDEX c) n).putB (Reg.UMP_SEL.FORCED c) (a.forcedIndex c == some n)).levelOff 22 c).selectionChanged c
        else match a.switchReason c o n written with
          | some r => a.startSwitch c o n r
          | none => a
/-- Re-evaluate every channel. -/
def Asic.selectAll (a : Asic) : Asic := (a.each channels fun a c => a.selectOn false c).refreshAnchor

/-! ### Same-cycle inputs (R113, R114) -/

/-- Presence was lost, or the input is disabled or misconfigured. -/
def Asic.umpAbsent (a : Asic) (i : Nat) : Asic := if a.fallback then a else (a.toAbsent i).selectAll
/-- Presence was declared. -/
def Asic.umpPresent (a : Asic) (i : Nat) : Asic := if a.fallback || a.qual i != 0 then a else a.toSoak i
/-- An alarm was raised: cause 1 FALM or 2 PALM. A soak restarts; a QUALIFIED index becomes SUSPECT. -/
def Asic.umpAlarm (a : Asic) (i k : Nat) : Asic :=
  if a.fallback then a
  else if a.qual i = 1 then a.modUi i fun u => { u with soak := 0 }
  else if a.qual i = 2 then (a.suspectFor i k).selectAll
  else a.suspectFor i k
/-- The first cycle after switch-back (R115): presence, then alarms, then selection. -/
def Asic.umpCatchUp (a : Asic) : Asic :=
  let a := a.each indices fun a i =>
    if a.present i then (if a.qual i = 0 then a.toSoak i else a) else a.toAbsent i
  let a := a.each indices fun a i =>
    let a := if a.falm i && a.qual i == 2 then a.suspectFor i 1 else a
    if a.palm i && (a.qual i == 2 || a.qual i == 3) then a.suspectFor i 2 else a
  a.selectAll

/-! ### Consensus (R116, R117) -/

/-- A voter: index, y, weight. -/
def Asic.voter (a : Asic) (i : Nat) : Option (Nat × Rat × Nat) :=
  if (a.qual i = 2 ∨ a.qual i = 3) ∧ a.get (Reg.UMP_IDX.WEIGHT i) ≠ 0 then (a.diag i 1).map fun y => (i, y, a.get (Reg.UMP_IDX.WEIGHT i))
  else none
/-- Insert by y, after entries of equal y (ties in index order). -/
def insertVoter (v : Nat × Rat × Nat) : List (Nat × Rat × Nat) → List (Nat × Rat × Nat)
  | [] => [v]
  | w :: t => if w.2.1 ≤ v.2.1 then w :: insertVoter v t else v :: w :: t
def Asic.voters (a : Asic) : List (Nat × Rat × Nat) := (indices.filterMap a.voter).foldl (fun l v => insertVoter v l) []
/-- The weighted median of sorted voters: `half` is the total weight, `cum` what came before (R116). -/
def medianFrom (total : Nat) : Nat → List (Nat × Rat × Nat) → Option Rat
  | _, [] => none
  | cum, v :: t =>
    let c := cum + v.2.2
    if total < 2 * c then some v.2.1
    else if total = 2 * c then match t with
      | w :: _ => some ((v.2.1 + w.2.1) / 2)
      | [] => some v.2.1
    else medianFrom total c t
def totalWeight (l : List (Nat × Rat × Nat)) : Nat := l.foldl (fun s v => s + v.2.2) 0
/-- A fractional frequency in the format of R6. -/
def freqCode (y : Rat) : Int := satS 48 (roundRat (y * 2 ^ 60))
/-- The consensus step; `usable` is false when the diagonal update held a gap of a fallback (R115). -/
def Asic.consensus (a : Asic) (usable : Bool) : Asic × Option Rat :=
  let vs := if usable then a.voters else []
  let w := totalWeight vs
  let valid := decide (max 3 (a.get Reg.UMP_QUORUM.MINVOTE) ≤ vs.length)
  let a := a.each indices fun a i => a.putB (Reg.UMP_ISTAT.VOTER i) (vs.any fun v => v.1 == i)
  let a := (a.put Reg.UMP_CONSHI.VOTERS vs.length).putB Reg.UMP_CONSHI.VALID valid
  let a := a.putB Reg.UMP_CONSHI.DOMINANT (vs.any fun v => decide (w ≤ 2 * v.2.2))
  match medianFrom w 0 vs with
  | some y => (a.put2S Reg.UMP_CONSLO.FREQ Reg.UMP_CONSHI.FREQ (freqCode y), if valid then some y else none)
  | none => (a, none)

/-! ### Drift (R118, R119) -/

def Asic.dset (a : Asic) : Rat := (a.get Reg.UMP_DSET.LIM : Rat) / 2 ^ 60
def Asic.dclr (a : Asic) : Rat := ((min (a.get Reg.UMP_DCLR.LIM) (a.get Reg.UMP_DSET.LIM) : Nat) : Rat) / 2 ^ 60
def Asic.dcnt (a : Asic) : Nat := max 1 (a.get Reg.UMP_DRIFT.DCNT)
/-- Update d_i of an index that is not ABSENT, with valid consensus y_c. -/
def Asic.driftOf (a : Asic) (yc : Rat) (i : Nat) : Asic :=
  match a.diag i 1 with
  | none => a
  | some y =>
    if a.qual i = 0 then a
    else
      let u := a.ui i
      let win := max 1 (min 10000 (a.get Reg.UMP_DRIFT.WIN))
      let devs := ((y - yc) :: u.devs).take 10000
      let l := devs.take win
      let d : Rat := l.foldl (fun s x => s + x) (0 : Rat) / ((l.length : Nat) : Rat)
      let a := a.modUi i fun u => { u with
        devs, dev := some d, runOver := if a.dset < absRat d then u.runOver + 1 else 0, under := if absRat d < a.dclr then u.under + 1 else 0 }
      a.put2S (Reg.UMP_DEVLO.DEV i) (Reg.UMP_DEVHI.DEV i) (freqCode d)

/-! ### Disputes (R120–R123) -/

def tauLimit (a : Asic) : Option Rat := f32ToRat (BitVec.ofNat 32 (a.get Reg.UMP_DISPLIM.LIM))
def Asic.pairMtie (a : Asic) (i j : Nat) : Option Rat := a.mtie i j (a.get Reg.UMP_DISP.TAU)
/-- The pair's MTIE lies below DISPLIM / 2 (R123). -/
def Asic.pairCalm (a : Asic) (i j : Nat) : Bool :=
  match a.pairMtie i j, tauLimit a with
  | some m, some l => decide (m < l / 2)
  | _, _ => false
/-- A decided dispute's cause has cleared on `c` (R123). -/
def Asic.blameOver (a : Asic) (c : Nat) (p : Nat × Nat) : Bool :=
  a.qual p.2 != 2 || a.rank c p.1 != a.rank c p.2 || a.pairCalm p.1 p.2 || !a.flag Reg.UMP_DISP.EN
/-- An undecided dispute ends on `c` (R123). -/
def Asic.pairOver (a : Asic) (c : Nat) (p : Nat × Nat) : Bool := a.qual p.1 != 2 || a.blameOver c p
/-- End the disputes of channel `c` whose conditions no longer hold. -/
def Asic.endDisputes (a : Asic) (c : Nat) : Asic :=
  let a := a.modUc c fun u => { u with blames := u.blames.filter fun p => !a.blameOver c p }
  match (a.uc c).pair with
  | some p =>
    if a.pairOver c p then
      ((a.modUc c fun u => { u with pair := none, base := [] }).put (Reg.UMP_SEL.DISPUTED c) 0).put (Reg.UMP_SEL.RIVAL c) 31
    else a
  | none => a
/-- A dispute exists between `i` and `j` on `c` (R120). -/
def Asic.disputed (a : Asic) (c i j : Nat) : Bool :=
  a.flag Reg.UMP_DISP.EN && a.qual i == 2 && a.qual j == 2 && a.rank c i != 0 && a.rank c i == a.rank c j
    && (a.sel c == i || a.sel c == j || a.bestIndex c == some i || a.bestIndex c == some j)
    && !(a.uc c).blames.any (fun p => p == (i, j) || p == (j, i))
    && (match a.pairMtie i j, tauLimit a with
        | some m, some l => decide (l < m)
        | _, _ => false)
/-- The third voters' weight against `i` and against `j`, and their total (R121). -/
def Asic.thirdVotes (a : Asic) (i j : Nat) : Nat × Nat × Nat :=
  (indices.filter fun k => k ≠ i ∧ k ≠ j ∧ (a.voter k).isSome).foldl (fun (s : Nat × Nat × Nat) k =>
    let w := a.get (Reg.UMP_IDX.WEIGHT k)
    match a.pairMtie i k, a.pairMtie j k with
    | some m, some n => (s.1 + (if n < m then w else 0), s.2.1 + (if m < n then w else 0), s.2.2 + w)
    | _, _ => (s.1, s.2.1, s.2.2 + w)) (0, 0, 0)
/-- Judge one pair on one channel (R121, R122). -/
def Asic.judge (a : Asic) (c i j : Nat) : Asic :=
  if !a.disputed c i j then a
  else
    let (vi, vj, w) := a.thirdVotes i j
    let blame := fun (a : Asic) (x y : Nat) =>
      ((a.modUc c fun u => { u with
          blames := u.blames ++ [(x, y)], pair := if u.pair = some (i, j) then none else u.pair }).suspectFor x 4).event
        (Reg.UMP_SWSTAT.DISPUTE c) |>.raise 20 (c + 256 * x + 65536 * y)
    let runOver := fun (a : Asic) => if (a.uc c).pair = none then
        (a.put (Reg.UMP_SEL.DISPUTED c) 0).put (Reg.UMP_SEL.RIVAL c) 31 else a
    if w < 2 * vi then runOver (blame a i j)
    else if w < 2 * vj then runOver (blame a j i)
    else if (a.uc c).pair.isSome then a
    else
      let cur := a.sel c
      let base : Tab (Option Rat) := if a.warm ∧ (cur = i ∨ cur = j) then Tab.set [] cur (a.corrected cur) else []
      let a := a.modUc c fun u => { u with pair := some (i, j), base }
      let rival := if cur = i then j else if cur = j then i else max i j
      (((a.put (Reg.UMP_SEL.DISPUTED c) 1).put (Reg.UMP_SEL.RIVAL c) rival).event (Reg.UMP_SWSTAT.DISPUTE c)).raise 20 (c + 256 * i + 65536 * j)
/-- The pairs of indices, i < j. -/
def pairs : List (Nat × Nat) := indices.flatMap fun i => (indices.filter (fun j => decide (i < j))).map fun j => (i, j)
/-- When WARM sets during a dispute, the base is taken at the first evaluation after it (R122). -/
def Asic.takeBase (a : Asic) (c : Nat) : Asic :=
  match (a.uc c).pair with
  | some (i, j) =>
    let cur := a.sel c
    if a.warm && (cur == i || cur == j) && ((a.uc c).base.get cur).isNone then
      a.modUc c fun u => { u with base := u.base.set cur (a.corrected cur) }
    else a
  | none => a

/-! ### The evaluation (R113) -/

/-- The causes an index still holds (R119). -/
def Asic.heldCauses (a : Asic) (i : Nat) : Nat :=
  let u := a.ui i
  let keep (k : Nat) (still : Bool) (m : Nat) : Nat := if hasBit u.causes k && still then setBit m k else m
  let valid := a.consValid
  let drift := !(valid && decide (a.dcnt ≤ u.under))
  let m := keep 1 (a.falm i) 0
  let m := keep 2 (a.palm i) m
  let m := keep 3 drift m
  let m := keep 4 (channels.any fun c => a.blamed c i) m
  let m := keep 5 drift m
  let m := keep 6 true m
  if hasBit u.causes 7 && m != 0 then setBit m 7 else m

/-- The transitions of one index at an evaluation, with consensus valid or not. -/
def Asic.evaluateIndex (a : Asic) (valid : Bool) (i : Nat) : Asic :=
  let u := a.ui i
  let beyond := valid && (match u.dev with
    | some d => decide ((a.get Reg.UMP_DQLIM.LIM : Rat) / 2 ^ 60 < absRat d)
    | none => false)
  let drifting := valid && decide (a.dcnt ≤ u.runOver)
  match a.qual i with
  | 1 =>
    let n := u.soak + 1
    let bad := a.falm i || a.palm i || (valid && match u.dev with | some d => decide (a.dset < absRat d) | none => false)
    if n < max 1 (min 3600 (a.get Reg.UMP_TIMES.SOAK)) then a.modUi i fun u => { u with soak := n }
    else if bad then a.modUi i fun u => { u with soak := 0 }
    else (a.enterQual i 2).put (Reg.UMP_ISTAT.CAUSE i) 0
  | 2 => if beyond then a.disqualify i 5 else if drifting then a.suspectFor i 3 else a
  | 3 =>
    if beyond then a.disqualify i 5
    else
      let a := if drifting then a.suspectFor i 3 else a
      let held := a.heldCauses i
      let dq := a.get Reg.UMP_DRIFT.DQTIME
      if held = 0 then (a.enterQual i 2).put (Reg.UMP_ISTAT.CAUSE i) 0
      else if dq ≠ 0 ∧ dq ≤ u.suspect + 1 then (a.modUi i fun u => { u with causes := held }).disqualify i 7
      else a.modUi i fun u => { u with causes := held, suspect := u.suspect + 1 }
  | 4 =>
    let held := a.heldCauses i
    if held ≠ 0 then a.modUi i fun u => { u with causes := held, clear := 0 }
    else if min 3600 (a.get Reg.UMP_TIMES.WTR) ≤ u.clear + 1 then a.toSoak i
    else a.modUi i fun u => { u with causes := 0, clear := u.clear + 1 }
  | _ => a

/-- The evaluation without the ovens' cross-check: consensus, drift, disputes, states, selection (R113–R126). -/
def Asic.evaluate (a : Asic) : Asic :=
  let (a, yc) := a.consensus (!a.ldg.gap || !a.fallbackIn (a.clk.coarse - 2 * second) a.clk.coarse)
  let a := match yc with
    | some y => a.each indices fun a i => a.driftOf y i
    | none => a
  let a := a.each channels fun a c => a.endDisputes c
  let a := a.each indices fun a i => a.evaluateIndex yc.isSome i
  let a := a.each channels fun a c => (a.endDisputes c).takeBase c
  let a := a.each channels fun a c => pairs.foldl (fun a p => a.judge c p.1 p.2) a
  a.selectAll

/-! ### Commands of the Umpire -/

/-- `UMP_ICMD.DISQ` (R113, R137). -/
def Asic.umpDisq (a : Asic) (i : Nat) : Ruled :=
  if a.qual i = 0 then rej a
  else if a.qual i = 4 then ok (a.addCause i 6)
  else ok ((a.disqualify i 6).selectAll)
/-- `UMP_ICMD.REQUAL`. -/
def Asic.umpRequal (a : Asic) (i : Nat) : Ruled := if a.qual i = 4 then ok ((a.toSoak i).selectAll) else rej a
/-- A write of `UMP_OVR` has taken effect. -/
def Asic.overrideWritten (a : Asic) (c : Nat) : Asic := (a.selectOn true c).refreshAnchor
/-- BOCLR_APPLY at a tick boundary (R135). -/
def Asic.boclrApply (a : Asic) (c : Nat) : Asic :=
  if (a.uc c).boclr then (a.put2S (Reg.UMP_BOLO.BO c) (Reg.UMP_BOHI.BO c) 0).modUc c fun u => { u with boclr := false } else a
/-- A write of `DPL_CTL` has taken effect; EN and FORCE act in the same cycle (R172, R173). An exit from a forced holdover
with a selection is a switch from the holdover phase (R175). -/
def Asic.ctlWritten (a : Asic) (c : Nat) : Asic :=
  let st := a.chanState c
  let f := a.get (Reg.DPL_CTL.FORCE c)
  if !a.flag (Reg.DPL_CTL.EN c) || f == 1 then (if st = 0 then a else a.toFreerun c)
  else if f = 2 then (if st = 1 ∨ st = 2 then a.toHoldover c else a)
  else if a.sel c = 31 ∨ a.get (Reg.DPL_STATE.UNIT c) = 15 then a
  else if st = 0 then a.toAcquire c
  else if st = 3 ∧ !a.fallback ∧ (a.uc c).switch.isNone then a.startSwitch c 31 (a.sel c) 7
  else a
/-- `FORCE` = 2 is refused on a channel not locked before (R172, R187). -/
def Asic.forceRefused (a : Asic) (c force : Nat) : Bool := force == 2 && !(a.chan c).lockedBefore

/-! ### Putty (R130–R135, R503) -/

/-- The samples of an index that lie in the fit window of 2^`n` ticks ending at `t1`. -/
def Asic.fitIn (a : Asic) (i t1 n : Nat) : List Sample :=
  (a.ui i).fit.filter fun s => decide (s.t ≤ t1) && decide (t1 < s.t + 2 ^ n * 12500)
def edgesOf (l : List Sample) : Nat := l.foldl (fun s x => s + x.edges) 0
/-- The fit window's exponent (R131): lengthened to hold 4,096 edges of the slower reference. -/
def Asic.fitWin (a : Asic) (l : List Nat) (t1 : Nat) : Nat :=
  let w := max 10 (min 29 (a.get Reg.UMP_PUTTY.WIN))
  if a.flag Reg.UMP_PUTTY.AUTO then
    ((List.range 30).find? fun n => decide (w ≤ n) && l.all fun i => decide (4096 ≤ edgesOf (a.fitIn i t1 n))).getD 29
  else w
/-- The least-squares line of a stream at `t1`, in PQ, and its slope per TDC cycle. -/
def lineAt (l : List Sample) (t1 : Nat) : Option (Rat × Rat) := lineFit (l.map fun s => ((s.t : Int) - t1, s.phase))
/-- Per-sample precision σ in fs (R133): 2.5 ps for a lane reference; `PRT_PKTSIG`, in 0.1 ps, for a packet reference (R318). -/
def Asic.sigmaOf (a : Asic) (i : Nat) : Rat := if a.ptpMode i then (100 * a.get (Reg.PRT_PKTSIG.SIG (i - 16)) : Nat) else 2500

/-- What Putty makes of a switch at T1 (R130–R135): new B, Δ, SIGMA in fs, SHORTFIT, ALIGN. -/
def Asic.putty (a : Asic) (c o n t1 : Nat) : Int × Int × Nat × Bool × Bool :=
  let b := a.buildOut c
  let wanted := if o = 31 then a.flag (Reg.UMP_CHCFG.HOEXIT c) else a.flag (Reg.UMP_CHCFG.PUTTY c)
  let both := if o = 31 then [n] else [o, n]
  let w := a.fitWin both t1
  let ln := a.fitIn n t1 w
  let lo := a.fitIn o t1 w
  let few := decide (ln.length < 2) || (o != 31 && decide (lo.length < 2))
  if !wanted then (0, -b, 0, false, true)
  else if few then (0, -b, 0, true, true)
  else
    let vn := ((lineAt ln t1).map Prod.fst).getD 0
    let theta : Rat := (a.thetaTime c t1 : Rat) / 2 ^ 32
    let vo := if o = 31 then theta + b - a.get2S (Reg.DPL_PHOFFLO.PHOFF c) (Reg.DPL_PHOFFHI.PHOFF c) - (a.chan c).rally
      else ((lineAt lo t1).map Prod.fst).getD 0
    let delta := roundRat (vn - vo)
    let cnt := max 1 (if o = 31 then edgesOf ln else min (edgesOf ln) (edgesOf lo))
    let sigma := if o = 31 then a.sigmaOf n else max (a.sigmaOf o) (a.sigmaOf n)
    let newest := (lo.map Sample.t).foldl max 0
    let oldest := (lo.map Sample.t).foldl min t1
    let gap : Rat := if o = 31 ∨ a.present o then 0 else (t1 - newest : Nat)
    let tw : Rat := (max 1 (newest - oldest) : Nat)
    let var := if gap = 0 then (283 / 100 * sigma) ^ 2 / (cnt : Nat)
      else (1414 / 1000 * sigma) ^ 2 / (cnt : Nat) * (1 + 12 * (1 / 2 + gap / tw) ^ 2)
    (b + delta, delta, min 65535 (sqrtRound var), decide (cnt < 3200), false)

/-- T1 of R132. -/
def switchTick (t0 : Nat) : Nat := tickAfter (t0 + 125)
/-- SWITCH_TAKE_EFFECT at T1 + 116 ns (R132): B, the last-switch registers, the new selection. -/
def Asic.switchTake (a : Asic) (c : Nat) : Asic :=
  match (a.uc c).switch with
  | none => a
  | some w =>
    let t1 := switchTick w.t0
    if a.fallback || decide (a.clk.coarse < t1 + 145) then a
    else if !a.targetGood c w.new then (a.abortSwitch c).selectOn false c
    else
      let (b, delta, sigma, short, align) := a.putty c w.old w.new t1
      let a := a.put2S (Reg.UMP_BOLO.BO c) (Reg.UMP_BOHI.BO c) b
      let a := (a.put (Reg.UMP_SEL.SWBUSY c) 0).put (Reg.UMP_SEL.INDEX c) w.new
      let a := a.putB (Reg.UMP_SEL.FORCED c) (a.forcedIndex c == some w.new)
      let a := (a.event (Reg.UMP_SWSTAT.SWITCHED c)).addWrap (Reg.UMP_SWCNT.COUNT c) 1
      let a := (((a.put (Reg.UMP_LSW.FROM c) w.old).put (Reg.UMP_LSW.TO c) w.new).put (Reg.UMP_LSW.REASON c) w.reason).putB
        (Reg.UMP_LSW.SHORTFIT c) short |>.putB (Reg.UMP_LSW.ALIGN c) align
      let a := (a.put (Reg.UMP_LSWSIG.SIGMA c) sigma).put (Reg.UMP_LSWTIM.TIME c) (secOf (a.scaleAt 0 (t1 * uPerCycle)))
      let a := a.put2S (Reg.UMP_LSWDLO.DELTA c) (Reg.UMP_LSWDHI.DELTA c) delta
      let a := a.modUc c fun u => { u with
        switch := none, base := if u.pair.isSome ∧ a.warm then u.base.set w.new (a.corrected w.new) else u.base }
      let a := a.modChan c fun d => { d with lastSample := max d.lastSample t1 }
      let a := (a.raise 21 (c + 256 * w.old + 65536 * w.new + 2 ^ 24 * w.reason + 2 ^ 32 * code 24 (satS 24 delta))).levelOff 22 c
      (a.selectionChanged c).selectOn false c

end Sys2Proof.Machine
end

