-- ==== Sys2Proof/Machine/Refs.lean ====
section
/-! DEFINITION. Reference inputs, TDC lanes and the phase collector (chapter 3). -/

namespace Sys2Proof.Machine

def Asic.modInp (a : Asic) (i : Nat) (f : RefInp → RefInp) : Asic := a.setInp i (f (a.inp i))
def Asic.lane (a : Asic) (n : Nat) : Lane := a.ref.lane.get n
def Asic.modLane (a : Asic) (n : Nat) (f : Lane → Lane) : Asic := { a with ref := { a.ref with lane := a.ref.lane.set n (f (a.lane n)) } }
def Asic.modLdgIdx (a : Asic) (i : Nat) (f : LdgIdx → LdgIdx) : Asic :=
  { a with ldg := { a.ldg with idx := a.ldg.idx.set i (f (a.ldg.idx.get i)) } }
def Asic.laneOf (a : Asic) (i : Nat) : Nat := a.get (Reg.REF_PLACE.LANE i)

/-! ### Configuration errors (R85, R92, R106) -/

/-- Range of the nominal frequency in Hz by `TYPE` and by `IOSTD` (R84, R85). -/
def typeRange (pulse : Bool) : Nat × Nat := if pulse then (1, 10000) else (1000, 1600000000)
def stdRange (std : Nat) : Nat × Nat := if std = 0 then (1, 1600000000) else if std = 1 then (1000, 1600000000) else (1, 250000000)
def inRange (nom : Nat) (r : Nat × Nat) : Bool := decide (r.1 * 256 ≤ nom) && decide (nom ≤ r.2 * 256)
/-- Length of a presence window, TDC cycles (R90). -/
def Asic.presenceWindow (a : Asic) (i : Nat) : Nat :=
  a.get (Reg.REF_PRES.WIN i) * (match a.get (Reg.REF_PRES.UNIT i) with | 0 => 125 | 1 => 12500 | 2 => 1250000 | _ => 125000000)
/-- Length of a frequency window, TDC cycles (R104). -/
def Asic.freqWindow (a : Asic) (i : Nat) : Nat := msec * 10 ^ a.get (Reg.REF_FMON.FWIN i)
/-- A span of TDC cycles holds `num/2` prescaled nominal periods. -/
def Asic.holdsPeriods (a : Asic) (i cycles num : Nat) : Bool :=
  decide (num * 5 * 1000000000 * 256 * a.preRatio i ≤ 8 * cycles * a.nominal i)
/-- The configuration error of R106. -/
def Asic.refCfgErr (a : Asic) (i : Nat) : Bool :=
  let nom := a.nominal i
  a.flag (Reg.REF_CFG.EN i) &&
    (decide (25000000 * 256 * a.preRatio i < nom) || decide (12 < a.get (Reg.REF_CFG.PRE i))
      || (i != 22 && !(inRange nom (typeRange (a.flag (Reg.REF_CFG.TYPE i))) && inRange nom (stdRange (a.get (Reg.REF_CFG.IOSTD i)))))
      || !a.holdsPeriods i (a.presenceWindow i) 3 || decide (5 ≤ a.get (Reg.REF_FMON.FWIN i)) || !a.holdsPeriods i (a.freqWindow i) 4
      || decide (6 ≤ a.get (Reg.REF_REC.INT i)))

/-! ### Presence (R90, R91) -/

/-- The input is absent from now: numbering ends, and the Umpire follows. -/
def Asic.refAbsent (a : Asic) (i : Nat) : Asic :=
  ((a.put (Reg.REF_STAT.PRESENT i) 0).modInp i fun x => { x with numbered := false, good := 0 }).umpAbsent i
/-- A loss of presence the input itself causes (R91). -/
def Asic.lossOfPresence (a : Asic) (i : Nat) : Asic :=
  if a.present i then ((a.event (Reg.REF_STAT.LOSS i)).raise 16 i).refAbsent i else a
/-- Presence is declared; an index whose `EN` or configuration error changed restarts in the Ledger (R144). -/
def Asic.declarePresent (a : Asic) (i : Nat) : Asic :=
  ((a.put (Reg.REF_STAT.PRESENT i) 1).modLdgIdx i fun x => { x with restart := x.restart || x.changed, changed := false }).umpPresent i
/-- The input may be present: enabled, without a configuration error. -/
def Asic.refUsable (a : Asic) (i : Nat) : Bool := a.flag (Reg.REF_CFG.EN i) && !a.refCfgErr i
/-- PRESENCE_WINDOW_END. -/
def Asic.presenceWindowEnd (a : Asic) (i : Nat) : Asic :=
  if a.ptpMode i || !a.refUsable i then a
  else if !(a.inp i).windowEdge then (a.modInp i fun x => { x with good := 0 }).lossOfPresence i
  else
    let good := min 255 ((a.inp i).good + 1)
    let a := a.modInp i fun x => { x with good, windowEdge := false }
    if !a.present i && decide (max 1 (a.get (Reg.REF_PRES.REGAIN i)) ≤ good) && !(a.inp i).gated then a.declarePresent i else a

/-- The values whose change restarts an enabled input (R107). -/
def Asic.refTrigger (a : Asic) (i : Nat) : List Nat :=
  [a.get (Reg.REF_CFG.TYPE i), a.get (Reg.REF_CFG.EDGE i), a.get (Reg.REF_CFG.IOSTD i), a.get (Reg.REF_CFG.THR i),
    a.get (Reg.REF_CFG.PRE i), a.get (Reg.REF_CFG.PKTMODE i), a.nominal i]
/-- A configuration word of index `i` was written; `old` is the state before (R91, R106, R107). -/
def Asic.refWritten (old a : Asic) (i : Nat) : Asic :=
  let err := a.refCfgErr i
  let a := a.putB (Reg.REF_STAT.CFGERR i) err
  let changed := old.refCfgErr i != err || old.flag (Reg.REF_CFG.EN i) != a.flag (Reg.REF_CFG.EN i)
  let a := if changed then a.modLdgIdx i fun x => { x with changed := true } else a
  let restart := !a.flag (Reg.REF_CFG.EN i) || err || (old.flag (Reg.REF_CFG.EN i) && old.refTrigger i != a.refTrigger i)
  let a := if restart || changed then a.modInp i fun x => { x with pre := 0, held := none, windowEdge := false, good := 0 } else a
  if restart && a.present i then a.refAbsent i else a

/-! ### Edges (R86–R89, R94, R99, R100) -/

/-- d_i of R99 in u, with the prescaler's 1.6 ns and what lane handovers left. -/
def Asic.refDelay (a : Asic) (i : Nat) : Int :=
  5 * (if i ≤ 15 then a.cal.inUse.get (3 * 64 + i) else 0) + (if a.get (Reg.REF_CFG.PRE i) = 0 then 0 else 2 * uPerCycle) + a.ref.shift.get i
/-- n × P_i in 2⁻³² PQ (R99). -/
def Asic.gridPhase (a : Asic) (i : Nat) (n : Int) : Int := roundDiv (n * a.periodNum i * 2 ^ 32) (a.periodDen i)
/-- φ of R99, PQ: `t` is the edge time less d_i, in u. -/
def Asic.phaseOf (a : Asic) (i : Nat) (n t : Int) : Int := roundDiv (t * 2 ^ 32 - 5 * a.gridPhase i n) (5 * 2 ^ 32)
/-- The frequency estimate behind a prediction, 2⁻⁶⁰ (R100). -/
def RefInp.estimate (x : RefInp) : Int := x.y.getD 0
/-- The phase predicted `dt` u after a phase (R100): a positive y makes the phase fall. -/
def RefInp.predict (x : RefInp) (phase dt : Int) : Rat := (phase : Rat) - (x.estimate * dt : Int) / (5 * 2 ^ 60 : Nat)
/-- The grid slot nearest to the prediction. -/
def Asic.slotOf (a : Asic) (i : Nat) (x : RefInp) (t : Int) : Int :=
  roundRat (((t : Rat) / 5 - x.predict x.phase (t + a.refDelay i - x.tU)) * (a.periodDen i : Rat) / (a.periodNum i : Rat))
/-- Numbering restarts with an edge (R100): RESTART, no frequency estimate, both monitors' runs at 0. -/
def Asic.restartNumbering (a : Asic) (i : Nat) : Asic :=
  ((a.modInp i fun x => { x with
      numbered := true, run := x.run + 1, y := none, fStart := none, runOver := 0, under := 0, calm := 0, recStatus := setBit x.recStatus 3 }).modLdgIdx i
    fun l => { l with restart := true }).modUi i fun u => { u with fit := [] }
/-- Use an edge with its number: phase, tick and record sums. -/
def Asic.useEdge (a : Asic) (i lane : Nat) (n t : Int) : Asic :=
  let phase := a.phaseOf i n t
  a.modInp i fun x => { x with
    n, phase, tU := t + a.refDelay i, tickSum := x.tickSum + phase, tickN := x.tickN + 1,
    recSum := x.recSum + phase, recN := x.recN + 1, recLane := lane,
    recPrimer := x.recPrimer || a.primer, recDegraded := x.recDegraded || a.degraded }
/-- A missing or extra edge (R100). -/
def Asic.slip (a : Asic) (i k : Nat) : Asic :=
  ((a.addSat (Reg.REF_CNT.SLIP i) k).event (Reg.REF_STAT.SLIP i)).modInp i fun x => { x with recStatus := setBit x.recStatus 2 }
/-- The phase collector takes an edge of a present index at time `t` u, corrected by d_i. -/
def Asic.collectEdge (a : Asic) (i lane : Nat) (t : Int) : Asic :=
  let x := a.inp i
  if !x.numbered then
    (a.restartNumbering i).useEdge i lane (roundDiv (t * a.periodDen i) (5 * a.periodNum i)) t
  else
    let n := a.slotOf i x t
    if n ≤ x.n then a.slip i 1
    else
      let missing := (n - x.n - 1).toNat
      let a := if missing = 0 || a.fallbackIn (x.tU / uPerCycle).toNat a.clk.coarse then a else a.slip i missing
      a.useEdge i lane n t
/-- The edge's time in u: coarse × 800 ps + (bin + 0.5) × 3.125 ps (R94). -/
def Asic.edgeTime (a : Asic) (bin : Nat) : Int := a.nowU + bin * 1024 + 512
/-- The edge of an index under a lane handover reaches both lanes (R98). -/
def Asic.handoverEdge (a : Asic) (i bin target : Nat) : Asic :=
  match a.ref.ho with
  | some h =>
    if h.idx = i ∧ h.start + 12500 ≤ a.clk.coarse then
      { a with ref := { a.ref with ho := some { h with diff := h.diff + ((target : Int) - bin) * 1024, edges := h.edges + 1 } } }
    else a
  | none => a
/-- REF_EDGE: holdoff, prescaler, the 25.6 ns rule, then number and phase. Only an index whose edges a lane measures. -/
def Asic.refEdge (a : Asic) (i bin target : Nat) : Asic :=
  let x := a.inp i
  let n := a.get (Reg.REF_CFG.HOLDOFF i)
  let lane := a.laneOf i
  if a.ptpMode i || !a.refUsable i then a
  else if a.flag (Reg.REF_CFG.TYPE i) && n != 0
      && (match x.held with | some t => decide (a.clk.coarse < t + 125 * 2 ^ (n - 1)) | none => false) then
    a.addSat (Reg.REF_CNT.GLITCH i) 1
  else if x.pre + 1 < a.preRatio i then a.modInp i fun x => { x with held := some a.clk.coarse, pre := x.pre + 1 }
  else
    let a := a.modInp i fun x => { x with held := some a.clk.coarse, pre := 0 }
    if (match (a.lane lane).last with | some t => decide (a.clk.coarse < t + 32) | none => false) then a.addSat (Reg.REF_OVR.COUNT i) 1
    else
      let a := (a.modLane lane fun l => { l with last := some a.clk.coarse }).modInp i fun x => { x with windowEdge := true }
      let a := a.put2 (Reg.REF_EDGLO.EDGES i) (Reg.REF_EDGHI.EDGES i) (a.get2 (Reg.REF_EDGLO.EDGES i) (Reg.REF_EDGHI.EDGES i) + 1)
      if a.fallback || decide (a.clk.now < a.clk.degradedUntil) then a
      else
        let a := (a.put (Reg.REF_LSTAT.VALID lane) 1).handoverEdge i bin target
        if a.present i then a.collectEdge i lane (a.edgeTime bin - a.refDelay i) else a

/-- CALPPS_EDGE: `off` TDC cycles after the nearest CAL10M edge (R103). The marked edge takes the whole-second slot
nearest its number. -/
def Asic.calppsEdge (a : Asic) (off : Int) : Asic :=
  let a := { a with ref := { a.ref with ppsAt := some a.clk.coarse } }
  let a := a.putS Reg.REF_CALPPS.OFFSET (max (-127) (min 127 off))
  if 50 < off.natAbs then a.put Reg.REF_CALPPS.AMBIG 1
  else
    let a := a.put Reg.REF_CALPPS.AMBIG 0
    let x := a.inp 23
    if !x.numbered then a
    else
      let num : Int := a.periodNum 23
      let near := x.n + roundDiv ((a.nowU - off * uPerCycle - x.tU) * a.periodDen 23) (5 * a.periodNum 23)
      let sec := roundDiv (near * num) (a.periodDen 23 * pqPerSec)
      let shift := roundDiv (sec * pqPerSec * a.periodDen 23) (a.periodNum 23) - near
      if shift = 0 then a
      else (a.restartNumbering 23).modInp 23 fun x => { x with n := x.n + shift, phase := a.phaseOf 23 (x.n + shift) (x.tU - a.refDelay 23) }

/-! ### Ticks and monitors (R101, R104, R105) -/

/-- The second of the Ledger a sample belongs to (R142): its tick's, or for a slow index its grid slot's. -/
def Asic.sampleSecond (a : Asic) (i : Nat) : Nat :=
  if a.slow i then ((a.inp i).n * a.periodNum i / (a.periodDen i * pqPerSec)).toNat else (a.clk.coarse - 1) / second
/-- Add a value to the sum of its second. -/
def addSecond (s : Nat) (v : Int) : List (Nat × Int × Nat) → List (Nat × Int × Nat)
  | [] => [(s, v, 1)]
  | (t, w, n) :: l => if t = s then (t, w + v, n + 1) :: l else (t, w, n) :: addSecond s v l
/-- The newest samples, newest first, that are not older than `ticks`. -/
def recentSamples (now ticks : Nat) (l : List Sample) : List Sample := l.takeWhile fun s => decide (now < s.t + ticks * 12500)
/-- The phase-jump monitor on a sample; `last` is the sample before it (R105). -/
def Asic.phaseMonitor (a : Asic) (i : Nat) (last : Option Sample) (s : Sample) : Asic :=
  match last with
  | some l =>
    if l.run ≠ s.run then a
    else
      let diff := absRat ((s.phase : Rat) - (a.inp i).predict l.phase (((s.t : Int) - l.t) * uPerCycle))
      let lim : Rat := a.get (Reg.REF_PLIM.LIM i)
      if lim < diff then
        let a := a.modInp i fun x => { x with calm := 0 }
        if a.palm i then a
        else ((a.put Reg.REF_PALM.PALM (setBit (a.get Reg.REF_PALM.PALM) i)).event (Reg.REF_STAT.PALM i)).umpAlarm i 2
      else
        let a := a.modInp i fun x => { x with calm := if diff ≤ lim / 2 then x.calm + 1 else 0 }
        if a.palm i && decide (1000 ≤ (a.inp i).calm) then a.put Reg.REF_PALM.PALM (clearBit (a.get Reg.REF_PALM.PALM) i) else a
  | none => a
/-- Take a tick sample of an index: record terms, the Ledger's sums, Putty's and the oven's lines, the monitor. -/
def Asic.takeSample (a : Asic) (i sec : Nat) (s : Sample) : Asic :=
  let last := (a.inp i).last
  let a := a.modInp i fun x => { x with
    last := some s, tickSum := 0, tickN := 0, recLast := some s, recFirst := some (x.recFirst.getD s),
    seconds := addSecond sec s.phase x.seconds }
  let a := a.put2S (Reg.REF_PHLO.PHASE i) (Reg.REF_PHHI.PHASE i) s.phase
  let a := if a.qual i = 2 ∨ a.qual i = 3 then a.modUi i fun u => { u with fit := recentSamples a.clk.coarse (2 ^ 29) (s :: u.fit) } else a
  let a := if i = 22 then { a with ovn := { a.ovn with fit22 := recentSamples a.clk.coarse (2 ^ 17) (s :: a.ovn.fit22) } } else a
  a.phaseMonitor i last s
/-- The applied input delays of calibration item 3 move at a tick boundary, at most 1 PQ per tick (R466). -/
def Asic.moveDelays (a : Asic) : Asic :=
  a.each (List.range 16) fun a i =>
    let k := 3 * 64 + i
    let use := a.cal.inUse.get k
    let want := roundDiv (a.cal.v.get k) 256
    if use = want then a
    else { a with cal := { a.cal with inUse := a.cal.inUse.set k (if use < want then use + 1 else use - 1) } }
/-- TICK_END. -/
def Asic.tickEnd (a : Asic) : Asic :=
  (a.each indices fun a i =>
    let x := a.inp i
    if x.tickN = 0 then a
    else a.takeSample i (a.sampleSecond i)
      { t := a.clk.coarse, phase := roundDiv x.tickSum x.tickN, edges := x.tickN, run := x.run }).moveDelays

/-- FREQ_MONITOR_WINDOW_END. -/
def Asic.freqWindowEnd (a : Asic) (i : Nat) : Asic :=
  let x := a.inp i
  let a := a.modInp i fun x => { x with fStart := x.last }
  match x.fStart, x.last with
  | some s, some e =>
    if !a.refUsable i || s.run != x.run || e.run != x.run || decide (e.t ≤ s.t) || a.fallbackIn s.t e.t then a
    else
      let raw := roundDiv (-(e.phase - s.phase) * 10 * 2 ^ 60) ((e.t - s.t) * 524288)
      let y := raw + a.ovenOffset
      let set := a.get (Reg.REF_FLIMSET.LIM i) * 2 ^ 16
      let clr := min set (a.get (Reg.REF_FLIMCLR.LIM i) * 2 ^ 16)
      let cnt := max 1 (a.get (Reg.REF_FMON.FCNT i))
      let a := a.modInp i fun x => { x with
        y := some raw, runOver := if set < y.natAbs then x.runOver + 1 else 0, under := if y.natAbs < clr then x.under + 1 else 0 }
      let a := a.put2S (Reg.REF_FRLO.FREQ i) (Reg.REF_FRHI.FREQ i) (satS 48 y)
      if !a.falm i && decide (cnt ≤ (a.inp i).runOver) then
        ((a.put Reg.REF_FALM.FALM (setBit (a.get Reg.REF_FALM.FALM) i)).event (Reg.REF_STAT.FALM i)).umpAlarm i 1
      else if a.falm i && decide (cnt ≤ (a.inp i).under) then a.put Reg.REF_FALM.FALM (clearBit (a.get Reg.REF_FALM.FALM) i)
      else a
  | _, _ => a

/-! ### Phase records (R108, R109, R502) -/

/-- Length of a record interval, TDC cycles. -/
def Asic.recordInterval (a : Asic) (i : Nat) : Nat := msec * 10 ^ (a.get (Reg.REF_REC.INT i) - 1)
/-- Frequency field, and NOFREQ. -/
def Asic.recordFreq (x : RefInp) : Int × Bool :=
  match x.recFirst, x.recLast with
  | some f, some e =>
    let s := match x.recBefore with | some b => if b.run = e.run then b else f | none => f
    if s.t = e.t then (0, true) else (roundDiv (-(e.phase - s.phase) * 10 * 2 ^ 60) ((e.t - s.t) * 524288), false)
  | _, _ => (0, true)
/-- Close the open record: offer it unless the interval holds no edge, and begin the next. -/
def Asic.closeRecord (a : Asic) (i : Nat) (short : Bool) : Asic :=
  let x := a.inp i
  let spans := a.fallbackIn (a.clk.coarse - a.recordInterval i) a.clk.coarse
  let (y, nofreq) := Asic.recordFreq x
  let st := x.recStatus + bit (a.falm i) + 2 * bit (a.palm i) + 16 * bit (short || spans) + 32 * bit (a.ptpMode i)
    + 64 * bit (i == 23 && a.flag Reg.REF_CALPPS.AMBIG) + 128 * bit (satS 48 y != y) + 256 * bit nofreq
  let mean := roundDiv x.recSum x.recN
  let r := leBytes 1 1 ++ leBytes 1 (bit (a.primer || x.recPrimer) + 2 * bit (a.degraded || x.recDegraded || spans) + 4 * bit (a.parityOf 1 i))
    ++ leBytes 1 i ++ leBytes 1 (if a.ptpMode i then 255 else x.recLane) ++ leBytes 8 a.clk.coarse ++ leBytes 8 (code 64 mean)
    ++ leBytes 6 (code 48 (satS 48 y)) ++ leBytes 4 x.recN ++ leBytes 2 st
  let withheld := i == 22 && a.deferred.any fun d => match d with | .epoch22 _ _ => true | _ => false
  let a := if x.recN = 0 || a.fallback || withheld then a else a.emit 0 r
  a.modInp i fun x => { x with
    recSum := 0, recN := 0, recFirst := none, recBefore := (x.recLast.orElse fun _ => x.recBefore), recLast := none, recStatus := 0,
    recPrimer := a.primer, recDegraded := a.degraded }
/-- PHASE_RECORD. -/
def Asic.phaseRecord (a : Asic) (i : Nat) : Asic :=
  let n := a.get (Reg.REF_REC.INT i)
  if n = 0 ∨ 6 ≤ n ∨ !a.refUsable i then a else a.closeRecord i false

/-! ### Lane calibration (R96, R97) -/

/-- A calibration step may run (R70, R74). -/
def Asic.calAllowed (a : Asic) : Bool := !a.brace && !a.fallback
/-- LANE_CAL_START. -/
def Asic.laneCalStart (a : Asic) (n : Nat) : Asic :=
  if a.flag Reg.REF_TCAL.EN && a.calAllowed then a.modLane n fun l => { l with collecting := true } else a
/-- A table is plausible (R97): span in 0.1 ps, widest element in 0.01 ps, boundaries against the manager's table. -/
def tablePlausible (span widest : Nat) (bounds : List Nat) (ref : Nat → Rat) : Bool :=
  decide (8000 ≤ span) && decide (widest ≤ 625) && (bounds.zipIdx.all fun (b, k) => decide (absRat ((b : Rat) - ref k) ≤ 8))
/-- LANE_CAL_TABLE_COMPUTED: the table is accepted or rejected; `ref` is the calibration manager's table. -/
def Asic.laneTableComputed (a : Asic) (n span widest : Nat) (bounds : List Nat) (ref : Nat → Rat) : Asic × Bool :=
  if !(a.lane n).collecting || !a.calAllowed then (a, false)
  else
    let a := ((a.modLane n fun l => { l with collecting := false }).put (Reg.REF_LCAL.SPAN n) span).put (Reg.REF_LCAL.WIDEST n) widest
    if tablePlausible span widest bounds ref then
      let a := a.modLane n fun l => { l with accepted := some (span, widest, bounds) }
      (((a.put (Reg.REF_LSTAT.REJECTS n) 0).addWrap (Reg.REF_LCALN.COUNT n) 1).put (Reg.REF_LCALT.TIME n) (secOf a.ts0), true)
    else
      let k := a.get (Reg.REF_LSTAT.REJECTS n)
      let a := a.put (Reg.REF_LSTAT.REJECTS n) (min 3 (k + 1))
      (if k = 2 then a.raise 17 (n + 256 * a.get (Reg.REF_LSTAT.FUNC n)) else a, false)
/-- LANE_TABLE_SWITCH. -/
def Asic.laneTableSwitch (a : Asic) (n : Nat) : Asic :=
  match (a.lane n).accepted with
  | some (_, _, t) => (a.modLane n fun l => { l with accepted := none, table := t }).put (Reg.REF_LSTAT.CALOK n) 1
  | none => a

/-! ### Lane handover (R98, R111) -/

/-- The lane carries no function: a free lane of R98. -/
def Asic.laneFree (a : Asic) (n : Nat) : Bool := decide (n ≤ 27) && a.flag (Reg.REF_LSTAT.FREE n)
/-- The lowest spare lane an automatic substitution may take. -/
def Asic.spareLane (a : Asic) : Option Nat := [24, 25, 26, 27].find? fun n => a.laneFree n && !a.flag (Reg.REF_LSTAT.RETIRED n)
/-- A lane handover must wait: the 1 ms of R28, or an oven handover for index 22 (R204). -/
def Asic.laneHoWaits (a : Asic) (i : Nat) : Bool := !a.parityFree 1 i || (i == 22 && a.flag Reg.CAL_OVSTAT.HOBUSY)
/-- Start a lane handover, or defer it. -/
def Asic.startLaneHo (a : Asic) (i lane ovl : Nat) (soft : Bool) : Asic :=
  let a := a.put Reg.REF_HOSTAT.BUSY 1
  if a.laneHoWaits i then { a with deferred := a.deferred ++ [.lane i lane ovl soft] }
  else
    let h : LaneHo := { idx := i, old := a.laneOf i, new := lane, start := a.clk.coarse, overlap := ovl, diff := 0, edges := 0, soft }
    { a with ref := { a.ref with ho := some h } }
/-- Lane handovers that waited start once nothing bars them (R28, R204). -/
def Asic.resumeLaneHo (a : Asic) : Asic :=
  a.deferred.foldl (fun a d => match d with
    | .lane i lane ovl soft =>
      if a.laneHoWaits i then a else { a with deferred := a.deferred.filter (· != d) }.startLaneHo i lane ovl soft
    | _ => a) a
/-- OVL in TDC cycles. -/
def overlapOf (n : Nat) : Nat := 10 * msec * 10 ^ n
/-- LANE_HANDOVER_GO. -/
def Asic.laneHoGo (a : Asic) : Ruled :=
  let i := a.get Reg.REF_LANEHO.FUNC
  let lane := a.get Reg.REF_LANEHO.LANE
  let ovl := a.get Reg.REF_LANEHO.OVL
  if a.flag Reg.REF_HOSTAT.BUSY || decide (23 < i) || decide (3 < ovl) || !a.laneFree lane then rej (a.event Reg.REF_HOSTAT.REJECTED)
  else ok (a.startLaneHo i lane (overlapOf ovl) true)
/-- The automatic substitution of a failed lane (R97, R40): its block action. -/
def Asic.laneSubstitute (a : Asic) (failed : Nat) : Asic :=
  let i := a.get (Reg.REF_LSTAT.FUNC failed)
  if i = 31 then a
  else match a.spareLane with
    | none => a.raise 12 (3 + 256 * i)
    | some n =>
      if a.flag Reg.REF_HOSTAT.BUSY then { a with ref := { a.ref with wait := a.ref.wait ++ [(i, failed)] } }
      else a.startLaneHo i n second false
/-- The cut-over of placement: marker, map, retirement (R27, R39). `cause` per R358. -/
def Asic.cutOverLane (a : Asic) (i old new cause : Nat) : Asic :=
  let back := a.flag (Reg.REF_LSTAT.RETIRED new)
  let a := a.changeEpoch 0 1 i old new cause 0
  let a := a.put (Reg.REF_PLACE.LANE i) new
  let a := ((a.put (Reg.REF_LSTAT.FREE old) 1).put (Reg.REF_LSTAT.FUNC old) 31).put (Reg.REF_LSTAT.VALID old) 0
  let a := ((a.put (Reg.REF_LSTAT.FREE new) 0).put (Reg.REF_LSTAT.FUNC new) i).put (Reg.REF_LSTAT.RETIRED new) 0
  let a := a.putB (Reg.REF_LSTAT.RETIRED old) !back
  (a.put Reg.REF_RETIRE.LANES (let m := clearBit (a.get Reg.REF_RETIRE.LANES) new
    if back then clearBit m old else setBit m old)).askCommit .placement
/-- The next waiting substitution (R97: one handover at a time). -/
def Asic.nextLaneWait (a : Asic) : Asic :=
  match a.ref.wait with
  | [] => a
  | (i, failed) :: rest =>
    let a := { a with ref := { a.ref with wait := rest } }
    if a.laneOf i = failed then a.laneSubstitute failed else a
/-- LANE_HANDOVER_CUTOVER at t1. -/
def Asic.laneHoCutover (a : Asic) : Asic :=
  match a.ref.ho with
  | none => a
  | some h =>
    if a.fallback || decide (a.clk.coarse < h.start + h.overlap) || (decide (h.edges < 16) && a.present h.idx) then a
    else
      let est := decide (h.edges < 16)
      let d := if est then Config.laneDelayU h.new - Config.laneDelayU h.old else roundDiv h.diff h.edges
      let a := if a.get (Reg.REF_REC.INT h.idx) = 0 then a else a.closeRecord h.idx true
      let a := { a with ref := { a.ref with ho := none, shift := a.ref.shift.set h.idx (a.ref.shift.get h.idx + d) } }
      let a := a.cutOverLane h.idx h.old h.new (if h.soft then 0 else 1)
      let a := ((a.put Reg.REF_HOSTAT.BUSY 0).put Reg.REF_HOSTAT.FUNC h.idx).put Reg.REF_HOSTAT.OLD h.old
      let a := if est then a.event Reg.REF_HOSTAT.ESTIMATED else a
      (a.event Reg.REF_HOSTAT.DONE).nextLaneWait

/-! ### Fallback (R74, R76) -/

/-- Every lane is marked invalid. -/
def Asic.invalidateLanes (a : Asic) : Asic := a.each (List.range 28) fun a n => a.put (Reg.REF_LSTAT.VALID n) 0

end Sys2Proof.Machine
end

