-- ==== Sys2Proof/Machine/Ledger.lean ====
section
/-! DEFINITION. The Ledger and the Stability Engine (chapter 5). x is held in 2⁻³² PQ, as R142 says; the averages and the
fits are exact, and each result is rounded once, to binary32 (R150). -/

namespace Sys2Proof.Machine

/-- Units of x in a second. -/
def xUnit : Nat := 2 ^ 32 * pqPerSec
def Asic.li (a : Asic) (i : Nat) : LdgIdx := a.ldg.idx.get i
/-- x_i[n]. -/
def LdgIdx.x (l : LdgIdx) (n : Nat) : Option Int := l.hist.lookup n
/-- x_ij[n], formed only where both values exist (R142). -/
def Asic.pairX (a : Asic) (i j n : Nat) : Option Int :=
  match (a.li i).x n, (a.li j).x n with
  | some u, some v => some (v - u)
  | _, _ => none

/-! ### Entries -/

/-- Write entry `k` of cell (i, j); none is a quiet NaN. -/
def Asic.setEntry (a : Asic) (i j k : Nat) (w : Option Word) : Asic :=
  { a with ldg := { a.ldg with live := a.ldg.live.set (cellKey i j k) w } }
/-- Write a value, with the overflow event of R150. -/
def Asic.setValue (a : Asic) (i j k : Nat) (w : Word × Bool) : Asic :=
  (a.setEntry i j k (some w.1)).onlyIf w.2 fun a => a.event Reg.LDG_STAT.SAT
/-- The eight keys of a cell. -/
def cellKeys (i j : Nat) : List Nat := (List.range 8).map fun k => cellKey i j k
/-- Discard every estimator and entry of a cell. -/
def Asic.wipeCell (a : Asic) (i j : Nat) : Asic :=
  (cellKeys i j).foldl (fun a k => { a with ldg := { a.ldg with
    live := a.ldg.live.del k, est := a.ldg.est.del k, mtie := a.ldg.mtie.del k } }) a

/-! ### Values and gaps (R142, R143) -/

/-- The second whose value the pass that begins second `s + 1` forms. -/
def Asic.formed (a : Asic) (i s : Nat) : Nat := if a.slow i then s - 1 else s
/-- `GLB_MODE.FALLBACK` was 1 in second `n`. -/
def Asic.fallbackSecond (a : Asic) (n : Nat) : Bool := a.fallbackIn (n * second) (n * second + second - 1)
/-- Length in µs of the latest fallback that touched second `n`. -/
def Asic.fallbackLength (a : Asic) (n : Nat) : Nat :=
  match a.clk.fbk.find? fun (f, e) => decide (f < (n + 1) * second) && decide (n * second ≤ e) with
  | some (f, e) => (e - f) / usec
  | none => 0
/-- The mean of the tick samples of second `n`, 2⁻³² PQ. -/
def Asic.secondMean (a : Asic) (i n : Nat) : Option Int :=
  if a.fallbackSecond n then none
  else ((a.inp i).seconds.lookup n).map fun (v, c) => roundDiv (v * 2 ^ 32) c
/-- Second `n` is a gap second of index `i` (R143). -/
def Asic.gapSecond (a : Asic) (i n : Nat) : Bool := (a.li i).start.isSome && (a.secondMean i n).isNone
/-- Account for the second of index `i` (R143, R160). -/
def Asic.countGap (a : Asic) (i n : Nat) : Asic :=
  if a.gapSecond i n then
    let run := (a.li i).gapRun + 1
    let len := if a.fallbackSecond n then a.fallbackLength n else run * 1000000
    let a := (a.modLdgIdx i fun l => { l with gapRun := run }).addSat (Reg.LDG_ISTAT.GAPS i) 1
    ((a.put (Reg.LDG_ISTAT.INGAP i) 1).put (Reg.LDG_ILGAP.LEN i) (min (2 ^ 32 - 1) len)).event Reg.LDG_STAT.GAP
  else (a.modLdgIdx i fun l => { l with gapRun := 0 }).put (Reg.LDG_ISTAT.INGAP i) 0

/-! ### Restarts (R144, R154) -/

/-- Restart every estimator that uses index `i`. -/
def Asic.restartIndex (a : Asic) (i : Nat) : Asic :=
  let a := a.each indices fun a j => (a.wipeCell i j).wipeCell j i
  let a := a.modLdgIdx i fun _ => default
  let a := (a.put (Reg.LDG_ISTAT.GAPS i) 0).put (Reg.LDG_ISTAT.INGAP i) 0
  ((a.put (Reg.LDG_IAGE.AGE i) 0).addWrap (Reg.LDG_ISTAT.RSTCNT i) 1).event Reg.LDG_STAT.RESTART
/-- Index `i` restarts at this pass. -/
def Asic.restartDue (a : Asic) (i : Nat) : Bool :=
  (a.li i).restart || decide (max 1 (a.get Reg.LDG_CFG.GAPMAX) < (a.li i).gapRun)
/-- Restart the diagonal estimators of index `i`, whose value of second `n` they discard: its pair cells keep theirs (R154). -/
def Asic.restartDiagonal (a : Asic) (i n : Nat) : Asic :=
  (a.wipeCell i i).modLdgIdx i fun l => { l with diagFrom := l.start.map fun _ => n + 1, hours := [] }

/-! ### Forming values -/

/-- Add a value to the sums of its hour (R145). -/
def addHour (n : Nat) (x : Int) (l : List HourSum) : List HourSum :=
  let t : Int := n
  let add := fun (h : HourSum) => { h with
    n := h.n + 1, t1 := h.t1 + t, t2 := h.t2 + t ^ 2, t3 := h.t3 + t ^ 3, t4 := h.t4 + t ^ 4, x := h.x + x, xt := h.xt + x * t,
    xt2 := h.xt2 + x * t ^ 2 }
  match l with
  | h :: rest => if h.hour = n / 3600 then add h :: rest else add { (default : HourSum) with hour := n / 3600 } :: (h :: rest).take 255
  | [] => [add { (default : HourSum) with hour := n / 3600 }]
/-- Keep x_i[n] (R142, R144). -/
def Asic.keepValue (a : Asic) (i n : Nat) : Asic :=
  match a.secondMean i n with
  | none => a
  | some x =>
    (a.modLdgIdx i fun l => { l with
      start := some (l.start.getD n), diagFrom := some (l.diagFrom.getD n), hist := ((n, x) :: l.hist).take 65536,
      hours := if l.diagFrom.getD n ≤ n then addHour n x l.hours else l.hours }).addSat (Reg.LDG_IAGE.AGE i) 1
/-- Tick samples of seconds up to `n` are used or too late. -/
def Asic.dropSeconds (a : Asic) (i n : Nat) : Asic :=
  a.modInp i fun x => { x with seconds := x.seconds.filter fun p => decide (n < p.1) }

/-! ### Diagonal entries 0–2 (R145, R149) -/

/-- The longest run of absent values among seconds, oldest first. -/
def longestGap (present : Nat → Bool) : List Nat → Nat → Nat → Nat
  | [], run, best => max run best
  | n :: l, run, best => if present n then longestGap present l 0 (max run best) else longestGap present l (run + 1) best
def Asic.fwin (a : Asic) : Nat := max 2 (a.get Reg.LDG_DIAG.FWIN)
/-- Values of the diagonal's run: those kept since its last restart. -/
def LdgIdx.diagHist (l : LdgIdx) : List (Nat × Int) :=
  match l.diagFrom with
  | some f => l.hist.filter fun p => decide (f ≤ p.1)
  | none => []
/-- Entry 1: −b over the last `FWIN` seconds up to `n`. -/
def Asic.freqEntry (a : Asic) (i n : Nat) : Option Rat :=
  let l := a.li i
  let w := a.fwin
  match l.diagFrom with
  | none => none
  | some f =>
    if n + 1 < f + w then none
    else
      let vals := l.diagHist.filter fun p => decide (n < p.1 + w) && decide (p.1 ≤ n)
      let secs := (List.range w).map fun k => n + 1 - w + k
      if w < 2 * longestGap (fun s => (vals.lookup s).isSome) secs 0 0 then none
      else (lineFit (vals.map fun p => ((p.1 : Int), p.2))).map fun r => -r.2 / (xUnit : Nat)
/-- Entry 2: −2c over the hours of `DWIN`. -/
def Asic.driftEntry (a : Asic) (i n : Nat) : Option Rat :=
  let d := max 1 (a.get Reg.LDG_DIAG.DWIN)
  let hs := (a.li i).hours.filter fun h => decide (n / 3600 < h.hour + d)
  let sum := fun (f : HourSum → Int) => ((hs.foldl (fun s h => s + f h) 0 : Int) : Rat)
  let c := hs.foldl (fun s h => s + h.n) 0
  if c < 3600 then none
  else (solve3 (c : Nat) (sum HourSum.t1) (sum HourSum.t2) (sum HourSum.t2) (sum HourSum.t3) (sum HourSum.t4)
    (sum HourSum.x) (sum HourSum.xt) (sum HourSum.xt2)).map fun r => -2 * r.2.2 / (xUnit : Nat)
/-- Write an entry from an exact value, or NaN. -/
def Asic.setRat (a : Asic) (i j k : Nat) (v : Option Rat) : Asic :=
  match v with
  | some x => a.setValue i j k (ratToF32 x)
  | none => a.setEntry i j k none
/-- Entries 0–2 of index `i` for second `n`. -/
def Asic.writeDiagonal (a : Asic) (i n : Nat) : Asic :=
  let a := a.setRat i i 0 (((a.li i).diagHist.lookup n).map fun x => (x : Rat) / (xUnit : Nat))
  (a.setRat i i 1 (a.freqEntry i n)).setRat i i 2 (a.driftEntry i n)

/-! ### Averaged statistics and MTIE (R146–R149) -/

/-- τ of ADEV entry k, with its stride. -/
def adevTau (k : Nat) : Nat × Nat :=
  match k with
  | 3 => (1, 1)
  | 4 => (10, 1)
  | 5 => (100, 5)
  | 6 => (1000, 50)
  | _ => (10000, 500)
/-- τ_k of the pair entries, with the stride. -/
def pairTau (k : Nat) : Nat × Nat := (4 ^ k, if k < 3 then 1 else 4 ^ k / 16)
/-- The term A[n] whose last value is second `s`. -/
def adevTerm (x : Nat → Option Int) (m stride s : Nat) : Option Rat :=
  if s < 2 * m ∨ (s - 2 * m) % stride ≠ 0 then none
  else match x s, x (s - m), x (s - 2 * m) with
    | some p, some q, some r => some (((p - 2 * q + r) ^ 2 : Int) / (2 * (m * xUnit) ^ 2 : Nat))
    | _, _, _ => none
/-- The sum of `m` values from second `n`; none if one is absent. -/
def sumFrom (x : Nat → Option Int) (n m : Nat) : Option Int :=
  (List.range m).foldl (fun s k => match s, x (n + k) with
    | some v, some w => some (v + w)
    | _, _ => none) (some 0)
/-- The term T[n] whose last value is second `s`. -/
def tdevTerm (x : Nat → Option Int) (m stride s : Nat) : Option Rat :=
  if s + 1 < 3 * m ∨ (s + 1 - 3 * m) % stride ≠ 0 then none
  else
    let n := s + 1 - 3 * m
    match sumFrom x n m, sumFrom x (n + m) m, sumFrom x (n + 2 * m) m with
    | some p, some q, some r => some (((r - 2 * q + p) ^ 2 : Int) / (6 * (m * xUnit) ^ 2 : Nat))
    | _, _, _ => none
/-- max − min over the window of τ + 1 values that ends at second `s`. -/
def mtieTerm (x : Nat → Option Int) (tau stride s : Nat) : Option Int :=
  if s < tau ∨ (s - tau) % stride ≠ 0 then none
  else
    let r : Option (Int × Int) := (List.range tau).foldl (fun b k => match b, x (s - tau + k) with
      | some (lo, hi), some v => some (min lo v, max hi v)
      | _, _ => none) ((x s).map fun v => (v, v))
    r.map fun (lo, hi) => hi - lo
/-- Average a term (R148). -/
def Est.add (e : Est) (k : Nat) (t : Rat) : Est :=
  if e.n < 2 ^ k then { n := e.n + 1, v := (e.v * (e.n : Nat) + t) / ((e.n + 1 : Nat) : Rat) }
  else { n := e.n + 1, v := e.v + (t - e.v) / ((2 ^ k : Nat) : Rat) }
def Asic.kAvg (a : Asic) : Nat := max 2 (min 12 (a.get Reg.LDG_CFG.K))
def Asic.minTerm (a : Asic) : Nat := max 2 (a.get Reg.LDG_CFG.MINTERM)
/-- Take a term into the estimator of an entry and write the entry; without a term the entry is written only when
`MINTERM` changed. -/
def Asic.averaged (a : Asic) (i j k : Nat) (t : Option Rat) : Asic × Bool :=
  let key := cellKey i j k
  if t.isNone ∧ a.ldg.mint = a.minTerm then (a, false)
  else
    let e := match t with
      | some v => (a.ldg.est.get key).add a.kAvg v
      | none => a.ldg.est.get key
    let a := { a with ldg := { a.ldg with est := a.ldg.est.set key e } }
    (if a.minTerm ≤ e.n then a.setValue i j k (sqrtF32 e.v) else a.setEntry i j k none, true)
/-- Put a window's value into its segment. -/
def addSeg (seg : Nat) (v : Int) : List (Nat × Int) → List (Nat × Int)
  | (s, w) :: l => if s = seg then (s, max v w) :: l else (seg, v) :: (s, w) :: l
  | [] => [(seg, v)]
def Asic.mtieSeg (a : Asic) : Nat := max 64 (a.get Reg.LDG_MTIE.SEG)
/-- The MTIE entry of a pair at second `s` (R147). -/
def Asic.mtieEntry (a : Asic) (i j k s : Nat) (t : Option Int) : Asic × Bool :=
  let key := cellKey i j k
  let seg := s / a.mtieSeg
  let old := (a.ldg.mtie.get key).segs
  let new := match t with
    | some v => addSeg seg v old
    | none => old
  let keep := new.filter fun p => decide (seg < p.1 + 16)
  if t.isNone ∧ keep = old then (a, false)
  else
    let a := { a with ldg := { a.ldg with mtie := a.ldg.mtie.set key { segs := keep } } }
    (if keep = [] then a.setEntry i j k none
      else a.setValue i j k (ratToF32 (((keep.foldl (fun m p => max m p.2) 0 : Int) : Rat) / (xUnit : Nat))), true)

/-! ### Update records (R158, R159) -/

/-- Kind of a cell enabled in `LDG_REC`. -/
def Asic.recKind (a : Asic) (i j : Nat) : Bool :=
  if i = j then a.flag Reg.LDG_REC.DIAG else if i < j then a.flag Reg.LDG_REC.TDEV else a.flag Reg.LDG_REC.MTIE
/-- Offer the record of a cell half whose entries `written` (bits 3:0) were written; `pass` is the count after the pass. -/
def Asic.halfRecord (a : Asic) (i j half written pass : Nat) (degraded : Bool) : Asic :=
  let key := (i * 24 + j) * 2 + half
  let due := match a.ldg.recAt.get key with
    | some p => decide (p + max 1 (a.get Reg.LDG_REC.DEC) ≤ pass)
    | none => true
  if written = 0 ∨ !a.recKind i j ∨ !due then a
  else
    let es := (List.range 4).map fun k => a.ldg.live.get (cellKey i j (4 * half + k))
    let valid := es.zipIdx.foldl (fun m (e, k) => m + (if e.isSome then 2 ^ k else 0)) 0
    let r := leBytes 1 5 ++ leBytes 1 (bit a.primer + 2 * bit degraded) ++ leBytes 1 i ++ leBytes 1 j ++ leBytes 1 half
      ++ leBytes 1 (written + 16 * valid) ++ leBytes 2 pass ++ leBytes 8 a.clk.coarse
      ++ es.flatMap fun e => leBytes 4 (e.getD Config.nanWord).toNat
    let a := { a with ldg := { a.ldg with recAt := a.ldg.recAt.set key (some pass) } }
    if hasBit (a.get Reg.REC_EN.SLOTS) 11 && decide (1152 ≤ (a.recs.queue.get 11).length) then
      (a.addSat Reg.LDG_RECDROP.COUNT 1).raise 11 (Config.slotOverflowDetail 11)
    else a.emit 11 r
/-- Both halves of a cell. -/
def Asic.cellRecords (a : Asic) (i j written pass : Nat) (degraded : Bool) : Asic :=
  (a.halfRecord i j 0 (written % 16) pass degraded).halfRecord i j 1 (written / 16) pass degraded

/-! ### The pass (R151) -/

/-- Apply a step to each entry number of a list and collect which entries it wrote, as bits. -/
def Asic.entries (a : Asic) (ks : List Nat) (f : Asic → Nat → Asic × Bool) : Asic × Nat :=
  ks.foldl (fun (p : Asic × Nat) k =>
    let (a, w) := f p.1 k
    (a, if w then p.2 + 2 ^ k else p.2)) (a, 0)
/-- ADEV entries of a diagonal cell. -/
def Asic.adevEntries (a : Asic) (i n : Nat) : Asic × Nat :=
  let x := fun s => (a.li i).diagHist.lookup s
  a.entries [3, 4, 5, 6, 7] fun a k => a.averaged i i k (adevTerm x (adevTau k).1 (adevTau k).2 n)
/-- TDEV entries of an upper cell. -/
def Asic.tdevEntries (a : Asic) (i j n : Nat) : Asic × Nat :=
  let x := a.pairX i j
  a.entries (List.range 8) fun a k => a.averaged i j k (tdevTerm x (pairTau k).1 (pairTau k).2 n)
/-- MTIE entries of a lower cell. -/
def Asic.mtieEntries (a : Asic) (i j n : Nat) : Asic × Nat :=
  let x := a.pairX j i
  a.entries (List.range 8) fun a k => a.mtieEntry i j k n (mtieTerm x (pairTau k).1 (pairTau k).2 n)
/-- The cells of the two triangles, row-major. -/
def upperCells : List (Nat × Nat) := indices.flatMap fun i => (indices.filter fun j => decide (i < j)).map fun j => (i, j)
def lowerCells : List (Nat × Nat) := indices.flatMap fun i => (indices.filter fun j => decide (j < i)).map fun j => (i, j)
/-- A change of `SEG` discards the segment history (R153). -/
def Asic.checkSegments (a : Asic) : Asic :=
  if a.ldg.seg = a.mtieSeg then a
  else
    let a := lowerCells.foldl (fun a p => (cellKeys p.1 p.2).foldl (fun a k => { a with ldg := { a.ldg with live := a.ldg.live.del k } }) a) a
    { a with ldg := { a.ldg with seg := a.mtieSeg, mtie := [] } }
/-- Restarts of the pass: RESTART, gap runs, `LDG_RST`, the oven handover. -/
def Asic.passRestarts (a : Asic) (s : Nat) : Asic :=
  let a := if a.ldg.restartAll then (a.each indices fun a i => a.restartIndex i).raise 23 255
    else a.each indices fun a i => if a.restartDue i then (a.restartIndex i).raise 23 i else a
  let a := if a.ldg.ovenRestart then ((a.each indices fun a i => a.restartDiagonal i (a.formed i s)).restartIndex 22).raise 23 22 else a
  { a with ldg := { a.ldg with restartAll := false, ovenRestart := false } }
/-- The restarting pass of `EN` = 0 (R153). -/
def Asic.stopEngine (a : Asic) : Asic :=
  if a.ldg.stopped then a
  else
    let a := (a.each indices fun a i => a.restartIndex i).raise 23 255
    { a with ldg := { a.ldg with live := [], before := [], stopped := true, restartAll := false, ovenRestart := false } }
/-- Flip the snapshot banks (R156), and count the passes of `AUTO`. -/
def Asic.snapshotFlip (a : Asic) : Asic :=
  let pend := a.flag Reg.LDG_SNAPST.PEND
  let a := if pend then
      let a := { a with ldg := { a.ldg with shown := a.ldg.live, hidden := a.ldg.shown } }
      let a := ((a.addWrap Reg.LDG_SNAPST.SNAPSEQ 1).put Reg.LDG_SNAPST.PEND 0).putB Reg.LDG_SNAPST.PRIMER a.primer
      let a := (a.putB Reg.LDG_SNAPST.GAP a.ldg.gap).put Reg.LDG_SNAPTIM.TIME (secOf a.ts0)
      a.put2 Reg.LDG_SNAPCCLO.COUNT Reg.LDG_SNAPCCHI.COUNT a.clk.coarse
    else a
  let auto := min 3600 (a.get Reg.LDG_SNAPCTL.AUTO)
  let n := a.ldg.autoPasses + 1
  if auto ≠ 0 ∧ auto ≤ n then { a.put Reg.LDG_SNAPST.PEND 1 with ldg := { a.ldg with autoPasses := 0 } }
  else { a with ldg := { a.ldg with autoPasses := n } }
/-- A pass at the beginning of second `s + 1`. -/
def Asic.runPass (a : Asic) (s : Nat) : Asic :=
  let gaps := indices.filter fun i => a.gapSecond i (a.formed i s)
  let a := a.each indices fun a i => a.countGap i (a.formed i s)
  let due := indices.filter fun i => a.restartDue i || a.ldg.restartAll || (i == 22 && a.ldg.ovenRestart)
  let a := a.passRestarts s
  let a := a.each indices fun a i => (if due.contains i then a else a.keepValue i (a.formed i s)).dropSeconds i (a.formed i s)
  let a := { a.checkSegments with ldg := { a.checkSegments.ldg with gap := gaps ≠ [], stopped := false } }
  let pass := (a.get Reg.LDG_UPD.COUNT + 1) % 2 ^ 32
  let a := a.each indices fun a i => a.writeDiagonal i (a.formed i s)
  let a := { a with ldg := { a.ldg with before := a.ldg.live } }
  let live := indices.filter fun i => (a.li i).start.isSome
  let a := a.each indices fun a i =>
    let (a, w) := if live.contains i then a.adevEntries i (a.formed i s) else (a, 0)
    a.cellRecords i i (7 + w) pass (gaps.contains i)
  let last := fun (a : Asic) (i j : Nat) => min (a.formed i s) (a.formed j s)
  let a := upperCells.foldl (fun a p =>
    if live.contains p.1 && live.contains p.2 then
      let (a, w) := a.tdevEntries p.1 p.2 (last a p.1 p.2)
      a.cellRecords p.1 p.2 w pass (gaps.contains p.1 || gaps.contains p.2)
    else a) a
  let a := lowerCells.foldl (fun a p =>
    if live.contains p.1 && live.contains p.2 then
      let (a, w) := a.mtieEntries p.1 p.2 (last a p.1 p.2)
      a.cellRecords p.1 p.2 w pass (gaps.contains p.1 || gaps.contains p.2)
    else a) a
  let a := { a.put Reg.LDG_UPD.COUNT pass with ldg := { a.ldg with mint := a.minTerm } }
  let valid := indices.foldl (fun m i => if (a.ldg.live.get (cellKey i i 1)).isSome then m + 2 ^ i else m) 0
  (a.put Reg.LDG_SUM.FVALID valid).snapshotFlip
/-- LEDGER_PASS: none in fallback (R152), none before the first second has ended. -/
def Asic.ledgerPass (a : Asic) : Asic :=
  if a.fallback || decide (a.clk.coarse < second) then a
  else if !a.flag Reg.LDG_CFG.EN then a.stopEngine
  else a.runPass (a.clk.coarse / second - 1)

/-! ### Commands -/

/-- `LDG_SNAPCTL.TAKE`. -/
def Asic.snapshotTake (a : Asic) : Asic := a.put Reg.LDG_SNAPST.PEND 1
/-- `LDG_RST.GO` (R144, R161). -/
def Asic.ledgerRst (a : Asic) : Ruled :=
  let i := a.get Reg.LDG_RST.INDEX
  if a.flag Reg.LDG_RST.ALL then ok { a with ldg := { a.ldg with restartAll := true } }
  else if 23 < i then rej a
  else ok (a.modLdgIdx i fun l => { l with restart := true })

end Sys2Proof.Machine
end

