-- ==== Sys2Proof/Machine/Ovens.lean ====
section
/-! DEFINITION. Oven oscillators, the holdover model, cross-check, faults and oven handover (chapter 7). -/

namespace Sys2Proof.Machine

def Asic.oven (a : Asic) (o : Nat) : Oven := a.ovn.oven.get o
def Asic.modOven (a : Asic) (o : Nat) (f : Oven → Oven) : Asic := { a with ovn := { a.ovn with oven := a.ovn.oven.set o (f (a.oven o)) } }
def Asic.inactiveOven (a : Asic) : Nat := 1 - a.activeOven
def Asic.oscOk (a : Asic) (o : Nat) : Bool := a.flag (Reg.CAL_OVSTS.OSC o)
def Asic.ovenWarm (a : Asic) (o : Nat) : Bool := a.flag (Reg.CAL_OVSTS.WARM o)
def Asic.ovenFaulty (a : Asic) (o : Nat) : Bool := a.flag (Reg.CAL_OVSTS.FAULT o)
/-- `FE36` is asserted while neither oven oscillates (R201). -/
def Asic.noOvenRefresh (a : Asic) : Asic := a.level 36 0 0 (!a.oscOk 0 && !a.oscOk 1)

/-! ### Handover requests (R201, R204) -/

/-- A handover is deferred (R204, R233). -/
def Asic.ovenHoBarred (a : Asic) : Bool :=
  a.fallback || a.dpl.mig.isSome || a.flag Reg.APL_HOPSTAT.BUSY || (match a.ref.ho with | some h => h.idx == 22 | none => false)
/-- Start a planned handover, or defer it. -/
def Asic.requestOvenHo (a : Asic) : Asic :=
  if a.flag Reg.CAL_OVSTAT.HOBUSY then a
  else if a.ovenHoBarred then { a with ovn := { a.ovn with hoWait := true } }
  else { a.put Reg.CAL_OVSTAT.HOBUSY 1 with ovn := { a.ovn with hoWait := false, hoReq := some a.clk.coarse, emerg := false } }
/-- A deferred handover starts once nothing bars it. -/
def Asic.resumeOvenHo (a : Asic) : Asic := if a.ovn.hoWait && !a.ovenHoBarred then a.requestOvenHo else a
/-- `CAL_OVHO.GO`. -/
def Asic.ovenHoGo (a : Asic) : Ruled :=
  let o := a.inactiveOven
  if a.flag Reg.CAL_OVSTAT.HOBUSY || !a.ovenWarm o || a.ovenFaulty o then rej (a.event Reg.CAL_OVEVT.HOREJ) else ok a.requestOvenHo
/-- The inactive oven may take over automatically (R201). -/
def Asic.ovenSpare (a : Asic) : Bool :=
  let o := a.inactiveOven
  a.oscOk o && !a.ovenFaulty o && !a.flag (Reg.CAL_OVSTS.RETIRED o)
/-- The block action of `FE35` and of `FE5`: an automatic planned handover from a faulted active oven; it is retried when
the inactive oven sets WARM. -/
def Asic.ovenAutoHo (a : Asic) : Asic :=
  if !a.ovenFaulty a.activeOven || !a.ovenSpare || hasBit (a.oven a.activeOven).causes 1 then a
  else if a.ovenWarm a.inactiveOven then { a with ovn := { a.ovn with autoWait := false } }.requestOvenHo
  else { a with ovn := { a.ovn with autoWait := true } }

/-! ### Faults (R200, R201, R205) -/

/-- An OSC fault of the active oven: both loops hold, every lane is invalid, records carry DEGRADED (R205). -/
def Asic.activeOscLost (a : Asic) : Asic :=
  let a := a.invalidateLanes
  { a with ovn := { a.ovn with oscLost := true }, clk := { a.clk with degradedUntil := max a.clk.degradedUntil (a.clk.now + 200 * usec) } }
/-- A cause is detected: 1 OSC, 2 HEAT, 3 TEMP, 4 BLAME. -/
def Asic.ovenFaultNow (a : Asic) (o cause : Nat) : Asic :=
  let a := a.modOven o fun x => { x with causes := setBit x.causes cause, clearSince := a.clk.now }
  let a := ((a.put (Reg.CAL_OVSTS.FAULT o) 1).put (Reg.CAL_OVSTS.FCAUSE o) cause).levelOn 35 o (o + 256 * cause)
  if cause = 1 then
    let a := a.put (Reg.CAL_OVSTS.OSC o) 0
    let a := a.modOven o fun x => { x with warmSince := none }
    (if o = a.activeOven then a.activeOscLost else a).noOvenRefresh
  else a
/-- WARM has been lost for 60 s (cause TEMP). -/
def Asic.tempLost (a : Asic) (o : Nat) : Bool :=
  match (a.oven o).lostAt with
  | some t => decide (t + 60 * second ≤ a.clk.now)
  | none => false
def Asic.xcnt (a : Asic) : Nat := max 1 (a.get Reg.CAL_OVXCHK.XCNT)
/-- OVEN_FAULT: OSC and HEAT are what the command reports; TEMP and BLAME hold only as the state shows them. -/
def Asic.ovenFault (a : Asic) (o cause : Nat) : Asic :=
  match cause with
  | 1 => a.ovenFaultNow o 1
  | 2 => a.ovenFaultNow o 2
  | 3 => if a.tempLost o then a.ovenFaultNow o 3 else a
  | 4 => if a.xcnt ≤ (a.oven o).blame then a.ovenFaultNow o 4 else a
  | _ => a
/-- OVEN_FAULT_CLEAR: every cause has been absent for 60 s. -/
def Asic.ovenFaultClear (a : Asic) (o : Nat) : Asic :=
  let x := a.oven o
  if !a.ovenFaulty o || (hasBit x.causes 1 && !a.oscOk o) || a.tempLost o || decide (a.xcnt ≤ x.blame)
      || decide (a.clk.now < x.clearSince + 60 * second) then a
  else (((a.modOven o fun x => { x with causes := 0 }).put (Reg.CAL_OVSTS.FAULT o) 0).put (Reg.CAL_OVSTS.FCAUSE o) 0).levelOff 35 o

/-! ### WARM (R192, R193) -/

/-- `ADMIT` is set by the active oven's WARM (R50). -/
def Asic.admitByWarm (a : Asic) : Asic :=
  if a.warm then { a.put Reg.GLB_MODE.ADMIT 1 with modes := { a.modes with warmSeen := true, admitWhy := if a.flag Reg.GLB_MODE.ADMIT then a.modes.admitWhy else 2 } } else a
/-- OVEN_TEMPERATURE_SAMPLE: inner and outer error in mK, heater draw in mW, oscillation. -/
def Asic.ovenTemperature (a : Asic) (o inner outer power : Nat) (osc : Bool) : Asic :=
  let i := (signed 16 inner).natAbs
  let back := osc && !a.oscOk o
  let a := ((a.put (Reg.CAL_OVTEMP.INNER o) inner).put (Reg.CAL_OVTEMP.OUTER o) outer).put (Reg.CAL_OVPWR.PWR o) power
  let a := (a.putB (Reg.CAL_OVSTS.OSC o) osc).noOvenRefresh
  let good := decide (i ≤ 20) && decide ((signed 16 outer).natAbs ≤ 100) && osc
  let a := a.modOven o fun x => { x with
    warmSince := if good then some (x.warmSince.getD a.clk.now) else none
    coldSince := if 200 < i then some (x.coldSince.getD a.clk.now) else none
    clearSince := if back then a.clk.now else x.clearSince }
  let x := a.oven o
  let held := match x.warmSince with | some t => decide (t + 120 * second ≤ a.clk.now) | none => false
  let a :=
    if !a.ovenWarm o && held && decide (a.modes.t0 + 180 * second ≤ a.clk.now) then
      let a := ((a.put (Reg.CAL_OVSTS.WARM o) 1).event Reg.CAL_OVEVT.WARMCHG).put (Reg.CAL_OVPWR.WARMT o) (min 65535 (a.elapsed a.modes.t0 / second))
      let a := a.modOven o fun x => { x with lostAt := none, clearSince := a.clk.now }
      if o = a.activeOven then a.admitByWarm else if a.ovn.autoWait && a.flag Reg.CAL_OVHO.AUTO then a.ovenAutoHo else a
    else if a.ovenWarm o && (match x.coldSince with | some t => decide (t + 10 * second ≤ a.clk.now) | none => false) then
      ((a.put (Reg.CAL_OVSTS.WARM o) 0).event Reg.CAL_OVEVT.WARMCHG).modOven o fun x => { x with lostAt := some a.clk.now, warmSince := none }
    else a
  if a.tempLost o && !hasBit (a.oven o).causes 3 then a.ovenFaultNow o 3 else a

/-! ### The model (R194–R197) -/

/-- BOARD_TEMP_SAMPLE. -/
def Asic.boardTemp (a : Asic) (t : Nat) : Asic :=
  { a.put Reg.CAL_OVBTEMP.TEMP t with ovn := { a.ovn with temps := (signed 16 t :: a.ovn.temps).take 100 } }
/-- m(t) of R194 at `TS0` second `t`, dimensionless. -/
def Fit.m (f : Fit) (t : Int) (theta : Rat) : Rat := f.c0 + f.c1 * ((t - f.tf : Int) : Rat) / 86400 + f.k1 * (theta - f.thetaF) / 256
/-- Take coefficients into use and show them. -/
def Asic.useFit (a : Asic) (o : Nat) (f : Fit) : Asic :=
  let a := a.modOven o fun x => { x with use := f, pending := none }
  ((a.put (Reg.CAL_OVC0.C0 o) (ratToF32 f.c0).1.toNat).put (Reg.CAL_OVC1.C1 o) (ratToF32 f.c1).1.toNat).put (Reg.CAL_OVK1.K1 o) (ratToF32 f.k1).1.toNat
/-- An accepted fit that waited takes effect. -/
def Asic.takeFit (a : Asic) (o : Nat) : Asic :=
  match (a.oven o).pending with
  | some f => (a.useFit o f).put (Reg.CAL_OVSTS.MSTAT o) 2
  | none => a
/-- The hour's conditions on the training channel hold now (R195). -/
def Asic.trainOk (a : Asic) : Bool :=
  let c := a.get Reg.CAL_OVMCFG.TRAIN
  a.lockedToTime c && !a.flag (Reg.DPL_STATE.FROZEN c) && !a.flag (Reg.DPL_STATE.CLAMP c)
/-- OVEN_MODEL_EVALUATE at a `TS0` second boundary. -/
def Asic.ovenEvaluate (a : Asic) : Asic :=
  let a := (a.takeFit 0).takeFit 1
  let th := a.theta
  let sec : Int := secOf a.ts0
  let a := a.each [0, 1] fun a o => a.put2S (Reg.CAL_OVMLO.M o) (Reg.CAL_OVMHI.M o) (satS 48 (roundRat ((a.oven o).use.m sec th * 2 ^ 60)))
  let y22 := a.diag 22 1
  let v := a.ovn
  { a with ovn := { v with
      tempHist := ((a.clk.coarse, th) :: v.tempHist).take 100000
      hourT := v.hourT + th, hourNT := v.hourNT + 1
      hourY22 := v.hourY22 + y22.getD 0, hourN22 := v.hourN22 + 1
      hourOk := v.hourOk && a.trainOk, hourOk22 := v.hourOk22 && y22.isSome
      hourCold := [0, 1].foldl (fun (w : Tab Bool) o => if a.ovenWarm o then w else w.set o true) v.hourCold } }
/-- A least-squares fit over points (p, θ, t), with the sum of squared residuals. -/
def fitPoints (pts : List OvenPoint) (tf : Int) : Fit × Rat :=
  let n := pts.length
  let thf := pts.foldl (fun s p => s + p.temp) (0 : Rat) / ((n : Nat) : Rat)
  let q := pts.map fun p => (p.p, (((p.time : Int) - tf : Int) : Rat) / 86400, (p.temp - thf) / 256)
  let sum := fun (f : Rat × Rat × Rat → Rat) => q.foldl (fun s x => s + f x) (0 : Rat)
  let c := (solve3 (n : Nat) (sum fun x => x.2.1) (sum fun x => x.2.2) (sum fun x => x.2.1 * x.2.1) (sum fun x => x.2.1 * x.2.2)
    (sum fun x => x.2.2 * x.2.2) (sum fun x => x.1) (sum fun x => x.1 * x.2.1) (sum fun x => x.1 * x.2.2)).getD (Config.singularFit q)
  ({ c0 := c.1, c1 := c.2.1, k1 := c.2.2, tf, thetaF := thf },
    sum fun x => (x.1 - c.1 - c.2.1 * x.2.1 - c.2.2 * x.2.2) ^ 2)
/-- Fit the model of an oven after its point closed at second `t` (R196). -/
def Asic.fitOven (a : Asic) (o t : Nat) : Asic :=
  let win := max 24 (min 336 (a.get Reg.CAL_OVMCFG.FITWIN))
  let pts := ((a.oven o).points.take win).filter OvenPoint.valid
  let a := a.put (Reg.CAL_OVFIT.POINTS o) pts.length
  if pts.length < 24 then a
  else
    let (f, ss) := fitPoints pts t
    let a := a.put (Reg.CAL_OVRES.RES o) (sqrtF32 (ss / ((pts.length : Nat) : Rat))).1.toNat
    let bad := decide ((1 : Rat) / 10 ^ 9 < absRat f.c1) || decide ((2 : Rat) / 10 ^ 11 < absRat f.k1)
      || decide (((2 : Rat) / 10 ^ 11) ^ 2 * (pts.length : Nat) < ss)
    if bad then (a.event Reg.CAL_OVEVT.FITREJ).raise 39 (8 + 256 * o)
    else ((a.modOven o fun x => { x with fit := some f, pending := some f }).addWrap (Reg.CAL_OVFIT.FITS o) 1).put (Reg.CAL_OVFITT.TIME o) t
/-- A valid point moves c0 of an oven without a fit in force (R197). -/
def Asic.learn (a : Asic) (o : Nat) (p : OvenPoint) : Asic :=
  let st := a.get (Reg.CAL_OVSTS.MSTAT o)
  if !p.valid ∨ st = 2 then a
  else if st = 3 then a.useFit o { (a.oven o).use with c0 := p.p, tf := p.time, thetaF := p.temp }
  else (a.put (Reg.CAL_OVSTS.MSTAT o) 1).useFit o { c0 := p.p, c1 := 0, k1 := 0, tf := p.time, thetaF := p.temp }
/-- OVEN_HOURLY_POINT: close one point per oven (R195), fit, and open the next hour. -/
def Asic.ovenHour (a : Asic) : Asic :=
  let c := a.get Reg.CAL_OVMCFG.TRAIN
  let a := a.settleChan c
  let v := a.ovn
  let span := max 1 (a.clk.coarse - v.hourFrom)
  let ph : Rat := -(((a.chan c).total - v.hourY : Int) : Rat) / ((span : Nat) * 2 ^ 60)
  let okAll := v.hourOk && a.trainOk && !a.fallbackIn v.hourFrom a.clk.coarse && v.hourNT != 0
  let t := secOf a.ts0
  let th := if v.hourNT = 0 then a.theta else v.hourT / (v.hourNT : Nat)
  let y22 := if v.hourN22 = 0 then 0 else v.hourY22 / (v.hourN22 : Nat)
  let a := a.each [0, 1] fun a o =>
    let p : OvenPoint := { p := if o = a.activeOven then ph else ph + y22, temp := th, time := t
                           valid := okAll && !v.hourCold.get o && (o == a.activeOven || v.hourOk22) }
    let a := a.modOven o fun x => { x with points := (p :: x.points).take 336 }
    if a.flag Reg.CAL_OVMCFG.EN then (a.learn o p).fitOven o t else a
  { a with ovn := { a.ovn with
      hourFrom := a.clk.coarse, hourY := (a.chan c).total, hourY22 := 0, hourN22 := 0, hourT := 0, hourNT := 0, hourOk := true,
      hourOk22 := true, hourCold := [] } }
/-- Commit each oven's last accepted fit (R197). -/
def Asic.commitModels (a : Asic) : Asic := a.each [0, 1] fun a o => if (a.oven o).fit.isSome then a.askCommit (.model o) else a
/-- OVEN_MODEL_COMMIT. -/
def Asic.ovenModelCommit (a : Asic) : Asic := { a.commitModels with ovn := { a.ovn with committed := a.clk.now } }

/-! ### Cross-check (R198, R199) -/

/-- Extend or break a run. -/
def runOf (hit : Bool) (n : Nat) : Nat := if hit then n + 1 else 0
/-- The cross-check of one Umpire evaluation. -/
def Asic.crossCheck (a : Asic) : Asic :=
  let act := a.activeOven
  let ina := a.inactiveOven
  let ready := a.flag Reg.CAL_OVXCHK.EN && a.ovenWarm 0 && a.ovenWarm 1 && decide (2 ≤ a.get (Reg.CAL_OVSTS.MSTAT 0))
    && decide (2 ≤ a.get (Reg.CAL_OVSTS.MSTAT 1))
  if !ready then
    let a := (a.modOven 0 fun x => { x with blame := 0 }).modOven 1 fun x => { x with blame := 0 }
    { a with ovn := { a.ovn with disOver := 0, disUnder := 0 } }
  else
    let lim : Rat := (a.get Reg.CAL_OVXCHK.LIM : Rat) / 2 ^ 44
    let m := fun o => (a.ovenM o : Rat) / 2 ^ 60
    let y22 := a.diag 22 1
    let yc : Option Rat := if a.consValid then some ((a.get2S Reg.UMP_CONSLO.FREQ Reg.UMP_CONSHI.FREQ : Rat) / 2 ^ 60) else none
    let dAct := yc.map fun y => absRat (-y - m act)
    let dIna := match yc, y22 with
      | some y, some z => some (absRat (z - y - m ina))
      | _, _ => none
    let far := fun (x : Option Rat) => match x with | some d => decide (lim < d) | none => false
    let near := fun (x : Option Rat) => match x with | some d => decide (d ≤ lim / 2) | none => false
    let a := a.modOven act fun x => { x with blame := runOf (far dAct && near dIna) x.blame, clearSince := if x.blame = 0 then x.clearSince else a.clk.now }
    let a := a.modOven ina fun x => { x with blame := runOf (far dIna && near dAct) x.blame, clearSince := if x.blame = 0 then x.clearSince else a.clk.now }
    let n := a.xcnt
    let dAB := y22.map fun z => absRat (z - (m ina - m act))
    let a := { a with ovn := { a.ovn with
      disOver := runOf (far dAB) a.ovn.disOver
      disUnder := runOf (match dAB with | some d => decide (d < lim / 2) | none => false) a.ovn.disUnder } }
    let blamed := if n ≤ (a.oven act).blame then act else if n ≤ (a.oven ina).blame then ina else 255
    let a := if !a.flag Reg.CAL_OVSTAT.DISAGREE && decide (n ≤ a.ovn.disOver) then
        ((a.put Reg.CAL_OVSTAT.DISAGREE 1).event Reg.CAL_OVEVT.XCHK).levelOn 37 0 blamed
      else if a.flag Reg.CAL_OVSTAT.DISAGREE && decide (n ≤ a.ovn.disUnder) then (a.put Reg.CAL_OVSTAT.DISAGREE 0).levelOff 37 0
      else a
    if blamed = 255 ∨ hasBit (a.oven blamed).causes 4 then a else a.ovenFaultNow blamed 4
/-- UMPIRE_EVALUATION with the ovens' cross-check. -/
def Asic.umpireEvaluation (a : Asic) : Asic := if a.fallback then a else a.evaluate.crossCheck

/-! ### The handover itself (R203–R206) -/

/-- The line of index 22 at `t`: phase in PQ and y₂₂ in 2⁻⁶⁰; none without two samples. -/
def Asic.line22 (a : Asic) (t : Nat) : Option (Rat × Int) :=
  (lineAt (recentSamples t (2 ^ 17) a.ovn.fit22) t).map fun r => (r.1, roundRat (-r.2 * 10 * 2 ^ 60 / 524288))
/-- The step left by the SYSPLL preset in 1.5625 ps (102.4 PQ) steps, PQ (R203). -/
def presetResidual (phi : Rat) : Int := roundRat (phi - 512 / 5 * (roundRat (phi * 5 / 512) : Rat))
/-- Part 2 of R203: subtract y₂₂ from every word held relative to the active oven. -/
def Asic.adjustWords (a : Asic) (y : Int) : Asic :=
  let a := a.each channels fun a c =>
    let a := a.settleChan c
    let free := a.chanState c == 0
    let a := a.modChan c fun d => { d with
      integ := if free then d.integ else d.integ - y
      ck := { d.ck with integ := d.ck.integ - y }
      hist := d.hist.map fun h => { h with mean := h.mean - y }
      openSum := match d.open_ with | some t => d.openSum - y * ((a.clk.coarse : Int) - t) | none => d.openSum }
    let a := a.put2S (Reg.DPL_HOFLO.FREQ c) (Reg.DPL_HOFHI.FREQ c) (satS 48 (a.get2S (Reg.DPL_HOFLO.FREQ c) (Reg.DPL_HOFHI.FREQ c) - y))
    if free then a else a.setY c (a.chanY c - y)
  a.each [0, 1, 2, 3] fun a k =>
    if a.flag (Reg.TSC_CFG.FOLLOW k) then a else (a.setScale k { a.scale k with integ := (a.scale k).integ - y }).refreshRate k
/-- Part 3: `ACTIVE` flips, the relieved oven retires (R39), index 22 changes its source (R83, R28). -/
def Asic.flipOven (a : Asic) (emerg : Bool) : Asic :=
  let old := a.activeOven
  let new := a.inactiveOven
  let back := a.flag (Reg.CAL_OVSTS.RETIRED new)
  let a := ((a.put Reg.CAL_OVSTAT.ACTIVE new).put (Reg.CAL_OVSTS.RETIRED new) 0).putB (Reg.CAL_OVSTS.RETIRED old) !back
  let lane := a.laneOf 22
  let a := if emerg && !a.parityFree 1 22 then { a with deferred := a.deferred ++ [.epoch22 lane old] } else a.changeEpoch 0 1 22 lane lane 2 old
  let a := { a with ldg := { a.ldg with ovenRestart := true }, ovn := { a.ovn with fit22 := [], hourOk := false, hoReq := none } }
  a.admitByWarm
/-- Switch the oven select at Ts or Te. -/
def Asic.switchOven (a : Asic) (emerg : Bool) : Asic :=
  let (y, step) := match a.line22 a.clk.coarse with
    | some (phi, y) => (y, presetResidual phi)
    | none => (Config.unfittedY22, Config.unfittedStep)
  let sec := secOf a.ts0
  let a := (a.adjustWords y).flipOven emerg
  { a with ovn := { a.ovn with hoAt := some a.clk.coarse, emerg, hoStep := step, hoSec := sec, oscLost := a.ovn.oscLost && !emerg } }
/-- OVEN_HANDOVER_SWITCH: due after the first `TS0` second boundary at or after t0 + 100 ms. -/
def Asic.ovenHoSwitch (a : Asic) : Asic :=
  match a.ovn.hoReq with
  | none => a
  | some t0 =>
    let t := t0 + 100 * msec
    let ready := decide (t ≤ a.clk.coarse) && decide (secOf (a.scaleAt 0 (t * uPerCycle - 1)) < secOf a.ts0)
    if a.ovn.hoAt.isSome || !ready || a.fallback || !a.parityFree 1 22 then a else a.switchOven false
/-- OVEN_EMERGENCY_HANDOVER at Te. -/
def Asic.ovenEmergency (a : Asic) : Asic :=
  if !a.ovn.oscLost || !a.ovenSpare then a
  else
    let a := (a.put Reg.CAL_OVSTAT.HOBUSY 1).switchOven true
    { a with clk := { a.clk with degradedUntil := a.clk.now + 200 * usec } }
/-- OVEN_HANDOVER_SETTLED at 200 µs after the switch. -/
def Asic.ovenSettled (a : Asic) : Asic :=
  match a.ovn.hoAt with
  | none => a
  | some t =>
    if a.clk.coarse < t + 200 * usec then a
    else
      let a := (a.put Reg.CAL_OVSTAT.HOBUSY 0).event Reg.CAL_OVEVT.HOD
      let a := if a.ovn.emerg then a.event Reg.CAL_OVEVT.EMERG else a
      let a := (a.putS Reg.CAL_OVHOSTEP.STEP a.ovn.hoStep).put Reg.CAL_OVHOTIM.TIME a.ovn.hoSec
      let a := (a.raise 38 (a.activeOven + 256 * bit a.ovn.emerg)).askCommit .placement
      let a := { a.commitModels with ovn := { a.ovn with hoAt := none, hoReq := none } }
      (a.resumeLaneHo).resumeMigration

/-- The withheld epoch change of index 22 (R28). -/
def Asic.applyEpoch22 (a : Asic) : Asic :=
  a.deferred.foldl (fun a d => match d with
    | .epoch22 lane src =>
      if a.parityFree 1 22 then { a with deferred := a.deferred.filter (· != d) }.changeEpoch 0 1 22 lane lane 2 src else a
    | _ => a) a

end Sys2Proof.Machine
end

