-- ==== Sys2Proof/Machine/Outputs.lean ====
section
/-! DEFINITION. Clock, sampler and pulse outputs (chapter 9), with the running set of the APLLs (R218, R220) they divide. -/

namespace Sys2Proof.Machine

/-! ### Plans (R218, R235) -/

/-- What a plan word reads as at reset: `BW` 3, or 4 for slot 6. -/
def planWordReset (k : Nat) : Word :=
  let w := k % 64
  if 9 ≤ w ∧ w ≤ 33 ∧ w % 4 = 1 then BitVec.ofNat 32 ((if w = 33 then 4 else 3) <<< 23) else 0
/-- A word of the running set. -/
def Asic.runWord (a : Asic) (w : Nat) : Word := a.apl.running.getF planWordReset w
/-- One APLL record (R218): MI, MF, P code, core, source channel, bandwidth code. -/
structure AplRec where
  mi : Nat
  mf : Nat
  p : Nat
  core : Nat
  src : Nat
  bw : Nat
  deriving DecidableEq, Repr
/-- The record of slot `s` in a plan, from its words. -/
def recordOf (word : Nat → Word) (s : Nat) : AplRec :=
  let w1 := word (9 + 4 * s)
  { mi := wordBits w1 8 8, mf := (word (8 + 4 * s)).toNat + 2 ^ 32 * wordBits w1 0 8, p := wordBits w1 16 3, core := wordBits w1 19 1,
    src := wordBits w1 20 3, bw := wordBits w1 23 4 }
def enabledIn (word : Nat → Word) (s : Nat) : Bool := hasBit (word 0).toNat s
/-- Phase-detector rate of a function, Hz (R209). -/
def pdRate (s : Nat) : Nat := if s < 6 then 100000000 else 200000000
/-- f_VCO at y = 0, Hz (R210). -/
def AplRec.vco (r : AplRec) (s : Nat) : Rat := (pdRate s : Nat) * ((r.mi : Rat) + (r.mf : Rat) / 2 ^ 40)
/-- f_A: the VCO divided by P. -/
def AplRec.fA (r : AplRec) (s : Nat) : Rat := r.vco s / ((2 ^ r.p : Nat) : Rat)
def Asic.runRec (a : Asic) (s : Nat) : AplRec := recordOf a.runWord s
def Asic.runEn (a : Asic) (s : Nat) : Bool := decide (s < 7) && enabledIn a.runWord s

/-! ### Outputs -/

def Asic.o (a : Asic) (o : Nat) : Out := a.out.out.get o
def Asic.modO (a : Asic) (o : Nat) (f : Out → Out) : Asic := { a with out := { a.out with out := a.out.out.set o (f (a.o o)) } }
def clockOuts : List Nat := List.range 24
/-- The APLL function an output takes its clock from (R237). -/
def Asic.outFn (a : Asic) (o : Nat) : Nat := if o < 20 then a.get (Reg.OUT_CFG.SRC o) else 6
/-- The clock outputs of a function. -/
def Asic.outsOf (a : Asic) (s : Nat) : List Nat := clockOuts.filter fun o => a.outFn o == s
/-- Nominal frequency of an output, Hz. -/
def Asic.outFreq (a : Asic) (o : Nat) : Rat := (a.runRec (a.outFn o)).fA (a.outFn o) / (((a.runWord (40 + o)).toNat + 1 : Nat) : Rat)
/-- Highest frequency of a format, Hz (R238). -/
def fmtMax (fmt o : Nat) : Nat :=
  match fmt with
  | 0 => 1600000000
  | 1 => 500000000
  | 2 => if o < 20 then 3200000000 else 16000000000
  | 3 => 3200000000
  | 4 => 250000000
  | _ => 200000000
/-- A configuration error of a clock output (R239). -/
def Asic.outCfgErr (a : Asic) (o : Nat) : Bool :=
  let fmt := a.get (Reg.OUT_CFG.FMT o)
  decide (6 ≤ fmt) || (o < 20 && decide (6 ≤ a.outFn o)) || (20 ≤ o && fmt != 2)
    || (a.runEn (a.outFn o) && decide (((fmtMax fmt o : Nat) : Rat) < a.outFreq o))
/-- The device mode lets outputs run (R56, R240). -/
def Asic.modeRuns (a : Asic) : Bool := a.mode == 2 || a.mode == 3 || a.mode == 4 || a.mode == 7
/-- The unit that carries a function (R213). -/
def Asic.carrier (a : Asic) (s : Nat) : Nat := a.get (Reg.APL_ASTAT.UNIT s)
def Asic.au (a : Asic) (u : Nat) : AplUnit := a.apl.unit.get u
/-- Lock of the function is declared and not lost. -/
def Asic.fnLocked (a : Asic) (s : Nat) : Bool := (a.au (a.carrier s)).phase == 3 && !a.flag (Reg.APL_ASTAT.LOL s)
/-- R240: the conditions under which an output runs. -/
def Asic.outMayRun (a : Asic) (o : Nat) : Bool :=
  let s := a.outFn o
  hasBit (a.get Reg.OUT_ENA.CLK) o && a.modeRuns && a.runEn s && a.fnLocked s && !a.apl.hopWait.contains s
    && !(a.apl.subs.any fun p => p.1 == s) && !a.outCfgErr o
/-- Units of calibration item 5 (R466). -/
def skewKey (o : Nat) : Nat := 5 * 64 + o
/-- Apply the calibrated skew (R249). -/
def Asic.applySkew (a : Asic) (o : Nat) : Asic :=
  let v := roundDiv (a.cal.v.get (skewKey o)) 256
  { (a.putS (Reg.OUT_SKEW.SKEW o) v).put (Reg.OUT_STAT.SKEWPEND o) 0 with cal := { a.cal with inUse := a.cal.inUse.set (skewKey o) v } }
/-- A new skew of an output: at once while squelched, else it waits (R249); a pulse or trigger output takes it before its
next edge is scheduled. -/
def Asic.newSkew (a : Asic) (o : Nat) : Asic :=
  if 24 ≤ o then { a with cal := { a.cal with inUse := a.cal.inUse.set (skewKey o) (roundDiv (a.cal.v.get (skewKey o)) 256) } }
  else if roundDiv (a.cal.v.get (skewKey o)) 256 = a.cal.inUse.get (skewKey o) then a.put (Reg.OUT_STAT.SKEWPEND o) 0
  else if a.flag (Reg.OUT_STAT.RUN o) then a.put (Reg.OUT_STAT.SKEWPEND o) 1
  else a.applySkew o

/-! ### Skim (R248) -/

/-- Output periods since a coarse time, at most as many as have ended. -/
def Asic.periodsSince (a : Asic) (o t : Nat) : Nat :=
  (((a.clk.coarse - t : Nat) : Rat) * 4 / 5 / 1000000000 * a.outFreq o).floor.toNat
/-- S now: it moves toward the target by at most 2^RATE steps per output period. -/
def Asic.skimNow (a : Asic) (o : Nat) : Int :=
  let target := a.getS (Reg.OUT_SKIM.TARGET o)
  match (a.o o).skimFrom with
  | none => a.getS (Reg.OUT_SKIMCUR.S o)
  | some (s, t) =>
    let n : Int := 2 ^ min 20 (a.get (Reg.OUT_SKIMCFG.RATE o)) * a.periodsSince o t
    if s ≤ target then min target (s + n) else max target (s - n)
/-- S reaches the target. -/
def Asic.skimDone (a : Asic) (o : Nat) : Asic :=
  ((a.putS (Reg.OUT_SKIMCUR.S o) (a.getS (Reg.OUT_SKIM.TARGET o))).modO o fun x => { x with skimFrom := none }).event (Reg.OUT_STAT.SKIMD o)
/-- The target was written: `old` is the state before. -/
def Asic.skimWritten (old a : Asic) (o : Nat) : Asic :=
  let s := old.skimNow o
  if s = a.getS (Reg.OUT_SKIM.TARGET o) then (a.putS (Reg.OUT_SKIMCUR.S o) s).modO o fun x => { x with skimFrom := none }
  else if !a.flag (Reg.OUT_STAT.RUN o) then a.skimDone o
  else (a.putS (Reg.OUT_SKIMCUR.S o) s).modO o fun x => { x with skimFrom := some (s, a.clk.coarse) }
/-- A change of `RATE` continues from the current S. -/
def Asic.skimRate (old a : Asic) (o : Nat) : Asic :=
  if (a.o o).skimFrom.isSome then (a.putS (Reg.OUT_SKIMCUR.S o) (old.skimNow o)).modO o fun x => { x with skimFrom := some (old.skimNow o, a.clk.coarse) } else a
/-- SKIM_TARGET_REACHED. -/
def Asic.skimReached (a : Asic) (o : Nat) : Asic :=
  if (a.o o).skimFrom.isSome && a.skimNow o == a.getS (Reg.OUT_SKIM.TARGET o) then a.skimDone o else a

/-! ### Squelch and sync (R241, R243, R245, R246) -/

/-- Squelch a clock output: orderly, or forced (R241). While squelched, S takes its target and a waiting skew applies. -/
def Asic.squelchOut (a : Asic) (o : Nat) (forced : Bool) : Asic :=
  if !a.flag (Reg.OUT_STAT.RUN o) then (if (a.o o).pin = .low then a.modO o fun x => { x with pin := .safe } else a)
  else
    let a := ((a.put (Reg.OUT_STAT.RUN o) 0).put (Reg.OUT_STAT.SQUELCH o) 1).putB (Reg.OUT_STAT.FORCED o) forced
    let a := (a.event (Reg.OUT_STAT.SQD o)).modO o fun x => { x with pin := if forced then .held else .safe }
    let a := if (a.o o).skimFrom.isSome then a.skimDone o else a
    if a.flag (Reg.OUT_STAT.SKEWPEND o) then a.applySkew o else a
/-- Hold a running output low (R226). -/
def Asic.holdOut (a : Asic) (o : Nat) : Asic :=
  if a.flag (Reg.OUT_STAT.RUN o) then (a.put (Reg.OUT_STAT.RUN o) 0).modO o fun x => { x with pin := .low } else a
/-- Squelch a list of outputs. -/
def Asic.squelchAll (a : Asic) (l : List Nat) (forced : Bool) : Asic := a.each l fun a o => a.squelchOut o forced
/-- Request an internal sync of an output, not before coarse time `t`; requests merge. -/
def Asic.requestSync (a : Asic) (t o : Nat) : Asic := a.modO o fun x => { x with syncAt := some (match x.syncAt with | some s => max s t | none => t) }
/-- Anchoring applies: `ANCH`, and f_o × `PSEC` an integer (R245). -/
def Asic.anchored' (a : Asic) (o : Nat) : Bool :=
  a.flag (Reg.OUT_CFG.ANCH o) && (a.outFreq o * ((max 1 (a.get (Reg.OUT_CFG.PSEC o)) : Nat) : Rat)).den == 1
/-- Place the divider on its grid at tick boundary now (R246); the guard stretched a period or not (R250). -/
def Asic.placeDivider (a : Asic) (o : Nat) (stretched : Bool) : Asic :=
  let a := (a.applySkew o).modO o fun x => { x with
    pin := .clock, gridAt := a.clk.coarse, gridSyncL := false, div := (a.runWord (40 + o)).toNat }
  let a := ((a.put (Reg.OUT_STAT.RUN o) 1).put (Reg.OUT_STAT.SQUELCH o) 0).put (Reg.OUT_STAT.FORCED o) 0
  let a := (a.putB (Reg.OUT_STAT.UNANCH o) (!a.anchored' o || a.fallback)).event (Reg.OUT_STAT.SYNCD o)
  if stretched then (a.addSat (Reg.OUT_GCNT.COUNT o) 1).event (Reg.OUT_STAT.GUARDD o) else a
/-- DIVIDER_SYNC: a requested sync that is due; an output that may not run stays squelched. -/
def Asic.dividerSync (a : Asic) (o : Nat) (stretched : Bool) : Asic :=
  match (a.o o).syncAt with
  | none => a
  | some t =>
    if a.clk.coarse < t then a
    else
      let a := a.modO o fun x => { x with syncAt := none }
      if a.outMayRun o then a.placeDivider o stretched else a
/-- Outputs restart at this tick boundary. -/
def Asic.restartOuts (a : Asic) (l : List Nat) : Asic :=
  a.each l fun a o => if a.outMayRun o then (a.modO o fun x => { x with syncAt := none }).placeDivider o false else a.squelchOut o false
/-- Bring `CFGERR` and `NOCLK` up to date and act on a change (R239, R241); `reroute`: `SRC` or `FMT` changed. -/
def Asic.checkOut (a : Asic) (reroute : Bool) (o : Nat) : Asic :=
  let err := a.outCfgErr o
  let was := a.flag (Reg.OUT_STAT.CFGERR o)
  let a := (a.putB (Reg.OUT_STAT.CFGERR o) err).putB (Reg.OUT_STAT.NOCLK o) (!a.runEn (a.outFn o))
  let a := if err || reroute then a.squelchOut o false else a
  if !err && (was || reroute) then a.requestSync (a.clk.coarse + usec) o else a
/-- Every output's check, at a hop (R239). -/
def Asic.checkOuts (a : Asic) : Asic := a.each clockOuts fun a o => a.checkOut false o
/-- A register of output `o` was written; `old` is the state before. -/
def Asic.outWritten (old a : Asic) (o : Nat) : Asic :=
  a.checkOut (old.get (Reg.OUT_CFG.SRC o) != a.get (Reg.OUT_CFG.SRC o) || old.get (Reg.OUT_CFG.FMT o) != a.get (Reg.OUT_CFG.FMT o)) o
/-- SAFE_LEVEL_CHANGE. -/
def Asic.safeLevel (a : Asic) (o : Nat) : Asic := if (a.o o).pin = .held then a.modO o fun x => { x with pin := .safe } else a
/-- `OUT_CMD.SYNC`: the masked outputs at the next tick boundary. -/
def Asic.syncCommand (a : Asic) : Asic :=
  a.each (clockOuts.filter (hasBit (a.get Reg.OUT_SYNCMASK.MASK))) fun a o => a.requestSync a.clk.coarse o
/-- An output takes a `SYNC_L` edge: running, not in a hop, no internal sync in the same tick (R247, R256). -/
def Asic.takesSyncL (a : Asic) (o : Nat) : Bool :=
  hasBit (a.get Reg.OUT_SYNCMASK.MASK) o && a.flag (Reg.OUT_STAT.RUN o) && !a.apl.hopWait.contains (a.outFn o)
    && (a.o o).syncAt.isNone && ((a.o o).gridAt / 12500 != a.clk.coarse / 12500 || (a.o o).gridSyncL)
/-- SYNC_L_EDGE: a falling edge after at least 5 ns of high level. -/
def Asic.syncLEdge (a : Asic) : Asic :=
  if !a.flag Reg.OUT_SYNCCFG.EN then a
  else if a.fallback || (match a.out.syncLAt with | some t => decide (a.clk.coarse < t + usec) | none => false) then
    (a.event Reg.OUT_SYNCSTAT.IGNORED).addSat Reg.OUT_SYNCIGN.COUNT 1
  else
    let a := { a with out := { a.out with syncLAt := some a.clk.coarse } }
    let a := (a.event Reg.OUT_SYNCSTAT.SYNCD).addWrap Reg.OUT_SYNCSTAT.COUNT 1
    a.each (clockOuts.filter a.takesSyncL) fun a o =>
      ((a.modO o fun x => { x with gridAt := a.clk.coarse, gridSyncL := true }).put (Reg.OUT_STAT.UNANCH o) 1).event (Reg.OUT_STAT.SYNCD o)

/-! ### Pulse outputs (R251–R255) -/

def Asic.pls (a : Asic) (p : Nat) : Pls := a.out.pls.get p
def Asic.modPls (a : Asic) (p : Nat) (f : Pls → Pls) : Asic := { a with out := { a.out with pls := a.out.pls.set p (f (a.pls p)) } }
def Asic.plsIdx (a : Asic) (p : Nat) : Nat := a.get (Reg.PLS_CFG.INDEX p)
def Asic.plsMul (a : Asic) (p : Nat) : Nat := max 1 (a.get (Reg.PLS_FRAME.MUL p))
def Asic.plsDiv (a : Asic) (p : Nat) : Nat := max 1 (a.get (Reg.PLS_FRAME.DIV p))
/-- The pulse period in PQ (R254). -/
def Asic.plsPeriod (a : Asic) (p : Nat) : Rat :=
  let i := a.plsIdx p
  if a.periodDen i = 0 then 0
  else (a.periodNum i : Rat) / (a.periodDen i : Rat) * (a.plsDiv p : Nat) / ((a.plsMul p : Nat) : Rat)
/-- `Tmin` in PQ from a 28-bit value, its unit code and the nominal period in PQ (R250). -/
def tminPq (val unit : Nat) (period : Rat) : Rat :=
  let t : Rat := (val : Rat) * ((10 ^ (3 * unit) : Nat) : Rat) / 1000000 * 65536
  if val = 0 ∨ period * 7 / 8 < t then period * 7 / 8 else t
def Asic.plsTmin (a : Asic) (p : Nat) : Rat :=
  let w := a.get (Reg.PLS_TMIN.TMIN p)
  tminPq (w % 2 ^ 28) (w / 2 ^ 28 % 4) (a.plsPeriod p)
def Asic.plsOff (a : Asic) (p : Nat) : Int := a.get2S (Reg.PLS_OFFLO.OFF p) (Reg.PLS_OFFHI.OFF p)
/-- Active width, ns (R254). -/
def Asic.plsWidth (a : Asic) (p : Nat) : Nat := max 8 (a.get (Reg.PLS_WIDTH.NS p))
def Asic.relay (a : Asic) (p : Nat) : Bool := a.get (Reg.PLS_CFG.MODE p) == 0
/-- A configuration error of a pulse output (R251). -/
def Asic.plsCfgErr (a : Asic) (p : Nat) : Bool :=
  (a.relay p && (decide (15 < a.plsIdx p) || decide (a.plsOff p < 0) || decide (1 < a.plsMul p)))
    || decide (23 < a.plsIdx p) || (decide (1 < a.plsMul p) && decide (1 < a.plsDiv p))
    || decide (a.plsPeriod p - a.plsTmin p / 2 ≤ ((a.plsWidth p * 65536 : Nat) : Rat)) || a.get (Reg.PLS_CFG.FMT p) == 3
/-- The pulse output runs (R240, R251). -/
def Asic.plsRun (a : Asic) (p : Nat) : Bool := hasBit (a.get Reg.OUT_ENA.PLS) p && a.modeRuns && !a.plsCfgErr p
/-- u in a nanosecond and in a PQ. -/
def uPerNs : Int := 327680
/-- A pulse begins at `t` u. -/
def Asic.plsEmit (a : Asic) (p : Nat) (t : Int) : Asic :=
  if !a.plsRun p then a
  else
    let a := (a.modPls p fun x => { x with active := some (t, t + a.plsWidth p * uPerNs), lastStart := some t }).send (.edge (24 + p) t)
    if a.fallback then (a.event (Reg.PLS_STAT.LATE p)).addSat (Reg.PLS_CNT.LATE p) 1 else a
/-- Pulses that have fallen due leave, oldest first; `fuel` bounds how many. -/
def Asic.plsDue (p : Nat) : Nat → Asic → Asic
  | 0, a => a
  | fuel + 1, a =>
    match (a.pls p).queue with
    | [] => a
    | q :: rest =>
      let t := q.start + roundRat (q.step * (q.k : Nat))
      if a.nowU < t then a
      else
        let left := if q.k + 1 < q.n then { q with k := q.k + 1 } :: rest else rest
        Asic.plsDue p fuel ((a.modPls p fun x => { x with queue := left }).plsEmit p t)
/-- Queue a pulse for the generator: its queue holds 8 (R32, R33). -/
def Asic.plsQueue (a : Asic) (p : Nat) (q : Pulse) : Asic :=
  if 8 ≤ (a.pls p).queue.length then a.overflow 2 p else a.modPls p fun x => { x with queue := x.queue ++ [q] }
/-- PLS_RELAY_EDGE: a REF edge that passed the holdoff, in `bin` of the present TDC cycle (R252). -/
def Asic.plsRelayEdge (a : Asic) (p bin : Nat) : Asic :=
  if !a.relay p || !a.plsRun p || !a.present (a.plsIdx p) then a
  else
    let t := a.edgeTime bin
    let n := (a.pls p).relayed + 1
    if n < a.plsDiv p then a.modPls p fun x => { x with relayed := n }
    else
      let a := a.modPls p fun x => { x with relayed := 0 }
      let busy := match (a.pls p).lastStart with
        | some s => decide (t < s + a.plsWidth p * uPerNs) || decide ((((t - s : Int) : Rat) / 5) < a.plsTmin p)
        | none => false
      if busy then (a.event (Reg.PLS_STAT.DROP p)).addSat (Reg.PLS_CNT.DROPS p) 1
      else
        let at' := t + 12 * uPerCycle + 5 * a.plsOff p
        (a.plsQueue p { start := at', step := 0, k := 0, n := 1 }).modPls p fun x => { x with lastStart := some at' }
/-- One grid period and its change by y, 2⁻³² PQ. -/
def Asic.slideOf (a : Asic) (i c : Nat) : Int := roundDiv (a.chanY c * a.gridPhase i 1) (2 ^ 60)
/-- Schedule the pulse of slot `n` from φ̂ (2⁻³² PQ). -/
def Asic.plsSchedule (a : Asic) (p : Nat) (n phi : Int) : Asic :=
  let i := a.plsIdx p
  let period := a.plsPeriod p
  let off := a.plsOff p
  let off := if ((off.natAbs : Nat) : Rat) < period ∨ period ≤ 0 then (off : Rat) else (off : Rat) - period * ((off : Rat) / period).floor
  if n % a.plsDiv p ≠ 0 then a
  else a.plsQueue p { start := roundRat (((5 * (a.gridPhase i n + phi) : Int) : Rat) / 2 ^ 32 + 5 * off) + a.refDelay i
                      step := 5 * period, k := 0, n := a.plsMul p }
/-- PLS_TRACK_SLOT (R253). -/
def Asic.plsTrackSlot (a : Asic) (p : Nat) : Asic :=
  let i := a.plsIdx p
  let x := a.inp i
  let t := a.pls p
  let c := a.get (Reg.PLS_CFG.CHAN p)
  if a.relay p || a.plsCfgErr p then a
  else
    let fresh := x.numbered && (!t.tracking || t.run != x.run)
    if !fresh && !t.tracking then a
    else
      let n := if fresh then x.n else t.slot + 1
      let pred := t.phi - a.slideOf i c
      let err := x.phase * 2 ^ 32 - pred
      let hit := x.numbered && x.n == n
      let phi := if fresh then x.phase * 2 ^ 32 else if hit then pred + roundDiv err (2 ^ min 10 (a.get (Reg.PLS_CFG.K p))) else pred
      let a := a.modPls p fun q => { q with tracking := true, phi, slot := n, run := x.run }
      let a := a.putB (Reg.PLS_STAT.FLY p) (!fresh && !hit)
      let a := if hit && !fresh then a.putS (Reg.PLS_TRKERR.ERR p) (satS 32 (roundDiv err (2 ^ 32))) else a
      if a.plsOff p < 65536000 then a.plsSchedule p (n + 1) (phi - a.slideOf i c) else a.plsSchedule p n phi
/-- PLS_PULSE_END. -/
def Asic.plsPulseEnd (a : Asic) (p : Nat) : Asic :=
  match (a.pls p).active with
  | some (_, e) => if a.nowU < e then a else a.modPls p fun x => { x with active := none }
  | none => a
/-- A squelch of every pulse output: an active pulse ends at the later of now and 8 ns after its start (R251, R256). -/
def Asic.squelchPls (a : Asic) : Asic :=
  a.each [0, 1, 2, 3] fun a p => a.modPls p fun x => { x with active := x.active.map fun (s, e) => (s, min e (max a.nowU (s + 8 * uPerNs))) }

/-! ### Mode changes -/

/-- Forced squelch of every output at entry into SAFE (R52, R241). -/
def Asic.squelchForced (a : Asic) : Asic := (a.squelchAll clockOuts true).squelchPls
/-- Orderly mute of every output in STANDBY (R63). -/
def Asic.muteOuts (a : Asic) : Asic := (a.squelchAll clockOuts false).squelchPls
/-- Outputs resume at a divider sync (R66). -/
def Asic.resumeOuts (a : Asic) : Asic := a.each clockOuts fun a o => a.requestSync a.clk.coarse o
/-- Transition with its effect on the outputs: into SAFE forced, into STANDBY muted, out of either resumed. -/
def Asic.moveMode (a : Asic) (m cause : Nat) : Asic :=
  let ran := a.modeRuns
  let a := a.transition m cause
  if m = 6 then a.squelchForced
  else if m = 5 then a.muteOuts
  else if a.modeRuns && !ran then a.resumeOuts else a
/-- OUT_ENABLE_WRITE: outputs newly enabled start by a divider sync, outputs disabled are squelched (R241, R243). -/
def Asic.enableWritten (old a : Asic) : Asic :=
  a.each clockOuts fun a o =>
    let was := hasBit (old.get Reg.OUT_ENA.CLK) o
    let on := hasBit (a.get Reg.OUT_ENA.CLK) o
    if on && !was then a.requestSync (a.clk.coarse + usec + 8) o else if was && !on then a.squelchOut o false else a
/-- OUTPUT_DRIVER_FAULT: 1 short, 2 open, 0 neither any more. -/
def Asic.driverFault (a : Asic) (o kind : Nat) : Asic := a.level 43 o (o + 256 * kind) (kind != 0)

end Sys2Proof.Machine
end

