-- ==== Sys2Proof/Machine/Apll.lean ====
section
/-! DEFINITION. APLL units, frequency plans and hopping (chapter 8). Units 0–6 serve the function of their number; unit 7
follows `apl.follow7`: the function it carries, shadows, or is about to take. -/

namespace Sys2Proof.Machine

def Asic.modAu (a : Asic) (u : Nat) (f : AplUnit → AplUnit) : Asic := { a with apl := { a.apl with unit := a.apl.unit.set u (f (a.au u)) } }
/-- The function unit 7 carries; 7 none. -/
def Asic.carried7 (a : Asic) : Nat := a.get (Reg.APL_ASTAT.UNIT 7)
/-- Unit 7 is about to take a function by a handover. -/
def Asic.taking7 (a : Asic) : Bool := match a.apl.ho with | some h => h.target == 7 | none => false
/-- Unit 7 is free: it carries nothing and no handover moves a function to it. -/
def Asic.free7 (a : Asic) : Bool := a.carried7 == 7 && !a.taking7
/-- The function a unit works for. -/
def Asic.fnOf (a : Asic) (u : Nat) : Option Nat := if u = 7 then a.apl.follow7 else some u
/-- The slots whose registers show a unit: its own, and that of the function it carries. -/
def Asic.slotsOf (a : Asic) (u : Nat) : List Nat :=
  if u = 7 then (if a.carried7 = 7 then [7] else [a.carried7, 7]) else if a.carrier u = u then [u] else []
/-- Show a unit's state (R235). -/
def Asic.showUnit (a : Asic) (u : Nat) : Asic :=
  let ph := (a.au u).phase
  let shadow := u == 7 && a.carried7 == 7
  let a := a.each (a.slotsOf u) fun a s => a.put (Reg.APL_ASTAT.STATE s) (if s = 7 && shadow && ph = 3 then 6 else ph)
  if u = 7 then a.putB (Reg.APL_ASTAT.SHADOWOK 7) (a.free7 && a.apl.follow7.isSome && ph == 3 && a.flag (Reg.APL_ASTAT.ALIGNED 7)) else a
/-- Set `ALIGNED` of a unit's slots. -/
def Asic.setAligned (a : Asic) (u : Nat) (b : Bool) : Asic := a.each (a.slotsOf u) fun a s => a.putB (Reg.APL_ASTAT.ALIGNED s) b

/-! ### Hop table (R221, R222) -/

def hopKey (plan slot : Nat) : Nat := plan * 8 + slot
def Asic.hopEntry (a : Asic) (k : Nat) : Word := a.apl.hopTable.get k
def Asic.setHopEntry (a : Asic) (k : Nat) (w : Word) : Asic := { a with apl := { a.apl with hopTable := a.apl.hopTable.set k w } }
/-- Clear an entry's `VALID`. -/
def Asic.dropEntry (a : Asic) (k : Nat) : Asic := a.setHopEntry k (a.hopEntry k &&& ~~~(maskAt 9 1))
def Asic.curPlan (a : Asic) : Nat := a.get Reg.APL_HOPSTAT.CUR
/-- Junction temperature, signed 1/16 °C. -/
def Asic.tj (a : Asic) : Int := a.getS Reg.CAL_TJ.TJ
/-- Tj in whole °C, rounded. -/
def Asic.tjC (a : Asic) : Int := roundDiv a.tj 16
/-- The stored band of the running plan serves a fine check: valid, and Tj within ±25 K of its tag. -/
def Asic.entryServes (a : Asic) (u : Nat) : Bool :=
  let w := a.hopEntry (hopKey a.curPlan u)
  wordBits w 9 1 == 1 && decide ((16 * signed 8 (wordBits w 16 8) - a.tj).natAbs ≤ 400)
/-- Mark every entry invalid. -/
def Asic.clearHopTable (a : Asic) : Asic := (a.each (List.range 512) Asic.dropEntry).askCommit .hopTable
/-- Unit 7 follows another function: its column becomes invalid. -/
def Asic.follow (a : Asic) (f : Option Nat) : Asic :=
  if a.apl.follow7 = f then a
  else
    let a := (a.each (List.range 64) fun a p => a.dropEntry (hopKey p 7)).askCommit .hopTable
    { a with apl := { a.apl with follow7 := f } }

/-! ### Band steps (R214, R217) -/

/-- Start a band step after `wait` cycles: `force` makes it a full search, else the hop table decides. -/
def Asic.startBand (a : Asic) (u : Nat) (force : Bool) (phase wait : Nat) : Asic :=
  let full := force || !a.entryServes u
  let a := a.modAu u fun x => { x with phase, full, stepAt := a.clk.now + wait, relockAt := none }
  let a := (a.setAligned u false).showUnit u
  if full then a.each (a.slotsOf u) fun a s => a.addSat (Reg.APL_ACNT.SEARCHES s) 1 else a
/-- 100 ns, after which a band step starts. -/
def bandWait : Nat := 125
/-- A fresh attempt with all its retries. -/
def Asic.tryBand (a : Asic) (u : Nat) : Asic :=
  let a := (a.modAu u fun x => { x with retries := 0 }).put (Reg.APL_ASTAT.FAULT u) 0
  let a := match a.fnOf u with | some f => a.levelOff 41 f | none => a
  a.startBand u false 1 bandWait
/-- A unit stops. -/
def Asic.stopUnit (a : Asic) (u : Nat) : Asic :=
  let a := (a.modAu u fun x => { x with phase := 0, relockAt := none }).setAligned u false
  (a.each (a.slotsOf u) fun a s => a.put (Reg.APL_ASTAT.LOL s) 0).showUnit u
/-- A failed band step: `BANDFAIL`, a retry by full search, or FAULT. -/
def Asic.bandFailed (a : Asic) (u : Nat) : Asic :=
  let a := a.each (a.slotsOf u) fun a s => a.event (Reg.APL_AEVT.BANDFAIL s)
  if (a.au u).retries < a.get Reg.APL_LOLCFG.RETRY then
    (a.modAu u fun x => { x with retries := x.retries + 1 }).startBand u true 4 bandWait
  else
    let a := ((a.modAu u fun x => { x with phase := 5 }).put (Reg.APL_ASTAT.FAULT u) 1).showUnit u
    match a.fnOf u with | some f => a.levelOn 41 f f | none => a
/-- Duration of a band step, cycles. -/
def AplUnit.stepTime (x : AplUnit) : Nat := if x.full then 140625 else 46875
/-- The ends of the cores (R209). -/
def bandEnd (u band : Nat) : Bool := band == 0 || band == 511 || (6 ≤ u && (band == 255 || band == 256))
/-- BAND_STEP_COMPLETE. -/
def Asic.bandStepComplete (a : Asic) (u band : Nat) (miss : Bool) : Asic :=
  let x := a.au u
  if (x.phase ≠ 1 ∧ x.phase ≠ 4) ∨ a.clk.now < x.stepAt + x.stepTime then a
  else
    let a := a.each (a.slotsOf u) fun a s =>
      ((a.put (Reg.APL_ASTAT.BAND s) band).putB (Reg.APL_ASTAT.CORE s) (6 ≤ u && 256 ≤ band)).putS (Reg.APL_AVT.TJ s) a.tjC
    if miss && bandEnd u band then a.bandFailed u
    else
      let w := BitVec.ofNat 32 (band + 2 ^ 9 + 2 ^ 16 * code 8 a.tjC)
      let a := (a.setHopEntry (hopKey a.curPlan u) w).askCommit .hopTable
      (a.modAu u fun x => { x with phase := 2, stepEnd := a.clk.now }).showUnit u
/-- Cycles from the end of a band step to the lock declaration (R215). -/
def lockTime (u : Nat) : Nat := if u < 6 then 51200 else 25600
/-- APLL_LOCK_DECLARED. -/
def Asic.lockDeclared (a : Asic) (u : Nat) : Asic :=
  let x := a.au u
  if x.phase ≠ 2 ∨ a.clk.now < x.stepEnd + lockTime u then a
  else
    let a := (a.modAu u fun x => { x with phase := 3, lockAt := a.clk.now, retries := 0 }).setAligned u true
    let a := (a.each (a.slotsOf u) fun a s => (a.event (Reg.APL_AEVT.LOCKD s)).put (Reg.APL_ASTAT.LOL s) 0).showUnit u
    let a := match a.apl.ho with
      | some h => if h.started && h.target == u then { a with apl := { a.apl with ho := some { h with since := a.clk.coarse } } } else a
      | none => a
    match a.fnOf u with
    | some f =>
      if a.carrier f = u && !a.apl.hopWait.contains f && !(a.apl.subs.any fun p => p.1 == f)
      then a.each (a.outsOf f) fun a o => a.requestSync (a.clk.coarse + usec) o else a
    | none => a

/-! ### Unit 7 (R213, R232) -/

/-- Unit 7, while free, follows `APL_SPARE.SHADOW`. -/
def Asic.refreshShadow (a : Asic) : Asic :=
  if !a.free7 then a
  else
    let s := a.get Reg.APL_SPARE.SHADOW
    let want : Option Nat := if s = 7 then none else some s
    if a.apl.follow7 = want then a.showUnit 7
    else
      let a := a.follow want
      if s ≠ 7 && a.runEn s then a.tryBand 7 else a.stopUnit 7

/-! ### Loss of lock (R216, R229, R230, R233) -/

/-- Substitute unit 7 for the unit of function `f`. -/
def Asic.substitute7 (a : Asic) (f : Nat) : Asic :=
  let ready := a.flag (Reg.APL_ASTAT.SHADOWOK 7) && a.apl.follow7 == some f
  let a := (a.put (Reg.APL_ASTAT.RETIRED f) 1).stopUnit f
  let a := (a.put (Reg.APL_ASTAT.LOL f) 1).follow (some f)
  let a := ((a.put (Reg.APL_ASTAT.UNIT f) 7).put (Reg.APL_ASTAT.UNIT 7) f).askCommit .placement
  let a := { a with apl := { a.apl with subs := a.apl.subs ++ [(f, a.clk.coarse)] } }
  if ready then ((a.put (Reg.APL_ASTAT.ALIGNED f) 1).put (Reg.APL_ASTAT.BAND f) (a.get (Reg.APL_ASTAT.BAND 7))).showUnit 7
  else (a.modAu 7 fun x => { x with retries := 0 }).startBand 7 true 1 bandWait
/-- Own relock: a fine check from the current band 10 µs later. -/
def Asic.ownRelock (a : Asic) (u : Nat) : Asic :=
  (a.modAu u fun x => { x with phase := 4, retries := 0, relockAt := some (a.clk.now + 10 * usec) }).showUnit u
/-- Two losses in one SYS cycle: unit 7 goes to the lower slot number, and the other function relocks its own unit. -/
def Asic.yield7 (a : Asic) (f : Nat) : Asic :=
  match a.apl.subs.find? fun p => p.2 == a.clk.coarse && f < p.1 with
  | none => a
  | some (g, t) =>
    let a := { a with apl := { a.apl with subs := a.apl.subs.filter (· != (g, t)) } }
    let a := (((a.put (Reg.APL_ASTAT.UNIT g) g).put (Reg.APL_ASTAT.UNIT 7) 7).put (Reg.APL_ASTAT.RETIRED g) 0).askCommit .placement
    (a.raise 12 (2 + 256 * g)).ownRelock g
/-- Unit 7 may take a function automatically. -/
def Asic.spare7 (a : Asic) : Bool := a.free7 && !a.flag (Reg.APL_ASTAT.RETIRED 7) && !a.flag (Reg.APL_ASTAT.FAULT 7)
/-- The source's block action is selected and its gate allows it (R443). -/
def Asic.aplSubAllowed (a : Asic) : Bool := a.flag Reg.APL_LOLCFG.AUTOSUB && a.flag (Reg.FLT_SRCCFG.BLK 40)
/-- A declared loss of lock of the unit that carries `f`. -/
def Asic.carrierLost (a : Asic) (f u : Nat) : Asic :=
  let a := ((a.put (Reg.APL_ASTAT.LOL f) 1).squelchAll (a.outsOf f) true).yield7 f
  if u ≠ 7 && a.aplSubAllowed && a.spare7 then a.substitute7 f
  else (if a.flag Reg.APL_LOLCFG.AUTOSUB then a.raise 12 (2 + 256 * f) else a).ownRelock u
/-- APLL_LOSS_OF_LOCK: the monitor is armed from the end of the band step. -/
def Asic.lossOfLock (a : Asic) (u : Nat) : Asic :=
  let x := a.au u
  match a.fnOf u with
  | none => a
  | some f =>
    if x.phase ≠ 2 ∧ x.phase ≠ 3 then a
    else
      let a := a.each (a.slotsOf u) fun a s => (a.event (Reg.APL_AEVT.LOLD s)).addSat (Reg.APL_ACNT.LOLS s) 1
      let a := a.raise 40 (f + 256 * u)
      if x.phase = 2 then a.bandFailed u
      else if a.carrier f = u then a.carrierLost f u
      else ((a.setAligned u false).put (Reg.APL_ASTAT.LOL u) 1).ownRelock u
/-- APLL_RELOCK_START. -/
def Asic.relockStart (a : Asic) (u : Nat) : Asic :=
  match (a.au u).relockAt with
  | none => a
  | some t =>
    if a.clk.now < t then a
    else
      let a := a.modAu u fun x => { x with phase := 1, full := false, stepAt := a.clk.now, relockAt := none }
      (a.setAligned u false).showUnit u
/-- The unit's lock is at least 1 µs old. -/
def Asic.lockSettled (a : Asic) (u : Nat) : Bool := (a.au u).phase == 3 && decide ((a.au u).lockAt + usec ≤ a.clk.now)
/-- Restart a function's outputs from its unit; in fallback `ALIGNED` is 0 (R233). -/
def Asic.restartFn (a : Asic) (f : Nat) : Asic :=
  (if a.fallback then a.setAligned (a.carrier f) false else a).restartOuts (a.outsOf f)
/-- SUBSTITUTION_RESTART. -/
def Asic.substitutionRestart (a : Asic) (f : Nat) : Asic :=
  match a.apl.subs.find? fun p => p.1 == f with
  | none => a
  | some (_, t0) =>
    if !a.lockSettled 7 || decide (a.clk.coarse < t0 + usec) then a
    else
      let a := { a with apl := { a.apl with subs := a.apl.subs.filter (fun p => p.1 != f) } }
      let a := ((a.put (Reg.APL_ASTAT.LOL f) 0).put (Reg.APL_ASTAT.LOL 7) 0).restartFn f
      let a := (a.event (Reg.APL_AEVT.SUBD f)).event Reg.APL_HOSTAT.AUTO
      ((a.put Reg.APL_HOSTAT.FUNC f).put Reg.APL_HOSTAT.OLD f).put Reg.APL_HOSTAT.NEW 7
/-- `APL_CMD.RELOCK`: the failed units of each named function start afresh. -/
def Asic.relockCommand (a : Asic) (mask : Nat) : Asic :=
  a.each ((List.range 7).filter (hasBit mask)) fun a f =>
    a.each [f, 7] fun a u => if a.fnOf u = some f && (a.au u).phase = 5 then a.tryBand u else a

/-! ### Handover (R231, R236) -/

/-- The unit a function may move to; none where R231 permits no target. -/
def Asic.aplTarget (a : Asic) (f : Nat) : Option Nat :=
  if a.carrier f = 7 then
    (if a.flag (Reg.APL_ASTAT.RETIRED f) && !a.flag (Reg.APL_ASTAT.FAULT f) then some f else none)
  else if a.free7 then some 7 else none
/-- A handover must wait (R233). -/
def Asic.aplHoBarred (a : Asic) : Bool := a.flag Reg.APL_HOPSTAT.BUSY || a.flag Reg.CAL_OVSTAT.HOBUSY
/-- Start an accepted handover once nothing bars it. -/
def Asic.startAplHo (a : Asic) : Asic :=
  match a.apl.ho with
  | none => a
  | some h =>
    if h.started || a.aplHoBarred then a
    else
      let ready := h.target == 7 && a.apl.follow7 == some h.fn && (a.au 7).phase == 3 && a.flag (Reg.APL_ASTAT.ALIGNED 7)
      let a := { a with apl := { a.apl with ho := some { h with started := true, since := a.clk.coarse } } }
      let a := if h.target = 7 then a.follow (some h.fn) else a
      if ready then a else a.tryBand h.target
/-- `APL_HO.GO`. -/
def Asic.aplHoGo (a : Asic) : Ruled :=
  let f := a.get Reg.APL_HO.FUNC
  if 6 < f then rej a
  else match a.aplTarget f with
    | none => rej (a.event Reg.APL_HOSTAT.REJECTED)
    | some u =>
      if a.flag Reg.APL_HOSTAT.BUSY then rej (a.event Reg.APL_HOSTAT.REJECTED)
      else
        let h : AplHo := { fn := f, target := u, started := false, since := 0, tries := 0, ready := false, step := 0 }
        ok ({ a.put Reg.APL_HOSTAT.BUSY 1 with apl := { a.apl with ho := some h } }).startAplHo
/-- APLL_TRIM_MEASUREMENT: one comparison of 40.96 µs; 8 without success abandon the handover. -/
def Asic.trimMeasurement (a : Asic) (diff : Int) : Asic :=
  match a.apl.ho with
  | none => a
  | some h =>
    if !h.started || h.ready || (a.au h.target).phase != 3 || decide (a.clk.coarse < h.since + 51200 * (h.tries + 1)) then a
    else if diff.natAbs ≤ 500 then { a with apl := { a.apl with ho := some { h with ready := true, step := diff } } }
    else if h.tries < 7 then { a with apl := { a.apl with ho := some { h with tries := h.tries + 1 } } }
    else
      let a := ({ a with apl := { a.apl with ho := none } }).event Reg.APL_HOSTAT.MISMATCH
      let a := a.put Reg.APL_HOSTAT.BUSY 0
      if h.target = 7 then a.refreshShadow else a.stopUnit h.target
/-- APLL_HANDOVER_SWITCH at Ts. -/
def Asic.aplHoSwitch (a : Asic) : Asic :=
  match a.apl.ho with
  | none => a
  | some h =>
    if !h.ready then a
    else
      let f := h.fn
      let old := a.carrier f
      let a := { a with apl := { a.apl with ho := none } }
      let a := (a.put (Reg.APL_ASTAT.UNIT f) h.target).put (Reg.APL_ASTAT.UNIT 7) (if h.target = 7 then f else 7)
      let a := (a.put (Reg.APL_ASTAT.RETIRED h.target) 0).putB (Reg.APL_ASTAT.RETIRED old) (old != 7)
      let a := ((a.put (Reg.APL_ASTAT.LOL f) 0).setAligned h.target true).showUnit h.target
      let a := if old = 7 then a.refreshShadow else a.modAu old fun x => { x with phase := if x.phase = 5 then 5 else 0, relockAt := none }
      let a := ((a.put Reg.APL_HOSTAT.BUSY 0).put Reg.APL_HOSTAT.FUNC f).put Reg.APL_HOSTAT.OLD old
      let a := ((a.put Reg.APL_HOSTAT.NEW h.target).event Reg.APL_HOSTAT.DONE).putS Reg.APL_HOSTEP.STEP h.step
      let a := a.askCommit .placement
      a.each (a.outsOf f) fun a o => if a.flag (Reg.OUT_STAT.RUN o) then a else a.requestSync (a.clk.coarse + usec) o

/-! ### Hopping (R223–R226, R233) -/

/-- `APL_HOP.GO`. -/
def Asic.hopGo (a : Asic) : Ruled :=
  let p := a.get Reg.APL_HOP.PLAN
  let sec := a.get Reg.APL_HOPSEC.SEC
  if a.flag Reg.APL_HOPSTAT.BUSY then rej (a.event Reg.APL_HOPSTAT.HOPREJ)
  else
    let ahead := signed 32 ((sec + 2 ^ 32 - secOf a.ts0 % 2 ^ 32) % 2 ^ 32)
    if !a.flag Reg.APL_HOP.WHEN then ok ({ a.put Reg.APL_HOPSTAT.PEND 0 with apl := { a.apl with hopReq := some (p, none) } })
    else if ahead ≤ 0 then
      ok ({ (a.put Reg.APL_HOPSTAT.PEND 0).event Reg.APL_HOPSTAT.LATE with apl := { a.apl with hopReq := some (p, none) } })
    else ok ({ a.put Reg.APL_HOPSTAT.PEND 1 with apl := { a.apl with hopReq := some (p, some sec) } })
/-- Complete the hop at its last restart. -/
def Asic.hopDone (a : Asic) : Asic :=
  if !a.flag Reg.APL_HOPSTAT.BUSY || !a.apl.hopWait.isEmpty || !a.apl.glides.isEmpty then a
  else
    let a := ((a.put Reg.APL_HOPSTAT.BUSY 0).event Reg.APL_HOPSTAT.HOPD).put Reg.APL_HOPTIME.TIME ((a.clk.coarse - a.apl.hopAt) * 2 / 25)
    let a := (a.raise 42 (a.curPlan + 256 * a.get Reg.APL_HOPSTAT.PREV)).askCommit .plan
    (a.startAplHo).resumeOvenHo
/-- A glide applies: only MI or MF changed, and the ratio moved by at most 2×10⁻³. -/
def glideApplies (o n : AplRec) : Bool :=
  let m := fun (r : AplRec) => (r.mi : Rat) * 2 ^ 40 + (r.mf : Rat)
  o.src == n.src && o.p == n.p && o.core == n.core && o.bw == n.bw && decide (absRat (m n - m o) * 500 ≤ m o)
/-- The ramp of a glide, cycles. -/
def Asic.glideTime (a : Asic) : Nat := 12500 * 10 ^ min 4 (a.get Reg.APL_HOPCFG.GLIDE)
/-- Take the new ratios of an output list at their terminal counts. -/
def Asic.takeDivs (a : Asic) (l : List Nat) : Asic := a.each l fun a o => a.modO o fun x => { x with div := (a.runWord (40 + o)).toNat }
/-- What a hop does to one function; `old` is the state before the running set was latched. -/
def Asic.hopFn (old a : Asic) (f : Nat) : Asic :=
  let o := old.runRec f
  let n := a.runRec f
  let was := old.runEn f
  let en := a.runEn f
  let outs := a.outsOf f
  let u := a.carrier f
  let shadow := a.free7 && a.apl.follow7 == some f
  if was = en ∧ o = n then a.takeDivs outs
  else if !en then
    let a := (a.squelchAll outs false).stopUnit u
    if shadow then a.stopUnit 7 else a
  else if a.flag Reg.APL_HOPCFG.MODE && was && (a.au u).phase == 3 && glideApplies o n then
    { a with apl := { a.apl with glides := a.apl.glides ++ [(f, a.clk.coarse + a.glideTime)] } }
  else
    let a := if a.flag Reg.APL_HOPCFG.MODE then (a.each outs fun a o => a.holdOut o).put (Reg.APL_ASTAT.HELD f) 1 else a.squelchAll outs false
    let a := { a with apl := { a.apl with hopWait := a.apl.hopWait ++ [f] } }
    let a := a.tryBand u
    if shadow then a.tryBand 7 else a
/-- Coarse time at which the present `TS0` second, less `n` seconds, began. -/
def Asic.secondStart (a : Asic) (n : Nat) : Nat := a.clk.coarse - (nsOf a.ts0 * 5 / 4 + n * second)
/-- The start of the requested hop: due, and not deferred. -/
def Asic.hopDue (a : Asic) : Option (Nat × Bool) :=
  match a.apl.hopReq with
  | none => none
  | some (p, w) =>
    let barred := a.flag Reg.APL_HOPSTAT.BUSY || a.flag Reg.APL_HOSTAT.BUSY || a.flag Reg.CAL_OVSTAT.HOBUSY
    if barred then none
    else match w with
      | none => some (p, false)
      | some sec =>
        let past := signed 32 ((secOf a.ts0 + 2 ^ 32 - sec) % 2 ^ 32)
        if past < 0 ∨ a.fallback then none
        else some (p, let t := a.secondStart past.toNat; a.fallbackIn t t)
/-- HOP_START at t0. -/
def Asic.hopStart (a : Asic) : Asic :=
  match a.hopDue with
  | none => a
  | some (p, late) =>
    let a := if late then a.event Reg.APL_HOPSTAT.LATE else a
    let old := a
    let words := (List.range 64).foldl (fun (t : Tab Word) w => t.setF planWordReset w (a.apl.active.getF planWordReset (p * 64 + w))) []
    let a := ((a.put Reg.APL_HOPSTAT.PREV a.curPlan).put Reg.APL_HOPSTAT.CUR p).put Reg.APL_HOPSTAT.PEND 0
    let a := { a.put Reg.APL_HOPSTAT.BUSY 1 with apl := { a.apl with hopReq := none, hopAt := a.clk.coarse, running := words } }
    ((a.each (List.range 7) fun a f => Asic.hopFn old a f).checkOuts).hopDone
/-- HOP_OUTPUT_RESTART. -/
def Asic.hopRestart (a : Asic) (f : Nat) : Asic :=
  if !a.apl.hopWait.contains f || !a.lockSettled (a.carrier f) then a
  else
    let a := ({ a with apl := { a.apl with hopWait := a.apl.hopWait.filter (· != f) } }).put (Reg.APL_ASTAT.HELD f) 0
    (a.restartFn f).hopDone
/-- GLIDE_END. -/
def Asic.glideEnd (a : Asic) (f : Nat) : Asic :=
  match a.apl.glides.find? fun p => p.1 == f with
  | none => a
  | some (_, t) =>
    if a.clk.coarse < t then a
    else
      let a := ({ a with apl := { a.apl with glides := a.apl.glides.filter (fun p => p.1 != f) } }).takeDivs (a.outsOf f)
      let a := (a.setAligned (a.carrier f) false).event (Reg.APL_AEVT.GLIDED f)
      let a := if a.free7 && a.apl.follow7 == some f then (a.setAligned 7 false).showUnit 7 else a
      a.hopDone

/-! ### Start and oven handover (R228, R233) -/

/-- Exit from COLD: every enabled function, and the shadow, performs a band step. -/
def Asic.startApll (a : Asic) : Asic :=
  let a := a.each (List.range 7) fun a f => if a.runEn f then a.tryBand (a.carrier f) else a
  if a.carried7 ≠ 7 then { a with apl := { a.apl with follow7 := some a.carried7 } } else a.refreshShadow
/-- An emergency oven handover restarts running band steps at Te + 200 µs. -/
def Asic.bandsAgain (a : Asic) : Asic :=
  a.each (List.range 8) fun a u =>
    let x := a.au u
    if x.phase = 1 ∨ (x.phase = 4 ∧ x.relockAt = none) then a.modAu u fun x => { x with stepAt := a.clk.now + 200 * usec } else a
/-- OVEN_EMERGENCY_HANDOVER with its effect on band steps. -/
def Asic.emergencyOven (a : Asic) : Asic :=
  let b := a.ovenEmergency
  if b.activeOven = a.activeOven then b else b.bandsAgain
/-- OVEN_HANDOVER_SETTLED with what waited for it (R233). -/
def Asic.ovenSettledAll (a : Asic) : Asic := a.ovenSettled.startAplHo

/-! ### Plans (R219, R221) -/

/-- VCO limits of a record, Hz. -/
def vcoRange (s core : Nat) : Nat × Nat :=
  if s < 6 then (5600000000, 7200000000) else if core = 0 then (8000000000, 11600000000) else (11400000000, 16400000000)
/-- Reserved bits of one record and its neighbours (R235), which must be 0. -/
def recordReserved (word : Nat → Word) (s : Nat) : Bool :=
  let w1 := word (9 + 4 * s)
  wordBits w1 27 5 != 0 || (s < 6 && wordBits w1 19 1 != 0) || word (10 + 4 * s) != 0 || word (11 + 4 * s) != 0
/-- The reason a record is refused; 0 none. -/
def recordReason (word : Nat → Word) (s : Nat) : Nat :=
  let r := recordOf word s
  let v := r.vco s
  let (lo, hi) := vcoRange s r.core
  let en := enabledIn word s
  if en && (decide (v < ((lo : Nat) : Rat)) || decide (((hi : Nat) : Rat) < v)) then 1
  else if en && decide ((if s < 6 then 3 else 4) < r.p) then 2
  else if recordReserved word s then 4
  else 0
/-- The first offending slot and reason of one plan; header and slot 7 reserved bits are named under slots 0 and 7. -/
def Asic.planReason (a : Asic) (word : Nat → Word) : Option (Nat × Nat) :=
  let head := wordBits (word 0) 7 25 != 0 || (List.range 7).any fun k => word (1 + k) != 0
  let recs := (List.range 7).map fun s => (s, if recordReason word s = 0 && s = 0 && head then 4 else recordReason word s)
  let seven := (7, if (List.range 4).any fun k => word (36 + k) != 0 then 4 else 0)
  let outs := clockOuts.map fun o =>
    let s := a.outFn o
    let f : Rat := (recordOf word s).fA s / (((word (40 + o)).toNat + 1 : Nat) : Rat)
    let (lo, hi) : Nat × Nat := if o < 20 then (1, 3200000000) else (1000000000, 16000000000)
    (o + 8, if s < 7 && enabledIn word s && (decide (f < ((lo : Nat) : Rat)) || decide (((hi : Nat) : Rat) < f)) then 3 else 0)
  (recs ++ [seven] ++ outs).find? fun p => p.2 != 0
/-- The check of all 64 staged plans: plan, slot, reason of the first offence. -/
def Asic.planCheck (a : Asic) : Option (Nat × Nat × Nat) :=
  (List.range 64).findSome? fun p =>
    (a.planReason fun w => a.apl.staged.getF planWordReset (p * 64 + w)).map fun r => (p, r.1, r.2)
/-- The banks swap; entries of changed records become invalid. -/
def Asic.swapPlans (a : Asic) : Asic :=
  let key := fun (t : Tab Word) (p s : Nat) =>
    let r := recordOf (fun w => t.getF planWordReset (p * 64 + w)) s
    (r.mi, r.mf, r.p, r.core)
  let old := a.apl.active
  let new := a.apl.staged
  let changed := (List.range 64).flatMap fun p => ((List.range 7).filter fun s => key old p s != key new p s).map fun s => (p, s)
  let a := { a with apl := { a.apl with active := new, staged := old } }
  let a := changed.foldl (fun a (p, s) =>
    let a := a.dropEntry (hopKey p s)
    if a.apl.follow7 = some s then a.dropEntry (hopKey p 7) else a) a
  if changed.isEmpty then a else a.askCommit .hopTable
/-- The lease is granted: the staged bank copies the active one. -/
def Asic.copyPlans (a : Asic) : Asic := { a with apl := { a.apl with staged := a.apl.active } }

end Sys2Proof.Machine
end

