-- ==== Sys2Proof/Machine/Events.lean ====
section
/-! DEFINITION. Event inputs, event groups and TACs (chapter 11). J1 times are counted in LSB of 800 ps / 2¹⁴. -/

namespace Sys2Proof.Machine

def Asic.ei (a : Asic) (n : Nat) : EvtInp := a.evt.inp.get n
def Asic.modEi (a : Asic) (n : Nat) (f : EvtInp → EvtInp) : Asic := { a with evt := { a.evt with inp := a.evt.inp.set n (f (a.ei n)) } }
def Asic.eg (a : Asic) (g : Nat) : EvtGroup := a.evt.group.get g
def Asic.modEg (a : Asic) (g : Nat) (f : EvtGroup → EvtGroup) : Asic :=
  { a with evt := { a.evt with group := a.evt.group.set g (f (a.eg g)) } }
def Asic.tac (a : Asic) (t : Nat) : Tac := a.evt.tac.get t
def Asic.modTac (a : Asic) (t : Nat) (f : Tac → Tac) : Asic := { a with evt := { a.evt with tac := a.evt.tac.set t (f (a.tac t)) } }
/-- LSB in a TDC cycle, and the present instant in LSB. -/
def lsbPerCycle : Int := 16384
def Asic.nowLsb (a : Asic) : Int := a.clk.coarse * lsbPerCycle
/-- A span in ns as LSB: 10⁶ fs of 48.828125 fs. -/
def lsbOfNs (n : Nat) : Int := n * 20480

/-! ### Configuration (R284, R292) -/

/-- The configuration error of an enabled input. -/
def Asic.evtCfgErr (a : Asic) (n : Nat) : Bool :=
  a.flag (Reg.EVT_CFG.EN n) &&
    (decide (12 < a.get (Reg.EVT_CFG.PRE n))
      || (decide (2 ≤ a.get (Reg.EVT_CFG.IOSTD n)) && a.get (Reg.EVT_CFG.PRE n) == 0 && a.get (Reg.EVT_CFG.EDGE n) == 2
        && a.get (Reg.EVT_CFG.HOLDOFF n) == 0))
def Asic.evtUsable (a : Asic) (n : Nat) : Bool := a.flag (Reg.EVT_CFG.EN n) && !a.evtCfgErr n
def evtInputs : List Nat := List.range 16
/-- The stop inputs of a group, ascending. -/
def Asic.egStops (a : Asic) (g : Nat) : List Nat := evtInputs.filter (hasBit (a.get (Reg.EG_STOPS.MASK g)))
def Asic.egStart (a : Asic) (g : Nat) : Nat := a.get (Reg.EG_CFG.START g)
/-- The configuration error of an enabled group. -/
def Asic.egCfgErr (a : Asic) (g : Nat) : Bool :=
  let stops := a.egStops g
  a.flag (Reg.EG_CFG.EN g) && (decide (8 < stops.length) || stops.isEmpty || stops.contains (a.egStart g)
    || !a.evtUsable (a.egStart g) || stops.any fun n => !a.evtUsable n)
def Asic.egState (a : Asic) (g : Nat) : Nat := a.get (Reg.EG_STAT.STATE g)
def Asic.setEgState (a : Asic) (g n : Nat) : Asic := a.put (Reg.EG_STAT.STATE g) n
/-- The gate as `EG_CFG.GATE` takes it (R293). -/
def Asic.gateIs (a : Asic) (g : Nat) : Bool :=
  match a.get (Reg.EG_CFG.GATE g) with
  | 1 => (a.eg g).pin
  | 2 => !(a.eg g).pin
  | _ => true

/-! ### Measurements (R294–R297) -/

/-- How a measurement ended. -/
structure MeasEnd where
  gated : Bool
  timeout : Bool
  aborted : Bool
  deriving DecidableEq, Repr
/-- A negative number marks an interval that was not measured: 0x8000_0000_0000_0000. -/
def noInterval : Int := -(2 ^ 63)
/-- One interval record (R296). -/
def Asic.intervalRecord (a : Asic) (g k stop meas : Nat) (e : MeasEnd) : Record :=
  let x := a.eg g
  let start := a.egStart g
  let cs := x.caps.get start
  let cp := x.caps.get stop
  let iv : Int := match cs, cp with | some s, some p => p.t - s.t | _, _ => noInterval
  let both := cs.isSome && cp.isSome
  let shown := match cs with | some s => some s | none => cp
  let deg := (match cs with | some s => s.degraded | none => false) || (match cp with | some p => p.degraded | none => false)
  let st := bit (both && decide (iv < 0)) + 2 * bit (both && decide (iv.natAbs ≤ 2)) + 4 * bit e.gated + 8 * bit e.timeout
    + 16 * bit cp.isNone + 32 * bit cs.isNone + 64 * bit (hasBit x.dropped start || hasBit x.dropped stop) + 128 * bit e.aborted
  leBytes 1 3 ++ leBytes 1 (bit a.primer + 2 * bit deg) ++ leBytes 1 (g + 4 * k) ++ leBytes 1 (stop + 16 * start) ++ leBytes 4 meas
    ++ leBytes 8 (code 64 iv) ++ leBytes 8 (match shown with | some s => code 64 (s.t / lsbPerCycle) | none => 0)
    ++ leBytes 2 (match shown with | some s => (s.t % lsbPerCycle).toNat | none => 0) ++ leBytes 2 st
    ++ leBytes 2 (min 65535 (x.repeats.get stop)) ++ leBytes 2 0
/-- The group leaves what it does, without a measurement. -/
def Asic.egIdle (a : Asic) (g : Nat) : Asic := a.setEgState g 0
/-- The last of `EG_COUNT` measurements has ended. -/
def Asic.egLast (a : Asic) (g : Nat) : Bool := (a.eg g).limited && a.get (Reg.EG_REMAIN.COUNT g) == 0
/-- End the measurement: records, counts, SETTLE; a timeout escalation may disarm. -/
def Asic.endMeasurement (a : Asic) (g : Nat) (e : MeasEnd) : Asic :=
  let a := a.addWrap (Reg.EG_MEAS.COUNT g) 1
  let meas := a.get (Reg.EG_MEAS.COUNT g)
  let a := (a.egStops g).zipIdx.foldl (fun a p => a.emit (1 + g) (a.intervalRecord g p.2 p.1 meas e)) a
  let a := (a.put (Reg.EG_REMAIN.COUNT g) (a.get (Reg.EG_REMAIN.COUNT g) - 1)).modEg g fun x => { x with endAt := a.clk.coarse }
  let a := a.setEgState g 4
  let a := if e.gated then a.event (Reg.EG_STAT.GATEDD g) else a
  let a := if e.aborted then a.event (Reg.EG_STAT.ABORTD g) else a
  if e.timeout then
    let a := ((a.event (Reg.EG_STAT.TMOD g)).addSat (Reg.EG_TMOCNT.RUN g) 1).addSat (Reg.EG_TMOCNT.TOTAL g) 1
    let esc := a.get (Reg.EG_TMOCFG.ESC g)
    if esc ≠ 0 ∧ a.get (Reg.EG_TMOCNT.RUN g) = esc then
      let a := (a.raise 48 g).event (Reg.EG_STAT.ESCD g)
      if a.flag (Reg.EG_TMOCFG.STOP g) then a.egIdle g else a
    else a
  else if e.gated || e.aborted then a else a.put (Reg.EG_TMOCNT.RUN g) 0
/-- Abort a measurement in progress. -/
def Asic.egAbort (a : Asic) (g : Nat) : Asic :=
  if a.egState g = 3 then a.endMeasurement g { gated := false, timeout := false, aborted := true } else a
/-- `DISARM`, `EN` = 0 or a configuration error: IDLE. -/
def Asic.egDisarm (a : Asic) (g : Nat) : Asic := (a.egAbort g).egIdle g
/-- Bring `CFGERR` and the gate up to date after a change of configuration. -/
def Asic.egRefresh (a : Asic) (g : Nat) : Asic :=
  let err := a.egCfgErr g
  let a := a.putB (Reg.EG_STAT.CFGERR g) err
  if !a.flag (Reg.EG_CFG.EN g) || err then (if a.egState g = 0 then a else a.egDisarm g) else a
def Asic.egRefreshAll (a : Asic) : Asic := a.each [0, 1, 2, 3] Asic.egRefresh
/-- Timeout instant of the measurement, LSB; none for 0. -/
def Asic.egDeadline (a : Asic) (g : Nat) : Option Int :=
  let n := a.get (Reg.EG_TMO.TMO g)
  if n = 0 then none else some ((a.eg g).openedAt + n * lsbOfNs 100)
def Asic.egExpired (a : Asic) (g : Nat) : Bool := match a.egDeadline g with | some t => decide (t ≤ a.nowLsb) | none => false
/-- The gate opens or closes by its pin or by `EG_CFG.GATE`. -/
def Asic.gateMoved (a : Asic) (g : Nat) : Asic :=
  let now := a.gateIs g
  let was := a.flag (Reg.EG_STAT.GATEOPEN g)
  let a := a.putB (Reg.EG_STAT.GATEOPEN g) now
  if now && !was then (if a.egState g = 1 then a.setEgState g 2 else a)
  else if !now && was then
    match a.egState g with
    | 2 => a.setEgState g 1
    | 3 =>
      let x := a.eg g
      if (match x.fullAt with | some t => decide (t / lsbPerCycle = (a.clk.coarse : Int)) | none => false) then a
      else
        let a := a.endMeasurement g { gated := true, timeout := a.egExpired g, aborted := false }
        if a.egState g = 4 && !a.egLast g then a.setEgState g 1 else a
    | 4 => if a.egLast g then a else a.setEgState g 1
    | _ => a
  else a
/-- GATE_OPEN and GATE_CLOSE: the pin reaches the level that opens or closes the gate. -/
def Asic.gateEdge (a : Asic) (g : Nat) (opens : Bool) : Asic :=
  match a.get (Reg.EG_CFG.GATE g) with
  | 1 => (a.modEg g fun x => { x with pin := opens }).gateMoved g
  | 2 => (a.modEg g fun x => { x with pin := !opens }).gateMoved g
  | _ => a
/-- `EG_CMD.ARM`. -/
def Asic.egArm (a : Asic) (g : Nat) : Ruled :=
  if a.flag (Reg.EG_STAT.CFGERR g) then rej a
  else if !a.flag (Reg.EG_CFG.EN g) then ok a
  else
    let n := a.get (Reg.EG_COUNT.COUNT g)
    let a := (a.put (Reg.EG_REMAIN.COUNT g) n).modEg g fun x => { x with limited := n != 0 }
    ok (if a.egState g = 0 then a.setEgState g (if a.gateIs g then 2 else 1) else a)
/-- MEASUREMENT_COMPLETE: 40 ns after the last capture needed. -/
def Asic.measComplete (a : Asic) (g : Nat) : Asic :=
  match (a.eg g).fullAt with
  | some t =>
    if a.egState g ≠ 3 ∨ a.nowLsb < t + lsbOfNs 40 then a
    else
      let a := a.endMeasurement g { gated := false, timeout := false, aborted := false }
      if !a.flag (Reg.EG_STAT.GATEOPEN g) && !a.egLast g then a.setEgState g 1 else a
  | none => a
/-- MEASUREMENT_TIMEOUT. -/
def Asic.measTimeout (a : Asic) (g : Nat) : Asic :=
  if a.egState g = 3 && a.egExpired g then a.endMeasurement g { gated := false, timeout := true, aborted := false } else a
/-- SETTLE_END: 32 ns after the end. -/
def Asic.settleEnd (a : Asic) (g : Nat) : Asic :=
  if a.egState g ≠ 4 ∨ a.clk.coarse < (a.eg g).endAt + 40 then a
  else if a.egLast g then (a.egIdle g).event (Reg.EG_STAT.DONE g)
  else a.setEgState g (if a.flag (Reg.EG_STAT.GATEOPEN g) then 2 else 1)
/-- `EG_CFG` or `EG_STOPS` was written. -/
def Asic.egConfigWritten (a : Asic) (g : Nat) : Asic := ((a.egAbort g).egRefresh g).gateMoved g
/-- A capture reaches a group. -/
def Asic.groupCapture (a : Asic) (n : Nat) (c : Capture) (g : Nat) : Asic :=
  if !(a.egStart g == n || (a.egStops g).contains n) || !a.flag (Reg.EG_STAT.GATEOPEN g) then a
  else
    let a := if a.egState g = 2 then
        (a.setEgState g 3).modEg g fun x => { x with caps := [], repeats := [], dropped := 0, openedAt := c.t, fullAt := none }
      else a
    if a.egState g ≠ 3 then a
    else if ((a.eg g).caps.get n).isSome then a.modEg g fun x => { x with repeats := x.repeats.set n (x.repeats.get n + 1) }
    else
      let a := a.modEg g fun x => { x with caps := x.caps.set n (some c) }
      let all := (a.egStart g :: a.egStops g).all fun k => ((a.eg g).caps.get k).isSome
      if all then a.modEg g fun x => { x with fullAt := some c.t } else a

/-! ### Acceptance windows (R285–R291) -/

/-- The TAC of a position. -/
def Asic.tacAt (a : Asic) (pos : Nat) : Nat := a.get (if pos % 2 = 0 then Reg.EVT_PLACE.TACA (pos / 2) else Reg.EVT_PLACE.TACB (pos / 2))
/-- Calibrated delay d_n in u, the prescaler's 1.6 ns included. -/
def Asic.evtDelay (a : Asic) (n : Nat) : Int :=
  5 * a.cal.inUse.get (4 * 64 + n) + (if a.get (Reg.EVT_CFG.PRE n) = 0 then 0 else 2 * uPerCycle)
/-- One event record (R290). -/
def Asic.eventRecord (a : Asic) (n : Nat) (w : EvtWindow) : Record :=
  let c0 := w.caps.headD default
  let c1 := w.caps.tail.head?
  let fine := fun (c : Capture) => (c.t % lsbPerCycle).toNat + 16384 * c.half + 32768 * bit c.falling
  leBytes 1 2 ++ leBytes 1 (bit (a.primer || w.primer) + 2 * bit (w.caps.any Capture.degraded) + 4 * bit (a.parityOf 3 n)) ++ leBytes 1 n
    ++ leBytes 1 (w.caps.length + 4 * bit (w.dropped != 0) + 8 * bit (a.get (Reg.EVT_CFG.PRE n) != 0) + 16 * bit w.gate + 32 * bit w.sat)
    ++ leBytes 8 (code 64 (c0.t / lsbPerCycle)) ++ leBytes 2 (fine c0) ++ leBytes 2 (match c1 with | some c => fine c | none => 0)
    ++ leBytes 2 (match c1 with | some c => (c.t / lsbPerCycle - c0.t / lsbPerCycle).toNat | none => 0) ++ leBytes 2 (min 65535 w.dropped)
    ++ leBytes 6 (secOf w.ts) ++ leBytes 4 (nsOf w.ts) ++ leBytes 2 (fracOf w.ts)
/-- Close an open window and offer its record under the configuration of `old`. -/
def Asic.closeWindow (old a : Asic) (n : Nat) : Asic :=
  match (a.ei n).window with
  | none => a
  | some w =>
    let a := (a.modEi n fun x => { x with window := none }).put (Reg.EVT_STAT.OPEN n) 0
    if old.flag (Reg.EVT_CFG.REC n) && (!old.flag (Reg.EVT_CFG.GATED n) || w.gate) then
      a.emit (1 + old.get (Reg.EVT_CFG.GROUP n)) (old.eventRecord n w)
    else a
/-- End of a window in LSB: 640 ns after its first edge. -/
def EvtWindow.ends (w : EvtWindow) : Int := (w.caps.headD default).t + lsbOfNs 640
/-- ACCEPTANCE_WINDOW_CLOSE. -/
def Asic.windowClose (a : Asic) (n : Nat) : Asic :=
  match (a.ei n).window with
  | some w => if a.nowLsb < w.ends then a else a.closeWindow a n
  | none => a
/-- A capture is made: registers, TAC, groups. -/
def Asic.takeCapture (a : Asic) (n : Nat) (c : Capture) : Asic :=
  let tac := a.tacAt (2 * n + c.half)
  let a := a.modTac tac fun x => { x with last := some a.clk.coarse }
  let a := a.put2 (Reg.EVT_CNTLO.EVENTS n) (Reg.EVT_CNTHI.EVENTS n) (a.get2 (Reg.EVT_CNTLO.EVENTS n) (Reg.EVT_CNTHI.EVENTS n) + 1)
  let a := a.put2 (Reg.EVT_LASTLO.COARSE n) (Reg.EVT_LASTHI.COARSE n) (code 64 (c.t / lsbPerCycle))
  let a := a.put (Reg.EVT_LASTF.FINE n) (c.t % lsbPerCycle).toNat
  a.each [0, 1, 2, 3] fun a g => a.groupCapture n c g
/-- An edge is dropped (R288). -/
def Asic.dropEdge (a : Asic) (n : Nat) (w : EvtWindow) : Asic :=
  let a := a.modEi n fun x => { x with window := some { w with dropped := w.dropped + 1 } }
  let a := (a.addSat (Reg.EVT_DROPS.DROPS n) 1).event (Reg.EVT_STAT.DROPD n)
  a.each [0, 1, 2, 3] fun a g =>
    if a.egState g = 3 && (a.egStart g == n || (a.egStops g).contains n) then a.modEg g fun x => { x with dropped := setBit x.dropped n } else a
/-- J1 time of a capture, LSB (R286, R301). -/
def Asic.captureTime (a : Asic) (n ramp : Nat) : Int :=
  if a.fallback then a.nowLsb else roundDiv ((a.clk.coarse + 1) * uPerCycle - ramp - a.evtDelay n) 16
/-- An edge that reached the TACs opens or joins a window, or is dropped. -/
def Asic.acceptEdge (a : Asic) (n : Nat) (falling : Bool) (ramp : Nat) (sat : Bool) : Asic :=
  let t := a.captureTime n ramp
  let a := match (a.ei n).window with
    | some w => if w.ends ≤ t then a.closeWindow a n else a
    | none => a
  let low := if a.tacAt (2 * n) < a.tacAt (2 * n + 1) then 0 else 1
  match (a.ei n).window with
  | none =>
    let c : Capture := { t, half := low, falling, degraded := a.degraded }
    let w : EvtWindow := { caps := [c], dropped := 0, gate := a.gateIs (a.get (Reg.EVT_CFG.GROUP n)), sat,
                           primer := a.primer, ts := a.scaleAt 0 (t * 16) }
    ((a.modEi n fun x => { x with window := some w }).put (Reg.EVT_STAT.OPEN n) 1).takeCapture n c
  | some w =>
    let c0 := w.caps.headD default
    if 2 ≤ w.caps.length ∨ t < c0.t + 2 * lsbPerCycle then a.dropEdge n w
    else
      let c : Capture := { t, half := 1 - c0.half, falling, degraded := a.degraded }
      (a.modEi n fun x => { x with window := some { w with caps := w.caps ++ [c], sat := w.sat || sat, primer := w.primer || a.primer } }).takeCapture n c
/-- EVT_EDGE: edge selection, holdoff and prescaler ahead of the window rule. -/
def Asic.evtEdge (a : Asic) (n : Nat) (falling : Bool) (ramp : Nat) (sat : Bool) : Asic :=
  let sel := a.get (Reg.EVT_CFG.EDGE n)
  let h := a.get (Reg.EVT_CFG.HOLDOFF n)
  let x := a.ei n
  if !a.evtUsable n || (sel != 2 && falling != (sel == 1)) then a
  else if h != 0 && (match x.held with | some t => decide (a.clk.coarse < t + 125 * 2 ^ (h - 1)) | none => false) then
    (a.addSat (Reg.EVT_DROPS.GLITCH n) 1).event (Reg.EVT_STAT.GLITCHD n)
  else
    let a := a.modEi n fun x => { x with held := some a.clk.coarse }
    if x.pre + 1 < 2 ^ a.get (Reg.EVT_CFG.PRE n) then a.modEi n fun x => { x with pre := x.pre + 1 }
    else (a.modEi n fun x => { x with pre := 0 }).acceptEdge n falling ramp sat
/-- `EVT_CFG` was written; `old` is the state before (R302). -/
def Asic.evtWritten (old a : Asic) (n : Nat) : Asic :=
  let a := (old.closeWindow a n).modEi n fun x => { x with pre := 0, held := none }
  (a.putB (Reg.EVT_STAT.CFGERR n) (a.evtCfgErr n)).egRefreshAll

/-! ### TAC calibration and handover (R298–R300) -/

/-- A position's input has no window open; a TAC without a position sees none. -/
def Asic.noWindow (a : Asic) (pos : Nat) : Bool := decide (32 ≤ pos) || (a.ei (pos / 2)).window.isNone
/-- The TAC is free again 12.8 ns after its last edge. -/
def Asic.tacIdle (a : Asic) (t : Nat) : Bool := match (a.tac t).last with | some c => decide (c + 16 ≤ a.clk.coarse) | none => true
/-- The position a TAC carries; 32 none. -/
def Asic.tacPos (a : Asic) (t : Nat) : Nat := if a.flag (Reg.EVT_TSTAT.FREE t) then 32 else a.get (Reg.EVT_TSTAT.POS t)
/-- TAC_CAL_START. -/
def Asic.tacCalStart (a : Asic) (t : Nat) : Asic :=
  if a.flag Reg.EVT_TCAL.EN && a.calAllowed then a.modTac t fun x => { x with collecting := true } else a
/-- A table passes R299; `ref` is the calibration manager's gain. -/
def tacPlausible (lsb : Nat) (corr : List Int) (ref : Rat) : Bool :=
  decide (10 * absRat ((lsb : Rat) - ref) ≤ ref) && corr.all fun c => decide (c.natAbs ≤ 1600)
/-- Judge a computed table: registers, counts, and whether it is accepted. -/
def Asic.judgeTac (a : Asic) (t lsb : Nat) (corr : List Int) (ref : Rat) : Asic × Bool :=
  let inl := corr.foldl (fun m c => max m c.natAbs) 0
  let a := (a.put (Reg.EVT_TGAIN.LSB t) lsb).put (Reg.EVT_TGAIN.INL t) (min 65535 inl)
  if tacPlausible lsb corr ref then
    (((a.put (Reg.EVT_TSTAT.REJECTS t) 0).addWrap (Reg.EVT_TCALN.COUNT t) 1).put (Reg.EVT_TCALT.TIME t) (secOf a.ts0), true)
  else
    let k := a.get (Reg.EVT_TSTAT.REJECTS t)
    let a := a.put (Reg.EVT_TSTAT.REJECTS t) (min 3 (k + 1))
    (if k = 2 then a.raise 49 (t + 256 * a.get (Reg.EVT_TSTAT.POS t)) else a, false)
/-- TAC_CAL_TABLE_COMPUTED. -/
def Asic.tacTableComputed (a : Asic) (t lsb : Nat) (corr : List Int) (ref : Rat) : Asic × Bool :=
  if !(a.tac t).collecting || !a.calAllowed then (a, false)
  else
    let (a, good) := (a.modTac t fun x => { x with collecting := false }).judgeTac t lsb corr ref
    (if good then a.modTac t fun x => { x with accepted := some { lsb, corr } } else a, good)
/-- TAC_TABLE_SWITCH. -/
def Asic.tacTableSwitch (a : Asic) (t : Nat) : Asic :=
  match (a.tac t).accepted with
  | some tab =>
    if a.tacIdle t && a.noWindow (a.tacPos t) then
      (a.modTac t fun x => { x with accepted := none, table := tab }).put (Reg.EVT_TSTAT.CALOK t) 1
    else a
  | none => a
/-- Start a TAC handover, or defer it for the 1 ms of R28. -/
def Asic.startTacHo (a : Asic) (pos tac : Nat) (soft : Bool) : Asic :=
  let a := a.put Reg.EVT_HOSTAT.BUSY 1
  if !a.parityFree 3 (pos / 2) then { a with deferred := a.deferred ++ [.tac pos tac soft] }
  else
    let h : TacHo := { pos, old := a.tacAt pos, new := tac, soft, accepted := false }
    { a with evt := { a.evt with ho := some h } }
/-- TAC handovers that waited start once the 1 ms has elapsed. -/
def Asic.resumeTacHo (a : Asic) : Asic :=
  a.deferred.foldl (fun a d => match d with
    | .tac pos tac soft =>
      if a.parityFree 3 (pos / 2) then { a with deferred := a.deferred.filter (· != d) }.startTacHo pos tac soft else a
    | _ => a) a
/-- `EVT_TACHO.GO`. -/
def Asic.tacHoGo (a : Asic) : Ruled :=
  let tac := a.get Reg.EVT_TACHO.TAC
  if a.flag Reg.EVT_HOSTAT.BUSY || decide (33 < tac) || !a.flag (Reg.EVT_TSTAT.FREE tac) then rej (a.event Reg.EVT_HOSTAT.REJECTED)
  else ok (a.startTacHo (a.get Reg.EVT_TACHO.POS) tac true)
/-- The automatic substitution of a failed TAC (R299, R40): its block action. -/
def Asic.tacSubstitute (a : Asic) (t : Nat) : Asic :=
  let pos := a.tacPos t
  if 32 ≤ pos then a
  else match [32, 33].find? fun k => a.flag (Reg.EVT_TSTAT.FREE k) && !a.flag (Reg.EVT_TSTAT.RETIRED k) with
    | none => a.raise 12 (4 + 256 * pos)
    | some k =>
      if a.flag Reg.EVT_HOSTAT.BUSY then { a with evt := { a.evt with wait := a.evt.wait ++ [(pos, t)] } } else a.startTacHo pos k false
/-- The handover unit is idle: the next waiting substitution. -/
def Asic.nextTacWait (a : Asic) : Asic :=
  match a.evt.wait with
  | [] => a
  | (pos, t) :: rest =>
    let a := { a with evt := { a.evt with wait := rest } }
    if a.tacAt pos = t then a.tacSubstitute t else a
/-- TAC_HANDOVER_TABLE_ACCEPTED: the target's table is judged; a rejection ends the handover. -/
def Asic.tacHoTable (a : Asic) (lsb : Nat) (corr : List Int) (ref : Nat → Rat) : Asic × Option Nat :=
  match a.evt.ho with
  | none => (a, none)
  | some h =>
    if h.accepted || !a.calAllowed then (a, none)
    else
      let (a, good) := a.judgeTac h.new lsb corr (ref h.new)
      if good then
        let a := (a.modTac h.new fun x => { x with table := { lsb, corr }, accepted := none }).put (Reg.EVT_TSTAT.CALOK h.new) 1
        ({ a with evt := { a.evt with ho := some { h with accepted := true } } }, some h.new)
      else
        let a := { a with evt := { a.evt with ho := none } }
        (((a.put Reg.EVT_HOSTAT.BUSY 0).event Reg.EVT_HOSTAT.REJECTED).nextTacWait, none)
/-- Retirement bit of a TAC. -/
def Asic.setTacRetired (a : Asic) (t : Nat) (b : Bool) : Asic :=
  let a := a.putB (Reg.EVT_TSTAT.RETIRED t) b
  let f := if t < 32 then Reg.EVT_RETLO.TACS else Reg.EVT_RETHI.TACS
  a.put f (if b then setBit (a.get f) (t % 32) else clearBit (a.get f) (t % 32))
/-- TAC_HANDOVER_CUTOVER at Tc. -/
def Asic.tacHoCutover (a : Asic) : Asic :=
  match a.evt.ho with
  | none => a
  | some h =>
    let n := h.pos / 2
    if !h.accepted || !a.noWindow h.pos || !a.tacIdle h.old then a
    else
      let back := a.flag (Reg.EVT_TSTAT.RETIRED h.new)
      let a := { a with evt := { a.evt with ho := none } }
      let a := a.changeEpoch (1 + a.get (Reg.EVT_CFG.GROUP n)) 3 n h.old h.new (if h.soft then 0 else 1) (h.pos % 2)
      let a := a.put (if h.pos % 2 = 0 then Reg.EVT_PLACE.TACA n else Reg.EVT_PLACE.TACB n) h.new
      let a := a.putB (Reg.EVT_PLACE.EPOCH n) (a.parityOf 3 n)
      let a := (a.put (Reg.EVT_TSTAT.FREE h.old) 1).put (Reg.EVT_TSTAT.POS h.old) 31
      let a := (a.put (Reg.EVT_TSTAT.FREE h.new) 0).put (Reg.EVT_TSTAT.POS h.new) h.pos
      let a := (a.setTacRetired h.new false).setTacRetired h.old !back
      let a := ((a.put Reg.EVT_HOSTAT.BUSY 0).put Reg.EVT_HOSTAT.POS h.pos).put Reg.EVT_HOSTAT.OLD h.old
      ((a.event Reg.EVT_HOSTAT.DONE).askCommit .placement).nextTacWait

end Sys2Proof.Machine
end

