-- ==== Sys2Proof/Machine/Ports.lean ====
section
/-! DEFINITION. Network ports, PTP, transparent clock and SyncE (chapter 12), with the impairment engine every frame of a
port passes (R349–R351). Byte offsets inside frames are those of IEEE 802.3, UDP and IEEE 1588-2019, which the spec cites. -/

namespace Sys2Proof.Machine

def Asic.port (a : Asic) (p : Nat) : Port := a.prt.port.get p
def Asic.modPrt (a : Asic) (p : Nat) (f : Port → Port) : Asic := { a with prt := { a.prt with port := a.prt.port.set p (f (a.port p)) } }
def Asic.impair (a : Asic) (p : Nat) : Impair := a.prt.imp.get p
def Asic.modImp (a : Asic) (p : Nat) (f : Impair → Impair) : Asic := { a with prt := { a.prt with imp := a.prt.imp.set p (f (a.impair p)) } }
/-- The partner of a port in its pair (R319). -/
def pairOf (p : Nat) : Nat := if p % 2 = 0 then p + 1 else p - 1
def ports : List Nat := List.range 6

/-! ### Frames -/

end Sys2Proof.Machine

namespace Sys2Proof
open Machine

def Frame.byte (f : Frame) (o : Nat) : Nat := match f.bytes[o]? with | some b => b.toNat | none => 0
def Frame.num (f : Frame) (o n : Nat) : Nat := ofBe ((f.bytes.drop o).take n)
/-- Length with its FCS. -/
def Frame.len (f : Frame) : Nat := f.bytes.length + 4
/-- At most one 802.1Q tag. -/
def Frame.vlan (f : Frame) : Bool := f.num 12 2 == 0x8100
def Frame.etherType (f : Frame) : Nat := if f.vlan then f.num 16 2 else f.num 12 2
def Frame.payload (f : Frame) : Nat := if f.vlan then 18 else 14
/-- Where a PTP message lies in a frame: its header, transport (0 Ethernet, 1 IPv4, 2 IPv6), UDP checksum offset, and
whether it came to the event port. -/
structure PtpView where
  hdr : Nat
  transport : Nat
  csum : Option Nat
  eventPort : Bool
  deriving DecidableEq, Repr
/-- A UDP datagram's PTP view. -/
def udpView (f : Frame) (udp transport : Nat) : Option PtpView :=
  let port := f.num (udp + 2) 2
  if port = 319 ∨ port = 320 then some { hdr := udp + 8, transport, csum := some (udp + 6), eventPort := port == 319 } else none
/-- PTP by EtherType, or by UDP over IPv4 or IPv6 without extension headers (R312, R321). -/
def Frame.ptp (f : Frame) : Option PtpView :=
  let o := f.payload
  if f.etherType = 0x88F7 then some { hdr := o, transport := 0, csum := none, eventPort := true }
  else if f.etherType = 0x0800 ∧ f.byte (o + 9) = 17 then udpView f (o + f.byte o % 16 * 4) 1
  else if f.etherType = 0x86DD ∧ f.byte (o + 6) = 17 then udpView f (o + 40) 2
  else none
def Frame.msgType (f : Frame) (v : PtpView) : Nat := f.byte v.hdr % 16
/-- The common header is present. -/
def Frame.parses (f : Frame) (v : PtpView) : Bool := decide (v.hdr + 34 ≤ f.bytes.length)
/-- An event message: messageType 0–3 at the event port. -/
def Frame.isEvent (f : Frame) (v : PtpView) : Bool := v.eventPort && f.msgType v < 4
def Frame.correction (f : Frame) (v : PtpView) : Int := signed 64 (f.num (v.hdr + 8) 8)
def Frame.seqId (f : Frame) (v : PtpView) : Nat := f.num (v.hdr + 30) 2
/-- The message's timestamp, PQ. -/
def Frame.stamp (f : Frame) (v : PtpView) : Int := (f.num (v.hdr + 34) 6 * 1000000000 + f.num (v.hdr + 40) 4 : Nat) * 65536
/-- The class of a frame in the coding of `RLY_IMPCFG.SEL`: 1 PTP event, 2 PTP general, 3 Rally, 4 ESMC, 0 any other. -/
def Frame.cls (f : Frame) : Nat :=
  match f.ptp with
  | some v => if f.isEvent v then 1 else 2
  | none => if f.etherType = 0x88B5 then 3 else if f.etherType = 0x8809 ∧ f.byte f.payload = 0x0A then 4 else 0
/-- messageType of a frame for records and notes; 0xF for non-PTP. -/
def Frame.noteType (f : Frame) : Nat := match f.ptp with | some v => f.msgType v | none => 15
def Frame.noteSeq (f : Frame) : Nat := match f.ptp with | some v => f.seqId v | none => 0

/-- The one's-complement sum of 16-bit words folded to 16 bits. -/
def fold16 (n : Nat) : Nat := let a := n % 65536 + n / 65536; a % 65536 + a / 65536
def words16 (n k : Nat) : List Nat := (List.range k).map fun i => n / 65536 ^ i % 65536
/-- An incremental update of a UDP checksum for a changed correctionField; a zero checksum stays zero. -/
def updateChecksum (c old new : Nat) : Nat :=
  if c = 0 then 0
  else
    let s := (65535 - c) + ((words16 old 4).map (65535 - ·)).sum + (words16 new 4).sum
    let r := 65535 - fold16 s
    if r = 0 then 65535 else r
/-- Put a big-endian number into a frame's bytes. -/
def putBytes (l : List Byte) (o n v : Nat) : List Byte := l.take o ++ (beBytes n v ++ l.drop (o + n))
/-- Write a new correctionField. -/
def Frame.withCorrection (f : Frame) (v : PtpView) (c : Int) : Frame :=
  let new := code 64 c
  let b := putBytes f.bytes (v.hdr + 8) 8 new
  match v.csum with
  | some o => { f with bytes := putBytes b o 2 (updateChecksum (f.num o 2) (f.num (v.hdr + 8) 8) new) }
  | none => { f with bytes := b }

end Sys2Proof

namespace Sys2Proof.Machine

/-! ### Timestamps (R308–R311) -/

/-- The PCS clock period in PQ (R304). -/
def Asic.pcsPeriod (a : Asic) (p : Nat) : Rat := if a.flag (Reg.PRT_CFG.SPEED p) then 64 * 65536 / 25 else 1024 * 65536 / 165
/-- The fixed latencies of R309, PQ. -/
def Asic.fixIn (a : Asic) (p : Nat) : Int :=
  let n : Nat := if !a.flag (Reg.PRT_CFG.SPEED p) then 12 else if a.flag (Reg.PRT_CFG.FEC p) then 105 else 16
  roundRat ((n : Rat) * a.pcsPeriod p)
def Asic.fixEg (a : Asic) (p : Nat) : Int :=
  let n : Nat := if !a.flag (Reg.PRT_CFG.SPEED p) then 9 else if a.flag (Reg.PRT_CFG.FEC p) then 30 else 12
  roundRat ((n : Rat) * a.pcsPeriod p)
def Asic.calIn (a : Asic) (p : Nat) : Int := a.cal.inUse.get (6 * 64 + 2 * p)
def Asic.calEg (a : Asic) (p : Nat) : Int := a.cal.inUse.get (6 * 64 + 2 * p + 1)
/-- The captured instant of a start block at position `pos`, u; in a fallback the resolution is 20 ns (R311). -/
def Asic.blockTime (a : Asic) (pos : Nat) : Int := if a.fallback then a.nowU else a.nowU + pos
/-- Ingress and egress time in u of a start block at position `pos` (R310). -/
def Asic.ingressTime (a : Asic) (p pos : Nat) : Int := a.blockTime pos - 5 * (a.fixIn p + a.calIn p + a.getS (Reg.PRT_INLAT.LAT p))
def Asic.egressTime (a : Asic) (p pos : Nat) : Int := a.blockTime pos + 5 * (a.fixEg p + a.calEg p + a.getS (Reg.PRT_EGLAT.LAT p))
def Asic.asym (a : Asic) (p : Nat) : Int := a.get2S (Reg.PRT_ASYMLO.ASYM p) (Reg.PRT_ASYMHI.ASYM p)
/-- The scale the port's domain is bound to (R314), its reading at a time in PQ, and its count of sets and steps. -/
def Asic.prtScale (a : Asic) (p : Nat) : Nat := a.get (Reg.PRT_PTPCFG.SCALE p)
def Asic.scalePq (a : Asic) (k : Nat) (t : Int) : Int := roundDiv (a.scaleAt k t) pqUnits
def Asic.scaleJumps (a : Asic) (k : Nat) : Nat := a.get (Reg.TSC_CNT.STEPS k) + 65536 * a.get (Reg.TSC_CNT.SETS k)
/-- One port timestamp record (R325). `dir` 0 ingress, 1 egress; `flags` are bits 4–6 of byte 2. -/
def Asic.portRecord (a : Asic) (p dir flags msg sdo domain frameBits seq : Nat) (t : Int) (aux : Nat) : Record :=
  let lsb := roundDiv t 16
  let v := a.scaleAt (a.prtScale p) t
  leBytes 1 4 ++ leBytes 1 (a.flagsByte false) ++ leBytes 1 (p + 8 * dir + flags) ++ leBytes 1 (msg + 16 * sdo) ++ leBytes 1 domain
    ++ leBytes 1 frameBits ++ leBytes 2 seq ++ leBytes 8 (code 64 (lsb / lsbPerCycle)) ++ leBytes 2 (lsb % lsbPerCycle).toNat
    ++ leBytes 6 (secOf v) ++ leBytes 4 (nsOf v) ++ leBytes 2 (fracOf v) ++ leBytes 2 aux
/-- Offer a timestamp record of a message type selected in `PRT_REC.MSG`. -/
def Asic.offerStamp (a : Asic) (p dir flags msg sdo domain frameBits seq : Nat) (t : Int) (aux : Nat) : Asic :=
  if decide (msg < 4) && hasBit (a.get (Reg.PRT_REC.MSG p)) msg then
    a.emit (5 + p) (a.portRecord p dir flags msg sdo domain frameBits seq t aux)
  else a

/-! ### Port states (R307, R315) -/

def Asic.linkIs (a : Asic) (p : Nat) : Bool := a.flag (Reg.PRT_STAT.LINK p)
/-- `P2P` of a port; on a pass-through pair the even port's (R327). -/
def Asic.p2p (a : Asic) (p : Nat) : Bool := a.flag (Reg.PRT_PTPCFG.P2P (if (a.port p).passing then p - p % 2 else p))
/-- The configuration error of an enabled port. -/
def Asic.prtCfgErr (a : Asic) (p : Nat) : Bool :=
  let q := pairOf p
  let pass := a.flag (Reg.PRT_CFG.PASS p)
  let dom := a.get (Reg.PRT_PTPCFG.DOMAIN p)
  a.flag (Reg.PRT_CFG.EN p) &&
    ((a.flag (Reg.PRT_CFG.FEC p) && !a.flag (Reg.PRT_CFG.SPEED p)) || a.get (Reg.PRT_PTPCFG.TRANS p) == 3
      || (if a.flag (Reg.PRT_PTPCFG.PROFILE p) then decide (dom < 24) || decide (43 < dom) else decide (127 < dom))
      || (pass && (a.flag (Reg.PRT_CFG.SPEED p) != a.flag (Reg.PRT_CFG.SPEED q) || a.flag (Reg.PRT_CFG.FEC p) != a.flag (Reg.PRT_CFG.FEC q)
        || !a.flag (Reg.PRT_CFG.EN q) || a.flag (Reg.PRT_PTPCFG.EN p) || a.flag (Reg.PRT_PTPCFG.EN q))))
def Asic.ptpState (a : Asic) (p : Nat) : Nat := a.get (Reg.PRT_PTPST.STATE p)
/-- Ports in MASTER or PRE_MASTER are held in PASSIVE while the module is STANDBY (R326). -/
def Asic.standbyHolds (a : Asic) (s : Nat) : Bool := a.mode == 5 && (s == 5 || s == 6)
/-- When the slave port of a domain changes, its bound scale's `IDX` follows it (R314). -/
def Asic.followSlave (a : Asic) (p : Nat) : Asic :=
  let k := a.prtScale p
  if a.get (Reg.TSC_SRV.SRC k) = 2 ∧ a.get (Reg.TSC_SRV.IDX k) ≠ p then (a.put (Reg.TSC_SRV.IDX k) p).servoRefresh k else a
/-- Enter a port state. -/
def Asic.setPtpState (a : Asic) (p s : Nat) : Asic :=
  let old := a.ptpState p
  let hold := a.standbyHolds s
  let a := if hold then a.modPrt p fun x => { x with heldState := s } else a
  let s := if hold then 7 else s
  if s = old then a
  else
    let a := (a.put (Reg.PRT_PTPST.STATE p) s).event (Reg.PRT_PTPEVT.STATED p)
    let a := if (s == 8 || s == 9) && (old == 8 || old == 9) then a
      else a.modPrt p fun x => { x with sync := none, dreq := none, peer := none, offs := [], validRun := 0 }
    if (s == 8 || s == 9) && old != 8 && old != 9 then a.followSlave p else a
/-- The index of a port in PTP mode is no longer present (R317, R91). -/
def Asic.packetAbsent (a : Asic) (p : Nat) : Asic :=
  let a := if a.flag (Reg.PRT_PTPST.PRESENT p) then (a.put (Reg.PRT_PTPST.PRESENT p) 0).event (Reg.PRT_PTPEVT.PRESD p) else a
  let a := a.modPrt p fun x => { x with first := none, phis := [], lastSample := none }
  if a.ptpMode (16 + p) then a.lossOfPresence (16 + p) else a
/-- Bring `CFGERR`, DISABLED and FAULTY up to date (R315). -/
def Asic.ptpRefresh (a : Asic) (p : Nat) : Asic :=
  let err := a.prtCfgErr p
  let a := a.putB (Reg.PRT_STAT.CFGERR p) err
  let faulty := err || !a.linkIs p
  let was := a.ptpState p
  let s := if !a.flag (Reg.PRT_PTPCFG.EN p) then 3 else if faulty then 2 else if was = 3 then 4 else was
  let a := if faulty then a.modPrt p fun x => { x with clearSince := a.clk.now } else a
  let a := a.setPtpState p s
  if s ≠ was ∧ s = 4 then a.modPrt p fun x => { x with lastAnn := a.clk.coarse }
  else if s ≠ was ∧ (s = 2 ∨ s = 3) then a.packetAbsent p else a
/-- The SSM rank of R324: a lower number is better. -/
def qlRank (c : Nat) : Nat := match c with | 2 => 0 | 4 => 1 | 8 => 2 | 11 => 3 | _ => 4
/-- The SSM gate withdraws or releases the presence of the port's index. -/
def Asic.qlRefresh (a : Asic) (p : Nat) : Asic :=
  let i := 16 + p
  let bad := a.flag (Reg.PRT_SYNCE.QLGATE p) && decide (qlRank (a.get (Reg.PRT_SYNCE.QLMIN p)) < qlRank (a.get (Reg.PRT_SYNCE.RXQL p)))
  if bad == (a.inp i).gated then a
  else
    let a := a.modInp i fun x => { x with gated := bad, good := 0 }
    if bad then a.lossOfPresence i else a
/-- PTP_FAULTY_EXIT: 1 s after the condition cleared. -/
def Asic.faultyExit (a : Asic) (p : Nat) : Asic :=
  if a.ptpState p ≠ 2 || a.prtCfgErr p || !a.linkIs p || decide (a.clk.now < (a.port p).clearSince + second) then a
  else (a.setPtpState p 4).modPrt p fun x => { x with lastAnn := a.clk.coarse }
/-- LINK_UP of a port: the conditions of R305 have held for 10 ms. -/
def Asic.linkUp (a : Asic) (p : Nat) : Asic :=
  if !a.flag (Reg.PRT_CFG.EN p) || a.linkIs p then a
  else
    let a := ((a.put (Reg.PRT_STAT.LINK p) 1).event (Reg.PRT_STAT.LINKD p)).put (Reg.PRT_STAT.HIBER p) 0
    let a := a.putB (Reg.PRT_STAT.FECLOCK p) (a.flag (Reg.PRT_CFG.FEC p))
    (a.modPrt p fun x => { x with clearSince := a.clk.now }).ptpRefresh p
/-- The link goes down. -/
def Asic.dropLink (a : Asic) (p : Nat) : Asic :=
  if !a.linkIs p then a
  else (((a.put (Reg.PRT_STAT.LINK p) 0).event (Reg.PRT_STAT.DOWND p)).raise 50 p).ptpRefresh p
/-- LINK_DOWN with the conditions as they stand. -/
def Asic.linkDown (a : Asic) (p : Nat) (hiBer fecLock : Bool) : Asic :=
  let a := (a.putB (Reg.PRT_STAT.HIBER p) hiBer).putB (Reg.PRT_STAT.FECLOCK p) (fecLock && a.flag (Reg.PRT_CFG.FEC p))
  a.dropLink p
/-- `PRT_CFG` was written; `old` is the state before (R307, R319). -/
def Asic.prtCfgWritten (old a : Asic) (p : Nat) : Asic :=
  let q := pairOf p
  let pass := old.flag (Reg.PRT_CFG.PASS p) != a.flag (Reg.PRT_CFG.PASS p)
  let speed := old.flag (Reg.PRT_CFG.SPEED p) != a.flag (Reg.PRT_CFG.SPEED p) || old.flag (Reg.PRT_CFG.FEC p) != a.flag (Reg.PRT_CFG.FEC p)
  let a := if pass then a.putB (Reg.PRT_CFG.PASS q) (a.flag (Reg.PRT_CFG.PASS p)) else a
  let a := if speed || pass || !a.flag (Reg.PRT_CFG.EN p) then a.dropLink p else a
  let a := if pass then a.dropLink q else a
  let a := if speed && a.ptpMode (16 + p) then a.packetAbsent p else a
  (a.ptpRefresh p).ptpRefresh q
/-- PASS_APPLY: both ports are in an inter-frame gap. -/
def Asic.passApply (a : Asic) (k : Nat) : Asic :=
  let on := a.flag (Reg.PRT_CFG.PASS (2 * k))
  (a.modPrt (2 * k) fun x => { x with passing := on }).modPrt (2 * k + 1) fun x => { x with passing := on }
/-- The limits of a profile (R313): `PRT_PTPCFG` and `PRT_PTPINT` as they would stand. -/
def Asic.profileAllows (a : Asic) (p : Nat) : Bool :=
  let dom := a.get (Reg.PRT_PTPCFG.DOMAIN p)
  let s := a.getS (Reg.PRT_PTPINT.SYNC p)
  let n := a.getS (Reg.PRT_PTPINT.ANN p)
  let d := a.getS (Reg.PRT_PTPINT.DREQ p)
  if a.flag (Reg.PRT_PTPCFG.PROFILE p) then
    !Config.orderingAA && decide (24 ≤ dom) && decide (dom ≤ 43) && a.get (Reg.PRT_PTPCFG.TRANS p) == 0 && !a.flag (Reg.PRT_PTPCFG.P2P p)
      && s == -4 && n == -3 && d == -4 && a.get (Reg.PRT_PTPINT.ANNTO p) == 3
  else decide (dom ≤ 127) && decide (-7 ≤ s) && decide (s ≤ 1) && decide (-3 ≤ n) && decide (n ≤ 4) && decide (-7 ≤ d) && decide (d ≤ 6)

/-! ### Impairment (R349–R351) -/

def Asic.impRate (a : Asic) (p : Nat) : Nat := a.get (Reg.RLY_IMPCFG.RATE p)
def Asic.impAct (a : Asic) (p : Nat) : Nat := match a.get (Reg.RLY_IMPCFG.ACT p) with | 1 => 1 | 2 => 2 | _ => 0
/-- The engine sees frames of this class and direction. -/
def Asic.impSees (a : Asic) (p : Nat) (egress : Bool) (cls : Nat) : Bool :=
  let sel := a.get (Reg.RLY_IMPCFG.SEL p)
  let dir := a.get (Reg.RLY_IMPCFG.DIR p)
  a.flag (Reg.RLY_IMPSTAT.ARMED p) && (sel == 0 || decide (5 ≤ sel) || sel == cls) && (decide (2 ≤ dir) || (dir == 1) == egress)
/-- The frame is selected. -/
def Asic.impPicks (a : Asic) (p : Nat) : Bool :=
  let x := a.impair p
  if a.flag (Reg.RLY_IMPCFG.MODE p) then (x.seen + 1) % max 1 (a.impRate p) == 0
  else a.impRate p == 0 || Config.impairPick x.seed (min 16 (a.impRate p)) x.seen
/-- One impairment note (R351), counted in `RLY_IMPCNT`. -/
def Asic.impNote (a : Asic) (p : Nat) (egress pass : Bool) (act cls msg seq len hold : Nat) : Asic :=
  let a := a.addWrap (Reg.RLY_IMPCNT.COUNT p) 1
  a.emit 15 (leBytes 1 9 ++ leBytes 1 (a.flagsByte false) ++ leBytes 1 (p + 8 * bit egress + 16 * act + 64 * bit pass) ++ leBytes 1 (msg + 16 * cls)
    ++ leBytes 2 seq ++ leBytes 2 len ++ leBytes 8 a.clk.coarse ++ leBytes 4 (a.get (Reg.RLY_IMPCNT.COUNT p))
    ++ leBytes 2 (if act = 1 then a.get (Reg.RLY_IMPCFG.BYTE p) else 0) ++ leBytes 2 (min 65535 hold) ++ leBytes 4 (secOf a.ts0) ++ leBytes 4 (nsOf a.ts0))
/-- CORRUPT on a frame's bytes (R350): the FCS fails unless it is recomputed. -/
def Asic.corrupt (a : Asic) (p : Nat) (f : Frame) : Frame :=
  let o := a.get (Reg.RLY_IMPCFG.BYTE p)
  let fix := a.flag (Reg.RLY_IMPCFG.FCSFIX p)
  if o < f.bytes.length then { bytes := f.bytes.set o (BitVec.ofNat 8 (f.byte o) ^^^ 0xFF), bad := if fix then false else true }
  else if o < f.len then { f with bad := !fix } else f
/-- What the engine does with a frame at its port: the state, and the frame that goes on with whether it is impaired. -/
def Asic.impStep (a : Asic) (p : Nat) (egress pass : Bool) (cls msg seq len : Nat) (item : Transit) : Asic × Option (Transit × Bool) :=
  let held := (a.impair p).held
  let a := a.modImp p fun x => { x with held := x.held.map fun h => if h.egress = egress then { h with next := true } else h }
  if !a.impSees p egress cls then (a, some (item, false))
  else
    let hit := a.impPicks p
    let a := a.modImp p fun x => { x with seen := x.seen + 1 }
    if !hit then (a, some (item, false))
    else match a.impAct p with
      | 0 => (a.impNote p egress pass 0 cls msg seq len 0, none)
      | 1 =>
        if len < a.get (Reg.RLY_IMPCFG.BYTE p) + 1 then (a, some (item, false))
        else
          let item' := match item with
            | .rx f => Transit.rx (a.corrupt p f)
            | .cut q f t b => .cut q (a.corrupt p f) t b
            | .built k l => .built (k + 0x1000) (l ++ [(a.get (Reg.RLY_IMPCFG.BYTE p) : Int), (bit (a.flag (Reg.RLY_IMPCFG.FCSFIX p)) : Nat)])
          (a.impNote p egress pass 1 cls msg seq len 0, some (item', true))
      | _ =>
        if held.any fun h => h.egress == egress then (a, some (item, false))
        else
          let h : HeldFrame := { egress, cls, msg, seq, len, item, start := a.clk.coarse, next := false }
          (a.modImp p fun x => { x with held := x.held ++ [h] }, none)
/-- End of a run (R349). -/
def Asic.impEnd (a : Asic) (p : Nat) : Asic :=
  if a.flag (Reg.RLY_IMPSTAT.ARMED p) then (a.put (Reg.RLY_IMPSTAT.ARMED p) 0).event (Reg.RLY_IMPSTAT.ENDD p) else a
/-- Seconds a run lasts. -/
def Asic.impDuration (a : Asic) (p : Nat) : Nat := max 1 (min 3600 (a.get (Reg.RLY_IMPDUR.DURATION p)))
/-- `RLY_IMPCMD.ARM`; the key is checked at the write. -/
def Asic.impArm (a : Asic) (p : Nat) (presence : Bool) : Ruled :=
  if !presence || !(a.mode == 2 || a.mode == 3 || a.mode == 4 || a.mode == 5 || a.mode == 7) then rej (a.event (Reg.RLY_IMPSTAT.REJ p))
  else
    let s := a.get (Reg.RLY_IMPSEED.SEED p)
    ok ((a.put (Reg.RLY_IMPSTAT.ARMED p) 1).modImp p fun x => { x with seed := if s = 0 then 0xACE1 else s, seen := 0, start := a.clk.coarse })
/-- IMP_DURATION_END. -/
def Asic.impExpire (a : Asic) (p : Nat) : Asic :=
  if a.clk.coarse < (a.impair p).start + a.impDuration p * second then a else a.impEnd p

/-! ### Sending -/

/-- The 10-byte port identity of a port: its MAC address as EUI-64 and its number. -/
def Asic.portIdentity (a : Asic) (p : Nat) : Nat :=
  let lo := a.get (Reg.PRT_MACLO.MAC p)
  let mac := lo + 2 ^ 32 * a.get (Reg.PRT_MACHI.MAC p)
  ((mac / 2 ^ 24 * 2 ^ 40 + 0xFFFE * 2 ^ 24 + mac % 2 ^ 24) * 65536) + (p + 1)
/-- Length of a built frame with its FCS. -/
def Asic.builtLen (a : Asic) (p kind : Nat) : Nat :=
  let body := match kind with | 0 => 44 | 1 => 44 | 2 => 54 | 3 => 54 | 8 => 44 | 9 => 54 | 10 => 54 | 11 => 64 | 0x101 => 110 | _ => 46
  let ip := if 0x100 ≤ kind then 0 else match a.get (Reg.PRT_PTPCFG.TRANS p) with | 1 => 28 | 2 => 48 | _ => 0
  max 64 (14 + 4 * bit (kind < 0x100 && a.flag (Reg.PRT_VLAN.EN p)) + ip + body + 4)
def builtClass (kind : Nat) : Nat := if kind = 0x100 then 4 else if kind = 0x101 then 3 else if kind % 16 < 4 then 1 else 2
/-- Frame byte of a built PTP message (R325). -/
def Asic.builtBits (a : Asic) (p : Nat) : Nat := a.get (Reg.PRT_PTPCFG.TRANS p) + 4 * bit (a.flag (Reg.PRT_VLAN.EN p))
def Asic.rally (a : Asic) (i : Nat) : Rally := a.rly.inst.get i
def Asic.modRally (a : Asic) (i : Nat) (f : Rally → Rally) : Asic := { a with rly := { a.rly with inst := a.rly.inst.set i (f (a.rally i)) } }
/-- A built message leaves at position `pos`: counters, its timestamp's use, its record. The first field is the sequenceId;
the second, where present, is bound to the egress time. -/
def Asic.sendBuilt (a : Asic) (p kind : Nat) (fields : List Int) (pos : Nat) (impaired : Bool) : Asic :=
  let t := a.egressTime p pos
  let pq := a.scalePq (a.prtScale p) t
  let seq := (fields.headD 0).toNat
  let one := a.flag (Reg.PRT_PTPCFG.ONESTEP p)
  let k := kind % 0x1000
  let jumps := a.scaleJumps (a.prtScale p)
  let half : Half := { seq, own := pq, far := none, corr := 0, degraded := a.degraded, jumps, sec := 0 }
  let a : Asic := match k with
    | 0 => if one then a else a.modPrt p fun x => { x with follow := some (seq, pq) }
    | 1 => a.modPrt p fun x => { x with dreq := some half }
    | 2 =>
      let d : PeerHalf := { seq := seq, t1 := pq, t4 := none, t2 := 0, t3 := none, corr := 0, degraded := a.degraded, jumps := jumps }
      a.modPrt p fun x => { x with peer := some d }
    | 3 => if one then a else (match (a.port p).peerFollow with
        | some o => let o : Owed := { o with t := pq }; a.modPrt p fun x => { x with peerFollow := some o }
        | none => a)
    | 0x101 => a.modRally p fun x => { x with egress := some (a.scalePq (a.get (Reg.RLY_CFG.SCALE p)) t) }
    | _ => a
  let a := a.put2 (Reg.PRT_TXLO.FRAMES p) (Reg.PRT_TXHI.FRAMES p) (a.get2 (Reg.PRT_TXLO.FRAMES p) (Reg.PRT_TXHI.FRAMES p) + 1)
  let a := a.send (.port p kind (fields ++ [pq]))
  if k < 0x100 then
    a.offerStamp p 1 (16 * bit (one && (k == 0 || k == 3)) + 64 * bit impaired) k 0 (a.get (Reg.PRT_PTPCFG.DOMAIN p)) (a.builtBits p) seq t (p + 1)
  else a
/-- Send a message the module built: through the transmit queue of R32 and the impairment engine. -/
def Asic.launch (a : Asic) (p kind : Nat) (fields : List Int) (pos : Nat) : Asic :=
  let (a, taken) := if kind < 0x100 then a.enqueue 4 p 64 else (a, true)
  if !taken then a
  else
    let (a, out) := a.impStep p true false (builtClass kind) (if kind < 0x100 then kind else 15)
      (if kind < 0x100 then (fields.headD 0).toNat else 0) (a.builtLen p kind) (.built kind fields)
    match out with
    | some (.built k l, imp) => a.sendBuilt p k l pos imp
    | _ => a
/-- The next sequenceId of a message type. -/
def Asic.nextSeq (a : Asic) (p kind : Nat) : Asic × Nat :=
  let n := (a.port p).seqs.get kind
  (a.modPrt p fun x => { x with seqs := x.seqs.set kind ((n + 1) % 65536) }, n)
/-- The port's PTP instance may send. -/
def Asic.ptpSends (a : Asic) (p : Nat) : Bool := a.flag (Reg.PRT_PTPCFG.EN p) && a.linkIs p && !a.prtCfgErr p
/-- PTP_SCHEDULED_SEND: Sync and Announce in MASTER, Follow_Up after a two-step Sync, Delay_Req in UNCALIBRATED and SLAVE. -/
def Asic.scheduledSend (a : Asic) (p kind pos : Nat) : Asic :=
  if !a.ptpSends p then a
  else
    let s := a.ptpState p
    match kind with
    | 0 => if s = 6 then (let (a, n) := a.nextSeq p 0; a.launch p 0 [(n : Int)] pos) else a
    | 11 => if s = 6 then (let (a, n) := a.nextSeq p 11; a.launch p 11 [(n : Int)] pos) else a
    | 1 => if (s = 8 ∨ s = 9) ∧ !a.p2p p then (let (a, n) := a.nextSeq p 1; a.launch p 1 [(n : Int)] pos) else a
    | 8 => match (a.port p).follow with
      | some (n, t) => (a.modPrt p fun x => { x with follow := none }).launch p 8 [(n : Int), t] pos
      | none => a
    | _ => a
/-- HKC_MESSAGE_SEND: Delay_Resp, Pdelay_Req, Pdelay_Resp and its Follow_Up. -/
def Asic.hkcSend (a : Asic) (p kind pos : Nat) : Asic :=
  let x := a.port p
  let peerOk := a.p2p p && a.linkIs p && (a.ptpSends p || x.passing)
  match kind with
  | 9 => match x.owed with
    | o :: rest => if a.ptpSends p then (a.modPrt p fun x => { x with owed := rest }).launch p 9 [(o.seq : Int), o.t, o.corr, (o.req : Int)] pos else a
    | [] => a
  | 2 => if peerOk then (let (a, n) := a.nextSeq p 2; a.launch p 2 [(n : Int)] pos) else a
  | 3 => match x.owedPeer with
    | o :: rest =>
      if peerOk then (a.modPrt p fun x => { x with owedPeer := rest, peerFollow := some { o with t := 0 } }).launch p 3 [(o.seq : Int), o.t, o.corr, (o.req : Int)] pos
      else a
    | [] => a
  | 10 => match x.peerFollow with
    | some o => if peerOk && !a.flag (Reg.PRT_PTPCFG.ONESTEP p) then
        (a.modPrt p fun x => { x with peerFollow := none }).launch p 10 [(o.seq : Int), o.t, o.corr, (o.req : Int)] pos else a
    | none => a
  | _ => a
/-- ESMC_SEND. -/
def Asic.esmcSend (a : Asic) (p pos : Nat) : Asic :=
  if a.flag (Reg.PRT_SYNCE.ESMCEN p) && a.linkIs p then a.launch p 0x100 [(a.get (Reg.PRT_SYNCE.TXQL p) : Int)] pos else a

/-! ### Receiving (R306) -/

def Asic.countRx (a : Asic) (p : Nat) : Asic :=
  a.put2 (Reg.PRT_RXLO.FRAMES p) (Reg.PRT_RXHI.FRAMES p) (a.get2 (Reg.PRT_RXLO.FRAMES p) (Reg.PRT_RXHI.FRAMES p) + 1)
def Asic.discardFrame (a : Asic) (p : Nat) : Asic := a.addSat (Reg.PRT_ERRCNT.DISCARD p) 1
def Asic.badFcs (a : Asic) (p : Nat) : Asic := (a.addSat (Reg.PRT_ERRCNT.FCSBAD p) 1).event (Reg.PRT_STAT.FCSD p)
/-- A peer-delay message. -/
def peerType (k : Nat) : Bool := k == 2 || k == 3 || k == 10
/-- A PTP message the port takes up: of its transport and domain; on a pass-through pair only peer delay with `P2P`. -/
def Asic.takesPtp (a : Asic) (p : Nat) (f : Frame) (v : PtpView) : Bool :=
  f.parses v && f.byte (v.hdr + 4) == a.get (Reg.PRT_PTPCFG.DOMAIN p) && v.transport == a.get (Reg.PRT_PTPCFG.TRANS p)
    && (if (a.port p).passing then a.p2p p && peerType (f.msgType v) else a.flag (Reg.PRT_PTPCFG.EN p))
/-- An ARP request, or an IPv6 Neighbour Solicitation, for the port's own address. -/
def Asic.asksAddress (a : Asic) (p : Nat) (f : Frame) : Bool :=
  let o := f.payload
  let v6 := a.get (Reg.PRT_IPV6_3.ADDR p) + 2 ^ 32 * (a.get (Reg.PRT_IPV6_2.ADDR p) + 2 ^ 32 * (a.get (Reg.PRT_IPV6_1.ADDR p) + 2 ^ 32 * a.get (Reg.PRT_IPV6_0.ADDR p)))
  (f.etherType == 0x0806 && f.num (o + 6) 2 == 1 && f.num (o + 24) 4 == a.get (Reg.PRT_IPV4.ADDR p))
    || (f.etherType == 0x86DD && f.byte (o + 6) == 58 && f.byte (o + 40) == 135 && f.num (o + 48) 16 == v6)
/-- A frame on a pass-through port that terminates there (R319). -/
def Asic.terminates (a : Asic) (p : Nat) (f : Frame) : Bool :=
  !(a.port p).passing || f.cls == 4 || (match f.ptp with | some v => a.takesPtp p f v | none => false)
/-- A taken-up frame waits to be parsed. -/
def Asic.takeUp (a : Asic) (p : Nat) (f : Frame) (t : Int) : Asic :=
  let x : Taken := { cls := f.cls, f, t, scale := a.scalePq (a.prtScale p) t, degraded := a.degraded }
  let (a, taken) := a.enqueue 3 p 64
  if taken then a.modPrt p fun q => { q with inbox := q.inbox ++ [x] } else a
/-- A frame received at a terminating port. -/
def Asic.rxFrame (a : Asic) (p : Nat) (f : Frame) (pos : Nat) (impaired : Bool) : Asic :=
  let a := a.countRx p
  let t := a.ingressTime p pos
  if f.bad then a.badFcs p
  else if f.len < 64 ∨ 9216 < f.len then a.discardFrame p
  else match f.ptp with
    | some v =>
      if !a.takesPtp p f v then a.discardFrame p
      else
        let oneStep := (f.msgType v == 0 || f.msgType v == 3) && !hasBit (f.byte (v.hdr + 6)) 1
        let a := a.takeUp p f t
        if f.isEvent v then
          a.offerStamp p 0 (16 * bit oneStep + 32 * bit (a.port p).passing + 64 * bit impaired) (f.msgType v) (f.byte v.hdr / 16) (f.byte (v.hdr + 4))
            (v.transport + 4 * bit f.vlan) (f.seqId v) t (f.num (v.hdr + 28) 2)
        else a
    | none =>
      if f.cls = 3 || f.cls = 4 then a.takeUp p f t
      else if a.asksAddress p f then
        (a.put2 (Reg.PRT_TXLO.FRAMES p) (Reg.PRT_TXHI.FRAMES p) (a.get2 (Reg.PRT_TXLO.FRAMES p) (Reg.PRT_TXHI.FRAMES p) + 1)).send (.port p 0x103 [])
      else a.discardFrame p
/-- FRAME_RECEIVED. -/
def Asic.frameReceived (a : Asic) (p : Nat) (f : Frame) (pos cor unc : Nat) : Asic :=
  if !a.linkIs p || !a.terminates p f then a
  else
    let a := if a.flag (Reg.PRT_CFG.FEC p) then (a.addSat (Reg.PRT_FECCNT.COR p) cor).addSat (Reg.PRT_FECCNT.UNC p) unc else a
    let (a, out) := a.impStep p false false f.cls f.noteType f.noteSeq f.len (.rx f)
    match out with
    | some (.rx g, imp) => a.rxFrame p g pos imp
    | _ => a

/-! ### Cut-through (R319–R322) -/

/-- mld of a port as measured. -/
def Asic.mld (a : Asic) (p : Nat) : Int := a.get2S (Reg.PRT_MPDLO.MPD p) (Reg.PRT_MPDHI.MPD p)
/-- What the pass-through adds to the correctionField of a message type; none for a message it does not correct. -/
def Asic.correctionTerm (a : Asic) (p msg : Nat) (residence : Int) : Option Int :=
  match msg with
  | 0 => some (if a.p2p p then residence + a.mld p + a.asym p else residence)
  | 1 => some residence
  | 2 => if a.p2p p then none else some residence
  | 3 => if a.p2p p then none else some residence
  | _ => none
/-- A frame leaves the egress port `q` of a pair; `tin` is its ingress time and `tout` its egress time, u. -/
def Asic.cutOut (a : Asic) (p q : Nat) (f : Frame) (tin tout : Int) (broken impaired : Bool) : Asic :=
  let residence := roundDiv (tout - tin) 5
  let a := a.put2 (Reg.PRT_TXLO.FRAMES q) (Reg.PRT_TXHI.FRAMES q) (a.get2 (Reg.PRT_TXLO.FRAMES q) (Reg.PRT_TXHI.FRAMES q) + 1)
  let a := if f.bad then a.badFcs p else a
  let fcs := if broken then 2 else if f.bad then 1 else 0
  match f.ptp with
  | none => a.send (.frame q f.bytes fcs)
  | some v =>
    if !f.parses v then (a.addSat (Reg.PRT_TCCNT.TCSKIP p) 1).send (.frame q f.bytes fcs)
    else match (if f.isEvent v then a.correctionTerm p (f.msgType v) residence else none) with
      | none => a.send (.frame q f.bytes fcs)
      | some add =>
        let sum := f.correction v + add
        let runOver := decide ((2 : Int) ^ 63 - 1 < sum)
        let a := if runOver then (a.addSat (Reg.PRT_TCCNT.OVF p) 1).event (Reg.PRT_STAT.OVFD p) else a
        let g := f.withCorrection v (min ((2 : Int) ^ 63 - 1) sum)
        let a := a.send (.frame q g.bytes fcs)
        let oneStep := f.msgType v == 0 && !hasBit (f.byte (v.hdr + 6)) 1
        if a.flag (Reg.PRT_REC.TC q) then
          a.offerStamp q 1 (16 * bit oneStep + 32 + 64 * bit impaired) (f.msgType v) (f.byte v.hdr / 16) (f.byte (v.hdr + 4))
            (v.transport + 4 * bit f.vlan + 8 * bit f.bad + 16 * bit runOver) (f.seqId v) tout (min 65535 (residence * 100 / 65536).toNat)
        else a
/-- CUT_THROUGH_FRAME: both engines of the pair, then the egress port; with its link down the frame is discarded (R326). -/
def Asic.cutThrough (a : Asic) (p : Nat) (f : Frame) (pos transit : Nat) (broken : Bool) : Asic :=
  let q := pairOf p
  if !(a.port p).passing || !a.linkIs p || a.terminates p f then a
  else
    let a := a.countRx p
    let tin := a.ingressTime p pos
    let tout := a.egressTime q (pos + transit)
    if !a.linkIs q then a.discardFrame q
    else
      let (a, out) := a.impStep p false true f.cls f.noteType f.noteSeq f.len (.cut p f tin broken)
      match out with
      | some (.cut _ g t b, i1) =>
        let (a, out) := a.impStep q true true g.cls g.noteType g.noteSeq g.len (.cut p g t b)
        match out with
        | some (.cut _ h t b, i2) => a.cutOut p q h t tout b (i1 || i2)
        | _ => a
      | _ => a
/-- REORDER_RELEASE: a held frame goes on after the next frame, or after 100 µs. -/
def Asic.reorderRelease (a : Asic) (p : Nat) (egress : Bool) (pos : Nat) : Asic :=
  match (a.impair p).held.find? fun h => h.egress == egress with
  | none => a
  | some h =>
    if !h.next && decide (a.clk.coarse < h.start + 100 * usec) then a
    else
      let a := a.modImp p fun x => { x with held := x.held.filter (· != h) }
      let pass := match h.item with | .cut _ _ _ _ => true | _ => false
      let a := a.impNote p egress pass 2 h.cls h.msg h.seq h.len ((a.clk.coarse - h.start) * 2 / 25)
      match h.item with
      | .rx f => a.rxFrame p f pos true
      | .built k l => a.sendBuilt p k l pos true
      | .cut i f t b => if a.linkIs (pairOf i) then a.cutOut i (pairOf i) f t (a.egressTime (pairOf i) pos) b true else a.discardFrame (pairOf i)

/-! ### PTP messages and exchanges (R314–R318) -/

/-- An exchange is discarded (R316). -/
def Asic.ptpDiscard (a : Asic) (p : Nat) : Asic := a.event (Reg.PRT_PTPEVT.DISCD p)
/-- States a `ROLE` allows (R315). -/
def roleAllows (role s : Nat) : Bool :=
  match role with
  | 1 => s == 4 || s == 5 || s == 6 || s == 7
  | 2 => s == 4 || s == 8 || s == 9
  | _ => decide (4 ≤ s)
/-- Apply what the BMCA recommends. -/
def Asic.applyBmca (a : Asic) (p : Nat) (b : Bmca) : Asic :=
  match b with
  | .keep => a
  | .state s fresh =>
    if !roleAllows (a.get (Reg.PRT_PTPCFG.ROLE p)) s || decide (a.ptpState p < 4) then a
    else
      let a := if fresh then a.event (Reg.PRT_PTPEVT.PARENTD p) else a
      let s' : Nat := if (s.val = 9 ∨ s.val = 8) then (if a.ptpState p = 9 ∧ !fresh then 9 else 8) else s.val
      let a := if fresh then a.modPrt p fun x => { x with validRun := 0 } else a
      a.setPtpState p s'
/-- The engine takes one parsed message. -/
def Asic.takePtp (a : Asic) (p : Nat) (x : Taken) (v : PtpView) (b : Bmca) : Asic :=
  let f := x.f
  let seq := f.seqId v
  let corr := f.correction v
  let slave := a.ptpState p == 8 || a.ptpState p == 9
  let jumps := a.scaleJumps (a.prtScale p)
  let mine := f.num (v.hdr + 44) 10 == a.portIdentity p
  let two := hasBit (f.byte (v.hdr + 6)) 1
  let src := f.num (v.hdr + 20) 10
  match f.msgType v with
  | 0 =>
    if !slave then a
    else
      let h : Half := { seq, own := x.scale, far := if two then none else some (f.stamp v), corr, degraded := x.degraded, jumps,
                        sec := (x.t / uPerCycle).toNat / second }
      a.modPrt p fun q => { q with sync := some h }
  | 8 =>
    match (a.port p).sync with
    | some s => if slave && s.far.isNone then
        (if s.seq = seq then a.modPrt p fun q => { q with sync := some { s with far := some (f.stamp v), corr := s.corr + corr } }
         else (a.modPrt p fun q => { q with sync := none }).ptpDiscard p) else a
    | none => a
  | 9 =>
    match (a.port p).dreq with
    | some d => if slave && mine && d.far.isNone then
        (if d.seq = seq then a.modPrt p fun q => { q with dreq := some { d with far := some (f.stamp v), corr } }
         else (a.modPrt p fun q => { q with dreq := none }).ptpDiscard p) else a
    | none => a
  | 3 =>
    match (a.port p).peer with
    | some d => if mine && d.t4.isNone then
        (if d.seq = seq then
            (let e : PeerHalf := { d with t4 := some x.scale, t2 := if two then f.stamp v else 0, t3 := if two then none else some 0, corr := corr,
                                          degraded := d.degraded || x.degraded }
             a.modPrt p fun q => { q with peer := some e })
         else (a.modPrt p fun q => { q with peer := none }).ptpDiscard p) else a
    | none => a
  | 10 =>
    match (a.port p).peer with
    | some d => if mine && d.t3.isNone && d.t4.isSome then
        (if d.seq = seq then a.modPrt p fun q => { q with peer := some { d with t3 := some (f.stamp v), corr := d.corr + corr } }
         else (a.modPrt p fun q => { q with peer := none }).ptpDiscard p) else a
    | none => a
  | 1 => if a.ptpState p = 6 then a.modPrt p fun q => { q with owed := q.owed ++ [{ req := src, seq, t := x.scale, corr }] } else a
  | 2 => if a.p2p p then a.modPrt p fun q => { q with owedPeer := q.owedPeer ++ [{ req := src, seq, t := x.scale, corr }] } else a
  | 11 => (a.modPrt p fun q => { q with lastAnn := a.clk.coarse }).applyBmca p b
  | 13 => a.send (.port p 13 [(seq : Int), (f.byte (v.hdr + 46) : Int)])
  | _ => a
/-- PTP_MESSAGE_RECEIVED: the oldest PTP message of the port's queue. -/
def Asic.ptpMessage (a : Asic) (p : Nat) (b : Bmca) : Asic :=
  match (a.port p).inbox.find? fun x => x.cls == 1 || x.cls == 2 with
  | none => a
  | some x =>
    let a := a.modPrt p fun q => { q with inbox := q.inbox.erase x }
    match x.f.ptp with
    | some v => a.takePtp p x v b
    | none => a
/-- Average delay values: the mean of the last `MPDN`. -/
def Asic.addDelay (a : Asic) (p : Nat) (d : Int) : Asic :=
  let n := max 1 (a.get (Reg.PRT_PTPINT.MPDN p))
  let a := a.modPrt p fun x => { x with delays := (d :: x.delays).take n }
  let l := (a.port p).delays
  a.put2S (Reg.PRT_MPDLO.MPD p) (Reg.PRT_MPDHI.MPD p) (roundDiv (l.foldl (· + ·) 0) l.length)
/-- An offset whose t2 fell in a grid second. -/
def Asic.addOffset (a : Asic) (p sec : Nat) (off : Int) : Asic :=
  (a.put2S (Reg.PRT_OFFLO.OFF p) (Reg.PRT_OFFHI.OFF p) off).modPrt p fun x => { x with offs := addSecond sec (-off) x.offs }
/-- A half is unusable: DEGRADED, or a set or step of the bound scale since. -/
def Half.spoilt (h : Half) (jumps : Nat) : Bool := h.degraded || h.jumps != jumps
/-- Delay request-response: both halves are complete. -/
def Asic.e2eExchange (a : Asic) (p : Nat) : Asic :=
  match (a.port p).sync, (a.port p).dreq with
  | some s, some d =>
    match s.far, d.far with
    | some t1, some t4 =>
      let a := a.modPrt p fun x => { x with sync := none, dreq := none }
      let j := a.scaleJumps (a.prtScale p)
      if s.spoilt j || d.spoilt j then a.ptpDiscard p
      else
        let msd := s.own - t1 - s.corr
        let smd := t4 - d.own - d.corr
        let a := a.addDelay p (roundDiv (msd + smd) 2)
        a.addOffset p s.sec (msd - a.mld p - a.asym p)
    | _, _ => a
  | _, _ => a
/-- Peer delay: a complete peer exchange gives mld. -/
def Asic.peerExchange (a : Asic) (p : Nat) : Asic :=
  match (a.port p).peer with
  | some d =>
    match d.t4, d.t3 with
    | some t4, some t3 =>
      let a := a.modPrt p fun x => { x with peer := none }
      if d.degraded || d.jumps != a.scaleJumps (a.prtScale p) then a.ptpDiscard p
      else a.addDelay p (roundDiv ((t4 - d.t1) - (t3 - d.t2) - d.corr) 2)
    | _, _ => a
  | none => a
/-- Peer delay: a complete Sync gives an offset. -/
def Asic.peerSync (a : Asic) (p : Nat) : Asic :=
  match (a.port p).sync with
  | some s =>
    match s.far with
    | some t1 =>
      if (a.port p).delays = [] then a
      else
        let a := a.modPrt p fun x => { x with sync := none }
        if s.spoilt (a.scaleJumps (a.prtScale p)) then a.ptpDiscard p
        else a.addOffset p s.sec (s.own - t1 - s.corr - a.mld p - a.asym p)
    | none => a
  | none => a
/-- PTP_EXCHANGE_COMPLETE. -/
def Asic.exchangeComplete (a : Asic) (p : Nat) : Asic :=
  if a.prtCfgErr p then a else if a.p2p p then (a.peerExchange p).peerSync p else a.e2eExchange p
/-- σ from successive differences, in units of `num/den` per PQ (R318, R337). -/
def diffSigma (l : List Int) (num den : Nat) : Nat :=
  let d := (l.zip l.tail).map fun x => (x.1 - x.2) * (x.1 - x.2)
  if d = [] then 0 else sqrtRound (((d.foldl (· + ·) 0 : Int) : Rat) / ((d.length : Nat) : Rat) / 2 * ((num : Nat) : Rat) ^ 2 / ((den : Nat) : Rat) ^ 2)
/-- Form the phase sample of index 16 + p from the mean negated offset `e` of grid second `n` (R317). -/
def Asic.packetSample (a : Asic) (p n : Nat) (e : Int) : Asic :=
  let i := 16 + p
  let m := a.scalePq (a.prtScale p) a.nowU + e
  let fresh := (a.port p).first.isNone
  let (n0, s0) := (a.port p).first.getD (n, roundDiv m pqPerSec)
  let phi := ((n : Int) - n0 + s0) * pqPerSec - m
  let a := a.modPrt p fun x => { x with first := some (n0, s0), phis := ((if fresh then [phi] else phi :: x.phis)).take 64, lastSample := some n }
  let ph := (a.port p).phis
  let a := a.put (Reg.PRT_PKTSIG.SIG p) (if ph.length < 8 then 0xFFFF else min 65535 (diffSigma ph 10000 65536))
  if !a.ptpMode i || !a.refUsable i then a
  else
    let a := if !a.present i && !(a.inp i).gated then a.declarePresent i else a
    let a := if fresh || !(a.inp i).numbered then a.restartNumbering i else a
    if !a.present i then a
    else
      let a := a.modInp i fun x => { x with n := (n : Int), phase := phi, tU := a.nowU, recSum := x.recSum + phi, recN := x.recN + 1,
                                            recPrimer := x.recPrimer || a.primer, recDegraded := x.recDegraded || a.degraded }
      a.takeSample i n { t := a.clk.coarse, phase := phi, edges := 1, run := (a.inp i).run }
/-- PTP_GRID_SAMPLE at the instant that ends a grid second. -/
def Asic.gridSample (a : Asic) (p : Nat) : Asic :=
  let n := (a.clk.coarse - 1) / second
  let k := a.prtScale p
  let slave := a.ptpState p == 8 || a.ptpState p == 9
  let here := (a.port p).offs.find? fun x => x.1 == n
  let a := a.modPrt p fun x => { x with offs := x.offs.filter fun y => n < y.1 }
  let a : Asic := match here with
    | some (_, sum, c) =>
      let e := roundDiv sum c
      let a := if a.get (Reg.TSC_SRV.SRC k) = 2 ∧ a.get (Reg.TSC_SRV.IDX k) = p then a.deliverSample k e a.clk.coarse a.degraded else a
      let a := (a.addWrap (Reg.PRT_PTPCNT.SAMPLES p) 1).put (Reg.PRT_PTPST.SAMPLED p) 1
      (a.packetSample p n e).modPrt p fun x => { x with validRun := x.validRun + 1 }
    | none =>
      let a := (a.put (Reg.PRT_PTPST.SAMPLED p) 0).modPrt p fun x => { x with validRun := 0 }
      if slave then a.addSat (Reg.PRT_PTPCNT.MISS p) 1 else a
  let recent := match (a.port p).lastSample with | some m => decide (n ≤ m + 1) | none => false
  let here' := slave && recent
  let a := if here' && !a.flag (Reg.PRT_PTPST.PRESENT p) then (a.put (Reg.PRT_PTPST.PRESENT p) 1).event (Reg.PRT_PTPEVT.PRESD p) else a
  let a := if !here' && (a.flag (Reg.PRT_PTPST.PRESENT p) || (a.ptpMode (16 + p) && a.present (16 + p))) then a.packetAbsent p else a
  let servoed := a.get (Reg.TSC_SRV.SRC k) == 2 && a.get (Reg.TSC_SRV.IDX k) == p
  if a.ptpState p == 8 && !servoed && decide (16 ≤ (a.port p).validRun) then a.setPtpState p 9 else a
/-- The servo of a scale entered TRACK: its source port leaves UNCALIBRATED (R315). -/
def Asic.servoTracked (old a : Asic) (k : Nat) : Asic :=
  if old.get (Reg.TSC_SRVSTAT.STATE k) = 2 || a.get (Reg.TSC_SRVSTAT.STATE k) ≠ 2 || a.get (Reg.TSC_SRV.SRC k) ≠ 2 then a
  else
    let p := a.get (Reg.TSC_SRV.IDX k)
    if p < 6 && a.prtScale p == k && a.ptpState p == 8 then a.setPtpState p 9 else a
/-- announceReceiptTimeout in TDC cycles (R313). -/
def Asic.announceTimeout (a : Asic) (p : Nat) : Nat :=
  let n := a.getS (Reg.PRT_PTPINT.ANN p)
  let w := max 2 (a.get (Reg.PRT_PTPINT.ANNTO p)) * second
  if 0 ≤ n then w * 2 ^ n.toNat else w / 2 ^ (-n).toNat
/-- ANNOUNCE_RECEIPT_TIMEOUT: a port confined to slave states listens; any other becomes MASTER. -/
def Asic.announceExpired (a : Asic) (p : Nat) : Asic :=
  let s := a.ptpState p
  if !(s == 4 || s == 7 || s == 8 || s == 9) || decide (a.clk.coarse < (a.port p).lastAnn + a.announceTimeout p) then a
  else a.setPtpState p (if a.get (Reg.PRT_PTPCFG.ROLE p) = 2 then 4 else 6)
/-- Ports held in PASSIVE by STANDBY, at entry, and what the BMCA gives at takeover (R326). -/
def Asic.holdMasters (a : Asic) : Asic := a.each ports fun a p => let s := a.ptpState p; if s = 5 ∨ s = 6 then a.setPtpState p s else a
def Asic.releaseMasters (a : Asic) : Asic :=
  a.each ports fun a p =>
    let s := (a.port p).heldState
    let a := a.modPrt p fun x => { x with heldState := 0 }
    if s ≠ 0 ∧ a.ptpState p = 7 then a.setPtpState p s else a

/-! ### ESMC (R324) -/

/-- ESMC_PDU_RECEIVED. -/
def Asic.esmcReceived (a : Asic) (p ssm : Nat) : Asic :=
  match (a.port p).inbox.find? fun x => x.cls == 4 with
  | none => a
  | some x =>
    let a := a.modPrt p fun q => { q with inbox := q.inbox.erase x, esmcAt := a.clk.coarse }
    if a.flag (Reg.PRT_SYNCE.ESMCEN p) then
      ((a.put (Reg.PRT_SYNCE.RXQL p) ssm).put (Reg.PRT_SYNCE.ESMCTO p) 0).qlRefresh p
    else a
/-- ESMC_TIMEOUT. -/
def Asic.esmcTimeout (a : Asic) (p : Nat) : Asic :=
  if !a.flag (Reg.PRT_SYNCE.ESMCEN p) || decide (a.clk.coarse < (a.port p).esmcAt + 5 * second) then a
  else ((a.put (Reg.PRT_SYNCE.ESMCTO p) 1).put (Reg.PRT_SYNCE.RXQL p) 0xF).qlRefresh p

end Sys2Proof.Machine
end

