-- ==== Sys2Proof/Machine/Rally.lean ====
section
/-! DEFINITION. Rally alignment and `MATE` redundancy (R328–R348). -/

namespace Sys2Proof.Machine

def instances : List Nat := List.range 7
def Asic.mate (a : Asic) : Mate := a.rly.mate
def Asic.modMate (a : Asic) (f : Mate → Mate) : Asic := { a with rly := { a.rly with mate := f a.rly.mate } }
def Asic.mateRole (a : Asic) : Nat := a.get Reg.RLY_MATEST.ROLE

/-! ### What an instance measures with (R330) -/

/-- The PCS clock period U of an instance, PQ; `MATE` is 25G. -/
def Asic.rallyU (a : Asic) (i : Nat) : Rat := if i < 6 then a.pcsPeriod i else 64 * 65536 / 25
def Asic.rallyScale (a : Asic) (i : Nat) : Nat := a.get (Reg.RLY_CFG.SCALE i)
def Asic.follows' (a : Asic) (i : Nat) : Bool := a.flag (Reg.RLY_CFG.ROLE i)
def Asic.rallyState (a : Asic) (i : Nat) : Nat := a.get (Reg.RLY_STAT.STATE i)
def Asic.rallyLink (a : Asic) (i : Nat) : Bool := if i < 6 then a.linkIs i else a.flag Reg.RLY_MATEST.LINK
/-- The channel the instance's transmit clock follows. -/
def Asic.rallyChan (a : Asic) (i : Nat) : Nat := if i < 6 then a.get (Reg.PRT_CFG.TXCHAN i) else Config.mateTxChan % 8
/-- Calibrated clock paths, PQ (item 7 of R466). -/
def Asic.calTx (a : Asic) (i : Nat) : Int := a.cal.inUse.get (7 * 64 + 2 * i)
def Asic.calRx (a : Asic) (i : Nat) : Int := a.cal.inUse.get (7 * 64 + 2 * i + 1)
/-- Ingress and egress times, u; `MATE` has the fixed latencies of R309 alone. -/
def Asic.rallyIngress (a : Asic) (i pos : Nat) : Int := if i < 6 then a.ingressTime i pos else a.blockTime pos - 5 * roundRat (16 * a.rallyU 6)
def Asic.rallyEgress (a : Asic) (i pos : Nat) : Int := if i < 6 then a.egressTime i pos else a.blockTime pos + 5 * roundRat (12 * a.rallyU 6)
/-- x reduced by whole multiples of U into [0, U) and into [−U/2, U/2). -/
def modU (u x : Rat) : Rat := x - u * ((x / u).floor : Rat)
def wrapU (u x : Rat) : Rat := modU u (x + u / 2) - u / 2
/-- A phase held in 2⁻³² PQ. -/
def ofQ32 (x : Int) : Rat := (x : Rat) / 2 ^ 32
def toQ32 (x : Rat) : Int := (x * 2 ^ 32).floor
/-- θ of a channel now, PQ. -/
def Asic.thetaNow (a : Asic) (c : Nat) : Rat := ofQ32 (a.thetaTime c a.clk.coarse)
/-- The transmit clock's phase at J1, PQ. -/
def Asic.txPhase (a : Asic) (i : Nat) : Rat :=
  a.thetaNow (a.rallyChan i) + (a.calTx i : Rat) + (if i < 6 then (a.getS (Reg.PRT_EGLAT.LAT i) : Rat) else 0)
/-- φ of a port instance for second `n`: the mean phase of index 16 + port against the transmit clock. -/
def Asic.ownPhi (a : Asic) (i n : Nat) : Int :=
  let x := a.inp (16 + i)
  let ph : Rat := match x.seconds.find? fun e => e.1 == n with
    | some (_, s, k) => (s : Rat) / ((k : Nat) : Rat)
    | none => match x.last with | some s => s.phase | none => x.phase
  toQ32 (modU (a.rallyU i) (ph - (a.calRx i : Rat) - (a.getS (Reg.PRT_INLAT.LAT i) : Rat) - a.txPhase i))
/-- ψ of a port instance: the bound scale's reading at the last transmit-clock edge, modulo U. -/
def Asic.ownPsi (a : Asic) (i : Nat) : Int :=
  let u := a.rallyU i
  let back := modU u ((a.nowU : Rat) / 5 - a.txPhase i)
  toQ32 (modU u ((a.scaleAt (a.rallyScale i) a.nowU : Rat) / (pqUnits : Nat) - back))
/-- The delayAsymmetry of R332 for a round trip, PQ. -/
def Asic.rallyDelta (a : Asic) (i : Nat) (rtt : Rat) : Rat :=
  let al : Rat := (a.getS (Reg.RLY_ALPHA.ALPHA i) : Rat) / 2 ^ 40
  (a.get2S (Reg.RLY_ASYMLO.ASYM i) (Reg.RLY_ASYMHI.ASYM i) : Rat) + rtt * al / (2 * (2 + al))
/-- The free spare lane instance 6 borrows: the highest-numbered. -/
def Asic.borrowed (a : Asic) : Option Nat := [27, 26, 25, 24].find? fun n => a.laneFree n && !a.flag (Reg.REF_LSTAT.RETIRED n)
def Asic.rallyLane (a : Asic) (i : Nat) : Nat := if i < 6 then a.laneOf (16 + i) else a.borrowed.getD 31

/-! ### States (R335, R336) -/

/-- Two FOLLOW instances are bound to one scale. -/
def Asic.scaleClash (a : Asic) (i : Nat) : Bool :=
  a.follows' i && instances.any fun j => j != i && a.flag (Reg.RLY_CFG.EN j) && a.follows' j && a.rallyScale j == a.rallyScale i
def Asic.rallyCfgErr (a : Asic) (i : Nat) : Bool :=
  a.flag (Reg.RLY_CFG.EN i) && (a.scaleClash i || (decide (i < 6) &&
    (!a.flag (Reg.PRT_CFG.EN i) || a.flag (Reg.PRT_CFG.PASS i) || !a.flag (Reg.PRT_CFG.TXCLK i) || !a.flag (Reg.REF_CFG.EN (16 + i))
      || a.ptpMode (16 + i) || (match (a.rally i).partner with
        | some (f, _) => f.speed.val != a.get (Reg.PRT_CFG.SPEED i) || f.follow == a.follows' i
        | none => false))))
/-- The partner's frames ask for suspension. -/
def Asic.partnerSuspends (a : Asic) (i : Nat) : Bool := match (a.rally i).partner with | some (f, _) => f.suspend | none => false
/-- Forget the exchange terms of the second. -/
def Rally.fresh (x : Rally) : Rally := { x with inSum := 0, inN := 0, outSum := 0, outN := 0, spoilt := false }
/-- Enter a state. -/
def Asic.setRallyState (a : Asic) (i s : Nat) : Asic :=
  let old := a.rallyState i
  if s = old then a
  else
    let a := a.put (Reg.RLY_STAT.STATE i) s
    let a := if old = 3 then ((a.event (Reg.RLY_STAT.LOSTD i)).raise 51 i).modRally i fun x => { x with acalBad := true } else a
    let a := if old = 3 ∧ i = 6 then a.put Reg.RLY_MATEST.READY 0 else a
    let a := if s ≠ 2 then a.put (Reg.RLY_STAT.UNSYNT i) 0 else a
    if s = 3 then (a.event (Reg.RLY_STAT.TRACKD i)).modRally i fun x => { x with trackSince := a.clk.now, restart := true }
    else if s = 2 then a.modRally i fun x => { x.fresh with run := 0, phi := none, offs := [] }
    else if s = 1 then a.modRally i fun x => { x with partner := none }
    else a
/-- Bring an instance's configuration error, state and lane up to date. -/
def Asic.rallyRefresh (a : Asic) (i : Nat) : Asic :=
  let err := a.rallyCfgErr i
  let a := a.putB (Reg.RLY_STAT.CFGERR i) err
  let s := a.rallyState i
  let a :=
    if !a.flag (Reg.RLY_CFG.EN i) || err then a.setRallyState i 0
    else if s = 0 then a.setRallyState i 1
    else if s ≠ 1 ∧ (!a.rallyLink i ∨ (i = 6 ∧ a.borrowed = none)) then a.setRallyState i 1
    else if (s = 2 ∨ s = 3) ∧ (a.fallback || a.partnerSuspends i) then a.setRallyState i 4
    else if s = 1 ∧ a.rallyLink i ∧ (a.rally i).partner.isSome ∧ (i ≠ 6 ∨ a.borrowed ≠ none) then a.setRallyState i 2
    else a
  a.put (Reg.RLY_LANE.LANE i) (if a.rallyState i = 0 then 31 else a.rallyLane i)
def Asic.rallyRefreshAll (a : Asic) : Asic := a.each instances fun a i => a.rallyRefresh i

/-! ### Frames (R329) -/

/-- RALLY_FRAME_SEND. -/
def Asic.rallySend (a : Asic) (i pos : Nat) : Asic :=
  if !a.flag (Reg.RLY_CFG.EN i) || !a.rallyLink i || (decide (i < 6) && (a.port i).passing) then a
  else
    let x := a.rally i
    let k := a.rallyScale i
    let fields : List Int := [(bit (a.follows' i) : Nat), (if i < 6 then a.get (Reg.PRT_CFG.SPEED i) else 1 : Nat), (a.scaleJumps k : Nat),
      (bit a.fallback : Nat), (bit a.degraded : Nat), x.egress.getD 0, x.ingress.getD 0, x.phi.getD 0, x.psi.getD 0, x.psiRate]
    if i < 6 then a.launch i 0x101 fields pos
    else (a.modRally 6 fun x => { x with egress := some (a.scalePq k (a.rallyEgress 6 pos)) }).send (.port 6 0x101 fields)
/-- A frame that passed its check: the exchange terms of R316 with c = 0, the partner's values, the states. -/
def Asic.rallyTake (a : Asic) (i : Nat) (f : RallyFrame) (t : Int) : Asic :=
  let k := a.rallyScale i
  let own := a.scalePq k t
  let x := a.rally i
  let steps := f.steps.toNat * 2 ^ 32 + a.scaleJumps k
  let next := decide (a.clk.coarse < x.heard + 3 * second / 32)
  let a := a.modRally i fun x => { x with
    inSum := match x.ingress with | some g => if next then x.inSum + (g - signed 64 f.prevEgress.toNat) else x.inSum | none => x.inSum
    inN := if x.ingress.isSome && next then x.inN + 1 else x.inN
    outSum := match x.egress with | some e => x.outSum + (signed 64 f.lastIngress.toNat - e) | none => x.outSum
    outN := if x.egress.isSome then x.outN + 1 else x.outN
    spoilt := x.spoilt || f.degraded || a.degraded || (x.partner.isSome && x.steps != steps)
    steps := steps, ingress := some own, heard := a.clk.coarse, partner := some (f, t) }
  a.rallyRefresh i
/-- RALLY_FRAME_RECEIVED: a port instance takes the oldest Rally frame its port took up. -/
def Asic.rallyReceived (a : Asic) (i : Nat) (f : RallyFrame) (pos : Nat) : Asic :=
  let hit : Option (Asic × Int) :=
    if i < 6 then
      match (a.port i).inbox.find? fun x => x.cls == 3 with
      | some x => some (a.modPrt i fun q => { q with inbox := q.inbox.erase x }, x.t)
      | none => none
    else if a.rallyLink 6 then some (a, a.rallyIngress 6 pos) else none
  match hit with
  | none => a
  | some (a, t) =>
    if !a.flag (Reg.RLY_CFG.EN i) then a
    else if !f.good then a.addSat (Reg.RLY_CNT.DISCARD i) 1
    else a.rallyTake i f t
/-- RALLY_PARTNER_TIMEOUT: no partner frame for 2 s. -/
def Asic.rallyTimeout (a : Asic) (i : Nat) : Asic :=
  if a.rallyState i < 2 ∨ a.clk.coarse < (a.rally i).heard + 2 * second then a else a.setRallyState i 1

/-! ### The sample (R331–R338) -/

/-- The Rally record of R338. -/
def Asic.rallyRecord (a : Asic) (i edges : Nat) (o : Int) (restart ambig : Bool) : Asic :=
  if !a.flag (Reg.RLY_CFG.REC i) then a
  else
    let y : Int := match (a.rally i).offs with | n :: p :: _ => roundDiv ((n - p) * 2 ^ 44) 1000000000 | _ => 0
    a.emit 15 (leBytes 1 1 ++ leBytes 1 (a.flagsByte false) ++ leBytes 1 (0x80 + i) ++ leBytes 1 (a.get (Reg.RLY_LANE.LANE i)) ++ leBytes 8 a.clk.coarse
      ++ leBytes 8 (code 64 o) ++ leBytes 6 (code 48 (satS 48 y)) ++ leBytes 4 edges ++ leBytes 2 (8 * bit restart + 64 * bit ambig))
/-- Change a channel's Rally term by −x/2^`SGAIN`, rounded to the nearest PQ, unless it is slewing (R334). -/
def Asic.steerChan (a : Asic) (i c : Nat) (x : Rat) : Asic :=
  if a.flag (Reg.DPL_STATE.SLEWING c) then a
  else a.modChan c fun d => { d with rally := d.rally + roundRat (-x / (2 ^ a.get (Reg.RLY_CFG.SGAIN i) : Nat)) }
/-- Deliver O to the servos that take it (R333, R343). -/
def Asic.rallyDeliver (a : Asic) (i : Nat) (o : Int) : Asic :=
  let k0 := a.rallyScale i
  let put := fun (a : Asic) (k : Nat) (e : Int) => if a.get (Reg.TSC_SRV.SRC k) = 5 then a.deliverSample k e a.clk.coarse a.degraded else a
  let a := put a k0 o
  if i < 6 then a
  else match a.mate.partner with
    | none => a
    | some h => a.each [0, 1, 2, 3] fun a k =>
        if k = k0 ∨ !hasBit (a.get Reg.RLY_MATECFG.SCALES) k then a
        else
          let own := roundDiv ((a.scaleAt k a.nowU : Int) - a.scaleAt k0 a.nowU) pqUnits
          put a k (o + (h.scales.getD k 0 - own))
/-- Steer the transmit clock's channel, or in STANDBY the channels of `RLY_MATESTEER` (R334, R343). -/
def Asic.rallySteer (a : Asic) (i : Nat) (m : Rat) : Asic :=
  let c0 := a.rallyChan i
  let a :=
    if i < 6 then (if a.flag (Reg.RLY_CFG.STEER i) then a.steerChan i c0 m else a)
    else match a.mate.partner with
      | none => a
      | some h => a.each (List.range 8) fun a c =>
          if hasBit (a.get Reg.RLY_MATESTEER.MASK) c then a.steerChan 6 c (m + ((h.thetas.getD c 0 : Int) : Rat) - (a.thetaNow c - a.thetaNow c0)) else a
  a.put2S (Reg.RLY_STEERLO.TERM i) (Reg.RLY_STEERHI.TERM i) (a.chan c0).rally
/-- A sample whose values all exist. -/
def Asic.rallyForm (a : Asic) (i edges : Nat) (own psi : Int) (f : RallyFrame) (tp : Int) : Asic :=
  let x := a.rally i
  let u := a.rallyU i
  let s : Rat := if a.follows' i then 1 else -1
  let meanIn : Rat := (x.inSum : Rat) / ((x.inN : Nat) : Rat)
  let meanOut : Rat := (x.outSum : Rat) / ((x.outN : Nat) : Rat)
  let age : Rat := ((a.nowU - tp : Int) : Rat) / 5
  let y : Rat := (signed 64 f.rate.toNat : Rat) / 2 ^ 60
  let phiP := ofQ32 (signed 64 f.phi.toNat) - y * age
  let psiP := ofQ32 (signed 64 f.psi.toNat) + y * age
  let phi := ofQ32 own
  let rttp := meanIn + meanOut
  let w1 := wrapU u (phi + phiP - rttp)
  let rtt := rttp + w1
  let delta := a.rallyDelta i rtt
  let op := s * delta - (meanIn - meanOut) / 2
  let din := rtt / 2 + s * delta
  let w2 := wrapU u (psiP - ofQ32 psi + din - phi - op)
  let rate := wrapU u (phi - ofQ32 (x.phi.getD own))
  let psiRate := roundRat (wrapU u (ofQ32 (psi - x.psi.getD psi)) * 2 ^ 44 / 1000000000)
  let syn := decide (absRat rate ≤ 65536 / 10)
  let first := x.phi.isNone
  let a := a.modRally i fun x => { x with phi := some own, psi := some psi, psiRate }
  let a := (a.put (Reg.RLY_PHI.PHI i) (own / 2 ^ 32).toNat).put (Reg.RLY_PSI.PSI i) (psi / 2 ^ 32).toNat
  if u / 4 < absRat w1 || u / 4 < absRat w2 then
    let a := ((a.event (Reg.RLY_STAT.AMBIGD i)).addSat (Reg.RLY_CNT.DISCARD i) 1).modRally i fun x => { x with run := 0 }
    a.rallyRecord i edges (roundRat op) false true
  else
    let o := roundRat (op + w2)
    let m := wrapU u (din - phi)
    let a := a.put2S (Reg.RLY_OFFLO.OFF i) (Reg.RLY_OFFHI.OFF i) o
    let a := a.put2S (Reg.RLY_RTTLO.RTT i) (Reg.RLY_RTTHI.RTT i) (roundRat rtt)
    let a := (a.put2S (Reg.RLY_DELTALO.DELTA i) (Reg.RLY_DELTAHI.DELTA i) (roundRat delta)).addWrap (Reg.RLY_CNT.SAMPLES i) 1
    let a := a.modRally i fun x => { x with run := x.run + 1, offs := (o :: x.offs).take 64, m := roundRat m, rtt := roundRat rtt }
    let l := (a.rally i).offs
    let a := a.put (Reg.RLY_SIG.SIG i) (if l.length < 8 then 0xFFFF else min 65535 (diffSigma l 100000 65536))
    let tracked := a.rallyState i = 3
    let a := if tracked ∧ a.follows' i ∧ !a.primer then (a.rallyDeliver i o).rallySteer i m else a
    let a := a.putB (Reg.RLY_STAT.UNSYNT i) (!syn && !tracked)
    let a := if !tracked && syn && !first && decide (8 ≤ (a.rally i).run) then a.setRallyState i 3 else a
    (a.rallyRecord i edges o (a.rally i).restart false).modRally i fun x => { x with restart := false }
/-- RALLY_SAMPLE at grid instant t_n. -/
def Asic.rallySample (a : Asic) (i edges phi psi : Nat) : Asic :=
  let n := (a.clk.coarse - 1) / second
  let st := a.rallyState i
  if st = 4 then
    if a.fallback || a.partnerSuspends i then a.modRally i Rally.fresh else a.setRallyState i 2
  else if st ≠ 2 ∧ st ≠ 3 then a
  else if (a.rally i).heard + 2 * second ≤ a.clk.coarse then a.setRallyState i 1
  else
    let x := a.rally i
    let own : Int := if i < 6 then a.ownPhi i n else phi
    let ownPsi : Int := if i < 6 then a.ownPsi i else psi
    let a := match x.partner with
      | some (f, tp) =>
        if x.inN = 0 ∨ x.outN = 0 ∨ x.spoilt ∨ a.degraded then a.modRally i fun x => { x with phi := some own, psi := some ownPsi }
        else a.rallyForm i edges own ownPsi f tp
      | none => a
    a.modRally i Rally.fresh

/-! ### Asymmetry calibration (R339) -/

def Asic.acalTime (a : Asic) (i : Nat) : Nat := max 10 (min 3600 (a.get (Reg.RLY_ACAL.TIME i)))
/-- Index 23 serves as the calibration time. -/
def Asic.calTimeOk (a : Asic) : Bool := a.present 23 && !a.flag Reg.REF_CALPPS.AMBIG
/-- `RLY_ACAL.GO`. -/
def Asic.acalGo (a : Asic) (i : Nat) : Ruled :=
  if !a.follows' i || a.rallyState i != 3 then rej a
  else ok ((a.put (Reg.RLY_ACAL.BUSY i) 1).modRally i fun x => { x with
    acalFrom := a.clk.coarse, acalSum := 0, acalN := 0, acalBad := !a.calTimeOk, acalRun := (a.inp 23).run })
/-- A CALPPS edge for the runs in progress: x is the whole second of index 23 less the bound scale's reading. `off` is the
edge's distance from the marked CAL10M edge in TDC cycles. -/
def Asic.acalEdge (a : Asic) (off : Int) : Asic :=
  a.each instances fun a i =>
    if !a.flag (Reg.RLY_ACAL.BUSY i) then a
    else
      let x := a.inp 23
      let near := roundDiv ((a.nowU - off * uPerCycle - x.tU) * a.periodDen 23) (5 * a.periodNum 23)
      let t := x.tU - a.refDelay 23 + roundDiv (near * (5 * a.periodNum 23 : Nat)) (a.periodDen 23)
      let v := a.scalePq (a.rallyScale i) t % pqPerSec
      let e : Int := if (pqPerSec : Int) < 2 * v then pqPerSec - v else -v
      let bad := decide (50 < off.natAbs) || !a.calTimeOk || x.run != (a.rally i).acalRun
      a.modRally i fun r => { r with acalSum := r.acalSum + e, acalN := r.acalN + 1, acalBad := r.acalBad || bad }
/-- CALPPS_EDGE with the runs that use it. -/
def Asic.calppsEdgeAll (a : Asic) (off : Int) : Asic := (a.acalEdge off).calppsEdge off
/-- RALLY_ACAL_END. -/
def Asic.acalEnd (a : Asic) (i : Nat) : Asic :=
  let x := a.rally i
  if !a.flag (Reg.RLY_ACAL.BUSY i) || decide (a.clk.coarse < x.acalFrom + a.acalTime i * second) then a
  else
    let a := a.put (Reg.RLY_ACAL.BUSY i) 0
    let refuse := a.event (Reg.RLY_STAT.ACALREJ i)
    if x.acalBad || x.acalN == 0 || !a.calTimeOk || (a.inp 23).run != x.acalRun || a.rallyState i != 3 then refuse
    else
      let mean := roundDiv x.acalSum x.acalN
      let asym := a.get2S (Reg.RLY_ASYMLO.ASYM i) (Reg.RLY_ASYMHI.ASYM i)
      if 100 * 65536 < mean.natAbs then refuse
      else if !a.flag (Reg.RLY_ACAL.MODE i) then
        ((a.put2S (Reg.RLY_ASYMLO.ASYM i) (Reg.RLY_ASYMHI.ASYM i) (asym + mean)).event (Reg.RLY_STAT.ACALD i)).askCommit (.rally i)
      else
        let df : Rat := ((a.get2S (Reg.RLY_DELTALO.DELTA i) (Reg.RLY_DELTAHI.DELTA i) + mean - asym : Int) : Rat)
        let den : Rat := (x.rtt : Rat) - 2 * df
        let al := roundRat (4 * df / den * 2 ^ 40)
        if den = 0 ∨ al ≠ satS 32 al then refuse
        else ((a.putS (Reg.RLY_ALPHA.ALPHA i) al).event (Reg.RLY_STAT.ACALD i)).askCommit (.rally i)

/-! ### `MATE` roles (R340–R348) -/

/-- Instance 6 takes its role from the MATE role (R328). -/
def Asic.mateInstance (a : Asic) : Asic := (a.putB (Reg.RLY_CFG.ROLE 6) (a.mateRole == 2)).rallyRefresh 6
/-- Enter a role. -/
def Asic.setRole (a : Asic) (r : Nat) : Asic :=
  if a.mateRole = r then a
  else
    let a := (a.put Reg.RLY_MATEST.ROLE r).put Reg.RLY_MATEST.READY 0
    (a.modMate fun x => { x with roleSince := a.clk.now, ts := none, relinquish := false, take := false }).mateInstance
/-- Take STANDBY: transition 8. -/
def Asic.takeStandby (a : Asic) : Asic :=
  let a := a.setRole 2
  if a.mode = 5 then a else (a.moveMode 5 6).holdMasters
/-- Leave STANDBY for the underlying mode: transition 9; outputs start by divider sync at the first tick boundary at or
after `t`. -/
def Asic.leaveStandby (a : Asic) (t : Nat) : Asic :=
  if a.mode ≠ 5 then a else (a.each clockOuts fun a o => a.requestSync t o).moveMode a.target 7 |>.releaseMasters
/-- The step the new active module estimates, fs: O and m of the last sample. -/
def Asic.takeoverStep (a : Asic) : Int := roundDiv (((a.rally 6).offs.headD 0 + (a.rally 6).m) * 1000000) 65536
/-- Take over (R344, R346). -/
def Asic.takeOver (a : Asic) (t : Nat) : Asic :=
  let ready := a.flag Reg.RLY_MATEST.READY
  let a := a.putS Reg.RLY_MATESTEP.STEP (satS 32 a.takeoverStep)
  let a := (a.event Reg.RLY_MATEEVT.TAKEND).addSat Reg.RLY_MATECNT.TAKES 1
  let a := if ready then a else a.event Reg.RLY_MATEEVT.UNREADY
  (a.setRole 1).leaveStandby t
/-- This module wins a tie: `PREF`, then the lower serial number. -/
def Asic.winsTie (a : Asic) (h : Heartbeat) : Bool :=
  let mine := a.flag Reg.RLY_MATECFG.PREF
  if mine != h.pref then mine else decide (Config.serialNumber % 2 ^ 32 < h.serial.toNat)
/-- Time in the role, 10 µs. -/
def Asic.roleTime (a : Asic) : Nat := a.elapsed a.mate.roleSince / 12500
/-- The table of R342. -/
def Asic.resolveRole (a : Asic) (h : Heartbeat) : Asic :=
  match a.mateRole, h.role.val with
  | 0, 1 => a.takeStandby
  | 0, 0 => if a.winsTie h then a.setRole 1 else a.takeStandby
  | 0, 2 => a.setRole 1
  | 1, 1 =>
    let mine := a.roleTime
    let stay := if mine = h.time.toNat then a.winsTie h else decide (h.time.toNat < mine)
    if stay then a else (a.takeStandby).event Reg.RLY_MATEEVT.DUALD
  | 2, 3 => a.takeOver (a.clk.coarse + usec)
  | 2, 2 => if a.winsTie h then a.takeOver (a.clk.coarse + usec) else a
  | _, _ => a
/-- What holds the role at OUT (R341). -/
def Asic.mateOut (a : Asic) : Bool := !a.flag Reg.RLY_MATECFG.EN || a.mate.sealOpen || a.mode == 1 || a.mode == 6 || a.mode == 7
/-- Enter or leave OUT. A module that leaves it beside no ACTIVE partner is resolved as SOLO; one still in device mode
STANDBY that ends without the standby role takes up its underlying mode. -/
def Asic.mateRefresh (a : Asic) : Asic :=
  if a.mateOut then a.setRole 3
  else if a.mateRole ≠ 3 then a
  else
    let live := if a.flag Reg.RLY_MATEST.HB then a.mate.partner else none
    let a := match live with
      | some h => if h.role.val = 1 then a.takeStandby else (a.setRole 0).resolveRole h
      | none => a.setRole 0
    if a.mateRole ≠ 2 then a.leaveStandby (a.clk.coarse + usec) else a
/-- HEARTBEAT_SEND. -/
def Asic.heartbeatSend (a : Asic) : Asic :=
  if !a.flag Reg.RLY_MATEST.LINK then a
  else
    let k0 := a.rallyScale 6
    let c0 := a.rallyChan 6
    let scales := [0, 1, 2, 3].map fun k => code 64 (roundDiv ((a.scaleAt k a.nowU : Int) - a.scaleAt k0 a.nowU) pqUnits)
    let thetas := (List.range 8).map fun c => code 64 (roundRat (a.thetaNow c - a.thetaNow c0))
    a.send (.heartbeat ([a.mateRole, a.mode, bit (a.flag Reg.RLY_MATEST.READY), bit (a.flag Reg.RLY_MATECFG.PREF), Config.serialNumber,
      a.roleTime, bit a.mate.relinquish, bit a.mate.take, (match a.mate.ts with | some t => t - a.clk.coarse | none => 0)] ++ scales ++ thetas))
/-- The first tick boundary at or after a coarse time. -/
def tickAt (t : Nat) : Nat := (t + 12499) / 12500 * 12500
/-- HEARTBEAT_RECEIVED. -/
def Asic.heartbeatReceived (a : Asic) (h : Heartbeat) : Asic :=
  if !a.flag Reg.RLY_MATEST.LINK then a
  else
    let a := if a.flag Reg.RLY_MATEST.HB then a else (a.put Reg.RLY_MATEST.HB 1).event Reg.RLY_MATEEVT.PARTNERD
    let a := ((a.putB Reg.RLY_MATEST.PREADY h.ready).put Reg.RLY_MATEST.PMODE h.mode.val).put Reg.RLY_PSER.SERIAL h.serial.toNat
    let a := (a.modMate fun x => { x with lastHb := a.clk.now, partner := some h }).resolveRole h
    if a.mateRole = 1 ∧ h.role.val = 2 ∧ h.take ∧ a.mate.ts = none then
      a.modMate fun x => { x with ts := some (tickAt (a.clk.coarse + 100 * usec)) }
    else if a.mateRole = 2 ∧ h.untilTs ≠ 0 then a.modMate fun x => { x with ts := some (a.clk.coarse + h.untilTs.toNat) }
    else a
/-- MATE_READY (R341). -/
def Asic.mateReady (a : Asic) : Asic :=
  if a.mateRole = 2 ∧ a.rallyState 6 = 3 ∧ (a.rally 6).trackSince + second * max 1 (min 3600 (a.get Reg.RLY_MATECFG.READYT)) ≤ a.clk.now then
    a.put Reg.RLY_MATEST.READY 1
  else a
/-- HEARTBEAT_LOSS (R344, R345). -/
def Asic.heartbeatLoss (a : Asic) : Asic :=
  if !a.flag Reg.RLY_MATEST.HB || decide (a.clk.now < a.mate.lastHb + 12500 * max 2 (a.get Reg.RLY_MATECFG.HBTO)) then a
  else
    let a := ((a.put Reg.RLY_MATEST.HB 0).put Reg.RLY_MATEST.PREADY 0).event Reg.RLY_MATEEVT.HBLOSTD
    let a := (a.addSat Reg.RLY_MATECNT.HBLOSS 1).modMate fun x => { x with partner := none, ts := none }
    let a := match a.mateRole with
      | 2 => a.takeOver (a.clk.coarse + usec)
      | 1 => a.setRole 0
      | _ => a
    a.raise 52 a.mateRole
/-- `RLY_MATECMD.RELINQ` and `TAKE` (R346). -/
def Asic.mateReject (a : Asic) : Ruled := rej (a.event Reg.RLY_MATEEVT.REJ)
def Asic.mateRelinquish (a : Asic) : Ruled :=
  if a.mateRole ≠ 1 ∨ !a.flag Reg.RLY_MATEST.PREADY ∨ a.mate.ts ≠ none ∨ a.mate.take then a.mateReject
  else ok (a.modMate fun x => { x with relinquish := true, ts := some (tickAt (a.clk.coarse + 100 * usec)) })
def Asic.mateTake (a : Asic) : Ruled :=
  if a.mateRole ≠ 2 ∨ !a.flag Reg.RLY_MATEST.READY ∨ a.mate.ts ≠ none ∨ a.mate.take then a.mateReject
  else ok (a.modMate fun x => { x with take := true })
/-- `RLY_MATECMD` as written. -/
def Asic.mateCommand (a : Asic) (relinq take : Bool) : Ruled :=
  let (a, r1) := if relinq then a.mateRelinquish else ok a
  let (a, r2) := if take then a.mateTake else ok a
  (a, r1 || r2)
/-- MATE_PLANNED_HANDOVER at T_s. -/
def Asic.plannedHandover (a : Asic) : Asic :=
  match a.mate.ts with
  | none => a
  | some t =>
    if a.clk.coarse < t then a
    else
      let a := a.modMate fun x => { x with ts := none, relinquish := false, take := false }
      if a.mateRole = 1 then (a.takeStandby).event Reg.RLY_MATEEVT.RELD
      else if a.mateRole = 2 then a.takeOver (t + 10 * usec)
      else a
/-- SEAL_LOOP_OPEN and SEAL_LOOP_CLOSE (R345). -/
def Asic.sealLoop (a : Asic) (isOpen : Bool) : Asic := (a.modMate fun x => { x with sealOpen := isOpen }).mateRefresh
/-- The `MATE` link. -/
def Asic.mateLink (a : Asic) (up : Bool) : Asic :=
  if up == a.flag Reg.RLY_MATEST.LINK then a
  else
    let a := a.putB Reg.RLY_MATEST.LINK up
    (if up then a else a.raise 50 6).rallyRefresh 6
/-- LINK_UP and LINK_DOWN of any port, with the instance that uses it. -/
def Asic.linkUpAll (a : Asic) (p : Nat) : Asic := if p < 6 then (a.linkUp p).rallyRefresh p else a.mateLink true
def Asic.linkDownAll (a : Asic) (p : Nat) (hiBer fecLock : Bool) : Asic :=
  if p < 6 then (a.linkDown p hiBer fecLock).rallyRefresh p else a.mateLink false

end Sys2Proof.Machine
end

