-- ==== Sys2Proof/Machine/Records.lean ====
section
/-! DEFINITION. Record slots, the arbiter and the DMA channels (chapter 14). -/

namespace Sys2Proof.Machine

def slots : List Nat := List.range 16
def Asic.slotQueue (a : Asic) (q : Nat) : List Record := a.recs.queue.get q
/-- SYS cycles in a span of TDC cycles; SYSFB cycles during a fallback (R369). -/
def Asic.cyclesOf (a : Asic) (n : Nat) : Nat := if a.fallback then n * 2 / 25 else n * 2 / 5

/-! ### The arbiter (R361–R369) -/

def Asic.slotChan (a : Asic) (q : Nat) : Nat := a.get (Reg.REC_SLOTCFG.CH q)
def Asic.halted (a : Asic) (c : Nat) : Bool := a.flag (Reg.DMA_CHSTAT.HALTED c)
/-- A record for the channel is discarded as it arrives (R377). -/
def Asic.dropsHalted (a : Asic) (c : Nat) : Bool := a.halted c && a.flag (Reg.DMA_CHCFG.HALTDROP c)
def Asic.hasRoom (a : Asic) (c : Nat) : Bool := !a.regionFull c || a.dropsHalted c
/-- The slot may be granted (R361). The firmware swap pauses `Q14` (R80). -/
def Asic.eligible (a : Asic) (q : Nat) : Bool :=
  a.slotQueue q != [] && hasBit (a.get Reg.REC_EN.SLOTS) q && !hasBit (a.get Reg.REC_SLOTFLAG.MASKED) q
    && a.hasRoom (a.slotChan q) && !(q == 14 && a.fw.swappedAt.isSome)
/-- The weight a slot's credit was last loaded with. -/
def Asic.slotWeightOf (a : Asic) (q : Nat) : Nat := match a.recs.weight.get q with | 0 => slotWeight q | w => w
def Asic.credit (a : Asic) (q : Nat) : Nat := a.slotWeightOf q - a.recs.spent.get q
/-- Reload every credit from `WEIGHT` (R362). -/
def Asic.reloadCredits (a : Asic) : Asic :=
  { a with recs := { a.recs with spent := [], weight := slots.foldl (fun t q => t.set q (max 1 (a.get (Reg.REC_SLOTCFG.WEIGHT q)))) a.recs.weight } }
/-- The first candidate at or after PTR, counting upward and wrapping. -/
def Asic.pick (a : Asic) (l : List Nat) : Option Nat :=
  ((slots.map fun k => (a.recs.ptr + k) % 16).find? fun q => l.contains q)
/-- The decision of R362: the winner, charged one credit. -/
def Asic.decision (a : Asic) : Asic × Option Nat :=
  let able := slots.filter a.eligible
  let rich := able.filter fun q => 0 < a.credit q
  let (a, cand) := if rich = [] ∧ able ≠ [] then (a.reloadCredits, able) else (a, rich)
  match a.pick cand with
  | none => (a, none)
  | some q =>
    let a := { a with recs := { a.recs with spent := a.recs.spent.set q (a.recs.spent.get q + 1) } }
    let a := if a.credit q = 0 then { a with recs := { a.recs with ptr := (q + 1) % 16 } } else a
    (a, some q)
/-- Wait cycles of the slot's present run. -/
def Asic.waitNow (a : Asic) (q : Nat) : Nat := match a.recs.wait.get q with | some t => a.cyclesOf (a.elapsed t) | none => 0
/-- A grant ends the slot's run of wait cycles (R366, R367). -/
def Asic.countGrant (a : Asic) (q : Nat) : Asic :=
  let w := a.waitNow q
  let a := (a.addWrap (Reg.REC_GRANTS.COUNT q) 1).put2 (Reg.REC_WAITLO.CYCLES q) (Reg.REC_WAITHI.CYCLES q)
    (a.get2 (Reg.REC_WAITLO.CYCLES q) (Reg.REC_WAITHI.CYCLES q) + w)
  let a := a.put (Reg.REC_LONGEST.CYCLES q) (max (a.get (Reg.REC_LONGEST.CYCLES q)) (min 65535 w))
  let a := a.put Reg.REC_SLOTFLAG.STARVING (clearBit (a.get Reg.REC_SLOTFLAG.STARVING) q)
  { a with recs := { a.recs with starved := a.recs.starved.set q false, wait := a.recs.wait.set q (some a.clk.now) } }
/-- Show the fill of a channel's region and of the buffer. -/
def Asic.showFill (a : Asic) (c : Nat) : Asic :=
  let n := (a.recs.region.get c).length
  let all := ((List.range 8).map fun c => (a.recs.region.get c).length).sum
  let a := (a.put (Reg.DMA_CHFILL.FILL c) n).put (Reg.DMA_CHFILL.PEAK c) (max n (a.get (Reg.DMA_CHFILL.PEAK c)))
  (a.put Reg.REC_BUF.FILL all).put Reg.REC_BUF.PEAK (max all (a.get Reg.REC_BUF.PEAK))
/-- Descriptors between HEAD and TAIL (R371). -/
def Asic.ringEmpty (a : Asic) (c : Nat) : Bool := a.get (Reg.DMA_CHHEAD.HEAD c) == a.get (Reg.DMA_CHTAIL.TAIL c)
/-- A record arrives at its channel's region. -/
def Asic.arrive (a : Asic) (c : Nat) (r : Record) : Asic :=
  if a.dropsHalted c then a.addSat (Reg.DMA_CHDROP.COUNT c) 1
  else
    let a := { a with recs := { a.recs with region := a.recs.region.set c (a.recs.region.get c ++ [(r, a.clk.now)]) } }
    let a := a.showFill c
    let a := if a.regionFull c then a.event (Reg.DMA_CHSTAT.FULLD c) else a
    if a.flag (Reg.DMA_CHCFG.EN c) && a.ringEmpty c then a.event (Reg.DMA_CHSTAT.EMPTYD c) else a
/-- The slot's oldest record moves to its region. -/
def Asic.moveRecord (a : Asic) (q : Nat) : Asic :=
  match a.slotQueue q with
  | [] => a
  | r :: rest =>
    let since := if rest = [] then none else some a.clk.now
    let a := { a with recs := { a.recs with queue := a.recs.queue.set q rest, wait := a.recs.wait.set q since } }
    a.arrive (a.slotChan q) r
def Asic.setTransfer (a : Asic) (q : Nat) (t : Option Nat) : Asic := { a with recs := { a.recs with transfer := a.recs.transfer.set q t } }
/-- A granted slot delivers its record, or its transfer hangs. -/
def Asic.deliver (a : Asic) (q : Nat) (stuck : Bool) : Asic := if stuck then a.setTransfer q (some a.clk.now) else a.moveRecord q
/-- One cycle of a burst-mode grant: a transfer slot is used; the grant ends with the request or the limit (R365). -/
def Asic.burstCycle (a : Asic) (q used : Nat) (stuck : Bool) : Asic :=
  let can := a.slotQueue q != [] && a.hasRoom (a.slotChan q)
  let a := if can then a.deliver q stuck else a
  let runOver := a.slotQueue q == [] || decide (max 1 (a.get Reg.REC_CFG.BLIMIT) ≤ used + 1)
  { a with recs := { a.recs with holder := if runOver then none else some (q, used + 1) } }
/-- RECORD_GRANT: a transfer in progress ends first (R368); then one decision. -/
def Asic.recordGrant (a : Asic) (stuck : Bool) : Asic :=
  match slots.find? fun q => (a.recs.transfer.get q).isSome with
  | some q => if stuck then a else (a.setTransfer q none).moveRecord q
  | none =>
    match a.recs.holder with
    | some (q, used) => a.burstCycle q used stuck
    | none =>
      match a.decision with
      | (a, none) => a
      | (a, some q) =>
        let a := a.countGrant q
        if a.flag Reg.REC_CFG.MODE then a.burstCycle q 0 stuck else a.deliver q stuck
/-- STARVATION of a slot whose run has reached the threshold (R367). -/
def Asic.starvation (a : Asic) (q : Nat) : Asic :=
  if a.slotQueue q = [] ∨ a.recs.starved.get q ∨ a.waitNow q < max 1 (a.get Reg.REC_STARVTH.THRESH) then a
  else
    let a := (a.put Reg.REC_SLOTFLAG.STARVING (setBit (a.get Reg.REC_SLOTFLAG.STARVING) q)).event Reg.REC_STAT.STARVD
    { a with recs := { a.recs with starved := a.recs.starved.set q true } }.raise 53 q
/-- Cycles the slot's transfer has lasted. -/
def Asic.transferCycles (a : Asic) (q : Nat) : Nat := match a.recs.transfer.get q with | some t => a.cyclesOf (a.elapsed t) | none => 0
/-- HOLD_LIMIT. -/
def Asic.holdLimit (a : Asic) (q : Nat) : Asic :=
  if hasBit (a.get Reg.REC_SLOTFLAG.MASKED) q ∨ a.transferCycles q ≤ max 1 (a.get Reg.REC_CFG.HOLDLIM) then a
  else ((a.put Reg.REC_SLOTFLAG.MASKED (setBit (a.get Reg.REC_SLOTFLAG.MASKED) q)).event Reg.REC_STAT.HOLDD).raise 54 q
/-- HOLD_WATCHDOG. -/
def Asic.holdWatchdog (a : Asic) (q : Nat) : Asic :=
  if a.transferCycles q < 4096 then a else (a.event Reg.REC_STAT.WDOGD).raise 55 q
/-- The block action of `FE55`: the slot's record interface is reset (R368). -/
def Asic.slotReset (a : Asic) (q : Nat) : Asic :=
  if a.recs.transfer.get q = none then a
  else
    let rest := (a.slotQueue q).drop 1
    let a := { a with recs := { a.recs with
      transfer := a.recs.transfer.set q none, queue := a.recs.queue.set q rest
      wait := a.recs.wait.set q (if rest = [] then none else some a.clk.now)
      holder := match a.recs.holder with | some (h, _) => if h = q then none else a.recs.holder | none => none } }
    a.addSat (Reg.REC_SLOTDROP.COUNT q) 1
/-- `REC_CMD.UNMASK`. -/
def Asic.recUnmask (a : Asic) (mask : Nat) : Asic :=
  a.put Reg.REC_SLOTFLAG.MASKED ((a.get Reg.REC_SLOTFLAG.MASKED) &&& (65535 ^^^ mask))
/-- `REC_CMD.CLR`: the counters of R366. -/
def Asic.recClear (a : Asic) (mask : Nat) : Asic :=
  a.each (slots.filter (hasBit mask)) fun a q =>
    let a := (a.put (Reg.REC_GRANTS.COUNT q) 0).put2 (Reg.REC_WAITLO.CYCLES q) (Reg.REC_WAITHI.CYCLES q) 0
    let a := a.put (Reg.REC_LONGEST.CYCLES q) 0
    { a with recs := { a.recs with wait := a.recs.wait.set q (if a.slotQueue q = [] then none else some a.clk.now) } }

/-! ### DMA channels (R370–R377, R382) -/

def Asic.dmaCh (a : Asic) (c : Nat) : DmaCh := a.dma.ch.get c
def Asic.modDma (a : Asic) (c : Nat) (f : DmaCh → DmaCh) : Asic := { a with dma := { a.dma with ch := a.dma.ch.set c (f (a.dmaCh c)) } }
def Asic.hkcOwns (a : Asic) (c : Nat) : Bool := a.flag (Reg.DMA_CHCFG.OWNER c)
/-- The PCIe link is up with Bus Master Enable. -/
def Asic.dmaLink (a : Asic) : Bool := a.bus.pcie.link && a.bus.pcie.busMaster
/-- Byte address of word `w` of descriptor `d`. -/
def descAddr (c d w : Nat) : Nat := 0x0C1000 + c * 0x400 + d * 0x10 + w * 4
/-- A word of the descriptor at HEAD. -/
def Asic.descWord (a : Asic) (c w : Nat) : Nat := (a.word (descAddr c (a.get (Reg.DMA_CHHEAD.HEAD c)) w)).toNat
def Asic.descField (a : Asic) (c w lsb n : Nat) : Nat := a.descWord c w / 2 ^ lsb % 2 ^ n
def Asic.descKind (a : Asic) (c : Nat) : Nat := a.descField c 1 20 2
def Asic.descLen (a : Asic) (c : Nat) : Nat := a.descField c 1 0 17
def Asic.descDest (a : Asic) (c : Nat) : Nat := a.descField c 0 0 26
/-- The descriptor at HEAD is in error (R371, R373). -/
def Asic.descBad (a : Asic) (c : Nat) : Bool :=
  let len := a.descLen c
  let addr := a.descDest c
  let src := a.descField c 2 0 21
  a.descField c 0 26 6 != 0 || a.descField c 1 17 3 != 0 || a.descField c 1 24 8 != 0 || a.descField c 2 21 11 != 0
    || (match a.descKind c with
      | 0 => addr % 32 != 0 || len % 32 != 0 || decide (len < 32) || decide (65536 < len) || src != 0
      | 1 => addr % 4 != 0 || len % 4 != 0 || decide (len < 4) || decide (4096 < len) || src % 4 != 0 || decide (0x110000 < src + len)
      | _ => true)
/-- Records of the region that no burst carries yet. -/
def Asic.inFlight (a : Asic) (c : Nat) : Nat := ((a.dmaCh c).flight.map (·.recs)).sum
def Asic.waiting (a : Asic) (c : Nat) : List (Record × Nat) := (a.recs.region.get c).drop (a.inFlight c)
/-- The oldest waiting record has waited `FLUSH` µs. -/
def Asic.flushDue (a : Asic) (c : Nat) : Bool :=
  match (a.waiting c).head? with
  | some (_, t) => decide (t + a.get (Reg.DMA_CHCFG.FLUSH c) * usec ≤ a.clk.now)
  | none => false
/-- The descriptor at HEAD has nothing left to write and awaits its completion. -/
def Asic.descDone (a : Asic) (c : Nat) : Bool :=
  let x := a.dmaCh c
  x.taken && (x.done == a.descLen c || x.copyBad || (x.drained && a.descKind c == 0 && a.descField c 1 23 1 == 1))
/-- A burst is ready (R370, R372, R376). -/
def Asic.burstReady (a : Asic) (c : Nat) : Bool :=
  a.flag (Reg.DMA_CHCFG.EN c) && !a.halted c && (a.hkcOwns c || a.dmaLink) &&
    ((a.dmaCh c).resend != 0 || (!a.ringEmpty c && !a.descDone c &&
      (a.descBad c || a.descKind c == 1 ||
        (a.waiting c != [] && (decide (8 ≤ (a.waiting c).length) || (a.dmaCh c).flushing || a.flushDue c)))))
/-- Show what a channel does. -/
def Asic.showDma (a : Asic) (c : Nat) : Asic :=
  let busy := (a.dmaCh c).flight != []
  let on := fun (n : Nat) (b : Bool) => if b then setBit n c else clearBit n c
  let a := (a.putB (Reg.DMA_CHSTAT.BUSY c) busy).put Reg.DMA_SUM.BUSY (on (a.get Reg.DMA_SUM.BUSY) busy)
  a.put Reg.DMA_SUM.HALTED (on (a.get Reg.DMA_SUM.HALTED) (a.halted c))
/-- A channel halts (R377). -/
def Asic.haltDma (a : Asic) (c err addr : Nat) : Asic :=
  let a := ((a.put (Reg.DMA_CHSTAT.HALTED c) 1).event (Reg.DMA_CHSTAT.ERRD c)).put (Reg.DMA_CHSTAT.ERR c) err
  ((a.put (Reg.DMA_CHRESUME.ADDR c) addr).showDma c).raise 56 (c + 256 * err)
/-- Where the next burst of the descriptor goes. -/
def Asic.burstAddr (a : Asic) (c : Nat) : Nat := a.descDest c + (a.dmaCh c).done
/-- The translation of a window address (R375): the host address, none on an invalid entry. -/
def Asic.translate (a : Asic) (addr : Nat) : Option Nat :=
  let lo := (a.word (0x0C4000 + addr / 65536 % 1024 * 8)).toNat
  let hi := (a.word (0x0C4004 + addr / 65536 % 1024 * 8)).toNat
  if lo % 2 = 1 then some (hi * 2 ^ 32 + lo / 65536 * 65536 + addr % 65536) else none
/-- Send a burst: one posted write, or two when the host takes less than 256 bytes (R376). -/
def Asic.postWrite (a : Asic) (host : Nat) (bytes : List Byte) : Asic :=
  if a.bus.pcie.payload = 0 ∧ 128 < bytes.length then
    (a.send (.hostWrite host (bytes.take 128))).send (.hostWrite (host + 128) (bytes.drop 128))
  else a.send (.hostWrite host bytes)
/-- Remove the first `n` records of a region. -/
def Asic.releaseRecords (a : Asic) (c n : Nat) : Asic :=
  { a with recs := { a.recs with region := a.recs.region.set c ((a.recs.region.get c).drop n) } }.showFill c
/-- Write a burst of the descriptor at HEAD: HKC memory at once, host memory through translation (R371, R375). -/
def Asic.issueBurst (a : Asic) (c : Nat) (bytes : List Byte) (recs : Nat) : Asic :=
  let addr := a.burstAddr c
  let n := bytes.length
  let wrote := fun (a : Asic) =>
    (a.put2 (Reg.DMA_CHBYTLO.BYTES c) (Reg.DMA_CHBYTHI.BYTES c) (a.get2 (Reg.DMA_CHBYTLO.BYTES c) (Reg.DMA_CHBYTHI.BYTES c) + n)).modDma c
      fun x => { x with done := x.done + n }
  if a.hkcOwns c then
    if 0x80000 < addr + n then a.haltDma c 5 addr
    else (wrote (a.send (.hkcWrite addr bytes))).releaseRecords c recs
  else match a.translate addr with
    | none => a.haltDma c 1 addr
    | some host =>
      let b : Burst := { addr := addr, host := host, bytes := bytes, recs := recs }
      ((wrote (a.postWrite host bytes)).modDma c fun x => { x with flight := x.flight ++ [b] }).showDma c
/-- Take the descriptor at HEAD: clear its word 3, or halt on its errors; whether it may run. -/
def Asic.takeDesc (a : Asic) (c : Nat) : Asic × Bool :=
  if (a.dmaCh c).taken then (a, true)
  else if a.descBad c then (a.haltDma c 2 (a.burstAddr c), false)
  else
    let a := a.putWord (descAddr c (a.get (Reg.DMA_CHHEAD.HEAD c)) 3) 0
    (a.modDma c fun x => { x with taken := true, done := 0, flags := 0, drained := false, copyBad := false }, true)
/-- Issue again the oldest burst that must be (R377). -/
def Asic.resendBurst (a : Asic) (c : Nat) : Asic :=
  let x := a.dmaCh c
  match x.flight[x.flight.length - x.resend]? with
  | some b => (a.postWrite b.host b.bytes).modDma c fun x => { x with resend := x.resend - 1 }
  | none => a.modDma c fun x => { x with resend := 0 }
/-- One STREAM burst of a taken descriptor (R372). -/
def Asic.streamBurst (a : Asic) (c : Nat) : Asic :=
  let room := min (a.descLen c - (a.dmaCh c).done) (256 - a.burstAddr c % 256) / 32
  let l := (a.waiting c).take room
  if l = [] then a
  else
    let bytes := (l.map fun r => r.1).flatten
    let flags := l.foldl (fun n r => n ||| (((r.1)[1]?.getD 0).toNat % 4)) 0
    let before := (a.dmaCh c).done
    let a := a.issueBurst c bytes l.length
    if (a.dmaCh c).done = before then a
    else
      let empty := decide (a.waiting c = [])
      a.modDma c fun x => { x with flags := x.flags ||| flags, drained := empty, flushing := x.flushing && !empty }
/-- The channel that takes the path: highest priority, then rotation (R370). -/
def Asic.nextChan (a : Asic) : Option Nat :=
  let ready := ((List.range 8).map fun k => (a.dma.last + 1 + k) % 8).filter a.burstReady
  let top := ready.foldl (fun n c => max n (a.get (Reg.DMA_CHCFG.PRIO c))) 0
  ready.find? fun c => a.get (Reg.DMA_CHCFG.PRIO c) == top
/-- Bursts in the SYS-to-PCIE queue (R32, R376). -/
def Asic.pcieQueue (a : Asic) : Nat := ((List.range 8).map fun c => (a.dmaCh c).flight.length - (a.dmaCh c).resend).sum
/-- A burst of channel `c` that moves records or resends; `copy` serves a COPY descriptor. -/
def Asic.burstOf (a : Asic) (c : Nat) (copy : Asic → Asic) : Asic :=
  if a.fallback || (!a.hkcOwns c && decide (8 ≤ a.pcieQueue)) then a
  else
    let a := { a with dma := { a.dma with last := c } }
    if (a.dmaCh c).resend ≠ 0 then a.resendBurst c
    else match a.takeDesc c with
      | (a, false) => a
      | (a, true) => if a.descKind c = 1 then copy a else a.streamBurst c
/-- `DMA_CHCMD.FLUSH`, and the flush timer. -/
def Asic.flushDma (a : Asic) (c : Nat) : Asic :=
  if a.waiting c = [] then a
  else
    let a := a.modDma c fun x => { x with flushing := true }
    if a.burstReady c && a.descKind c == 0 then a.burstOf c id else a
/-- DMA_FLUSH_TIMER. -/
def Asic.flushTimer (a : Asic) (c : Nat) : Asic := if a.flushDue c then a.flushDma c else a
/-- DESCRIPTOR_COMPLETE (R374, R377). -/
def Asic.descComplete (a : Asic) (c : Nat) : Asic :=
  if a.ringEmpty c || !a.descDone c || a.halted c then a
  else
    let x := a.dmaCh c
    let head := a.get (Reg.DMA_CHHEAD.HEAD c)
    let next := (head + 1) % 64
    let irq := a.descField c 1 22 1 == 1
    let resume := a.burstAddr c
    let a := a.putWord (descAddr c head 3) (x.done + 2 ^ 17 + 2 ^ 18 * (if x.copyBad then 4 else 0) + 2 ^ 22 * (x.flags % 2) + 2 ^ 23 * (x.flags / 2 % 2))
    let a := (a.put (Reg.DMA_CHHEAD.HEAD c) next).event (Reg.DMA_CHSTAT.DONED c)
    let a := if irq then a.raise (64 + c) (c + 256 * next) else a
    let a := a.modDma c fun x => { x with taken := false, done := 0, flags := 0, drained := false, copyBad := false }
    let a := if !a.flag (Reg.DMA_CHWB.EN c) then a
      else match a.translate (a.get (Reg.DMA_CHWB.ADDR c)) with
        | some host => a.send (.hostWrite host (leBytes 4 next))
        | none => a.haltDma c 1 (a.get (Reg.DMA_CHWB.ADDR c))
    let a := if a.waiting c ≠ [] ∧ a.ringEmpty c then a.event (Reg.DMA_CHSTAT.EMPTYD c) else a
    if x.copyBad then a.haltDma c 4 resume else a
/-- BURST_ACKNOWLEDGED: the oldest burst's data are released (R377). -/
def Asic.burstAck (a : Asic) (c : Nat) : Asic :=
  let x := a.dmaCh c
  match x.flight with
  | [] => a
  | b :: rest =>
    if x.flight.length ≤ x.resend then a
    else ((a.modDma c fun x => { x with flight := rest }).releaseRecords c b.recs).showDma c
/-- The link or Bus Master Enable went away (R377). -/
def Asic.dmaLinkLost (a : Asic) : Asic :=
  a.each (List.range 8) fun a c =>
    if !a.flag (Reg.DMA_CHCFG.EN c) || a.hkcOwns c || a.halted c then a
    else
      let point := match (a.dmaCh c).flight with | b :: _ => b.addr | [] => a.burstAddr c
      (a.modDma c fun x => { x with resend := x.flight.length }).haltDma c 3 point
/-- Follow a change of the link. -/
def Asic.linkChanged (old a : Asic) : Asic :=
  let a := a.putB Reg.DMA_SUM.LINK a.dmaLink
  if old.dmaLink && !a.dmaLink then a.dmaLinkLost else a
/-- `DMA_CHCMD.RESUME` (R382). -/
def Asic.resumeDma (a : Asic) (c : Nat) : Ruled :=
  let err := a.get (Reg.DMA_CHSTAT.ERR c)
  if !a.halted c || (err == 3 && !a.dmaLink) then rej a
  else
    let a := a.put (Reg.DMA_CHSTAT.HALTED c) 0
    let a := if err = 5 then a.modDma c fun x => { x with taken := false, done := 0 } else a
    ok (a.showDma c)
/-- `DMA_CHCMD.DISCARD`. -/
def Asic.discardDma (a : Asic) (c : Nat) : Ruled :=
  if a.flag (Reg.DMA_CHCFG.EN c) then rej a
  else
    let n := (a.recs.region.get c).length
    let a := { a with recs := { a.recs with region := a.recs.region.set c [] } }
    let a := a.modDma c fun x => { x with flight := [], resend := 0, flushing := false }
    ok (((a.showFill c).showDma c).addSat (Reg.DMA_CHDROP.COUNT c) n)
/-- `DMA_CHCMD` as written. -/
def Asic.dmaCommand (a : Asic) (c : Nat) (resume flush discard : Bool) : Ruled :=
  let (a, r1) := if resume then a.resumeDma c else ok a
  let a := if flush then a.flushDma c else a
  let (a, r2) := if discard then a.discardDma c else ok a
  (a, r1 || r2)
/-- Two regions of enabled channels overlap, or one lies outside the buffer (R382): `a` as it would stand. -/
def Asic.regionBad (a : Asic) (c : Nat) : Bool :=
  let b := a.get (Reg.DMA_CHBUF.BASE c)
  let n := a.get (Reg.DMA_CHBUF.SIZE c)
  n == 0 || decide (256 < b + n) || (List.range 8).any fun d => d != c && a.flag (Reg.DMA_CHCFG.EN d)
    && decide (b < a.get (Reg.DMA_CHBUF.BASE d) + a.get (Reg.DMA_CHBUF.SIZE d)) && decide (a.get (Reg.DMA_CHBUF.BASE d) < b + n)
/-- The channel's ring holds its 63 descriptors. -/
def Asic.ringFull (a : Asic) (c : Nat) : Bool := (a.get (Reg.DMA_CHTAIL.TAIL c) + 1) % 64 == a.get (Reg.DMA_CHHEAD.HEAD c)
/-- Descriptor `d` lies between HEAD and TAIL − 1. -/
def Asic.descHeld (a : Asic) (c d : Nat) : Bool :=
  let h := a.get (Reg.DMA_CHHEAD.HEAD c)
  decide ((d + 64 - h) % 64 < (a.get (Reg.DMA_CHTAIL.TAIL c) + 64 - h) % 64)
/-- A register write of descriptor word `w` is rejected (R382); the descriptor a channel halted on may be rewritten (R377). -/
def Asic.descRejects (a : Asic) (c d w : Nat) : Bool :=
  let mend := a.halted c && a.get (Reg.DMA_CHSTAT.ERR c) == 2 && d == a.get (Reg.DMA_CHHEAD.HEAD c)
  w == 3 || a.hkcOwns c || (a.descHeld c d && !mend)
/-- HKC_DESCRIPTOR_POST through `Q14`, behind the HKC's records (R371). -/
def Asic.postDesc (a : Asic) (c : Nat) (w0 w1 w2 : Word) : Asic :=
  let paused := a.fw.swappedAt.isSome
  if !a.hkcOwns c || a.ringFull c || paused || a.slotQueue 14 != [] then a
  else
    let t := a.get (Reg.DMA_CHTAIL.TAIL c)
    let a := ((a.putWord (descAddr c t 0) w0.toNat).putWord (descAddr c t 1) w1.toNat).putWord (descAddr c t 2) w2.toNat
    (a.putWord (descAddr c t 3) 0).put (Reg.DMA_CHTAIL.TAIL c) ((t + 1) % 64)

end Sys2Proof.Machine
end

