-- ==== Sys2Proof/Machine/Faults.lean ====
section
/-! DEFINITION. The fault collector (chapter 17), the emergency messages it causes (R429, R430), the event log's entries
(R465), and entry into and exit from SAFE. -/

namespace Sys2Proof.Machine

/-! ### The CANopen node's objects and EMCY (R418, R423, R429, R430) -/

/-- The key of an object. -/
def objKey (index sub : Nat) : Nat := index * 256 + sub
/-- The node-ID in effect. -/
def Asic.nodeId (a : Asic) : Nat := if a.can.node = 0 then 127 else a.can.node
/-- Reset value of a numeric communication object for node-ID `n`; none where no such object exists. -/
def objReset (n index sub : Nat) : Option Nat :=
  if index = 0x5F00 then (match sub with | 0 => some 4 | 1 => some 127 | 2 => some 0 | 3 => some 0 | _ => none)
  else if 0x1016 = index then (if sub = 0 then some 2 else if sub ≤ 2 then some 0 else none)
  else if 0x1400 ≤ index ∧ index ≤ 0x1403 then
    (match sub with | 0 => some 2 | 1 => some (0x80000200 + 0x100 * (index - 0x1400) + n) | 2 => some 254 | _ => none)
  else if 0x1800 ≤ index ∧ index ≤ 0x1807 then
    (match sub with
      | 0 => some 6
      | 1 => some (if index = 0x1800 then 0x180 + n else if index ≤ 0x1803 then 0x80000180 + 0x100 * (index - 0x1800) + n else 0x80000000)
      | 2 => some 254
      | 3 => some (if index = 0x1800 then 100 else 0)
      | 5 => some (if index = 0x1800 then 1000 else 0)
      | 6 => some 0
      | _ => none)
  else if (0x1600 ≤ index ∧ index ≤ 0x1603) ∨ (0x1A00 ≤ index ∧ index ≤ 0x1A07) then
    (if 16 < sub then none
     else if index = 0x1A00 then some (match sub with | 0 => 3 | 1 => 0x5F100120 | 2 => 0x5F100220 | 3 => 0x5F100320 | _ => 0) else some 0)
  else if sub ≠ 0 then none
  else match index with
    | 0x1005 => some 0x80
    | 0x1014 => some (0x80 + n)
    | 0x1015 => some 0
    | 0x1017 => some 1000
    | 0x1019 => some 0
    | _ => none
/-- The value of a numeric communication object. -/
def Asic.obj (a : Asic) (index sub : Nat) : Nat :=
  match a.can.objects.get (objKey index sub) with
  | some v => v
  | none => (objReset a.nodeId index sub).getD 0
/-- A source of class ERROR or CRITICAL, or of class WARN, is active. -/
def Asic.activeOf (a : Asic) (p : Nat → Bool) : Bool := sourceTable.any fun r => p r.2.1 && a.flag (Reg.FLT_SRCST.ACTIVE r.1)
/-- The error register 0x1001 (R429). -/
def Asic.errorRegister (a : Asic) : Nat :=
  bit (a.activeOf (2 ≤ ·)) + 4 * bit a.brace + 16 * bit (a.can.errorPassive || a.can.absent.get 0 || a.can.absent.get 1)
    + 128 * bit (a.activeOf (· == 1))
/-- The HKC is stopped for a firmware bank swap (R79). -/
def Asic.hkcStopped (a : Asic) : Bool := a.fw.swappedAt.isSome
/-- The EMCY inhibit time has run, and the node may send (R419, R430). -/
def Asic.emcyFree (a : Asic) : Bool :=
  !a.hkcStopped && (a.can.nmt == 5 || a.can.nmt == 127) && a.obj 0x1014 0 / 2 ^ 31 == 0 &&
    (match a.can.emcyAt with | some t => decide (t + a.obj 0x1015 0 * 100 * usec ≤ a.clk.now) | none => true)
/-- Send the oldest waiting EMCY if it may go. -/
def Asic.sendEmcy (a : Asic) : Asic :=
  match a.can.emcy with
  | [] => a
  | e :: rest =>
    if !a.emcyFree then a
    else { a with can := { a.can with emcy := rest, emcyAt := some a.clk.now } }.send (.can (a.obj 0x1014 0 % 2048) 0 e)
/-- Queue an EMCY; one that finds 16 waiting is discarded and counted. -/
def Asic.queueEmcy (a : Asic) (bytes : List Byte) : Asic :=
  if a.obj 0x1014 0 / 2 ^ 31 ≠ 0 then a
  else
    let e := ofLe (bytes.take 2) + 65536 * ofLe ((bytes.drop 3).take 2)
    let a := if ofLe (bytes.take 2) = 0 then a else { a with can := { a.can with errors := (e :: a.can.errors).take 8 } }
    if 16 ≤ a.can.emcy.length then { a with can := { a.can with lost := min 65535 (a.can.lost + 1) } }
    else { a with can := { a.can with emcy := a.can.emcy ++ [bytes] } }.sendEmcy
/-- The EMCY of the node's own errors (R417, R420, R428). -/
def Asic.nodeEmcy (a : Asic) (n : Nat) : Asic := a.queueEmcy (leBytes 2 n ++ leBytes 1 a.errorRegister ++ leBytes 5 0)

/-! ### The event log (R465) -/

/-- Append an entry to the log ring. -/
def Asic.logEntry (a : Asic) (code' item data : Nat) : Asic :=
  let e := leBytes 6 (secOf a.ts0) ++ leBytes 4 (nsOf a.ts0) ++ leBytes 1 code' ++ leBytes 1 item ++ leBytes 4 data
  let at_ := if a.nvc.log = [] then a.clk.now else a.nvc.logAt
  let head := a.get Reg.NVM_LOGHEAD.HEAD
  let a := { a with nvc := { a.nvc with log := a.nvc.log ++ [e], logAt := at_ } }
  (a.put Reg.NVM_LOGHEAD.HEAD (head + 1)).onlyIf (head == 4095) fun a => a.put Reg.NVM_LOGHEAD.WRAP 1

/-! ### Reactions (R440–R443) -/

/-- The reactions selected for a source: bit 0 log, 1 interrupt, 2 EMCY, 3 block action, 4 SAFE. -/
def Asic.reactions (a : Asic) (s : Nat) : Nat := (a.word (0x0D1000 + 0x10 * s)).toNat % 32
def Asic.safeSource (a : Asic) (s : Nat) : Bool := a.flag (Reg.FLT_SRCCFG.SAFE s)
/-- `IRQ_L` is low (R442). -/
def Asic.irqLow (a : Asic) : Bool :=
  sourceTable.any fun r => a.flag (Reg.FLT_SRCST.PEND r.1) && a.flag (Reg.FLT_SRCCFG.INT r.1) && a.flag (Reg.FLT_SRCCFG.IRQ r.1)
/-- Word `w` of MSI-X vector `v`; a vector resets masked. -/
def msixReset (k : Nat) : Word := if k % 4 = 3 then 1 else 0
def Asic.msixWord (a : Asic) (k : Nat) : Word := a.bus.pcie.table.getF msixReset k
def Asic.modPcie (a : Asic) (f : Pcie → Pcie) : Asic := { a with bus := { a.bus with pcie := f a.bus.pcie } }
/-- The vector may send now. -/
def Asic.msixOpen (a : Asic) (v : Nat) : Bool := a.bus.pcie.link && !a.bus.pcie.msixMask && (a.msixWord (4 * v + 3)).toNat % 2 == 0
/-- Signal an MSI-X vector: a message, or its pending bit. -/
def Asic.msix (a : Asic) (v : Nat) : Asic :=
  if !a.bus.pcie.msix then a
  else if a.msixOpen v then a.send (.msix v) else a.modPcie fun p => { p with pba := setBit p.pba v }
/-- Send what is pending on vectors that may send (R442). -/
def Asic.msixRelease (a : Asic) : Asic :=
  if !a.bus.pcie.msix then a
  else a.each slots fun a v =>
    if hasBit a.bus.pcie.pba v && a.msixOpen v then (a.modPcie fun p => { p with pba := clearBit p.pba v }).send (.msix v) else a
/-- The interrupt reaction. -/
def Asic.pendSource (a : Asic) (s : Nat) : Asic := (a.event (Reg.FLT_SRCST.PEND s)).msix (a.get (Reg.FLT_SRCCFG.VEC s))
/-- `FAULT_L` goes low; a condition that arises while it is low starts no new pulse (R441). -/
def Asic.pulseFaultL (a : Asic) : Asic :=
  if a.flt.faultL then a else { a with flt := { a.flt with faultL := true, faultLAt := a.clk.now, releaseAsked := false } }
/-- The block actions of R438 under their gates (R443). -/
def Asic.blockAction (a : Asic) (o : Occ) : Asic :=
  let n := o.detail % 256
  match o.src with
  | 5 => if a.ovenFaulty a.activeOven && a.flag Reg.CAL_OVHO.AUTO then a.ovenAutoHo else a
  | 17 => if a.flag Reg.REF_TCAL.AUTOSUB then a.laneSubstitute n else a
  | 35 => if a.flag Reg.CAL_OVHO.AUTO || o.detail / 256 % 256 == 1 then a.ovenAutoHo else a
  | 49 => if a.flag Reg.EVT_TCAL.AUTOSUB then a.tacSubstitute n else a
  | 55 => a.slotReset n
  | s =>
    if 24 ≤ s ∧ s ≤ 31 ∧ a.flag Reg.DPL_GCFG.AUTOSUB then
      let c := s - 24
      if o.injected || a.unitFaulty c then
        { a with dpl := { a.dpl with auto := if a.dpl.auto.contains c then a.dpl.auto else a.dpl.auto ++ [c] } }
      else a
    else a

/-! ### SAFE (R65, R66, R448–R450) -/

/-- Entry into SAFE by a reaction. -/
def Asic.enterSafe (a : Asic) (o : Occ) : Asic :=
  let a := { a with flt := { a.flt with quietSince := a.clk.now } }
  if a.mode = 6 then a
  else
    let a := { a with
      modes := { a.modes with beforeSafe := a.mode }
      flt := { a.flt with fstate := true, fstateInjected := o.injected, lastSafe := a.clk.now } }
    let a := (a.moveMode 6 8).event Reg.FLT_STAT.SAFED
    ((a.each ports fun a p => a.impEnd p).mateRefresh).logEntry 3 o.src 0

/-! ### Occurrences and records (R435, R444–R447) -/

/-- The sub-source bit of an occurrence (R439). -/
def subSource (o : Occ) : Nat :=
  if (7 ≤ o.src ∧ o.src ≤ 10) ∨ o.src = 1 ∨ o.src = 4 ∨ o.src = 36 then 1 else 2 ^ (o.detail % 16)
/-- The first error is captured (R447); whether this occurrence was. -/
def Asic.captureError (a : Asic) (o : Occ) (count : Nat) : Asic × Bool :=
  if sourceClass o.src = 0 then (a, false)
  else if a.flag Reg.FLT_FESTAT.VALID then (a.addSat Reg.FLT_FECNT.COUNT count, false)
  else
    let a := ((a.event Reg.FLT_FESTAT.VALID).put Reg.FLT_FESTAT.SOURCE o.src).putB Reg.FLT_FESTAT.DEGRADED o.degraded
    let a := match (if o.src = 7 ∨ o.src = 8 then o.access else none) with
      | some x => ((((((a.put Reg.FLT_FESTAT.MASTER x.master).putB Reg.FLT_FESTAT.WRITE x.write).put Reg.FLT_FESTAT.SIZE x.size).putB
          Reg.FLT_FESTAT.ALIAS x.aliased).put Reg.FLT_FESTAT.ADDRV 1).put Reg.FLT_FEADDR.ADDR x.addr)
      | none => ((((a.put Reg.FLT_FESTAT.MASTER 0).put Reg.FLT_FESTAT.WRITE 0).put Reg.FLT_FESTAT.SIZE 0).put Reg.FLT_FESTAT.ALIAS 0).put
          Reg.FLT_FESTAT.ADDRV 0
    let a := ((a.put Reg.FLT_FESEC.SEC o.sec).put Reg.FLT_FENS.NS o.ns).put Reg.FLT_FEFRAC.FRAC o.frac
    (if count = 1 then a else a.addSat Reg.FLT_FECNT.COUNT (count - 1), true)
/-- The open record an occurrence merges into, by its place; none where it opens its own (R445). -/
def Asic.mergeInto (a : Asic) (o : Occ) : Option Nat :=
  let l := a.flt.opened
  let same := fun (r : OpenRec) => r.first.injected == o.injected
  match l.findIdx? fun r => same r && r.first.src == o.src with
  | some k => some k
  | none =>
    if o.src = 0 ∨ o.src = 21 ∨ o.src = 32 then none
    else l.findIdx? fun r => same r && (hasBit r.taken 3 || hasBit r.taken 4)
/-- The newest open record that may take the occurrence when 16 are open. -/
def Asic.newestFor (a : Asic) (o : Occ) : Option Nat :=
  (List.range a.flt.opened.length).reverse.find? fun k => match a.flt.opened[k]? with | some r => r.first.injected == o.injected | none => false
/-- A merge (R446): the record after it. -/
def OpenRec.merge (r : OpenRec) (o : Occ) (count sel : Nat) (captured : Bool) : OpenRec :=
  { r with
    count := min 65535 (r.count + count), mask := r.mask ||| subSource o, cls := max r.cls (sourceClass o.src), taken := r.taken ||| sel
    merged := r.merged || r.first.src != o.src, mergedSet := if r.first.src = o.src then r.mergedSet else setBit r.mergedSet o.src
    captured := r.captured || captured }
/-- Apply the reactions of an occurrence; `fresh` are those its record had not taken. -/
def Asic.react (a : Asic) (o : Occ) (sel fresh : Nat) : Asic :=
  let a := if hasBit fresh 1 then a.pendSource o.src else a
  let a := if 2 ≤ sourceClass o.src || (hasBit sel 4 && a.mode != 6) then a.pulseFaultL else a
  let a := if hasBit sel 4 then a.enterSafe o else a
  if hasBit sel 3 then a.blockAction o else a
/-- Put an occurrence of `count` into the records, and react. -/
def Asic.takeOcc (a : Asic) (o : Occ) (count : Nat) : Asic :=
  let s := o.src
  let sel := a.reactions s
  let a := ((a.put (Reg.FLT_SRCST.ACTIVE s) 1).event (Reg.FLT_SRCST.OCCD s)).addWrap (Reg.FLT_SRCCNT.COUNT s) count
  let a := a.put (Reg.FLT_SRCLAST.SEC s) o.sec
  let (a, captured) := a.captureError o count
  let full := decide (16 ≤ a.flt.opened.length)
  let into := match a.mergeInto o with | some k => some k | none => if full then a.newestFor o else none
  match into with
  | some k =>
    let a := if (a.mergeInto o).isNone then a.event Reg.FLT_STAT.OVFD else a
    let had := match a.flt.opened[k]? with | some r => r.taken | none => 0
    let a := { a with flt := { a.flt with opened := a.flt.opened.modify k fun r => r.merge o count sel captured } }
    a.react o sel (sel &&& (31 ^^^ had))
  | none =>
    if full then a.react o sel sel
    else
      let close := a.clk.now + 125 + a.get Reg.FLT_SHADOW.TIME * usec
      let r : OpenRec :=
        { first := o, count := min 65535 count, mask := subSource o, cls := sourceClass s, taken := sel, merged := false,
          mergedSet := 0, captured := captured, closeAt := close }
      let a := { a with flt := { a.flt with opened := a.flt.opened ++ [r] } }
      a.react o sel sel
/-- The occurrence has shown its state for the filter time; `FE15` and injections have no pair (R435). -/
def Asic.occDue (a : Asic) (o : Occ) : Bool := o.src == 15 || o.injected || decide (o.time + 75 ≤ a.clk.now)
/-- The due occurrence accepted next: the earliest, in ascending source order (R452). -/
def Asic.nextOcc (a : Asic) : Option Occ :=
  (a.flt.raised.filter a.occDue).foldl (fun best o => match best with
    | none => some o
    | some b => if o.time < b.time ∨ (o.time = b.time ∧ o.src < b.src) then some o else best) none
/-- FAULT_SOURCE_ACCEPTED. A broken pair keeps its last accepted state (R437). -/
def Asic.acceptSource (a : Asic) : Asic :=
  match a.nextOcc with
  | none => a
  | some o =>
    let a := { a with flt := { a.flt with raised := a.flt.raised.erase o } }
    if a.flag (Reg.FLT_SRCST.BROKEN o.src) && !o.broken && !o.injected then a
    else
      let count := 1 + (if o.injected then 0 else (a.pair o.src).extra)
      let a := if o.injected then a else a.setPair o.src { a.pair o.src with extra := 0 }
      a.takeOcc o count
/-- Withdraw the EMCY of a source (R430). -/
def Asic.withdrawEmcy (a : Asic) (s : Nat) : Asic :=
  match a.flt.emcyOpen.find? fun e => e.1 == s with
  | none => a
  | some (_, tail) =>
    let a := { a with flt := { a.flt with emcyOpen := a.flt.emcyOpen.filter fun e => e.1 != s } }
    a.queueEmcy (leBytes 2 0 ++ leBytes 1 a.errorRegister ++ tail)
/-- A source becomes inactive. -/
def Asic.deactivate (a : Asic) (s : Nat) : Asic :=
  let a := a.put (Reg.FLT_SRCST.ACTIVE s) 0
  let a := if a.safeSource s then { a with flt := { a.flt with quietSince := a.clk.now } } else a
  a.withdrawEmcy s
/-- FAULT_SOURCE_DEASSERTED. -/
def Asic.sourceDeasserted (a : Asic) (s : Nat) : Asic :=
  let p := a.pair s
  if !sourceLevel s || !a.flag (Reg.FLT_SRCST.ACTIVE s) || p.units != [] || a.flag (Reg.FLT_SRCST.BROKEN s) || p.inject == 2
      || (decide (a.clk.now < p.offSince + 75) && s != 15) then a
  else a.deactivate s
/-- BROKEN_WIRE: both rails have read `level` for the filter time (R437). -/
def Asic.breakWire (a : Asic) (s : Nat) (level : Bool) : Asic :=
  if sourceReserved s || s == 15 || a.flag (Reg.FLT_SRCST.BROKEN s) then a
  else
    let inj := (a.pair s).inject != 0
    let a := ((a.put (Reg.FLT_SRCST.BROKEN s) 1).event Reg.FLT_STAT.BROKEND).setPair 15
      { a.pair 15 with units := (a.pair 15).units ++ [(s, s + 256 * bit level)] }
    let a := a.assertOcc { a.occ 15 (s + 256 * bit level) with injected := inj }
    if a.safeSource s then a.assertOcc { a.occ s 0 with injected := inj, broken := true } else a
/-- PAIR_RESTORED: the pair has read complementary for 1 ms; one that injection holds stuck has not. -/
def Asic.pairRestored (a : Asic) (s : Nat) : Asic :=
  if !a.flag (Reg.FLT_SRCST.BROKEN s) || (a.pair s).inject == 3 then a
  else
    let a := (a.put (Reg.FLT_SRCST.BROKEN s) 0).levelOff 15 s
    if (a.pair s).units = [] then a.setPair s { a.pair s with offSince := a.clk.now } else a
/-- `FAULT_L` may go high (R441). -/
def Asic.faultLFree (a : Asic) : Bool :=
  a.flt.faultL && decide (a.flt.faultLAt + 10 * usec ≤ a.clk.now) &&
    (match a.get Reg.FLT_FAULTL.MODE with
      | 0 => true
      | 1 => a.flt.releaseAsked
      | _ => !a.activeOf (2 ≤ ·) && !a.flt.fstate)
/-- FAULT_L_RELEASE. -/
def Asic.releaseFaultL (a : Asic) : Asic := if a.faultLFree then { a with flt := { a.flt with faultL := false, releaseAsked := false } } else a
/-- `FLT_FAULTL.RELEASE`: counts in SOFT while `FAULT_L` is low. -/
def Asic.softRelease (a : Asic) : Asic :=
  if a.get Reg.FLT_FAULTL.MODE = 1 ∧ a.flt.faultL then { a with flt := { a.flt with releaseAsked := true } }.releaseFaultL else a
/-- The fault record of R357. -/
def OpenRec.record (r : OpenRec) : Record :=
  let o := r.first
  let flags := 128 * bit o.injected + 64 * bit o.broken + 32 * bit r.captured
  leBytes 1 7 ++ leBytes 1 0 ++ leBytes 1 o.src ++ leBytes 1 (r.cls + 4 * r.taken + 128 * bit r.merged) ++ leBytes 2 r.count
    ++ leBytes 2 r.mask ++ leBytes 8 o.coarse ++ leBytes 4 o.sec ++ leBytes 4 o.ns ++ leBytes 7 o.detail ++ leBytes 1 flags
/-- The record with the flags of R354. -/
def Asic.faultRecord (a : Asic) (r : OpenRec) : Record := r.record.set 1 (BitVec.ofNat 8 (bit a.primer + 2 * bit r.first.degraded))
/-- Bytes 3–7 of the record's EMCY (R430). -/
def OpenRec.emcyTail (r : OpenRec) : List Byte := leBytes 1 r.first.src ++ leBytes 1 (r.cls + 128 * bit r.merged) ++ leBytes 2 r.count ++ leBytes 1 r.mask
/-- Apply the EMCY reaction of a closed record. -/
def Asic.recordEmcy (a : Asic) (r : OpenRec) : Asic :=
  if !hasBit r.taken 2 then a
  else
    let a := a.queueEmcy (leBytes 2 (0xFF00 + r.first.src) ++ leBytes 1 a.errorRegister ++ r.emcyTail)
    { a with flt := { a.flt with emcyOpen := (a.flt.emcyOpen.filter fun e => e.1 != r.first.src) ++ [(r.first.src, r.emcyTail)] } }
/-- FAULT_RECORD_CLOSE of the oldest record that is due. -/
def Asic.closeFault (a : Asic) : Asic :=
  match a.flt.opened.find? fun r => decide (r.closeAt ≤ a.clk.now) with
  | none => a
  | some r =>
    let a := { a with flt := { a.flt with opened := a.flt.opened.erase r } }
    let a := if hasBit r.taken 0 then a.emit 13 (a.faultRecord r) else a
    let a := if r.merged then (((a.put Reg.FLT_MRG0.MRG r.mergedSet).put Reg.FLT_MRG1.MRG (r.mergedSet / 2 ^ 32)).put Reg.FLT_MRG2.MRG
      (r.mergedSet / 2 ^ 64)).put Reg.FLT_MRG3.MRG (r.mergedSet / 2 ^ 96) else a
    let a := a.recordEmcy r
    a.each ((r.first.src :: (List.range 128).filter (hasBit r.mergedSet)).filter fun s => !sourceLevel s && (a.pair s).inject != 2) fun a s =>
      if a.flt.opened.any fun r => r.first.src == s || hasBit r.mergedSet s then a else a.deactivate s

/-! ### Leaving SAFE (R66, R449, R450) -/

/-- Leave SAFE by transition 11; a LEVEL source with the SAFE reaction that is still active counts as a new occurrence. -/
def Asic.leaveSafe (a : Asic) (cause : Nat) : Asic :=
  let dest := if a.modes.beforeSafe = 7 then 7 else if a.modes.coldOn then 1 else a.target
  let a := { a with flt := { a.flt with fstate := false } }
  let a := (a.moveMode dest cause).mateRefresh
  let a := a.each ((a.flt.emcyOpen.map fun e => e.1)) fun a s => a.withdrawEmcy s
  let still := (sourceTable.map fun r => r.1).filter fun s => sourceLevel s && a.safeSource s && a.flag (Reg.FLT_SRCST.ACTIVE s)
  a.each still fun a s =>
    let detail := match (a.pair s).units with | (_, d) :: _ => d | [] => 0
    a.takeOcc { a.occ s detail with injected := (a.pair s).inject != 0 } 1
/-- LEAVE_SAFE: `RUN` returns to 0 (R67, R449). -/
def Asic.leaveSafeCommand (a : Asic) : Asic := (a.put Reg.FLT_RCOUNT.RUN 0).leaveSafe 10
/-- The quiet period in TDC cycles. -/
def Asic.quietPeriod (a : Asic) : Nat := max 1 (min 3600000 (a.get Reg.FLT_QUIET.MS)) * msec
/-- The condition of automatic recovery (R449). -/
def Asic.recoveryDue (a : Asic) : Bool :=
  let lim := a.get Reg.FLT_RECOV.RLIMIT
  a.mode == 6 && a.flt.fstate && a.flag Reg.FLT_RECOV.EN && decide (a.flt.quietSince + a.quietPeriod ≤ a.clk.now)
    && (lim == 0 || decide (a.get Reg.FLT_RCOUNT.RUN < lim))
    && !sourceTable.any fun r => a.safeSource r.1 && a.flag (Reg.FLT_SRCST.ACTIVE r.1)
/-- AUTOMATIC_RECOVERY. -/
def Asic.recover (a : Asic) : Asic :=
  if !a.recoveryDue then a
  else
    let a :=
      if a.flt.fstateInjected then a
      else
        let a := (a.addSat Reg.FLT_RCOUNT.COUNT 1).addSat Reg.FLT_RCOUNT.RUN 1
        let a := a.askCommit .recovery
        let lim := a.get Reg.FLT_RECOV.RLIMIT
        if lim ≠ 0 ∧ lim ≤ a.get Reg.FLT_RCOUNT.RUN then a.event Reg.FLT_STAT.LIMITD else a
    ((a.event Reg.FLT_STAT.RECOVD).logEntry 2 0 0).leaveSafe 9
/-- RECOVERY_RUN_RESET: 24 h without an entry into SAFE. -/
def Asic.runReset (a : Asic) : Asic :=
  if a.mode = 6 ∨ a.clk.now < a.flt.lastSafe + 86400 * second then a else a.put Reg.FLT_RCOUNT.RUN 0

/-! ### Injection (R451) -/

/-- Show the injections held. -/
def Asic.showInject (a : Asic) : Asic :=
  a.putB Reg.FLT_INJST.ACTIVE ((List.range 128).any fun s => decide (2 ≤ (a.pair s).inject))
/-- `FLT_INJ.GO`. -/
def Asic.inject (a : Asic) : Ruled :=
  let s := a.get Reg.FLT_INJ.SOURCE
  let kind := a.get Reg.FLT_INJ.KIND
  if a.mode ≠ 7 ∨ sourceReserved s ∨ kind = 3 ∨ (kind = 2 ∧ s = 15) then rej a
  else
    let a := (a.put Reg.FLT_INJST.SOURCE s).addSat Reg.FLT_INJST.COUNT 1
    let a := if kind = 0 then a
      else (a.setPair s { a.pair s with inject := kind + 1 }).put (Reg.FLT_SRCST.INJ s) 1
    let a := if kind = 2 then a else a.assertOcc { a.occ s 0 with injected := true }
    ok a.showInject
/-- Every injection is released in one cycle. -/
def Asic.releaseInjections (a : Asic) : Asic :=
  let a := a.each ((List.range 128).filter fun s => (a.pair s).inject != 0) fun a s =>
    let still := a.flt.opened.any fun r => r.first.src == s || hasBit r.mergedSet s
    let held := (a.pair s).inject == 2
    let a := (a.setPair s { a.pair s with inject := 0, offSince := a.clk.now }).put (Reg.FLT_SRCST.INJ s) 0
    if held && !sourceLevel s && !still then a.deactivate s else a
  a.showInject

end Sys2Proof.Machine
end

