-- ==== Sys2Proof/Machine/Calib.lean ====
section
/-! DEFINITION. The calibration manager (R466–R473): interpolation over junction temperature, field steps, and the
reference tables of lanes and TACs. -/

namespace Sys2Proof.Machine

/-! ### Sets and interpolation (R466–R468) -/

/-- The set temperatures, °C. -/
def setTemps : List Int := [-40, -20, 0, 25, 50, 75, 100, 125]
def setTemp (k : Nat) : Int := setTemps.getD k 0
/-- The neighbouring sets and w at a junction temperature in 1/16 °C; the end sets alone outside the range. -/
def interpAt (tj : Int) : Nat × Nat × Rat :=
  if tj < -640 then (0, 0, 0)
  else if 2000 ≤ tj then (7, 7, 0)
  else
    let lo := ((List.range 7).filter fun k => decide (16 * setTemp k ≤ tj)).length - 1
    (lo, lo + 1, ((tj - 16 * setTemp lo : Int) : Rat) / ((16 * (setTemp (lo + 1) - setTemp lo) : Int) : Rat))
def setKey (item unit set entry : Nat) : Nat := ((item * 64 + unit) * 8 + set) * 1024 + entry
def calKey (item unit : Nat) : Nat := item * 64 + unit
/-- A field set value, 1/256 of the item's unit. -/
def Asic.fieldSet (a : Asic) (item unit set entry : Nat) : Int := Config.factorySet item unit set entry + a.cal.fld.get (setKey item unit set entry)
/-- v at the present Tj, 1/256 of the item's unit, exact. -/
def Asic.calV (a : Asic) (item unit entry : Nat) : Rat :=
  let (lo, hi, w) := interpAt a.tj
  (1 - w) * (a.fieldSet item unit lo entry : Rat) + w * (a.fieldSet item unit hi entry : Rat)
/-- Units of the items stepped in the field (R466). -/
def unitsOf (item : Nat) : Nat := match item with | 1 => 28 | 2 => 34 | 3 => 16 | 4 => 16 | 5 => 36 | 6 => 12 | 7 => 14 | _ => 0
/-- Take v of a unit to its path: item 3 moves at tick boundaries, item 5 by R249, the others at once. -/
def Asic.applyCal (a : Asic) (item unit : Nat) : Asic :=
  let k := calKey item unit
  match item with
  | 3 => a
  | 5 => a.newSkew unit
  | _ => { a with cal := { a.cal with inUse := a.cal.inUse.set k (roundDiv (a.cal.v.get k) 256) } }
/-- Recompute v of one unit. -/
def Asic.recompute (a : Asic) (item unit : Nat) : Asic :=
  let v := roundRat (a.calV item unit 0)
  ({ a with cal := { a.cal with v := a.cal.v.set (calKey item unit) v } }).applyCal item unit
/-- Recompute v of every field-stepped unit at the present Tj. -/
def Asic.recomputeAll (a : Asic) : Asic :=
  let a := [3, 4, 5, 6, 7].foldl (fun a item => a.each (List.range (unitsOf item)) fun a u => a.recompute item u) a
  { a with cal := { a.cal with tjAt := some a.tj } }
/-- Show the interpolation in `CAL_INTERP`. -/
def Asic.showInterp (a : Asic) : Asic :=
  let (lo, hi, w) := interpAt a.tj
  ((a.put Reg.CAL_INTERP.LO lo).put Reg.CAL_INTERP.HI hi).put Reg.CAL_INTERP.W (roundRat (w * 256)).toNat
/-- Tj in °C, one byte of a fault's detail. -/
def Asic.tjByte (a : Asic) : Nat := code 8 (satS 8 a.tjC)
/-- TJ_SAMPLE: the temperature, the sources of R438, and v after a move of 0.25 K. -/
def Asic.tjSample (a : Asic) (tj : Nat) : Asic :=
  let a := (a.put Reg.CAL_TJ.TJ tj).showInterp
  let t := a.tj
  let a := if 140 * 16 ≤ t then a.levelOn 58 0 a.tjByte else if t < 135 * 16 then a.levelOff 58 0 else a
  let a := if 150 * 16 ≤ t then a.levelOn 59 0 a.tjByte else if t < 145 * 16 then a.levelOff 59 0 else a
  match a.cal.tjAt with
  | some t0 => if 4 ≤ (t - t0).natAbs then a.recomputeAll else a
  | none => a.recomputeAll

/-- Add r at the present Tj to the two neighbouring sets, or to the end set (R468). -/
def Asic.moveSets (a : Asic) (item unit entry : Nat) (r : Rat) : Asic :=
  let (lo, hi, w) := interpAt a.tj
  let add := fun (f : Tab Int) (s : Nat) (d : Rat) => f.set (setKey item unit s entry) (f.get (setKey item unit s entry) + roundRat d)
  let f :=
    if lo = hi then add a.cal.fld lo r
    else
      let n := (1 - w) * (1 - w) + w * w
      add (add a.cal.fld lo ((1 - w) * r / n)) hi (w * r / n)
  { a with cal := { a.cal with fld := f } }

/-! ### Tables of items 1 and 2 (R96, R97, R298, R299, R467) -/

/-- Entry 0 of a table is what the view registers show; the boundaries of a lane, or the segment corrections of a TAC,
follow. The reference of R97: boundary `k` in element positions. -/
def Asic.laneRef (a : Asic) (n k : Nat) : Rat := a.calV 1 n (1 + k) / 256
/-- The reference gain of R299. -/
def Asic.tacRef (a : Asic) (t : Nat) : Rat := a.calV 2 t 0 / 256
/-- Update the sets of a table from the accepted one, entry by entry. -/
def Asic.learnTable (a : Asic) (item unit : Nat) (l : List Int) : Asic :=
  (l.zipIdx.foldl (fun (a : Asic) (v, k) => a.moveSets item unit k ((v : Rat) * 256 - a.calV item unit k)) a).askCommit .calSets
/-- LANE_CAL_TABLE_COMPUTED with the calibration manager's part. -/
def Asic.laneTable (a : Asic) (n span widest : Nat) (bounds : List Nat) : Asic :=
  let (b, good) := a.laneTableComputed n span widest bounds (a.laneRef n)
  if good then b.learnTable 1 n ((span : Int) :: bounds.map Int.ofNat) else b
/-- TAC_CAL_TABLE_COMPUTED with the calibration manager's part. -/
def Asic.tacTable (a : Asic) (t lsb : Nat) (corr : List Int) : Asic :=
  let (b, good) := a.tacTableComputed t lsb corr (a.tacRef t)
  if good then b.learnTable 2 t ((lsb : Int) :: corr) else b
/-- TAC_HANDOVER_TABLE_ACCEPTED with the calibration manager's part. -/
def Asic.tacHandoverTable (a : Asic) (lsb : Nat) (corr : List Int) : Asic :=
  let (b, t) := a.tacHoTable lsb corr a.tacRef
  match t with
  | some t => b.learnTable 2 t ((lsb : Int) :: corr)
  | none => b

/-! ### Field steps (R469, R470) -/

/-- Index 23 is QUALIFIED and CALPPS not ambiguous. -/
def Asic.calOk (a : Asic) : Bool := a.qual 23 == 2 && !a.flag Reg.REF_CALPPS.AMBIG
/-- A PULSE input lies between 100 ms after its last accepted edge and 100 ms before its next slot. -/
def Asic.pulseGap (a : Asic) (i : Nat) : Bool :=
  match (a.inp i).held with
  | none => false
  | some t =>
    let next := (a.inp i).tU + roundDiv (5 * (a.periodNum i : Int)) (a.periodDen i)
    a.flag (Reg.REF_CFG.TYPE i) && decide (t + 100 * msec ≤ a.clk.coarse) && decide (a.nowU + 100 * msec * uPerCycle ≤ next)
/-- The gap a unit has now, by its code; none where it has none (R466). -/
def Asic.gapOf (a : Asic) (item unit : Nat) : Option Nat :=
  match item with
  | 3 => if unit < 16 then (if !a.flag (Reg.REF_CFG.EN unit) || !a.present unit then some 3 else if a.pulseGap unit then some 4 else none) else none
  | 4 => if unit < 16 ∧ !a.flag (Reg.EVT_CFG.EN unit) then some 3 else none
  | 5 => if unit < 36 then some 0 else none
  | 6 => if unit < 12 ∧ (!a.flag (Reg.PRT_CFG.EN (unit / 2)) || !a.linkIs (unit / 2)) then some 8 else none
  | 7 => if unit < 14 ∧ a.rallyState (unit / 2) ≤ 1 then some 9 else none
  | _ => none
/-- Duration of a measurement, TDC cycles. -/
def stepTime (item : Nat) : Nat := match item with | 5 => second | 3 => 100 * msec | 4 => 100 * msec | _ => 200 * msec
/-- Plausible change of R466, 1/256 of the item's unit: 200 ps in PQ, 100 ps in 1/16 PQ, 500 ps in PQ. -/
def plausible (item : Nat) : Rat :=
  match item with
  | 5 => 65536 * 16 * 256 / 10
  | 3 => 65536 * 256 / 5
  | 4 => 65536 * 256 / 5
  | _ => 65536 * 256 / 2
/-- FIELD_STEP_START. -/
def Asic.stepStart (a : Asic) (item unit : Nat) : Asic :=
  match a.gapOf item unit with
  | none => a
  | some g =>
    if a.cal.step.isSome || !a.cal.due.get (calKey item unit) || !a.calAllowed then a
    else
      let step : CalStep := { item := item, unit := unit, gap := g, start := a.clk.now, sec := secOf a.ts0, bad := !a.calOk }
      { a.put Reg.CAL_STAT.BUSY 1 with cal := { a.cal with step := some step, due := a.cal.due.set (calKey item unit) false } }
/-- Watch index 23 during a measurement. -/
def Asic.watchStep (a : Asic) : Asic :=
  match a.cal.step with
  | some s => if a.calOk then a else { a with cal := { a.cal with step := some { s with bad := true } } }
  | none => a
/-- A step ends with a result (0 accepted, 1 rejected, 2 abandoned) and a change of v in whole units. -/
def Asic.endStep (a : Asic) (s : CalStep) (result : Nat) (change : Int) : Asic :=
  let a := { a.put Reg.CAL_STAT.BUSY 0 with cal := { a.cal with step := none } }
  let a := (((a.put Reg.CAL_LAST.ITEM s.item).put Reg.CAL_LAST.UNIT s.unit).put Reg.CAL_LAST.GAP s.gap).put Reg.CAL_LAST.RESULT result
  let a := (a.put Reg.CAL_LASTSEC.SEC s.sec).put Reg.CAL_LASTDUR.US (min (2 ^ 32 - 1) ((a.clk.now - s.start) / usec))
  a.putS Reg.CAL_LASTCHG.CHG (satS 32 change)
/-- FIELD_STEP_ABANDON, and the abandonment by brace, fallback, an oven handover or `CAL_FRESET`. -/
def Asic.dropStep (a : Asic) : Asic :=
  match a.cal.step with
  | some s => (a.endStep s 2 0).event Reg.CAL_STAT.ABNDD
  | none => a
def Asic.stepAbandon (a : Asic) : Asic :=
  match a.cal.step with
  | some s => if (a.gapOf s.item s.unit).isSome then a else a.dropStep
  | none => a
/-- The sets after an update would lie too far from the factory values. -/
def Asic.setsFar (a : Asic) (item unit : Nat) : Bool :=
  (List.range 8).any fun k => decide (2 * plausible item < absRat (a.cal.fld.get (setKey item unit k 0) : Rat))
/-- FIELD_STEP_RESULT: `m` in 1/256 of the item's unit. -/
def Asic.stepResult (a : Asic) (m : Int) : Asic :=
  match a.cal.step with
  | none => a
  | some s =>
    if a.clk.now < s.start + stepTime s.item then a
    else
      let v := a.calV s.item s.unit 0
      let r := (m : Rat) - v
      let b := a.moveSets s.item s.unit 0 r
      let data := s.unit + 256 * code 24 (roundRat (r / 256))
      if s.bad || !a.calOk || decide (plausible s.item < absRat r) || b.setsFar s.item s.unit then
        ((((a.endStep s 1 0).event Reg.CAL_STAT.REJD).addSat Reg.CAL_CNT.REJECT 1).raise 39 (s.item + 256 * s.unit)).logEntry 5 s.item data
      else
        let b := b.recompute s.item s.unit
        ((((b.endStep s 0 (roundDiv m 256 - roundRat (v / 256))).event Reg.CAL_STAT.STEPD).addSat Reg.CAL_CNT.ACCEPT 1).askCommit .calSets).logEntry
          4 s.item data
/-- The units of a mask of items become due. -/
def Asic.makeDue (a : Asic) (mask : Nat) : Asic :=
  let keys := ([3, 4, 5, 6, 7].filter (hasBit mask)).flatMap fun item => (List.range (unitsOf item)).map (calKey item)
  { a with cal := { a.cal with due := keys.foldl (fun t k => t.set k true) a.cal.due } }
/-- `CAL_CMD.GO`. -/
def Asic.calGo (a : Asic) (mask : Nat) : Asic := a.makeDue mask
/-- `PERIOD` in TDC cycles. -/
def Asic.calPeriod (a : Asic) : Nat := max 1 (min 720 (a.get Reg.CAL_CFG.PERIOD)) * 3600 * second
/-- CAL_PERIOD_ELAPSED. -/
def Asic.periodElapsed (a : Asic) : Asic :=
  if !a.flag Reg.CAL_CFG.EN || decide (a.clk.now < a.cal.roundAt + a.calPeriod) then a
  else
    let skipped := (a.cal.due.filter fun p => p.2).length
    let a := (a.addSat Reg.CAL_CNT.SKIPS skipped).makeDue (a.get Reg.CAL_CFG.ITEMS)
    { a with cal := { a.cal with roundAt := a.clk.now } }
/-- `CAL_FRESET`: the named items' field sets return to the factory sets. -/
def Asic.calFreset (a : Asic) (mask : Nat) : Asic :=
  let named := fun (k : Nat) => hasBit mask (k / 1024 / 8 / 64)
  let a := match a.cal.step with | some s => if hasBit mask s.item then a.dropStep else a | none => a
  let a := { a with cal := { a.cal with fld := a.cal.fld.filter fun p => !named p.1 } }
  let a := ([3, 4, 5, 6, 7].filter (hasBit mask)).foldl (fun a item => a.each (List.range (unitsOf item)) fun a u => a.recompute item u) a
  if mask = 0 then a else a.askCommit .calSets

/-- What the view registers show (R473): factory set, field set, v, value in use. -/
def Asic.calView (a : Asic) : Int × Int × Int × Int :=
  let item := a.get Reg.CAL_VIEW.ITEM
  let unit := a.get Reg.CAL_VIEW.UNIT
  let set := a.get Reg.CAL_VIEW.SET
  if item = 8 then (Config.viewOven 0 unit set, Config.viewOven 1 unit set, Config.viewOven 2 unit set, Config.viewOven 3 unit set)
  else if item = 0 ∨ 8 ≤ item ∨ unitsOf item ≤ unit then (0, 0, 0, 0)
  else
    let v := if item ≤ 2 then roundRat (a.calV item unit 0) else a.cal.v.get (calKey item unit)
    (Config.factorySet item unit set 0, a.fieldSet item unit set 0, v,
      if item = 1 then (a.get (Reg.REF_LCAL.SPAN unit) : Int) else if item = 2 then (a.get (Reg.EVT_TGAIN.LSB unit) : Int)
      else a.cal.inUse.get (calKey item unit))

end Sys2Proof.Machine
end

