-- ==== Sys2Proof/Machine/Nvm.lean ====
section
/-! DEFINITION. The non-volatile memory (R454–R465): pages, passwords, commits, wear, the log, the hour meter. -/

namespace Sys2Proof.Machine

/-- The outcome of a module-level operation that a rule may reject. -/
abbrev DRuled := Dev × Bool
def Dev.onAsic (d : Dev) (f : Asic → Asic) : Dev := { d with asic := f d.asic }
def Dev.onNvm (d : Dev) (f : Nvm → Nvm) : Dev := { d with nvm := f d.nvm }
def Asic.modNvc (a : Asic) (f : Nvc → Nvc) : Asic := { a with nvc := f a.nvc }
/-- Rejected with a refusal code (`NVM_STAT.CODE`). -/
def Dev.refuse (d : Dev) (code' : Nat) : DRuled := (d.onAsic fun a => a.put Reg.NVM_STAT.CODE code', true)

/-! ### Pages and content (R454, R455) -/

/-- Partition of a logical page: 0 FACTORY, 1 CONFIG, 2 LOG, 3 USER. -/
def partOf (page : Nat) : Nat := if page < 256 then 0 else if page < 1280 then 1 else if page < 1792 then 2 else 3
/-- A page that holds records of the module's own in a layout the spec does not give: system records and images. -/
def recordPage (page : Nat) : Bool := (256 ≤ page && page < 288) || (384 ≤ page && page < 1280)
/-- The 128 bytes a logical page reads as. -/
def Nvm.bytes (n : Nvm) (page : Nat) : List Byte :=
  let w := n.pages.get page
  if w = [] ∧ recordPage page ∧ n.version ≠ 0 then (List.range 128).map fun o => Config.recordByte n.version page o
  else (w ++ List.replicate 128 0).take 128
/-- The physical page of a logical page. -/
def Nvm.phys (n : Nvm) (page : Nat) : Nat := ((page : Int) + n.map.get page).toNat

/-- The placement registers (R38), with the retirement marks of R39. -/
def placeFields : List Fld :=
  [Reg.CAL_OVSTAT.ACTIVE, Reg.DPL_UNITS.RETIRED, Reg.DPL_UNITS.FREE, Reg.REF_RETIRE.LANES, Reg.EVT_RETLO.TACS, Reg.EVT_RETHI.TACS,
    Reg.CAL_OVSTS.RETIRED 0, Reg.CAL_OVSTS.RETIRED 1]
    ++ (List.range 8).flatMap (fun i => [Reg.DPL_STATE.UNIT i, Reg.APL_ASTAT.UNIT i, Reg.APL_ASTAT.RETIRED i])
    ++ (List.range 24).map (fun i => Reg.REF_PLACE.LANE i)
    ++ (List.range 28).flatMap (fun i => [Reg.REF_LSTAT.RETIRED i, Reg.REF_LSTAT.FREE i, Reg.REF_LSTAT.FUNC i])
    ++ (List.range 16).flatMap (fun i => [Reg.EVT_PLACE.TACA i, Reg.EVT_PLACE.TACB i])
    ++ (List.range 34).flatMap (fun i => [Reg.EVT_TSTAT.RETIRED i, Reg.EVT_TSTAT.FREE i, Reg.EVT_TSTAT.POS i])
/-- Reset value of a field. -/
def Fld.reset (f : Fld) : Nat := wordBits (resetWord f.addr) f.lsb f.width
/-- The placement map as differences from the delivery placement, by place in `placeFields`. -/
def Asic.placementMap (a : Asic) : Tab Word :=
  placeFields.zipIdx.foldl (fun (t : Tab Word) (f, k) => t.set k (BitVec.ofNat 32 (a.get f) ^^^ BitVec.ofNat 32 f.reset)) []
/-- Restore every placement but the oven, which R202 chose. -/
def Asic.restorePlacement (a : Asic) (m : Tab Word) : Asic :=
  placeFields.zipIdx.foldl (fun (a : Asic) (f, k) => if k = 0 then a else a.put f ((m.get k).toNat ^^^ f.reset)) a

/-- The blocks a configuration image leaves out: `DMA`, `NVM`, `KEP` (R463). -/
def imageBlock (addr : Nat) : Bool := let b := addr / 65536; b != 12 && b != 14 && b != 16
/-- The configuration bits of a register word. -/
def configMask (addr : Nat) : Nat := match regRow addr with | some (r, _) => (r.rw ||| r.wk) &&& (0xFFFFFFFF ^^^ r.wo) | none => 0
/-- The configuration words, as differences from their reset values. -/
def Asic.configWords (a : Asic) : Tab Word :=
  ((a.regs.map fun p => p.1) ++ (a.tv1.map fun p => p.1)).foldl (fun t k =>
    if imageBlock k then t.set k ((a.word k ^^^ resetWord k) &&& BitVec.ofNat 32 (configMask k)) else t) []

/-! ### Passwords (R459) -/

/-- An access of a partition is open to a master: 0 read, 1 write. -/
def Dev.nvmOpen (d : Dev) (m part acc : Nat) : Bool :=
  d.nvm.password.get (2 * part + acc) == 0 || hasBit (d.asic.get Reg.NVM_UNLK.UNLK) (8 * m + 2 * part + acc)
/-- An access of the NVM by a master (R459), and by the owner of the buffer to it (R456). -/
def Asic.nvmTouch (a : Asic) (m : Nat) : Asic := a.modNvc fun n => { n with access := n.access.set m a.clk.now }
def Asic.bufOwner (a : Asic) (m : Nat) : Bool := a.flag Reg.NVM_OWNER.HELD && a.get Reg.NVM_OWNER.MASTER == m
def Asic.bufTouch (a : Asic) (m : Nat) : Asic := if a.bufOwner m then a.modNvc fun n => { n with bufAt := a.clk.now } else a
/-- `UNLOCK`. -/
def Dev.nvmUnlock (d : Dev) (m : Nat) : DRuled :=
  let a := d.asic
  let part := a.get Reg.NVM_PART.PART
  let acc := a.get Reg.NVM_PART.ACC
  if a.clk.now < a.nvc.lockedTo.get part then d.refuse 2
  else if d.nvm.password.get (2 * part + acc) = a.get Reg.NVM_PWLO.PW + 2 ^ 32 * a.get Reg.NVM_PWHI.PW then
    (d.onAsic fun a => (a.put Reg.NVM_UNLK.UNLK (setBit (a.get Reg.NVM_UNLK.UNLK) (8 * m + 2 * part + acc))).modNvc fun n =>
      { n with fails := n.fails.set part 0 }, false)
  else
    let k := a.nvc.fails.get part + 1
    (d.onAsic fun a => a.modNvc fun n => if 3 ≤ k then { n with fails := n.fails.set part 0, lockedTo := n.lockedTo.set part (a.clk.now + 10 * second) }
      else { n with fails := n.fails.set part k }).refuse 2
/-- `LOCK`, a reset of the master's interface, and 60 s without an access: the master's unlocks end. -/
def Asic.nvmLock (a : Asic) (m : Nat) : Asic :=
  a.put Reg.NVM_UNLK.UNLK (((List.range 8).map fun k => 8 * m + k).foldl clearBit (a.get Reg.NVM_UNLK.UNLK))
/-- NVM_UNLOCK_TIMEOUT. -/
def Asic.unlockTimeout (a : Asic) (m : Nat) : Asic := if a.clk.now < a.nvc.access.get m + 60 * second then a else a.nvmLock m
/-- NVM_UNLOCK_LOCKOUT_END. -/
def Asic.lockoutEnd (a : Asic) (part : Nat) : Asic :=
  if a.clk.now < a.nvc.lockedTo.get part then a else a.modNvc fun n => { n with lockedTo := n.lockedTo.set part 0 }
/-- `NVM_PWCMD.SETPW`. -/
def Dev.setPassword (d : Dev) (m : Nat) : DRuled :=
  let a := d.asic
  let part := a.get Reg.NVM_PART.PART
  if !d.nvmOpen m part 1 then (d, true)
  else (d.onAsic fun a => a.askCommit (.password part (a.get Reg.NVM_PART.ACC) (a.get Reg.NVM_PWLO.PW + 2 ^ 32 * a.get Reg.NVM_PWHI.PW)), false)

/-! ### The page buffer and the read window (R456, R472) -/

/-- Release the buffer. -/
def Asic.releaseBuffer (a : Asic) : Asic :=
  (a.put Reg.NVM_OWNER.HELD 0).modNvc fun n => { n with buffer := [], bufCommit := false, loads := n.loads.filter fun l => !l.1 }
/-- `OPEN`. -/
def Dev.nvmOpenPage (d : Dev) (m : Nat) : DRuled :=
  let a := d.asic
  let page := a.get Reg.NVM_PAGE.PAGE
  if a.flag Reg.NVM_OWNER.HELD && !a.bufOwner m then d.refuse 5
  else if !d.nvmOpen m (partOf page) 0 then (d, true)
  else (d.onAsic fun a => ((a.put Reg.NVM_OWNER.HELD 1).put Reg.NVM_OWNER.MASTER m).modNvc fun n =>
    { n with bufAt := a.clk.now, loads := n.loads ++ [(true, page)] }, false)
/-- Commits of software in the queue. -/
def Asic.softCommits (a : Asic) : Nat := (a.commits.filter fun c => match c with | .page _ _ => true | _ => false).length
/-- `COMMIT`. -/
def Dev.nvmCommit (d : Dev) (m : Nat) : DRuled :=
  let a := d.asic
  let page := a.get Reg.NVM_PAGE.PAGE
  if !a.bufOwner m then d.refuse 5
  else if !d.nvmOpen m (partOf page) 1 || (page < 256 && a.mode != 7) then (d, true)
  else if 8 ≤ a.softCommits then d.refuse 1
  else (d.onAsic fun a => (a.askCommit (.page page ((a.nvc.buffer ++ List.replicate 128 0).take 128))).modNvc fun n => { n with bufCommit := true }, false)
/-- `CLOSE`. -/
def Dev.nvmClose (d : Dev) (m : Nat) : DRuled := if !d.asic.bufOwner m then d.refuse 5 else (d.onAsic Asic.releaseBuffer, false)
/-- `READ`. -/
def Dev.nvmRead (d : Dev) (m : Nat) : DRuled :=
  let page := d.asic.get Reg.NVM_RPAGE.PAGE
  if !d.nvmOpen m (partOf page) 0 then (d, true)
  else (d.onAsic fun a => (a.put Reg.NVM_STAT.RBUSY 1).modNvc fun n => { n with window := [], loads := n.loads ++ [(false, page)] }, false)
/-- `SAVECFG`. -/
def Dev.saveConfig (d : Dev) (m : Nat) : DRuled :=
  if !d.nvmOpen m 1 1 then (d, true) else (d.onAsic fun a => a.askCommit (.config a.configWords a.apl.active), false)
/-- `NVM_CMD` (R472). -/
def Dev.nvmCommand (d : Dev) (m cmd : Nat) : DRuled :=
  match cmd with
  | 1 => d.nvmOpenPage m
  | 2 => d.nvmCommit m
  | 3 => d.nvmClose m
  | 4 => d.nvmUnlock m
  | 5 => (d.onAsic fun a => a.nvmLock m, false)
  | 6 => d.saveConfig m
  | 7 => d.nvmRead m
  | _ => (d, true)
/-- A write of `NVM_BUFDATA`: a word, least significant byte first, at `BUFPTR`. -/
def Dev.bufferWrite (d : Dev) (m : Nat) (w : Word) : DRuled :=
  if !d.asic.bufOwner m then d.refuse 5
  else (d.onAsic fun a =>
    let k := a.get Reg.NVM_BUFPTR.WORD
    let b := (a.nvc.buffer ++ List.replicate 128 0).take 128
    (a.modNvc fun n => { n with buffer := b.take (4 * k) ++ leBytes 4 w.toNat ++ b.drop (4 * k + 4) }).put Reg.NVM_BUFPTR.WORD (k + 1), false)
/-- NVM_PAGE_LOAD_COMPLETE: the oldest load. -/
def Dev.loadDone (d : Dev) : Dev :=
  match d.asic.nvc.loads with
  | [] => d
  | (buf, page) :: rest =>
    let b := d.nvm.bytes page
    let un := d.nvm.uncor.get page
    d.onAsic fun a =>
      if buf then a.modNvc fun n => { n with loads := rest, buffer := b }
      else ((a.modNvc fun n => { n with loads := rest, window := b, winPage := page }).put Reg.NVM_STAT.RBUSY 0).putB Reg.NVM_STAT.UNCOR un
/-- NVM_BUFFER_TIMEOUT: 1 s without an access by the owner. -/
def Asic.bufferTimeout (a : Asic) : Asic :=
  if !a.flag Reg.NVM_OWNER.HELD || a.nvc.bufCommit || decide (a.clk.now < a.nvc.bufAt + second) then a else a.releaseBuffer
/-- A reset of a master's interface: its buffer, unless a commit of it is queued, and its unlocks (R456, R459, R471). -/
def Asic.nvmReset (a : Asic) (m : Nat) : Asic :=
  (if a.bufOwner m && !a.nvc.bufCommit then a.releaseBuffer else a).nvmLock m

/-! ### The log (R465) -/

/-- `NVM_PWCMD.LOGCLR`. -/
def Dev.logClear (d : Dev) (m : Nat) : DRuled :=
  if !d.nvmOpen m 2 1 then (d, true)
  else
    let d := d.onAsic fun a => { ((a.put Reg.NVM_LOGHEAD.HEAD 0).put Reg.NVM_LOGHEAD.WRAP 0).modNvc (fun n => { n with log := [] }) with
      commits := a.commits.filter fun c => match c with | .log _ _ => false | _ => true }
    (d.onNvm fun n => { n with logHead := 0, logWrap := false }, false)
/-- LOG_PAGE_COMMIT: a page whose last entry has come, or 10 s after its first new entry. -/
def Asic.logCommit (a : Asic) : Asic :=
  let l := a.nvc.log
  let slot := (a.get Reg.NVM_LOGHEAD.HEAD + 4096 - l.length % 4096) % 4096
  let room := 8 - slot % 8
  if l = [] ∨ (l.length < room ∧ a.clk.now < a.nvc.logAt + 10 * second) then a
  else (a.askCommit (.log slot (l.take room))).modNvc fun n => { n with log := l.drop room, logAt := a.clk.now }

/-! ### Commits (R457, R458, R461) -/

/-- The system record an internal commit writes, for `Config.recordPage`. -/
def Commit.kind : Commit → Nat
  | .placement => 0
  | .bank => 1
  | .recovery => 2
  | .hours => 3
  | .hopTable => 4
  | .model o => 5 + o
  | .calSets => 7
  | .rally i => 8 + i
  | .plan => 15
  | .comm => 16
  | _ => 17
/-- The logical page a commit replaces; none where it replaces no single page this model names (a password lies in the
password store; an image is many pages). -/
def Nvm.target (n : Nvm) (c : Commit) : Option Nat :=
  match c with
  | .page p _ => some p
  | .rewrite p => some p
  | .log slot _ => some (1280 + slot / 8)
  | .password _ _ _ => none
  | .config _ _ => none
  | c => some (256 + Config.recordPage c.kind n.version % 32)
/-- What a commit carries: its content at its start. -/
def Dev.flightOf (d : Dev) (c : Commit) (page : Nat) : Flight :=
  let a := d.asic
  let f : Flight := { (default : Flight) with commit := c, start := a.clk.now, page := page, tries := a.nvc.retries }
  match c with
  | .placement => { f with words := a.placementMap }
  | .bank => { f with number := a.get Reg.GLB_FWCTL.BANK }
  | .recovery => { f with number := a.get Reg.FLT_RCOUNT.COUNT }
  | .hours => { f with number := a.get Reg.NVM_HOURS.HOURS }
  | .hopTable => { f with words := a.apl.hopTable }
  | .model o => { f with fits := [(a.oven o).fit] }
  | .calSets => { f with sets := a.cal.fld }
  | .rally i => { f with words := ((f.words.set 0 (a.word (Reg.RLY_ASYMLO.ASYM i).addr)).set 1 (a.word (Reg.RLY_ASYMHI.ASYM i).addr)).set
                          2 (a.word (Reg.RLY_ALPHA.ALPHA i).addr) }
  | .plan => { f with number := a.curPlan }
  | .comm => { f with objects := a.can.objects }
  | _ => f
/-- The least-programmed page of the pool. -/
def Nvm.leastUsed (n : Nvm) : Option Nat :=
  n.pool.foldl (fun best p => match best with
    | none => some p
    | some b => if n.cycles.get p < n.cycles.get b then some p else some b) none
/-- A commit is abandoned. -/
def Asic.commitFailed (a : Asic) (c : Commit) (code' : Nat) : Asic :=
  let a := ((a.event Reg.NVM_STAT.CMTFAIL).put Reg.NVM_STAT.CODE code').modNvc fun n => { n with retries := 0 }
  match c with
  | .page _ _ => a.releaseBuffer
  | _ => a
/-- NVM_COMMIT_START: the next queued commit, outside brace. -/
def Dev.commitStart (d : Dev) : Dev :=
  match d.asic.commits with
  | [] => d
  | c :: rest =>
    if d.sup.shelf || d.asic.brace || d.nvm.flight.isSome then d
    else
      let d' := d.onAsic fun a => { a with commits := rest }
      match d.nvm.leastUsed with
      | none => d'.onAsic fun a => a.commitFailed c 4
      | some p =>
        { d'.onAsic (fun a => a.put Reg.NVM_STAT.BUSY 1) with
          nvm := { d.nvm with pool := d.nvm.pool.erase p, cycles := d.nvm.cycles.set p (d.nvm.cycles.get p + 1), flight := some (d.flightOf c p) } }
/-- Put log entries into their page. -/
def Nvm.writeLog (n : Nvm) (slot : Nat) (l : List (List Byte)) : Nvm :=
  let page := 1280 + slot / 8
  let b := n.bytes page
  let o := 16 * (slot % 8)
  { n with
    pages := n.pages.set page (b.take o ++ l.flatten ++ b.drop (o + 16 * l.length))
    logHead := (slot + l.length) % 4096
    logWrap := n.logWrap || decide (4096 ≤ slot + l.length) }
/-- A software page replaces what its record held: a page of an image spoils the image's CRC. -/
def Nvm.writePage (n : Nvm) (page : Nat) (data : List Byte) : Nvm :=
  { n with
    pages := n.pages.set page data
    imageA := if 384 ≤ page ∧ page < 832 then { n.imageA with valid := false } else n.imageA
    imageB := if 832 ≤ page ∧ page < 1280 then { n.imageB with valid := false } else n.imageB }
/-- Generation `g` is newer than `h` (R460). -/
def newer (g h : Nat) : Bool := let d := (g + 256 - h % 256) % 256; decide (1 ≤ d) && decide (d ≤ 127)
/-- The image in use, as the load of R464 chooses it: false A, true B; none when neither is valid. -/
def Nvm.imageInUse (n : Nvm) : Option Bool :=
  match n.imageA.valid, n.imageB.valid with
  | true, true => some (newer n.imageB.gen n.imageA.gen)
  | true, false => some false
  | false, true => some true
  | false, false => none
/-- SAVECFG writes the image not in use with the next generation. -/
def Nvm.writeImage (n : Nvm) (words plan : Tab Word) : Nvm :=
  let gen := match n.imageInUse with | some true => n.imageB.gen + 1 | some false => n.imageA.gen + 1 | none => 0
  let img : Image := { valid := true, gen := gen % 256, words := words, plan := plan }
  let lo := if n.imageInUse = some false then 832 else 384
  let n := { n with pages := n.pages.filter fun p => decide (p.1 < lo) || decide (lo + 448 ≤ p.1) }
  if n.imageInUse = some false then { n with imageB := img } else { n with imageA := img }
/-- A system record is written: the bytes of the record pages change in a way the spec does not give. -/
def Nvm.recordWritten (n : Nvm) (page : Nat) : Nvm := { n with version := n.version + 1, pages := n.pages.del page }
/-- The pointer flips: the new content is in force. -/
def Nvm.install (n : Nvm) (f : Flight) : Nvm :=
  match f.commit with
  | .page p data => n.writePage p data
  | .rewrite p => if p < 256 ∧ n.uncor.get p then { n with pages := n.pages.set p (n.pages.get ((p + 128) % 256)) } else n
  | .log slot l => n.writeLog slot l
  | .config words plan => { n.writeImage words plan with version := n.version + 1 }
  | .password part acc pw => { n with password := n.password.set (2 * part + acc) pw }
  | .placement => { n with placement := f.words }
  | .bank => { n with bank := f.number }
  | .recovery => { n with recovery := f.number }
  | .hours => { n with hours := f.number }
  | .hopTable => { n with hopTable := f.words }
  | .model o => { n with fits := n.fits.set o (f.fits.headD none) }
  | .calSets => { n with field := f.sets }
  | .rally i => { n with rally := n.rally.set i (f.words.get 0, f.words.get 1, f.words.get 2) }
  | .plan => { n with plan := f.number }
  | .comm => { n with objects := f.objects }
/-- The flight lands: content, directory, pool. -/
def Nvm.land (n : Nvm) (f : Flight) : Nvm :=
  let m := n.install f
  match n.target f.commit with
  | none => { m with pool := m.pool ++ [f.page], flight := none }
  | some p =>
    let m := match f.commit with | .page _ _ => m | .rewrite _ => m | .log _ _ => m | _ => m.recordWritten p
    { m with map := m.map.set p ((f.page : Int) - p), uncor := m.uncor.set p false, pool := m.pool ++ [n.phys p], flight := none }
/-- The flight is lost: its page is free again (R458). -/
def Nvm.lose (n : Nvm) (f : Flight) : Nvm := { n with pool := n.pool ++ [f.page], flight := none }
/-- Registers after a commit completed. -/
def Asic.committed (a : Asic) (c : Commit) : Asic :=
  let a := (a.put Reg.NVM_STAT.BUSY 0).modNvc fun n => { n with retries := 0 }
  match c with
  | .page _ _ => (a.event Reg.NVM_STAT.COMMITD).releaseBuffer
  | .config _ _ => (a.event Reg.NVM_STAT.SAVED).logEntry 9 0 0
  | _ => a
/-- A page failed its verify: it retires, the commit goes back to the head of the queue or is abandoned after three. -/
def Dev.verifyFailed (d : Dev) (f : Flight) : Dev :=
  let left := d.nvm.pool.length
  let d := d.onNvm fun n => { n with retired := n.retired ++ [f.page], flight := none }
  d.onAsic fun a =>
    let a := ((((a.put Reg.NVM_STAT.BUSY 0).event Reg.NVM_STAT.RETIRED).put Reg.NVM_ERRPAGE.PAGE f.page).raise 57 f.page).logEntry 7 0 f.page
    let a := if left < 4 then a.raise 12 5 else a
    if f.tries + 1 < 3 then { a.modNvc (fun n => { n with retries := f.tries + 1 }) with commits := f.commit :: a.commits }
    else a.commitFailed f.commit 3
/-- NVM_COMMIT_COMPLETE: 2.8 ms after its start, or the failed read-back of 2.0 ms. -/
def Dev.commitComplete (d : Dev) (verified : Bool) : Dev :=
  match d.nvm.flight with
  | none => d
  | some f =>
    if d.asic.clk.now < f.start + (if verified then 2800 else 2000) * usec then d
    else if d.sup.shelf then d.onNvm fun n => if verified then n.land f else { n with retired := n.retired ++ [f.page], flight := none }
    else if verified then (d.onNvm fun n => n.land f).onAsic fun a => a.committed f.commit
    else d.verifyFailed f
/-- HOLD_UP_STORE_EXHAUSTED (R72, R458). -/
def Dev.holdUpOut (d : Dev) : Dev :=
  if !d.sup.shelf || d.sup.held then d
  else
    let d := { d with sup := { d.sup with held := true } }
    match d.nvm.flight with
    | none => d
    | some f => d.onNvm fun n => if f.start + 2800 * usec ≤ d.asic.clk.now then n.land f else n.lose f
/-- NVM_SCRUB of a mapped page, between commits: 1 corrected, 2 uncorrectable (R462). -/
def Dev.scrubPage (d : Dev) (page ecc : Nat) : Dev :=
  if d.sup.shelf || d.nvm.flight.isSome then d
  else match ecc with
    | 1 => d.onAsic fun a => a.askCommit (.rewrite page)
    | 2 =>
      let phys := d.nvm.phys page
      let twin := page < 256 && !d.nvm.uncor.get ((page + 128) % 256)
      (d.onNvm fun n => { n with uncor := n.uncor.set page true }).onAsic fun a =>
        let a := ((a.event Reg.NVM_STAT.UNCORD).put Reg.NVM_ERRPAGE.PAGE phys).raise 57 phys
        if twin then a.askCommit (.rewrite page) else a
    | _ => d
/-- HOUR_METER_TICK. -/
def Asic.hourTick (a : Asic) : Asic :=
  if a.clk.now < a.nvc.hourAt + 3600 * second then a
  else ((a.addWrap Reg.NVM_HOURS.HOURS 1).modNvc fun n => { n with hourAt := n.hourAt + 3600 * second }).askCommit .hours

end Sys2Proof.Machine
end

