-- ==== Sys2Proof/Machine/Modes.lean ====
section
/-! DEFINITION. Device modes, bring-up, supply events, system clock fallback, the firmware bank swap (chapter 2), the lid
seal (R414, R433), presence windows (R431, R432), and the reset of a bus master's interface (R396, R399, R409). -/

namespace Sys2Proof.Machine

/-! ### Masters and the presence window -/

/-- Re-arm the key lock (R400, R401). -/
def Asic.rearm (a : Asic) : Asic := a.put Reg.GLB_KEYST.UNLOCKED 0
/-- Release the transaction lock and discard what is staged (R409). -/
def Asic.txnFree (a : Asic) : Asic := ((a.put Reg.GLB_TXN.HELD 0).put Reg.GLB_TXN.CHECK 0).copyPlans
/-- Forget the latches and holds of an owner: 0–3 a master, 4 the SDO server. -/
def Asic.dropLatches (a : Asic) (owner : Nat) : Asic :=
  { a with bus := { a.bus with
      latch := a.bus.latch.filter fun p => p.1 / 2 ^ 24 != owner
      hold := a.bus.hold.filter fun p => p.1 / 2 ^ 24 != owner } }
/-- A reset of the interface of master `m`. -/
def Asic.masterReset (a : Asic) (m : Nat) : Asic :=
  let a := if a.flag Reg.GLB_KEYST.UNLOCKED && a.get Reg.GLB_KEYST.OWNER == m then a.rearm else a
  let a := if a.flag Reg.GLB_TXN.HELD && a.get Reg.GLB_TXN.OWNER == m then
      (if a.flag Reg.GLB_TXN.CHECK then { a with bus := { a.bus with checkDrop := true } } else a.txnFree.event Reg.GLB_TXNST.RESETREL)
    else a
  (a.dropLatches m).nvmReset m
/-- A presence window is open. -/
def Asic.present' (a : Asic) : Bool := match a.can.window with | some e => decide (a.clk.now < e) | none => false
/-- Close any presence window. -/
def Asic.closeWindow' (a : Asic) : Asic := { a with can := { a.can with window := none } }
/-- AUTH_ASSERTION: open, or restart, a window of 60 s. -/
def Asic.assertAuth (a : Asic) (pin : Bool) : Asic :=
  if a.modes.coldOn then a
  else
    let src := if pin then 2 else 1
    { a with can := { a.can with window := some (a.clk.now + 60 * second), source := src } }.raise 13 src
/-- PRESENCE_WINDOW_EXPIRY. -/
def Asic.expireWindow (a : Asic) : Asic :=
  match a.can.window with
  | some e => if a.clk.now < e then a else a.closeWindow'
  | none => a
/-- Reset of the HKC: master M0, the SDO server, the presence window (R401, R409, R432). -/
def Asic.hkcReset (a : Asic) : Asic := ((a.masterReset 0).dropLatches 4).closeWindow'
/-- INITIALISATION of the CANopen node and its boot-up message (R419): the communication area as committed. -/
def Asic.bootNode (a : Asic) (objects : Tab (Option Nat)) : Asic :=
  let c := a.can
  let a := { a with can := { c with
    objects := objects, nmt := 127, sdo := none, heard := [], absent := [], beatAt := a.clk.now, tpdo := [], rpdo := [], errors := [] } }
  let a := { a with can := { a.can with node := a.obj 0x5F00 1, rate := a.obj 0x5F00 2, rateD := a.obj 0x5F00 3 } }
  a.send (.can (0x700 + a.nodeId) 0 (leBytes 8 0))

/-! ### The underlying mode (R49–R51) -/

/-- The mode R51 computes. -/
def Asic.underlying (a : Asic) : Nat :=
  if a.modes.coldOn then 1 else if !a.flag Reg.GLB_MODE.ADMIT then 2 else if a.holdoverCondition then 4 else 3
/-- The cause of a move between underlying modes (R47). -/
def Asic.moveCause (a : Asic) (old new : Nat) : Nat :=
  if new = 2 then 11 else if old = 2 then a.modes.admitWhy else if new = 4 then 4 else 5
/-- UNDERLYING_MODE_UPDATE: transitions 3 to 7, or `TARGET` alone beneath another mode. -/
def Asic.modeUpdate (a : Asic) : Asic :=
  let new := a.underlying
  let old := a.target
  if new = old then a
  else
    let cause := a.moveCause old new
    let a := a.put Reg.GLB_MODE.TARGET new
    if a.mode = old then a.moveMode new cause else a
/-- ANCHOR_CONDITION_MET for a channel whose run has lasted 10 s. -/
def Asic.anchorMet (a : Asic) (c : Nat) : Asic :=
  if !a.anchored c then a
  else
    let why := if a.flag Reg.GLB_MODE.ADMIT then a.modes.admitWhy else 3
    { a.put Reg.GLB_MODE.ADMIT 1 with modes := { a.modes with anchor := true, admitWhy := why } }

/-! ### Commands of `GLB_MODECMD` (R53, R67, R68) -/

/-- An occurrence with the SAFE reaction is accepted in this cycle. -/
def Asic.safeNow (a : Asic) : Bool := a.flt.raised.any fun o => a.occDue o && a.safeSource o.src
def Asic.leaveSafeRuled (a : Asic) : Ruled := if a.mode ≠ 6 then rej a else if a.safeNow then ok a else ok a.leaveSafeCommand
def Asic.enterFactory (a : Asic) : Ruled :=
  if (a.mode ≠ 2 ∧ a.mode ≠ 3 ∧ a.mode ≠ 4) ∨ !a.present' then rej a
  else ok ((a.moveMode 7 10).put Reg.FLT_INJST.COUNT 0).mateRefresh
def Asic.leaveFactory (a : Asic) : Ruled := if a.mode ≠ 7 then rej a else ok (a.releaseInjections.moveMode a.target 10).mateRefresh
/-- `GLB_MODECMD` as written. -/
def Asic.modeCommand (a : Asic) (cmd : Nat) : Ruled :=
  match cmd with
  | 0 => ok a
  | 1 => a.leaveSafeRuled
  | 2 => a.enterFactory
  | 3 => a.leaveFactory
  | _ => rej a

/-! ### Supply (R69–R73, R485) -/

/-- VIN_COMPARATOR_CHANGE: both comparators with their hysteresis. -/
def Supply.take (s : Supply) (now vin : Nat) : Supply :=
  { s with
    vin := vin
    warning := decide (vin < 1020) || (s.warning && decide (vin < 1040))
    warningAt := if s.warning then s.warningAt else now
    reset := decide (vin < 900) || (s.reset && decide (vin < 940))
    resetAt := if s.reset then s.resetAt else now
    goodAt := if vin < 1040 then none else some (s.goodAt.getD now) }
def Dev.vinChange (d : Dev) (vin : Nat) : Dev := { d with sup := d.sup.take d.asic.clk.now vin }
/-- BRACE_ENTRY: the warning comparator has stayed asserted for 1 µs. -/
def Dev.braceEntry (d : Dev) (vin : Nat) : Dev :=
  if d.sup.shelf || d.asic.brace || !d.sup.warning || decide (d.asic.clk.now < d.sup.warningAt + usec) then d
  else
    let d := { d with kep := { d.kep with braces := min 65535 (d.kep.braces + 1) } }
    d.onAsic fun a => { ((a.put Reg.GLB_MODE.BRACE 1).raise 2 (vin % 65536)).dropStep with fw := { a.fw with boundary := none } }
/-- BRACE_EXIT: released, with `VIN` at or above 10.4 V, for 10 ms. -/
def Dev.braceExit (d : Dev) (vin : Nat) : Dev :=
  let held := match d.sup.goodAt with | some t => decide (t + 10 * msec ≤ d.asic.clk.now) | none => false
  if d.sup.shelf || !d.asic.brace || d.sup.warning || !held then d
  else d.onAsic fun a => (a.put Reg.GLB_MODE.BRACE 0).raise 3 (vin % 65536)
/-- SHELF_ENTRY: the reset comparator has stayed asserted for 2 µs (transition 14). -/
def Dev.shelfEntry (d : Dev) : Dev :=
  if d.sup.shelf || !d.sup.reset || decide (d.asic.clk.now < d.sup.resetAt + 2 * usec) then d
  else
    { d with
      kep := { d.kep with lastMode := d.asic.mode, resets := min 65535 (d.kep.resets + 1), shelfNow := 0 }
      sup := { d.sup with shelf := true, held := false }
      asic := ({ (default : Asic) with clk := { (default : Clk) with now := d.asic.clk.now } }.put Reg.GLB_MODE.MODE 0).put Reg.GLB_MODE.TARGET 0
      nvm := match d.nvm.flight with
        | some f => (match f.commit with | .config _ _ => d.nvm.lose f | _ => d.nvm)
        | none => d.nvm }
/-- KEEP_SECOND_TICK in SHELF. -/
def Dev.keepTick (d : Dev) : Dev :=
  if !d.sup.shelf then d
  else { d with kep := { d.kep with sec := (d.kep.sec + 1) % 2 ^ 48, shelfNow := min (2 ^ 32 - 1) (d.kep.shelfNow + 1) } }
/-- KEEP_ALIVE_RAIL_LOSS: in SHELF with `VKEEP` absent, the block takes its reset values. -/
def Dev.railLoss (d : Dev) : Dev :=
  if !d.sup.shelf || d.kep.vkeepOk then d else { d with kep := { Kep.blank with vkeepOk := false, intact := d.kep.intact } }
/-- VKEEP_LEVEL_CHANGE. -/
def Dev.vkeep (d : Dev) (good : Bool) : Dev := { d with kep := { d.kep with vkeepOk := good } }

/-! ### The lid seal (R414, R433) -/

/-- A sample of the loop. -/
def Kep.sample (k : Kep) (opened : Bool) : Kep :=
  let counts := opened && k.openBefore && !k.counted && decide (k.count < 65535)
  { k with
    intact := !opened, openBefore := opened
    counted := opened && (k.counted || k.openBefore)
    broken := k.broken || counts
    sealTime := if counts && k.count == 0 then k.sec % 2 ^ 32 else k.sealTime
    count := if counts then k.count + 1 else k.count }
/-- Openings are logged and raised; the logged count becomes `COUNT`. -/
def Dev.logSeal (d : Dev) : Dev :=
  let k := d.kep
  let d := d.onAsic fun a => (a.raise 14 k.count).logEntry 1 0 k.sealTime
  d.onNvm fun n => { n with sealLogged := k.count }
/-- SEAL_SAMPLE, in every mode. -/
def Dev.sealSample (d : Dev) (opened : Bool) : Dev :=
  let k := d.kep.sample opened
  let rose := decide (d.kep.count < k.count)
  let d := { d with kep := k }
  if rose && !d.sup.shelf then (d.onAsic Asic.closeWindow').logSeal else d
/-- The comparison of R433 at the exit from COLD. -/
def Dev.compareSeal (d : Dev) : Dev :=
  let k := d.kep.count
  let was := d.nvm.sealLogged
  if was < k then d.logSeal
  else if k < was then
    let d := d.onAsic fun a => (a.logEntry 10 0 was).raise 14 (k + 65536)
    let d := if k ≠ 0 then d.onAsic fun a => a.logEntry 1 0 d.kep.sealTime else d
    d.onNvm fun n => { n with sealLogged := k }
  else d

/-! ### COLD (R52–R57, R202) -/

/-- The ASIC as COLD begins: reset, with what NVM and `KEP` give at once. -/
def Dev.coldAsic (d : Dev) : Asic :=
  let now := d.asic.clk.now
  let a : Asic := { (default : Asic) with
    clk := { (default : Clk) with now := now }
    modes := { (default : Modes) with coldOn := true, t0 := now }
    out := { (default : Outs) with drivers := true }
    nvc := { (default : Nvc) with hourAt := now } }
  let a := ((((a.put Reg.GLB_MODE.MODE 1).put Reg.GLB_MODE.TARGET 1).put Reg.GLB_MODE.PREV 0).put Reg.GLB_MODE.CAUSE 0).put Reg.GLB_MODE.SEQ 0
  let a := ((a.put Reg.NVM_HOURS.HOURS d.nvm.hours).put Reg.NVM_LOGHEAD.HEAD d.nvm.logHead).putB Reg.NVM_LOGHEAD.WRAP d.nvm.logWrap
  ((a.put Reg.FLT_RCOUNT.COUNT d.nvm.recovery).put Reg.CAL_OVSTAT.ACTIVE d.kep.ovenSel).put Reg.GLB_FWCTL.BANK d.nvm.bank
/-- VIN_QUALIFIED: transition 1. -/
def Dev.vinQualified (d : Dev) : Dev :=
  let held := match d.sup.goodAt with | some t => decide (t + 10 * msec ≤ d.asic.clk.now) | none => false
  if !d.sup.shelf || !held then d
  else
    { d with
      kep := { d.kep with shelfTime := d.kep.shelfNow, shelfNow := 0 }
      sup := { d.sup with shelf := false, held := false }
      asic := d.coldAsic }
/-- BKPLL starts on the selected oven; an oven that does not oscillate is marked (R202). -/
def Asic.selectOven (a : Asic) (o : Nat) (mark : Bool) : Asic :=
  let a := a.put Reg.CAL_OVSTAT.ACTIVE o
  let a := { a with clk := { a.clk with bkAt := some a.clk.now } }
  if mark then { a with ovn := { a.ovn with coldFault := [1 - o] } } else a
/-- The HKC boots, and the collector runs, from the first clock of SYSFB. -/
def Asic.sysfbRuns (a : Asic) : Asic :=
  let l := a.ovn.coldFault
  let a := { a with clk := { a.clk with bkLocked := true }, ovn := { a.ovn with coldFault := [] } }
  a.each l fun a o => a.ovenFaultNow o 1
/-- Neither oven oscillates up to t0 + 200 ms: BKPLL runs free (R202). -/
def Asic.runFree (a : Asic) : Asic :=
  let a := { a.put Reg.GLB_MODE.FALLBACK 1 with clk := { a.clk with bkAt := some a.clk.now, lossAt := some a.clk.now } }
  ((a.levelOn 4 0 0).noOvenRefresh).sysfbRuns
/-- OVEN_START_CHECK at t0 + 20 ms and every 1 ms up to t0 + 200 ms. -/
def Asic.ovenStart (a : Asic) (oscA oscB : Bool) : Asic :=
  let e := a.clk.now - a.modes.t0
  if !a.modes.coldOn || a.clk.bkAt.isSome || decide (e < 20 * msec) then a
  else
    let named := a.activeOven
    let good := fun (o : Nat) => if o = 0 then oscA else oscB
    let a := (a.putB (Reg.CAL_OVSTS.OSC 0) oscA).putB (Reg.CAL_OVSTS.OSC 1) oscB
    if good named then a.selectOven named (decide (21 * msec ≤ e) && !good (1 - named))
    else if good (1 - named) then a.selectOven (1 - named) true
    else if e < 200 * msec then a
    else a.runFree
/-- BKPLL_LOCKED during COLD: SYSFB and the CAN clock run, and the HKC boots. -/
def Asic.bkpllLocked (a : Asic) : Asic := if !a.modes.coldOn || a.clk.bkLocked || a.clk.bkAt.isNone then a else a.sysfbRuns
/-- SYSPLL_LOCKED during COLD. -/
def Asic.syspllLocked (a : Asic) : Asic :=
  if !a.modes.coldOn || !a.clk.bkLocked || a.fallback then a else { a with clk := { a.clk with sysLocked := true } }
/-- TS0 takes the keep-alive seconds (R261). -/
def Asic.startScales (a : Asic) (sec : Nat) : Asic :=
  let s0 : Scale := { (default : Scale) with base := sec * secUnits, sec := sec }
  { a with tsc := { a.tsc with scale := Tab.set [] 0 s0 } }
/-- The ASIC as COLD ends: clocks, scales, credits and the CANopen node start; PRIMER unless the module is in SAFE. -/
def Dev.leaveCold (d : Dev) : Asic :=
  let a := d.asic
  let a := { a with
    clk := { a.clk with coarse := 0, coarseOn := true, fbkFrom := if a.fallback then some 0 else none }
    modes := { a.modes with coldOn := false }
    cal := { a.cal with roundAt := a.clk.now }
    flt := { a.flt with lastSafe := a.clk.now } }
  let a := (((a.startScales d.kep.sec).refreshRates).reloadCredits).put Reg.FLT_RCOUNT.RUN 0
  let a := ((a.put Reg.GLB_MODE.TARGET 2).bootNode d.nvm.objects).logEntry 8 0 0
  if a.mode = 6 then a else (a.moveMode 2 (if a.modes.loadFailed then 12 else 1)).mateRefresh
/-- COLD_SEQUENCE_COMPLETE: transition 2 (R51, R55–R57). -/
def Dev.coldComplete (d : Dev) : Dev :=
  let a := d.asic
  if !a.modes.coldOn || (!a.modes.loaded && !a.modes.loadFailed)
      || (a.fallback && decide (a.clk.now < a.modes.t0 + 4000 * msec)) then d
  else { d with asic := d.leaveCold }.compareSeal

/-! ### System clock fallback (R74–R77) -/

/-- SYSPLL_LOSS_OF_LOCK. -/
def Asic.syspllLoss (a : Asic) : Asic :=
  if a.fallback then { a with clk := { a.clk with relockAt := none } }
  else if !a.clk.sysLocked then a
  else
    let a := { (a.put Reg.GLB_MODE.FALLBACK 1).levelOn 4 0 0 with
      clk := { a.clk with sysLocked := false, relockAt := none, lossAt := some a.clk.now, sustained := false, fbkFrom := some a.clk.coarse }
      fw := { a.fw with boundary := none } }
    let a := (a.invalidateLanes.freezeChannels).each channels fun a c => if (a.uc c).switch.isSome then a.abortSwitch c else a
    a.rallyRefreshAll.dropStep
/-- SYSPLL_RELOCK: the held-lock wait begins; SYSPLL has no clock without an oscillating oven. -/
def Asic.syspllRelock (a : Asic) : Asic :=
  if !a.fallback || a.clk.relockAt.isSome || !a.oscOk a.activeOven then a else { a with clk := { a.clk with relockAt := some a.clk.now } }
/-- SYSPLL_SWITCH_BACK after 1 ms of held lock; the coarse counter stays continuous and regains its 800 ps phase (R75). -/
def Asic.switchBack (a : Asic) : Asic :=
  match a.clk.relockAt with
  | none => a
  | some t =>
    if !a.fallback || decide (a.clk.now < t + msec) then a
    else
      let a := { a with clk := { a.clk with coarse := a.clk.coarse + (a.clk.now - a.clk.lossAt.getD 0) % 25 } }
      let spans := match a.clk.fbkFrom with | some f => (f, a.clk.coarse) :: a.clk.fbk | none => a.clk.fbk
      let a := { ((a.put Reg.GLB_MODE.FALLBACK 0).levelOff 4 0).levelOff 5 0 with
        clk := { a.clk with sysLocked := true, relockAt := none, lossAt := none, sustained := false, fbkFrom := none, fbk := spans } }
      let a := (a.thawChannels.umpCatchUp).rallyRefreshAll
      let a := a.each [0, 1, 2, 3] fun a k => a.trigsOf k
      (a.resumeMigration).resumeOvenHo
/-- SUSTAINED_FALLBACK: 10 s after the loss, or after BKPLL started when SYSPLL never locked. -/
def Asic.sustainedFallback (a : Asic) : Asic :=
  match a.clk.lossAt with
  | none => a
  | some t =>
    if !a.fallback || a.clk.sustained || decide (a.clk.now < t + 10 * second) then a
    else { a with clk := { a.clk with sustained := true } }.levelOn 5 0 a.activeOven
/-- PLACEMENT_CHANGE_DEFERRAL_END for a function whose last parity change is 1 ms old (R28). -/
def Asic.deferralEnd (a : Asic) (fn : Placed) : Asic :=
  match fn with
  | .lane i => if i = 22 then a.applyEpoch22.resumeLaneHo else a.resumeLaneHo
  | .dpll c =>
    if !a.parityFree 2 c then a
    else
      let a := a.autoMigrate c
      a.deferred.foldl (fun a x => match x with
        | .dpll c' u => if c' = c.val then { a with deferred := a.deferred.filter (· != x) }.requestMigration c u else a
        | _ => a) a
  | .event _ => a.resumeTacHo

/-! ### Firmware bank swap (R78–R81, R411, R412) -/

/-- A write of `GLB_FWDATA`: the inactive bank's word at `PTR`. -/
def Dev.fwData (d : Dev) (w : Word) : DRuled :=
  let a := d.asic
  if a.flag Reg.GLB_FWCTL.PEND then (d, true)
  else
    let p := a.get Reg.GLB_FWPTR.PTR
    let bank := 1 - a.get Reg.GLB_FWCTL.BANK
    ((d.onNvm fun n => { n with firmware := n.firmware.set (bank * 2 ^ 18 + p) w }).onAsic fun a => a.put Reg.GLB_FWPTR.PTR (p + 1), false)
/-- The words of a firmware bank. -/
def Nvm.bankWords (n : Nvm) (bank : Nat) : List (Nat × Word) := (n.firmware.filter fun p => p.1 / 2 ^ 18 == bank).map fun p => (p.1 % 2 ^ 18, p.2)
/-- `GLB_FWCTL.ARM`. -/
def Dev.fwArm (d : Dev) : DRuled :=
  let a := d.asic
  if a.flag Reg.GLB_FWCTL.PEND || !a.present' then (d, true)
  else if !Config.imageGenuine (d.nvm.bankWords (1 - a.get Reg.GLB_FWCTL.BANK)) then (d.onAsic fun a => a.event Reg.GLB_FWCTL.BADIMG, true)
  else (d.onAsic fun a => { a.put Reg.GLB_FWCTL.PEND 1 with fw := { a.fw with armedAt := some a.clk.now, boundary := none } }, false)
/-- `GLB_FWCTL.CANCEL` before t0 − 100 ms. -/
def Asic.fwCancel (a : Asic) : Asic :=
  if !a.flag Reg.GLB_FWCTL.PEND || a.fw.boundary.isSome then a
  else { a.put Reg.GLB_FWCTL.PEND 0 with fw := { a.fw with armedAt := none } }
/-- The conditions of R79 on the module. -/
def Asic.swapAllowed (a : Asic) : Bool := (a.mode == 2 || a.mode == 3 || a.mode == 4 || a.mode == 5) && !a.brace && !a.fallback
/-- Model time at which the next `TS0` second begins. -/
def Asic.nextSecond (a : Asic) : Nat := a.clk.now + ((1000000000 - nsOf a.ts0) * 5 + 3) / 4
/-- FW_CHECKPOINT_START within 100 ms of a boundary that lies 100 ms or more after the arm; an open SDO session is aborted (R80). -/
def Asic.fwCheckpoint (a : Asic) : Asic :=
  match a.fw.armedAt with
  | none => a
  | some t =>
    if a.fw.boundary.isSome || !a.swapAllowed || decide (nsOf a.ts0 < 900000000) || decide (a.nextSecond < t + 100 * msec) then a
    else
      let a := { a with fw := { a.fw with boundary := some a.nextSecond } }
      match a.can.sdo with
      | none => a
      | some s =>
        { a with can := { a.can with sdo := none } }.send
          (.can (0x580 + a.nodeId) 0 (0x80 :: leBytes 2 (s.key / 256) ++ leBytes 1 (s.key % 256) ++ leBytes 4 0x08000020))
/-- The HKC is held in reset and the bank select flips. -/
def Asic.flipBank (a : Asic) : Asic := (a.hkcReset).put Reg.GLB_FWCTL.BANK (1 - a.get Reg.GLB_FWCTL.BANK)
/-- FW_BANK_SWAP at the boundary; a boundary that no longer meets R79 is passed over. -/
def Asic.fwSwap (a : Asic) : Asic :=
  match a.fw.boundary with
  | none => a
  | some t =>
    if a.clk.now < t then a
    else if !a.swapAllowed then { a with fw := { a.fw with boundary := none } }
    else
      let a := ((a.flipBank.put Reg.GLB_FWCTL.ALIVE 0).put Reg.GLB_FWCTL.PEND 0).event Reg.GLB_FWCTL.SWAPD
      { a with fw := { armedAt := none, boundary := none, swappedAt := some a.clk.now } }
/-- FW_ALIVE: the new firmware runs, and the bank pointer commits. -/
def Asic.fwAlive (a : Asic) : Asic :=
  if a.fw.swappedAt.isNone then a
  else
    let a := { a.put Reg.GLB_FWCTL.ALIVE 1 with fw := { a.fw with swappedAt := none } }
    (a.askCommit .bank).logEntry 6 0 0
/-- FW_REVERT: `ALIVE` has not set within 2 s. -/
def Asic.fwRevert (a : Asic) : Asic :=
  match a.fw.swappedAt with
  | none => a
  | some t =>
    if a.clk.now < t + 2 * second then a
    else
      let a := { (a.flipBank.put Reg.GLB_FWCTL.ALIVE 1).event Reg.GLB_FWCTL.REVERTED with fw := { a.fw with swappedAt := none } }
      a.raise 6 (a.get Reg.GLB_FWCTL.BANK)

/-! ### Running a command on the module -/

/-- A command that acts on the ASIC: nothing in SHELF, where no block but `KEP` and the NVM controller runs (R72).
`KEP_OVSEL` follows the active oven (R202). -/
def Dev.run (d : Dev) (f : Asic → Asic) : Dev :=
  if d.sup.shelf then d
  else
    let a := f d.asic
    { d with asic := a, kep := if a.activeOven = d.asic.activeOven then d.kep else { d.kep with ovenSel := a.activeOven } }

end Sys2Proof.Machine
end

