-- ==== Sys2Proof/Machine/Live.lean ====
section
/-! DEFINITION. What a register word reads as at this instant, with none of the effects of a read: the stored word, the RO
fields that other state determines, the windows (R139, R188, R235, R472) and the `KEP` block (R413). -/

namespace Sys2Proof.Machine

/-- A word with a field replaced. -/
def withField (w : Word) (f : Fld) (n : Nat) : Word :=
  (w &&& ~~~(maskAt f.lsb f.width)) ||| BitVec.ofNat 32 ((n % 2 ^ f.width) <<< f.lsb)
def withFlag (w : Word) (f : Fld) (b : Bool) : Word := withField w f (bit b)
/-- A mask with bit `i` set where `p i` holds. -/
def maskOf (n : Nat) (p : Nat → Bool) : Nat := (List.range n).foldl (fun m i => if p i then m + 2 ^ i else m) 0
/-- The low, or the high, word of an integer held in a pair. -/
def lowWord (x : Int) : Nat := code 64 x % 2 ^ 32
def highWord (x : Int) : Nat := code 64 x / 2 ^ 32

/-! ### The blocks -/

/-- The blocks that hold an SQ event bit set, in the order of R383. -/
def Asic.attention (a : Asic) : Nat :=
  a.regs.foldl (fun n p =>
    match regRow p.1 with
    | some (r, _) => if wordBits (a.word p.1) 8 24 &&& (r.sq / 256) = 0 then n else setBit n (p.1 / 65536)
    | none => n) 0

/-- `GLB`. -/
def Asic.liveGlb (a : Asic) (addr : Nat) (w : Word) : Word :=
  if addr = 0x18 then
    withField w Reg.GLB_TXN.REMAIN
      (if !a.flag Reg.GLB_TXN.HELD then 0 else if a.flag Reg.GLB_TXN.CHECK then a.bus.leaseLeft / msec else (a.bus.leaseEnd - a.clk.now) / msec)
  else if addr = 0x48 then
    match a.can.window with
    | some e => if a.clk.now < e then
        withField (withField (withField w Reg.GLB_AUTHST.OPEN 1) Reg.GLB_AUTHST.REMAIN ((e - a.clk.now) / second)) Reg.GLB_AUTHST.SRC a.can.source else w
    | none => w
  else if addr = 0x4C then
    withFlag (withFlag (withField w Reg.GLB_SUM.ATTN a.attention) Reg.GLB_SUM.PRIMER a.primer) Reg.GLB_SUM.FALLBACK a.fallback
  else w

/-- `REF`. -/
def Asic.liveRef (a : Asic) (addr base i : Nat) (w : Word) : Word :=
  if addr = 0x010000 then
    withFlag (withFlag (withFlag (withField w Reg.REF_SUM.PRESENT (maskOf 24 a.present)) Reg.REF_SUM.PRIMER a.primer) Reg.REF_SUM.DEGRADED a.fallback)
      Reg.REF_SUM.CFGERR ((List.range 24).any fun i => a.flag (Reg.REF_STAT.CFGERR i))
  else if addr = 0x010020 then
    withFlag w Reg.REF_CALPPS.PPSPRES (match a.ref.ppsAt with | some t => decide (a.clk.coarse < t + 2 * second) | none => false)
  else if base = 0x011044 then withFlag w (Reg.REF_PLACE.EPOCH i) (a.parityOf 1 i)
  else w

/-- `UMP`. -/
def Asic.liveUmp (a : Asic) (addr base i : Nat) (w : Word) : Word :=
  if addr = 0x020000 then
    let w := withField w Reg.UMP_SUM.DISPUTED (maskOf 8 fun c => a.flag (Reg.UMP_SEL.DISPUTED c))
    let w := withField w Reg.UMP_SUM.NOSEL (maskOf 8 fun c => a.sel c == 31)
    withFlag (withFlag (withFlag w Reg.UMP_SUM.CONSOK a.consValid) Reg.UMP_SUM.PRIMER a.primer) Reg.UMP_SUM.FROZEN a.fallback
  else if addr = 0x020004 then withField w Reg.UMP_QUAL.QUAL (maskOf 24 fun i => a.qual i == 2)
  else if addr = 0x020008 then withField w Reg.UMP_SUSP.SUSP (maskOf 24 fun i => a.qual i == 3)
  else if addr = 0x02000C then withField w Reg.UMP_DISQ.DISQ (maskOf 24 fun i => a.qual i == 4)
  else if base = 0x021008 then withField w (Reg.UMP_ITIME.TIME i) (min (2 ^ 32 - 1) ((a.clk.now - (a.ui i).enteredAt) / second))
  else w

/-- `LDG` registers. -/
def Asic.liveLdg (a : Asic) (addr : Nat) (w : Word) : Word :=
  if addr = 0x038038 then withFlag (withFlag w Reg.LDG_SUM.PRIMER a.primer) Reg.LDG_SUM.FROZEN a.fallback else w

/-- `DPL` registers. -/
def Asic.liveDpl (a : Asic) (addr base c : Nat) (w : Word) : Word :=
  if base = 0x04003C then
    withFlag (withFlag (withField w (Reg.DPL_STATE.INDEX c) (a.sel c)) (Reg.DPL_STATE.PRIMER c) a.primer) (Reg.DPL_STATE.EPOCH c) (a.parityOf 2 c)
  else if base = 0x040050 then
    if a.chanState c = 3 then w else withField w (Reg.DPL_HOFLO.FREQ c) (lowWord (a.hoAverage c).2.1)
  else if base = 0x040054 then
    if a.chanState c = 3 then w else withField w (Reg.DPL_HOFHI.FREQ c) (highWord (a.hoAverage c).2.1)
  else if base = 0x040058 then withField w (Reg.DPL_HOTIME.TIME c) (min (2 ^ 32 - 1) (a.hoSeconds c))
  else if base = 0x04005C then
    withField w (Reg.DPL_LOCKTIM.TIME c) (if a.chanState c = 2 then min (2 ^ 32 - 1) ((a.clk.coarse - (a.chan c).lockedAt) / second) else 0)
  else if base = 0x040060 then
    withField (withField w (Reg.DPL_HIST.VALID c) ((a.windowEntries c).filter fun h => h.valid).length) (Reg.DPL_HIST.INT c) (a.hoInterval c)
  else if addr = 0x048014 then withField w Reg.DPL_HSEQ.COUNT (a.chan (a.get Reg.DPL_HSEL.CHAN)).appended
  else w
/-- The history window (R188): low and high word of an entry. -/
def Asic.historyWord (a : Asic) (off : Nat) : Word :=
  match (a.chan (a.get Reg.DPL_HSEL.CHAN)).hist[off / 8 + 512 * a.get Reg.DPL_HSEL.PAGE]? with
  | none => 0
  | some h =>
    if off % 8 = 0 then BitVec.ofNat 32 (lowWord h.mean)
    else BitVec.ofNat 32 (highWord h.mean % 2 ^ 16 + 2 ^ 16 * bit h.valid + 2 ^ 17 * bit h.frozen)

/-- `APL` registers. -/
def Asic.liveApl (a : Asic) (addr base s : Nat) (w : Word) : Word :=
  if addr = 0x050000 then
    let w := withField w Reg.APL_SUM.LOCK (maskOf 7 fun f => (a.au (a.carrier f)).phase == 3)
    let w := withField w Reg.APL_SUM.LOL (maskOf 7 fun f => a.flag (Reg.APL_ASTAT.LOL f))
    let w := withFlag (withFlag w Reg.APL_SUM.HOPBUSY (a.flag Reg.APL_HOPSTAT.BUSY)) Reg.APL_SUM.HOPPEND (a.flag Reg.APL_HOPSTAT.PEND)
    withFlag (withFlag (withFlag w Reg.APL_SUM.HOBUSY a.apl.ho.isSome) Reg.APL_SUM.SHADOWOK (a.flag (Reg.APL_ASTAT.SHADOWOK 7))) Reg.APL_SUM.PRIMER a.primer
  else if base = 0x050100 then withFlag w (Reg.APL_ASTAT.PRIMER s) a.primer
  else if base = 0x05010C then withField w (Reg.APL_AVT.VT s) (Config.tuningVoltage s a.clk.now)
  else w

/-- `OUT`. -/
def Asic.liveOut (a : Asic) (addr base i : Nat) (w : Word) : Word :=
  if addr = 0x060004 then
    let w := withField w Reg.OUT_SUM.RUN (maskOf 28 fun o => if o < 24 then a.flag (Reg.OUT_STAT.RUN o) else a.plsRun (o - 24))
    let w := withFlag (withFlag w Reg.OUT_SUM.PRIMER a.primer) Reg.OUT_SUM.FORCED (clockOuts.any fun o => a.flag (Reg.OUT_STAT.FORCED o))
    withFlag w Reg.OUT_SUM.CFGERR (clockOuts.any (fun o => a.flag (Reg.OUT_STAT.CFGERR o)) || [0, 1, 2, 3].any a.plsCfgErr)
  else if base = 0x061014 then withField w (Reg.OUT_SKIMCUR.S i) (code 32 (a.skimNow i))
  else if base = 0x06201C then
    let w := withFlag (withFlag w (Reg.PLS_STAT.CFGERR i) (a.plsCfgErr i)) (Reg.PLS_STAT.NOIN i) (!a.present (a.plsIdx i))
    withFlag (withFlag w (Reg.PLS_STAT.RUN i) (a.plsRun i)) (Reg.PLS_STAT.SQUELCH i) (!a.plsRun i)
  else w

/-- `TSC`. -/
def Asic.liveTsc (a : Asic) (addr base k : Nat) (w : Word) : Word :=
  if addr = 0x070000 then
    let w := withField w Reg.TSC_SUM.UNSET (maskOf 4 fun k => !(a.scale k).isSet)
    let w := withField w Reg.TSC_SUM.TRACK (maskOf 4 fun k => a.get (Reg.TSC_SRVSTAT.STATE k) == 2)
    let w := withField w Reg.TSC_SUM.TRGRUN (maskOf 8 a.trigRun)
    withFlag (withFlag w Reg.TSC_SUM.PRIMER a.primer) Reg.TSC_SUM.FROZEN a.fallback
  else if base = 0x071004 then withField w (Reg.TSC_FRAC.FRAC k) (fracOf (a.scaleAt k a.nowU))
  else if base = 0x071008 then withField w (Reg.TSC_NS.NS k) (nsOf (a.scaleAt k a.nowU))
  else if base = 0x07100C then withField w (Reg.TSC_SECLO.SEC k) (secOf (a.scaleAt k a.nowU))
  else if base = 0x071010 then withField w (Reg.TSC_SECHI.SEC k) (secOf (a.scaleAt k a.nowU) / 2 ^ 32)
  else if base = 0x071030 then withField w (Reg.TSC_RATELO.RATE k) (lowWord (a.scale k).rate)
  else if base = 0x071034 then withField w (Reg.TSC_RATEHI.RATE k) (highWord (a.scale k).rate)
  else if base = 0x072028 then
    let w := withFlag (withFlag w (Reg.TRG_STAT.RUN k) (a.trigRun k)) (Reg.TRG_STAT.SQUELCH k) (!a.trigRun k)
    withFlag w (Reg.TRG_STAT.CFGERR k) (a.trigCfgErr k)
  else if base = 0x072038 then withField w (Reg.TRG_NEXTSEC.SEC k) ((a.trig k).x / pqPerSec)
  else if base = 0x07203C then withField w (Reg.TRG_NEXTNS.NS k) ((a.trig k).x % pqPerSec / pqPerNs)
  else w

/-- `EVT`. -/
def Asic.liveEvt (a : Asic) (addr base n : Nat) (w : Word) : Word :=
  if addr = 0x080000 then
    let w := withField w Reg.EVT_SUM.ARMED (maskOf 4 fun g => a.egState g != 0)
    let w := withField w Reg.EVT_SUM.MEAS (maskOf 4 fun g => a.egState g == 3)
    withFlag (withFlag (withFlag w Reg.EVT_SUM.PRIMER a.primer) Reg.EVT_SUM.DEGRADED a.fallback) Reg.EVT_SUM.CFGERR
      ((List.range 16).any (fun n => a.flag (Reg.EVT_STAT.CFGERR n)) || [0, 1, 2, 3].any fun g => a.flag (Reg.EG_STAT.CFGERR g))
  else if base = 0x081004 then withField w (Reg.EVT_DELAY.DELAY n) (code 32 (a.cal.inUse.get (4 * 64 + n)))
  else if base = 0x081018 then withFlag w (Reg.EVT_PLACE.EPOCH n) (a.parityOf 3 n)
  else w

/-- `PRT` and `RLY`. -/
def Asic.livePrt (a : Asic) (base p : Nat) (w : Word) : Word :=
  if base = 0x090000 then (if p % 2 = 1 then withFlag w (Reg.PRT_CFG.PASS p) (a.flag (Reg.PRT_CFG.PASS (p - 1))) else w)
  else if base = 0x090004 then withFlag w (Reg.PRT_STAT.PRIMER p) a.primer
  else if base = 0x090018 then withField w (Reg.PRT_FIXIN.LAT p) (code 32 (a.fixIn p))
  else if base = 0x09001C then withField w (Reg.PRT_FIXEG.LAT p) (code 32 (a.fixEg p))
  else if base = 0x090020 then withField w (Reg.PRT_CALIN.LAT p) (code 32 (a.calIn p))
  else if base = 0x090024 then withField w (Reg.PRT_CALEG.LAT p) (code 32 (a.calEg p))
  else w
def Asic.liveRly (a : Asic) (base i : Nat) (w : Word) : Word :=
  if base = 0x0A0004 then withFlag w (Reg.RLY_STAT.PRIMER i) a.primer
  else if base = 0x0A003C then withField w (Reg.RLY_CALTX.LAT i) (code 32 (a.calTx i))
  else if base = 0x0A0040 then withField w (Reg.RLY_CALRX.LAT i) (code 32 (a.calRx i))
  else if base = 0x0A200C then
    let left := (a.impair i).start + a.impDuration i * second - a.clk.coarse
    withField w (Reg.RLY_IMPSTAT.REMAIN i) (if a.flag (Reg.RLY_IMPSTAT.ARMED i) then (left + second - 1) / second else 0)
  else w

/-- `REC`, `DMA` and `FLT`. -/
def Asic.liveRec (a : Asic) (addr base q : Nat) (w : Word) : Word :=
  if addr = 0x0B000C then withFlag (withFlag w Reg.REC_STAT.PRIMER a.primer) Reg.REC_STAT.DEGRADED a.degraded
  else if base = 0x0B0108 then
    withField w (Reg.REC_WAITLO.CYCLES q) (a.get2 (Reg.REC_WAITLO.CYCLES q) (Reg.REC_WAITHI.CYCLES q) + a.waitNow q)
  else if base = 0x0B010C then
    withField w (Reg.REC_WAITHI.CYCLES q) ((a.get2 (Reg.REC_WAITLO.CYCLES q) (Reg.REC_WAITHI.CYCLES q) + a.waitNow q) / 2 ^ 32)
  else if base = 0x0B0110 then withField w (Reg.REC_LONGEST.CYCLES q) (min 65535 (max (a.get (Reg.REC_LONGEST.CYCLES q)) (a.waitNow q)))
  else w
def Asic.liveFlt (a : Asic) (addr : Nat) (w : Word) : Word :=
  if addr = 0x0D0000 then
    let active := fun (k : Nat) => (List.range 128).any fun s => a.flag (Reg.FLT_SRCST.ACTIVE s) && sourceClass s == k
    let w := withField w Reg.FLT_SUM.ACTIVE (maskOf 4 active)
    let w := withFlag (withFlag (withFlag w Reg.FLT_SUM.FSTATE a.flt.fstate) Reg.FLT_SUM.FAULTL a.flt.faultL) Reg.FLT_SUM.IRQL a.irqLow
    withFlag (withFlag (withFlag w Reg.FLT_SUM.INJ (a.flag Reg.FLT_INJST.ACTIVE)) Reg.FLT_SUM.PRIMER a.primer) Reg.FLT_SUM.FALLBACK a.fallback
  else if 0x0D0020 ≤ addr ∧ addr < 0x0D0030 then
    BitVec.ofNat 32 (maskOf 32 fun s => a.flag (Reg.FLT_SRCST.PEND (s + 8 * (addr - 0x0D0020))))
  else if 0x0D0030 ≤ addr ∧ addr < 0x0D0040 then
    BitVec.ofNat 32 (maskOf 32 fun s => a.flag (Reg.FLT_SRCST.ACTIVE (s + 8 * (addr - 0x0D0030))))
  else if addr = 0x0D0050 then withField w Reg.FLT_OPEN.COUNT a.flt.opened.length
  else w

/-- `CAL`. -/
def Asic.liveCal (a : Asic) (addr : Nat) (w : Word) : Word :=
  let (fac, fld, cur, use) := a.calView
  if addr = 0x0F0008 then withFlag w Reg.CAL_STAT.CALOK a.calOk
  else if addr = 0x0F0030 then BitVec.ofNat 32 (code 32 fac)
  else if addr = 0x0F0034 then BitVec.ofNat 32 (code 32 fld)
  else if addr = 0x0F0038 then BitVec.ofNat 32 (code 32 cur)
  else if addr = 0x0F003C then BitVec.ofNat 32 (code 32 use)
  else w

/-! ### Windows and `KEP` -/

/-- Byte `o` of a byte list, 0 beyond its end. -/
def byteAt (l : List Byte) (o : Nat) : Byte := (l[o]?).getD 0
/-- The word at byte offset `o` of a byte list, least significant byte first. -/
def wordAt (l : List Byte) (o : Nat) : Word :=
  BitVec.ofNat 32 (ofLe [byteAt l o, byteAt l (o + 1), byteAt l (o + 2), byteAt l (o + 3)])

/-- The entry window (R155). -/
def Asic.ledgerWord (a : Asic) (k : Nat) : Word :=
  ((if a.flag Reg.LDG_VIEW.MODE then a.ldg.shown else a.ldg.live).get k).getD Config.nanWord

/-- The read-only windows outside the register tables; none elsewhere. -/
def Asic.window (a : Asic) (addr : Nat) : Option Word :=
  if 0x030000 ≤ addr ∧ addr < 0x034800 then some (a.ledgerWord ((addr - 0x030000) / 4))
  else if 0x049000 ≤ addr ∧ addr < 0x04A000 then some (a.historyWord (addr - 0x049000))
  else if 0x058000 ≤ addr ∧ addr < 0x05C000 then some (a.apl.active.getF planWordReset ((addr - 0x058000) / 4))
  else if 0x05C000 ≤ addr ∧ addr < 0x05C800 then some (a.hopEntry ((addr - 0x05C000) / 4))
  else if 0x0E1000 ≤ addr ∧ addr < 0x0E1080 then some (wordAt a.nvc.window (addr - 0x0E1000))
  else if 0x0E2000 ≤ addr ∧ addr < 0x0E2080 then some (wordAt a.nvc.buffer (addr - 0x0E2000))
  else none
/-- The staged plan bank. -/
def stagedBank (addr : Nat) : Bool := decide (0x054000 ≤ addr) && decide (addr < 0x058000)

/-- `KEP` (R413). -/
def Kep.word (k : Kep) (addr : Nat) : Word :=
  (k.reserved.get addr) ||| BitVec.ofNat 32 (match addr - 0x100000 with
    | 0x00 => bit k.keepOk + 2 * bit k.vkeepOk + 4 * bit k.fresh
    | 0x04 => k.sec % 2 ^ 32
    | 0x08 => k.sec / 2 ^ 32 % 2 ^ 16
    | 0x10 => k.lastMode % 8 + 2 ^ 16 * k.resets
    | 0x14 => k.braces
    | 0x18 => k.shelfTime
    | 0x20 => bit k.intact + 2 * bit k.broken + 2 ^ 16 * k.count
    | 0x24 => k.sealTime
    | 0x28 => k.scratch.toNat
    | 0x2C => k.ovenSel
    | _ => 0)
/-- The reserved bits of `KEP`. -/
def kepReserved (addr : Nat) : Nat :=
  match addr - 0x100000 with
  | 0x00 => 0xFFFFFFF8
  | 0x04 => 0
  | 0x08 => 0xFFFF0000
  | 0x10 => 0x0000FFF8
  | 0x14 => 0xFFFF0000
  | 0x18 => 0
  | 0x20 => 0x0000FFFC
  | 0x24 => 0
  | 0x28 => 0
  | 0x2C => 0xFFFFFFFE
  | _ => 0xFFFFFFFF

/-- A register word as it reads now; WO fields read 0 (R11). -/
def Dev.live (d : Dev) (addr : Nat) : Word :=
  let a := d.asic
  if 0x100000 ≤ addr then d.kep.word addr
  else if stagedBank addr then a.apl.staged.getF planWordReset ((addr - 0x054000) / 4)
  else match a.window addr with
    | some w => w
    | none =>
      match regRow addr with
      | none => a.word addr
      | some (r, i) =>
        let w := a.word addr &&& ~~~(BitVec.ofNat 32 r.wo)
        match addr / 65536 with
        | 0 => a.liveGlb addr w
        | 1 => a.liveRef addr r.addr i w
        | 2 => a.liveUmp addr r.addr i w
        | 3 => a.liveLdg addr w
        | 4 => a.liveDpl addr r.addr i w
        | 5 => a.liveApl addr r.addr i w
        | 6 => a.liveOut addr r.addr i w
        | 7 => a.liveTsc addr r.addr i w
        | 8 => a.liveEvt addr r.addr i w
        | 9 => a.livePrt r.addr i w
        | 10 => a.liveRly r.addr i w
        | 11 => a.liveRec addr r.addr i w
        | 12 => if addr = 0x0C0000 then withFlag w Reg.DMA_SUM.PRIMER a.primer else w
        | 13 => a.liveFlt addr w
        | 14 =>
          if addr = 0x0E002C then
            withField (withField (withField w Reg.NVM_POOL.FREE d.nvm.pool.length) Reg.NVM_POOL.RETIRED d.nvm.retired.length)
              Reg.NVM_POOL.QUEUE (a.commits.length + bit d.nvm.flight.isSome)
          else w
        | _ => a.liveCal addr w

end Sys2Proof.Machine
end

