-- ==== Sys2Proof/Machine/Effects.lean ====
section
/-! DEFINITION. What a write does beyond the fields it stores: one function per block, run on the state that already holds
the written word. `old` is the state before the write, `v` the word as written with its WO fields, `i` the register's
instance. The second component tells whether a rejection rule of the block applies (R403). -/

namespace Sys2Proof.Machine

/-! ### The key and the transaction lock (R401, R407–R409) -/

/-- A write of `GLB_KEY`: the one value in a 32-bit access unlocks, anything else re-arms (R401). -/
def Asic.keyWrite (a : Asic) (m : Nat) (v : Nat) (full : Bool) : Asic :=
  if full && v == 0x5A17 then
    let a := (a.put Reg.GLB_KEYST.UNLOCKED 1).put Reg.GLB_KEYST.OWNER m
    { a with bus := { a.bus with keyAt := a.clk.now } }
  else a.rearm
/-- KEY_TIMEOUT: 100 ms after the unlock. -/
def Asic.keyTimeout (a : Asic) : Asic :=
  if a.flag Reg.GLB_KEYST.UNLOCKED && decide (a.bus.keyAt + 100 * msec ≤ a.clk.now) then a.rearm else a

/-- The lease in TDC cycles. -/
def Asic.lease (a : Asic) : Nat := max 1 (min 1000 (a.get Reg.GLB_TXNCFG.LEASE)) * msec
def Asic.txnHeld (a : Asic) : Bool := a.flag Reg.GLB_TXN.HELD
/-- Master `m` holds the transaction lock. -/
def Asic.txnOwner (a : Asic) (m : Nat) : Bool := a.txnHeld && a.get Reg.GLB_TXN.OWNER == m
/-- The lease restarts. -/
def Asic.txnRestart (a : Asic) : Asic :=
  { a with bus := { a.bus with leaseEnd := a.clk.now + a.lease, leaseLeft := a.lease } }
/-- The lease has run out; it does not expire while the check runs (R408). -/
def Asic.leaseOver (a : Asic) : Bool := a.txnHeld && !a.flag Reg.GLB_TXN.CHECK && decide (a.bus.leaseEnd ≤ a.clk.now)
/-- TXN_LEASE_EXPIRY. -/
def Asic.leaseExpiry (a : Asic) : Asic := if a.leaseOver then a.txnFree.event Reg.GLB_TXNST.EXPIRED else a
/-- `REQ`. -/
def Asic.txnReq (a : Asic) (m : Nat) : Ruled :=
  let a := a.leaseExpiry
  if !a.txnHeld then
    ok ((((a.put Reg.GLB_TXN.HELD 1).put Reg.GLB_TXN.OWNER m).copyPlans.txnRestart).event Reg.GLB_TXNST.GRANTD)
  else if a.txnOwner m then ok a.txnRestart
  else ok (a.event Reg.GLB_TXNST.DENIED)
/-- `RENEW`. -/
def Asic.txnRenew (a : Asic) (m : Nat) : Ruled :=
  let a := a.leaseExpiry
  if a.txnOwner m then ok a.txnRestart else rej a
/-- `COMMIT`: the check starts; at the end of the lease it is refused (R410). -/
def Asic.txnCommit (a : Asic) (m : Nat) : Ruled :=
  let a := a.leaseExpiry
  if !a.txnOwner m then rej a
  else if a.flag Reg.GLB_TXN.CHECK then ok a
  else
    let a := a.put Reg.GLB_TXN.CHECK 1
    ok { a with bus := { a.bus with leaseLeft := a.bus.leaseEnd - a.clk.now, checkDrop := false } }
/-- `RELEASE`; while the check runs it takes effect at its end. -/
def Asic.txnRelease (a : Asic) (m : Nat) : Ruled :=
  let a := a.leaseExpiry
  if !a.txnOwner m then rej a
  else if a.flag Reg.GLB_TXN.CHECK then ok { a with bus := { a.bus with checkDrop := true } }
  else ok a.txnFree
/-- `GLB_TXN` as written: the four requests in the order of their bits; a rejected one ends the write. -/
def Asic.txnWrite (a : Asic) (m v : Nat) : Ruled :=
  let next := fun (r : Ruled) (b : Nat) (f : Asic → Ruled) => if r.2 || !hasBit v b then r else f r.1
  next (next (next (next (ok a) 0 fun a => a.txnReq m) 1 fun a => a.txnRenew m) 2 fun a => a.txnCommit m) 3 fun a => a.txnRelease m
/-- TXN_CHECK_COMPLETE (R219, R408, R409). -/
def Asic.txnChecked (a : Asic) : Asic :=
  if !a.flag Reg.GLB_TXN.CHECK then a
  else
    let m := a.get Reg.GLB_TXN.OWNER
    let drop := a.bus.checkDrop
    let a := { a.put Reg.GLB_TXN.CHECK 0 with bus := { a.bus with checkDrop := false } }
    match a.planCheck with
    | none => ((a.swapPlans).put Reg.GLB_TXN.HELD 0).event Reg.GLB_TXNST.COMMITD
    | some (p, s, r) =>
      let a := ((a.put Reg.APL_BADREC.PLAN p).put Reg.APL_BADREC.SLOT s).put Reg.APL_BADREC.REASON r
      let a := (a.event Reg.APL_HOPSTAT.COMMITREJ).event Reg.GLB_TXNST.COMMITREJ
      let a := a.raiseAccess 7 { addr := 0x18, master := m, write := true, size := 2, aliased := false }
      if drop then a.txnFree.event Reg.GLB_TXNST.RESETREL
      else { a with bus := { a.bus with leaseEnd := a.clk.now + a.bus.leaseLeft } }

/-! ### The blocks -/

/-- Both, unless the first is rejected. -/
def Ruled.andThen (r : Ruled) (f : Asic → Ruled) : Ruled := if r.2 then r else f r.1

/-- `GLB`, without the firmware registers. -/
def Asic.effGlb (a : Asic) (m addr v : Nat) (full : Bool) : Ruled :=
  if addr = 0x08 then ok a.refreshAnchor
  else if addr = 0x0C then a.modeCommand (v % 16)
  else if addr = 0x10 then ok (a.keyWrite m v full)
  else if addr = 0x18 then a.txnWrite m v
  else if addr = 0x28 then (if a.flag Reg.GLB_FWCTL.PEND then rej a else ok a)
  else ok a

/-- Servos and pulse outputs look again at what a reference is. -/
def Asic.servosRefresh (a : Asic) : Asic := a.each [0, 1, 2, 3] fun a k => a.servoRefresh k

/-- `REF`. -/
def Asic.effRef (old a : Asic) (addr base i v : Nat) : Ruled :=
  if addr = 0x010018 then (if hasBit v 13 then a.laneHoGo else ok a)
  else if base = 0x011000 ∨ base = 0x011004 ∨ base = 0x011008 then ok (((old.refWritten a i).rallyRefreshAll).servosRefresh)
  else if 0x011000 < base ∧ base ≤ 0x011020 then ok (old.refWritten a i)
  else ok a

/-- `UMP` (R125, R127, R137). -/
def Asic.effUmp (old a : Asic) (base i v : Nat) : Ruled :=
  if base = 0x021014 then
    ((if hasBit v 0 then a.umpDisq i else ok a) : Ruled).andThen fun a => if hasBit v 1 then a.umpRequal i else ok a
  else if base = 0x022000 ∨ base = 0x022004 ∨ base = 0x022008 then ok (a.selectOn false i).refreshAnchor
  else if base = 0x022010 then
    let index := a.get (Reg.UMP_OVR.INDEX i)
    if 23 < index ∨ index = 22 then rej a
    else if old.word (0x022010 + 0x40 * i) = a.word (0x022010 + 0x40 * i) then ok a else ok (a.overrideWritten i)
  else if base = 0x02203C then
    let a := if hasBit v 0 then a.modUc i fun u => { u with boclr := true } else a
    ok (if hasBit v 1 then (a.selectOn false i).refreshAnchor else a)
  else ok a

/-- `LDG` registers. -/
def Asic.effLdg (a : Asic) (addr v : Nat) : Ruled :=
  if addr = 0x038010 then ok (if hasBit v 0 then a.snapshotTake else a)
  else if addr = 0x038030 then (if hasBit v 6 then a.ledgerRst else ok a)
  else ok a

/-- `DPL` (R169, R172, R177, R186, R187). -/
def Asic.effDpl (old a : Asic) (addr base c v : Nat) : Ruled :=
  if base = 0x040000 then (if a.forceRefused c (a.get (Reg.DPL_CTL.FORCE c)) then rej a else ok (a.ctlWritten c))
  else if base = 0x040020 ∨ base = 0x040024 then ok (a.historyReset c (old.hoInterval c))
  else if base = 0x04002C then ok (if a.chanState c = 0 ∧ a.get (Reg.DPL_STATE.UNIT c) ≠ 15 then a.toFreerun c else a)
  else if addr = 0x048004 then (if hasBit v 7 then a.migrationGo else ok a)
  else ok a

/-- `APL` registers. -/
def Asic.effApl (a : Asic) (addr v : Nat) : Ruled :=
  if addr = 0x050008 then (if hasBit v 7 then a.hopGo else ok a)
  else if addr = 0x050020 then ok a.refreshShadow
  else if addr = 0x050024 then (if hasBit v 3 then a.aplHoGo else ok a)
  else if addr = 0x050030 then
    let a := if v % 128 = 0 then a else a.relockCommand (v % 128)
    ok (if hasBit v 7 then a.clearHopTable else a)
  else ok a

/-- A pulse output that stops by a write ends its active pulse as a squelch does (R251, R256). -/
def Asic.plsWritten (old a : Asic) : Asic :=
  a.each [0, 1, 2, 3] fun a p =>
    if old.plsRun p && !a.plsRun p then
      a.modPls p fun x => { x with active := x.active.map fun (s, e) => (s, min e (max a.nowU (s + 8 * uPerNs))) }
    else a
/-- `OUT`. -/
def Asic.effOut (old a : Asic) (addr base i v : Nat) : Ruled :=
  if addr = 0x060000 then ok (old.plsWritten (old.enableWritten a))
  else if addr = 0x060014 then ok (if hasBit v 0 then a.syncCommand else a)
  else if base = 0x061000 ∨ base = 0x061004 ∨ base = 0x061008 then ok (old.outWritten a i)
  else if base = 0x06100C then ok (old.skimWritten a i)
  else if base = 0x061010 then ok (old.skimRate a i)
  else if 0x062000 ≤ base ∧ base < 0x06201C then ok (old.plsWritten a)
  else ok a

/-- `TSC_CFG` of scale `k` was written: a scale disabled holds its value, a scale enabled goes on from it (R258, R259). -/
def Asic.scaleWritten (old a : Asic) (k : Nat) : Asic :=
  let a :=
    if old.flag (Reg.TSC_CFG.EN k) = a.flag (Reg.TSC_CFG.EN k) then a
    else
      let v := old.scaleAt k a.nowU
      (a.setScale k { a.scale k with base := v, tu := a.clk.coarse, sec := secOf v }).trigsOf k
  (a.servosRefresh).refreshRates
/-- A leap is written for a second already reached (R265, R271). -/
def Asic.leapPast (old a : Asic) (k : Nat) : Bool :=
  let d := (secOf (a.scaleAt k a.nowU) + 2 ^ 32 - a.get (Reg.TSC_LEAPSEC.SEC k)) % 2 ^ 32
  a.get (Reg.TSC_UTC.LEAP k) != 0 && a.get (Reg.TSC_UTC.LEAP k) != old.get (Reg.TSC_UTC.LEAP k) && decide (0 ≤ signed 32 d)
/-- The software sample of R266. -/
def Asic.softSample (a : Asic) (k : Nat) : Asic :=
  if a.get (Reg.TSC_SRV.SRC k) = 4 then
    a.deliverSample k (a.get2S (Reg.TSC_SWOFFLO.OFF k) (Reg.TSC_SWOFFHI.OFF k)) a.clk.coarse a.degraded else a
/-- `TSC` (R263, R264, R271, R273, R280). -/
def Asic.effTsc (old a : Asic) (addr base k v : Nat) : Ruled :=
  if addr = 0x070004 then ok (if hasBit v 4 then a.tscSnapshot (v % 16) else a)
  else if base = 0x071000 then
    if k = 0 ∧ !a.flag (Reg.TSC_CFG.EN 0) then rej a else ok (old.scaleWritten a k)
  else if base = 0x07102C then a.tscCommand k (v % 4)
  else if base = 0x071038 ∨ base = 0x071044 then ok (a.servosRefresh.refreshRates)
  else if base = 0x071060 then ok (a.softSample k)
  else if base = 0x071070 then (if old.leapPast a k then a.tscReject k else ok a)
  else if base = 0x072024 then
    ((if hasBit v 0 then a.trigArm k else ok a) : Ruled).andThen fun a => ok (if hasBit v 1 then a.trigDisarm k else a)
  else ok a

/-- `EVT` (R295, R302, R303). -/
def Asic.effEvt (old a : Asic) (addr base n v : Nat) : Ruled :=
  if addr = 0x080008 then (if hasBit v 11 then a.tacHoGo else ok a)
  else if base = 0x081000 then ok (old.evtWritten a n)
  else if base = 0x082000 ∨ base = 0x082004 then ok (a.egConfigWritten n)
  else if base = 0x082008 ∨ base = 0x08200C then ok (a.measTimeout n)
  else if base = 0x082010 then
    ((if hasBit v 0 then a.egArm n else ok a) : Ruled).andThen fun a => ok (if hasBit v 1 then a.egDisarm n else a)
  else ok a

/-- `PRT` (R307, R313, R324, R327). -/
def Asic.effPrt (old a : Asic) (base p : Nat) : Ruled :=
  if base = 0x090000 then ok (old.prtCfgWritten a p).rallyRefreshAll
  else if base = 0x090028 ∨ base = 0x09002C then (if a.profileAllows p then ok (a.ptpRefresh p).rallyRefreshAll else rej a)
  else if base = 0x09004C then ok (a.qlRefresh p)
  else ok a

/-- `RLY` (R339, R346, R349, R353). -/
def Asic.effRly (old a : Asic) (addr base i v : Nat) : Ruled :=
  if base = 0x0A0000 then
    if i = 6 ∧ old.get (Reg.RLY_CFG.ROLE 6) ≠ a.get (Reg.RLY_CFG.ROLE 6) then rej a else ok a.rallyRefreshAll
  else if base = 0x0A004C then (if hasBit v 13 then a.acalGo i else ok a)
  else if addr = 0x0A1000 then ok a.mateRefresh
  else if addr = 0x0A1010 then a.mateCommand (hasBit v 0) (hasBit v 1)
  else if base = 0x0A2008 then
    ((if hasBit v 0 then a.impArm i a.present' else ok a) : Ruled).andThen fun a => ok (if hasBit v 1 then a.impEnd i else a)
  else ok a

/-- `REC`. -/
def Asic.effRec (a : Asic) (addr v : Nat) : Ruled :=
  if addr = 0x0B0014 then ok ((a.recUnmask (v % 65536)).recClear (v / 65536)) else ok a

/-- `DMA` (R371, R372, R382). -/
def Asic.effDma (old a : Asic) (base i v : Nat) : Ruled :=
  let busy := fun (c : Nat) => old.flag (Reg.DMA_CHCFG.EN c) || old.get (Reg.DMA_CHFILL.FILL c) != 0
  if base = 0x0C0100 then
    if (old.hkcOwns i ≠ a.hkcOwns i ∧ busy i) ∨ (a.flag (Reg.DMA_CHCFG.EN i) ∧ a.regionBad i) then rej a else ok (a.showDma i)
  else if base = 0x0C0104 then (if busy i then rej a else ok a)
  else if base = 0x0C010C then
    let head := a.get (Reg.DMA_CHHEAD.HEAD i)
    if a.hkcOwns i ∨ (a.get (Reg.DMA_CHTAIL.TAIL i) = head ∧ old.get (Reg.DMA_CHTAIL.TAIL i) ≠ head) then rej a else ok a
  else if base = 0x0C0118 then a.dmaCommand i (hasBit v 0) (hasBit v 1) (hasBit v 2)
  else if 0x0C1000 ≤ base ∧ base ≤ 0x0C100C then
    if old.descRejects (i / 64) (i % 64) ((base - 0x0C1000) / 4) then rej a else ok a
  else ok a

/-- `FLT` (R441, R451, R453). -/
def Asic.effFlt (a : Asic) (addr v : Nat) : Ruled :=
  if addr = 0x0D000C then ok (if hasBit v 2 then a.softRelease else a)
  else if addr = 0x0D0080 then
    ((if hasBit v 10 then a.inject else ok a) : Ruled).andThen fun a => ok (if hasBit v 11 then a.releaseInjections else a)
  else ok a

/-- `CAL` (R204, R468, R470). -/
def Asic.effCal (a : Asic) (addr v : Nat) : Ruled :=
  if addr = 0x0F8008 then (if hasBit v 0 then a.ovenHoGo else ok a)
  else if addr = 0x0F0004 then ok (if hasBit v 0 then a.calGo (v / 256 % 256) else a)
  else if addr = 0x0F0040 then ok (a.calFreset (v % 256))
  else ok a

/-- The effect of a write on the ASIC, by block. -/
def Asic.effect (old a : Asic) (m addr base i v : Nat) (full : Bool) : Ruled :=
  match addr / 65536 with
  | 0 => a.effGlb m addr v full
  | 1 => old.effRef a addr base i v
  | 2 => old.effUmp a base i v
  | 3 => a.effLdg addr v
  | 4 => old.effDpl a addr base i v
  | 5 => a.effApl addr v
  | 6 => old.effOut a addr base i v
  | 7 => old.effTsc a addr base i v
  | 8 => old.effEvt a addr base i v
  | 9 => old.effPrt a base i
  | 10 => old.effRly a addr base i v
  | 11 => a.effRec addr v
  | 12 => old.effDma a base i v
  | 13 => a.effFlt addr v
  | 15 => a.effCal addr v
  | _ => ok a

/-- The effect of a write on the module: the firmware registers and `NVM` reach beyond the ASIC. -/
def Dev.effect (old d : Dev) (m addr base i v : Nat) (full : Bool) : DRuled :=
  if addr = 0x24 then
    let r : DRuled := if hasBit v 11 then d.fwArm else (d, false)
    if r.2 then r else (if hasBit v 12 then r.1.onAsic Asic.fwCancel else r.1, false)
  else if addr = 0x2C then d.fwData (BitVec.ofNat 32 v)
  else if addr = 0x0E0000 then d.nvmCommand m (v % 16)
  else if addr = 0x0E0010 then d.bufferWrite m (BitVec.ofNat 32 v)
  else if addr = 0x0E0024 then
    let r : DRuled := if hasBit v 0 then d.setPassword m else (d, false)
    if r.2 || !hasBit v 1 then r else r.1.logClear m
  else
    let r := old.asic.effect d.asic m addr base i v full
    ({ d with asic := r.1 }, r.2)

end Sys2Proof.Machine
end

