-- ==== Sys2Proof/Machine/Bus.lean ====
section
/-! DEFINITION. The register bus (chapter 15): the access codes, guarded and locked writes, pairs, latches and holds,
triplicated fields, the bit-alias window, and the SPI and PCIe interfaces. -/

namespace Sys2Proof.Machine

/-! ### Access codes (R11, R12, R383, R501) -/

/-- The masks of a register word by access code. -/
structure Masks where
  rw : Nat := 0
  wk : Nat := 0
  wo : Nat := 0
  sq : Nat := 0
  w1 : Nat := 0
  tv : Nat := 0
  rv : Nat := 0
  deriving DecidableEq, Repr

/-- Reserved bits of word `k` of a plan (R235). -/
def planReserved (k : Nat) : Nat :=
  let w := k % 64
  if w = 0 then 0xFFFFFF80
  else if w < 8 then 0xFFFFFFFF
  else if 40 ≤ w then 0
  else if 36 ≤ w then 0xFFFFFFFF
  else if w % 4 = 0 then 0
  else if w % 4 = 1 then 0xF8000000
  else 0xFFFFFFFF

/-- The bits of an instance that its register map fixes (R501). -/
def fixedBits (base i : Nat) : Nat :=
  if base = 0x011000 then (if i = 22 then 0xF0FE else 0) + (if 16 ≤ i ∧ i ≤ 21 then 0 else 0x10000)
  else if (base = 0x011004 ∨ base = 0x011008) ∧ i = 22 then 0xFFFFFFFF
  else if base = 0x061000 ∧ 20 ≤ i then 7
  else if base = 0x090000 ∧ i % 2 = 1 then 8
  else if base = 0x0D1000 ∧ !sourceHasBlock i then 8
  else 0
/-- `m` without the bits of `k`. -/
def without (m k : Nat) : Nat := m &&& (0xFFFFFFFF ^^^ k)

/-- The masks of the word at an address. -/
def masksAt (addr : Nat) : Masks :=
  if 0x100000 ≤ addr then { rw := if addr = 0x100028 then 0xFFFFFFFF else 0, rv := kepReserved addr }
  else if stagedBank addr then
    let rv := planReserved ((addr - 0x054000) / 4)
    { rw := 0xFFFFFFFF ^^^ rv, rv := rv }
  else match regRow addr with
    | none => { rv := 0xFFFFFFFF }
    | some (r, i) =>
      if r.addr = 0x0D1000 ∧ sourceReserved i then { rv := r.rw ||| r.wk ||| r.rv }
      else
        let f := fixedBits r.addr i
        { rw := without r.rw f, wk := without r.wk f, wo := r.wo, sq := r.sq, w1 := r.w1, tv := r.tv, rv := r.rv }

/-- WO fields of more than one bit, by register (R406 bars them from alias writes). -/
def wideWo (addr : Nat) : Nat :=
  match regRow addr with
  | none => 0
  | some (r, _) =>
    if r.addr = 0x050030 then 0x7F
    else if r.addr = 0x0F0004 then 0xFF00
    else if r.addr ∈ [0x00000C, 0x000010, 0x00002C, 0x07102C, 0x0B0014, 0x0E0000, 0x0E0010, 0x0E001C, 0x0E0020, 0x0F0040] then r.wo
    else 0
/-- WO fields whose value a later command takes. -/
def keptWo (addr : Nat) : Nat := if addr = 0x0E001C ∨ addr = 0x0E0020 then 0xFFFFFFFF else 0

/-! ### Pairs (R110, R387) -/

/-- The address is instance `k < n` of a register at `base + k × stride`. -/
def isInst (addr base stride n : Nat) : Bool :=
  decide (base ≤ addr) && decide ((addr - base) % stride = 0) && decide ((addr - base) / stride < n)
/-- The low word of a pair whose high-word write takes up both. -/
def heldLow (addr : Nat) : Bool :=
  isInst addr 0x040028 0x1000 8 || isInst addr 0x040030 0x1000 8 || isInst addr 0x062004 0x40 4 || isInst addr 0x071054 0x100 4
    || isInst addr 0x07105C 0x100 4 || isInst addr 0x090010 0x2000 6 || isInst addr 0x0A0020 0x100 7 || isInst addr 0x0C4000 8 1024
/-- The high word of such a pair. -/
def heldHigh (addr : Nat) : Bool := decide (4 ≤ addr) && heldLow (addr - 4)
/-- The low word of a pair whose high word latches when it is read. -/
def latchLow (addr : Nat) : Bool :=
  isInst addr 0x011028 0x80 24 || isInst addr 0x011030 0x80 24 || isInst addr 0x011038 0x80 24 || addr == 0x03801C
    || isInst addr 0x040040 0x1000 8 || isInst addr 0x040048 0x1000 8 || isInst addr 0x040050 0x1000 8 || addr == 0x080010
    || isInst addr 0x08100C 0x40 16 || isInst addr 0x08101C 0x40 16 || isInst addr 0x090038 0x2000 6 || isInst addr 0x090040 0x2000 6
    || isInst addr 0x090058 0x2000 6 || isInst addr 0x090074 0x2000 6 || isInst addr 0x09007C 0x2000 6 || isInst addr 0x0A0008 0x100 7
    || isInst addr 0x0A0010 0x100 7 || isInst addr 0x0A002C 0x100 7 || isInst addr 0x0A0034 0x100 7 || isInst addr 0x0B0108 0x20 16
    || isInst addr 0x0F804C 0x40 2
/-- What a read of the word latches for its reader (R262, R387). -/
def latchesOf (addr : Nat) : List Nat :=
  if latchLow addr then [addr + 4]
  else if isInst addr 0x071004 0x100 4 then [addr + 4, addr + 8, addr + 12]
  else []
/-- The key of a latch or hold. -/
def latchKey (owner addr : Nat) : Nat := owner * 2 ^ 24 + addr / 4

/-! ### Triplicated fields (R404) -/

/-- The three copies of the word differ. -/
def Asic.copiesDiffer (a : Asic) (addr : Nat) : Bool := a.tv1.get addr != 0 || a.tv2.get addr != 0
/-- TV_SCRUB, and the comparison at every read: the majority goes into all three copies. -/
def Asic.repair (a : Asic) (addr : Nat) : Asic :=
  if !a.copiesDiffer addr then a
  else
    let w := a.word addr
    let a := { a with regs := a.regs.setF resetWord addr w, tv1 := a.tv1.set addr 0, tv2 := a.tv2.set addr 0 }
    ((a.addSat Reg.GLB_TVSTAT.COUNT 1).put Reg.GLB_TVADDR.ADDR addr).raise 10 addr

/-! ### Accesses -/

/-- What a byte address names: a register word, one bit of one, or nothing (R383, R406). -/
inductive Target where
  | reg (word : Nat)
  | bitAlias (word bit : Nat)
  | none
  deriving DecidableEq, Repr
def targetOf (addr : Nat) : Target :=
  if addr < 0x110000 then .reg (addr / 4 * 4)
  else if 0x40000000 ≤ addr ∧ addr < 0x42000000 then .bitAlias ((addr - 0x40000000) / 128 * 4) ((addr - 0x40000000) % 128 / 4)
  else .none
/-- An access of size 0, 1 or 2 at a multiple of its width; aliases take 32-bit accesses, and a narrow alias write is
rejected as such (R385, R386, R406). -/
def aligned (addr size : Nat) (write : Bool) : Bool :=
  match size with
  | 0 => write || decide (addr < 0x40000000)
  | 1 => addr % 2 == 0 && (write || decide (addr < 0x40000000))
  | 2 => addr % 4 == 0
  | _ => false

/-- Outcome of an access: 0 done, 1 unaligned, 2 address error, 3 rejected. -/
abbrev Status := Nat

/-- A master touches the NVM block, and with it the page buffer it owns (R456, R459). -/
def Asic.touch (a : Asic) (m word : Nat) : Asic :=
  if word / 65536 = 14 then
    let a := a.nvmTouch m
    if word = 0x0E0000 ∨ word = 0x0E000C ∨ word = 0x0E0010 ∨ (0x0E2000 ≤ word ∧ word < 0x0E2080) then a.bufTouch m else a
  else a

/-- A read of the read window without the read unlock of its page's partition (R459). -/
def Dev.windowBarred (d : Dev) (m word : Nat) : Bool :=
  decide (0x0E1000 ≤ word) && decide (word < 0x0E1080) && !d.nvmOpen m (partOf d.asic.nvc.winPage) 0

/-- Data the spec leaves open (R398; a rejected read of the window). -/
def Dev.undefinedData (d : Dev) : Dev × Word :=
  (d.onAsic fun a => { a with bus := { a.bus with undefinedReads := a.bus.undefinedReads + 1 } }, Config.undefinedRead d.asic.bus.undefinedReads)

/-- A read of one whole register word by an owner of latches. -/
def Dev.readWord (d : Dev) (owner word : Nat) : Dev × Word :=
  let d := d.onAsic fun a => a.repair word
  let w := match d.asic.bus.latch.get (latchKey owner word) with
    | some v => BitVec.ofNat 32 v
    | none => d.live word
  let latch := (latchesOf word).foldl (fun (t : Tab (Option Nat)) h => t.set (latchKey owner h) (some (d.live h).toNat)) d.asic.bus.latch
  (d.onAsic fun a => { a with bus := { a.bus with latch := latch } }, w)

/-- One read access: the module after it, its data in the low bits, its outcome. -/
def Dev.busRead (d : Dev) (m owner addr size : Nat) : Dev × Word × Status :=
  let x : Access := { addr := addr, master := m, write := false, size := size, aliased := false }
  if !aligned addr size false then (d.onAsic fun a => a.raiseAccess 8 x, 0, 1)
  else match targetOf addr with
    | .none => (d.onAsic fun a => a.raiseAccess 8 x, 0, 2)
    | .reg word =>
      let d := d.onAsic fun a => a.touch m word
      if d.windowBarred m word then
        let (d, w) := (d.onAsic fun a => a.raiseAccess 7 x).undefinedData
        (d, w, 3)
      else
        let (d, w) := d.readWord owner word
        let w := BitVec.ofNat 32 (wordBits w (8 * (addr % 4)) (if size = 0 then 8 else if size = 1 then 16 else 32))
        (d, w, 0)
    | .bitAlias word b =>
      let d := d.onAsic fun a => a.touch m word
      if d.windowBarred m word then
        let (d, w) := (d.onAsic fun a => a.raiseAccess 7 { x with aliased := true }).undefinedData
        (d, w, 3)
      else
        let d := d.onAsic fun a => a.repair word
        (d, BitVec.ofNat 32 (wordBits (d.live word) b 1), 0)

/-- The stored value of the writable and reserved bits of a word; WO fields count as 0. -/
def Dev.stored (d : Dev) (word : Nat) : Word :=
  if 0x100000 ≤ word then d.kep.word word
  else if stagedBank word then d.asic.apl.staged.getF planWordReset ((word - 0x054000) / 4)
  else d.asic.word word &&& ~~~(BitVec.ofNat 32 (masksAt word).wo)
/-- Store the bits of `mask`. -/
def Dev.store (d : Dev) (word : Nat) (mask v : Word) : Dev :=
  if 0x100000 ≤ word then
    let rv := BitVec.ofNat 32 (kepReserved word)
    let k := { d.kep with reserved := d.kep.reserved.set word (((d.kep.reserved.get word) &&& ~~~mask) ||| (v &&& mask &&& rv)) }
    { d with kep := if word = 0x100028 then { k with scratch := (k.scratch &&& ~~~mask) ||| (v &&& mask), fresh := false } else k }
  else if stagedBank word then
    let key := (word - 0x054000) / 4
    d.onAsic fun a => { a with apl := { a.apl with
      staged := a.apl.staged.setF planWordReset key ((a.apl.staged.getF planWordReset key &&& ~~~mask) ||| (v &&& mask)) } }
  else d.onAsic fun a => a.setMasked word mask v

/-- The block of an address is locked by `GLB_LOCK` (R402). -/
def Asic.blockLocked (a : Asic) (word : Nat) : Bool := hasBit (a.get Reg.GLB_LOCK.BLOCKS) (word / 65536)
/-- A write of `v` to a word would change a bit of `mask`. -/
def Dev.changes (d : Dev) (word mask : Nat) (v : Word) : Bool := (d.stored word ^^^ v) &&& BitVec.ofNat 32 mask != 0
/-- A guarded write (R400). -/
def Dev.guarded (d : Dev) (word : Nat) (v : Word) : Bool :=
  let k := masksAt word
  d.changes word (without k.wk k.wo) v || v &&& BitVec.ofNat 32 (k.wk &&& k.wo) != 0
/-- Master `m` may make a guarded write. -/
def Asic.keyOpen (a : Asic) (m : Nat) : Bool := a.flag Reg.GLB_KEYST.UNLOCKED && a.get Reg.GLB_KEYST.OWNER == m && m != 3
/-- A write that changed a reserved bit (R391). -/
def Asic.reservedWrite (a : Asic) (x : Access) : Asic :=
  ((a.addSat Reg.GLB_RVSTAT.COUNT 1).put Reg.GLB_RVADDR.ADDR (x.addr % 2 ^ 21)).raiseAccess 9 x
/-- The windows a write of which is rejected: the entry window, the history window, the active plan bank, the hop table
(R155, R188, R235), and the staged bank for all but the owner of the transaction lock (R219). -/
def Asic.barredWindow (a : Asic) (m word : Nat) : Bool :=
  (decide (0x030000 ≤ word) && decide (word < 0x034800)) || (decide (0x049000 ≤ word) && decide (word < 0x04A000))
    || (decide (0x058000 ≤ word) && decide (word < 0x05C800)) || (stagedBank word && !a.txnOwner m)
/-- The windows of `NVM`, where a write has no effect (R472). -/
def silentWindow (word : Nat) : Bool :=
  (decide (0x0E1000 ≤ word) && decide (word < 0x0E1080)) || (decide (0x0E2000 ≤ word) && decide (word < 0x0E2080))

/-- Store the fields a write of `v` carries; with the low word of a held pair, both (R387). A W1 field takes its first
write after COLD (R402). -/
def Dev.storeWrite (d : Dev) (owner word : Nat) (v : Word) : Dev :=
  let k := masksAt word
  let mask := BitVec.ofNat 32 (without (k.rw ||| k.wk ||| k.rv) k.wo ||| keptWo word)
  let d := d.store word mask v
  if heldHigh word then
    match d.asic.bus.hold.get (latchKey owner (word - 4)) with
    | some low =>
      let l := masksAt (word - 4)
      (d.store (word - 4) (BitVec.ofNat 32 (l.rw ||| l.rv)) (BitVec.ofNat 32 low)).onAsic fun a =>
        { a with bus := { a.bus with hold := a.bus.hold.set (latchKey owner (word - 4)) none } }
    | none => d
  else if k.w1 ≠ 0 ∧ !d.asic.bus.lockWritten ∧ !d.asic.modes.coldOn then
    (d.store word (BitVec.ofNat 32 k.w1) v).onAsic fun a => { a with bus := { a.bus with lockWritten := true } }
  else d
/-- Clear the SQ event bits written as 1 when the written `SEQ` is the present one (R405). -/
def Dev.clearEvents (d : Dev) (word : Nat) (v mask : Word) : Dev :=
  let sq := BitVec.ofNat 32 (masksAt word).sq
  let events := v &&& mask &&& sq &&& 0xFFFFFF00
  if sq = 0 ∨ mask &&& 0xFF = 0 ∨ wordBits v 0 8 ≠ wordBits (d.asic.word word) 0 8 ∨ events = 0 then d
  else d.onAsic fun a => a.setMasked word events 0

/-- The low word of the pair, as a write of the high word would leave it, changes a bit of `mask`. -/
def Dev.lowChanges (d : Dev) (owner word : Nat) (mask : Masks → Nat) : Bool :=
  heldHigh word && match d.asic.bus.hold.get (latchKey owner (word - 4)) with
    | some low => d.changes (word - 4) (mask (masksAt (word - 4))) (BitVec.ofNat 32 low)
    | none => false

/-- A write of the whole word `v`, of which the bytes of `bytes` were written. True: rejected (R403). -/
def Dev.writeWord (d : Dev) (m owner : Nat) (x : Access) (word : Nat) (v bytes : Word) : DRuled :=
  let k := masksAt word
  let guard := d.guarded word v
  let open_ := d.asic.keyOpen m
  let before := d
  let d := if guard then d.onAsic Asic.rearm else d
  let locked := d.asic.blockLocked word && (d.changes word (without (k.rw ||| k.wk) k.wo) v || d.lowChanges owner word fun l => l.rw)
  if silentWindow word then (d, false)
  else if (m = 3 ∧ word / 65536 ≠ 11 ∧ word / 65536 ≠ 12) ∨ d.asic.barredWindow m word ∨ (guard ∧ !open_) then (d, true)
  else if heldLow word then
    (d.onAsic fun a => { a with bus := { a.bus with hold := a.bus.hold.set (latchKey owner word) (some v.toNat) } }, false)
  else if locked then (d, true)
  else
    let reserved := d.changes word k.rv v || d.lowChanges owner word fun l => l.rv
    let (base, i) : Nat × Nat := match regRow word with | some (r, i) => (r.addr, i) | none => (word, 0)
    let stored := (d.storeWrite owner word v).clearEvents word v bytes
    let (after, rejected) := before.effect stored m word base i v.toNat (x.size == 2)
    if rejected then
      (after.store word (BitVec.ofNat 32 (without (k.rw ||| k.wk ||| k.rv) k.wo ||| keptWo word)) (before.asic.word word), true)
    else (if reserved then after.onAsic fun a => a.reservedWrite x else after, false)

/-- The bytes a narrow access covers, as a mask. -/
def byteMask (addr size : Nat) : Word := maskAt (8 * (addr % 4)) (if size = 0 then 8 else if size = 1 then 16 else 32)

/-- One write access (R384–R388, R400–R406): the module after it and its outcome. -/
def Dev.busWrite (d : Dev) (m owner addr size : Nat) (v : Word) : Dev × Status :=
  let x : Access := { addr := addr, master := m, write := true, size := size, aliased := false }
  if !aligned addr size true then (d.onAsic fun a => a.raiseAccess 8 x, 1)
  else match targetOf addr with
    | .none => (d.onAsic fun a => a.raiseAccess 8 x, 2)
    | .reg word =>
      let d := d.onAsic fun a => a.touch m word
      let mask := byteMask addr size
      let whole := (d.stored word &&& ~~~mask) ||| ((v <<< (8 * (addr % 4))) &&& mask)
      let k := masksAt word
      let narrow := size < 2 ∧ (k.wk ≠ 0 ∨ k.tv ≠ 0)
      let (d, rejected) : DRuled :=
        if narrow then (if d.guarded word whole then d.onAsic Asic.rearm else d, true) else d.writeWord m owner x word whole mask
      if rejected then (d.onAsic fun a => a.raiseAccess 7 x, 3) else (d, 0)
    | .bitAlias word b =>
      let d := d.onAsic fun a => a.touch m word
      let x := { x with aliased := true }
      let mask := maskAt b 1
      let k := masksAt word
      let bit := (v <<< b) &&& mask
      let whole := (d.stored word &&& ~~~mask) ||| bit
      let bars := decide (size < 2) || k.sq != 0 || hasBit (wideWo word) b
      let writable := hasBit (k.rw ||| k.wk ||| k.wo ||| k.w1 ||| k.rv) b
      let (d, rejected) : DRuled :=
        if bars then (d, true) else if !writable then (d, false) else d.writeWord m owner x word whole mask
      if rejected then (d.onAsic fun a => a.raiseAccess 7 x, 3) else (d, 0)

/-- The register bus runs: not in SHELF, nor before SYSFB has started (R30, R45). -/
def Dev.busRuns (d : Dev) : Bool := !d.sup.shelf && d.asic.clk.bkLocked
/-- A 32-bit write by a master, as most commands are. -/
def Dev.write (d : Dev) (m : Master) (addr v : Nat) : Dev :=
  if d.busRuns then (d.busWrite m.val m.val addr 2 (BitVec.ofNat 32 v)).1 else d
/-- A 32-bit read by a master. -/
def Dev.read (d : Dev) (m : Master) (addr : Nat) : Dev := if d.busRuns then (d.busRead m.val m.val addr 2).1 else d

/-! ### SPI (R392–R396) -/

/-- The status byte of a frame's access (R395). -/
def Asic.spiStatus (a : Asic) (s : Status) (write : Bool) : Byte :=
  let guard := write && s == 3
  BitVec.ofNat 8 (bit (s == 1 || s == 2 || guard) + 2 * bit (s == 1) + 4 * bit (s == 2) + 8 * bit guard + 16 * bit a.bus.spiPrev
    + 32 * bit (a.mode == 2 || a.target == 2) + 64 * bit a.fallback)
/-- Bytes of a frame's data field. -/
def spiWidth (size : Nat) : Nat := if size = 0 then 1 else if size = 1 then 2 else 4
/-- A frame's command is one of R393's: any other `COUNT` or `SIZE` is an unaligned access. -/
def spiBad (size count : Nat) : Bool := size == 3 || (size != 2 && count != 0)
/-- Answer bytes on `SPI_MISO`: ready, status and data; the first status byte of a frame takes `PREV`. -/
def Asic.spiAnswer (a : Asic) (s : Status) (write : Bool) (data : List Byte) : Asic :=
  let a' := a.send (.spi (0xA5 :: a.spiStatus s write :: data))
  { a' with bus := { a'.bus with spiPrev := false } }
/-- The read accesses of a frame, `n` of them. -/
def Dev.spiReads (size : Nat) : Nat → Nat → Dev → Dev
  | 0, _, d => d
  | n + 1, addr, d =>
    let (d, w, s) := d.busRead 1 1 addr size
    let data := if s = 0 ∨ s = 3 then beBytes (spiWidth size) w.toNat else List.replicate (spiWidth size) 0
    Dev.spiReads size n (addr + 4) (d.onAsic fun a => a.spiAnswer s false data)
/-- SPI_READ_FRAME. -/
def Dev.spiRead (d : Dev) (size count addr : Nat) : Dev :=
  if !d.busRuns then d
  else if spiBad size count then
    let x : Access := { addr := addr, master := 1, write := false, size := size, aliased := false }
    d.onAsic fun a => (a.raiseAccess 8 x).spiAnswer 1 false (List.replicate (spiWidth size) 0)
  else Dev.spiReads size (count + 1) addr d
/-- The write accesses of a frame, one for each word of data. -/
def Dev.spiWrites (size : Nat) : List Word → Nat → Dev → Dev
  | [], _, d => d
  | v :: rest, addr, d =>
    let (d, s) := d.busWrite 1 1 addr size v
    Dev.spiWrites size rest (addr + 4) (d.onAsic fun a => a.spiAnswer s true [])
/-- SPI_WRITE_FRAME: at most `COUNT` words of data. -/
def Dev.spiWrite (d : Dev) (size count addr : Nat) (data : List Word) : Dev :=
  if !d.busRuns then d
  else if spiBad size count then
    let x : Access := { addr := addr, master := 1, write := true, size := size, aliased := false }
    d.onAsic fun a => (a.raiseAccess 8 x).spiAnswer 1 true []
  else Dev.spiWrites size (data.take (count + 1)) addr d
/-- SPI_RESET: a command byte of 0xFF. -/
def Asic.spiReset (a : Asic) : Asic := a.masterReset 1
/-- SPI_FRAME_END before the last status byte. -/
def Asic.spiFrameEnd (a : Asic) : Asic := { a with bus := { a.bus with spiPrev := true } }

/-! ### PCIe (R376, R397–R399, R442) -/

/-- What a request asks: bus address and size of each of its accesses, or none of them (R398). -/
inductive PcieShape where
  | accesses (l : List (Nat × Nat))
  | nothing
  | unaligned
  deriving DecidableEq, Repr
/-- The shape of a request: length in DW (0 for 1,024), byte enables. -/
def pcieShape (bar2 : Bool) (offset dw first last : Nat) (read : Bool) : PcieShape :=
  let base := offset + (if bar2 then 0x40000000 else 0)
  if dw = 1 ∧ offset % 4 = 0 ∧ last = 0 then
    if first = 15 then .accesses [(base, 2)]
    else if first = 0 ∧ read then .nothing
    else if bar2 then .unaligned
    else match first with
      | 1 => .accesses [(base, 0)]
      | 2 => .accesses [(base + 1, 0)]
      | 4 => .accesses [(base + 2, 0)]
      | 8 => .accesses [(base + 3, 0)]
      | 3 => .accesses [(base, 1)]
      | 12 => .accesses [(base + 2, 1)]
      | _ => .unaligned
  else if dw = 2 ∧ offset % 8 = 0 ∧ first = 15 ∧ last = 15 then .accesses [(base, 2), (base + 4, 2)]
  else .unaligned
/-- The access to report for a request that makes none. -/
def pcieAccess (bar2 : Bool) (offset : Nat) (write : Bool) : Access :=
  { addr := offset + (if bar2 then 0x40000000 else 0), master := 2, write := write, size := 2, aliased := false }
/-- The reads of a request: data words in their byte lanes, and the first outcome that is not done. -/
def Dev.pcieReads : List (Nat × Nat) → Dev → Dev × List Word × Status
  | [], d => (d, [], 0)
  | (addr, size) :: rest, d =>
    let (d, w, s) := d.busRead 2 2 addr size
    let (d, l, s') := Dev.pcieReads rest d
    (d, (w <<< (8 * (addr % 4))) :: l, if s = 0 ∨ s = 3 then s' else s)
/-- PCIE_MEMORY_READ. -/
def Dev.pcieRead (d : Dev) (bar2 : Bool) (offset dw first last : Nat) : Dev :=
  if !d.busRuns || !d.asic.bus.pcie.link then d
  else match pcieShape bar2 offset dw first last true with
    | .nothing =>
      let (d, w) := d.undefinedData
      d.onAsic fun a => a.send (.completion 0 [w])
    | .unaligned => d.onAsic fun a => (a.raiseAccess 8 (pcieAccess bar2 offset false)).send (.completion 1 [])
    | .accesses l =>
      let (d, data, s) := d.pcieReads l
      d.onAsic fun a => a.send (if s = 0 then .completion 0 data else .completion 1 [])
/-- The writes of a request; whether any is unaligned or an address error. -/
def Dev.pcieWrites : List (Nat × Nat) → List Word → Dev → Dev × Bool
  | [], _, d => (d, false)
  | (addr, size) :: rest, data, d =>
    let (d, s) := d.busWrite 2 2 addr size (data.headD 0 >>> (8 * (addr % 4)))
    let (d, bad) := Dev.pcieWrites rest (data.drop 1) d
    (d, s == 1 || s == 2 || bad)
/-- PCIE_MEMORY_WRITE. -/
def Dev.pcieWrite (d : Dev) (bar2 : Bool) (offset dw first last : Nat) (data : List Word) : Dev :=
  if !d.busRuns || !d.asic.bus.pcie.link then d
  else
    let report := fun (a : Asic) => if a.bus.pcie.aer then a.send .aer else a
    match pcieShape bar2 offset dw first last false with
    | .accesses l =>
      let (d, bad) := d.pcieWrites l data
      if bad then d.onAsic report else d
    | _ => d.onAsic fun a => report (a.raiseAccess 8 (pcieAccess bar2 offset true))
/-- A change of the link or of the function's configuration, and what follows from it. -/
def Asic.pcieChanged (old a : Asic) : Asic := (old.linkChanged a).msixRelease
/-- PCIE_LINK_UP. -/
def Asic.pcieLinkUp (a : Asic) : Asic := a.pcieChanged (a.modPcie fun p => { p with link := true })
/-- PCIE_RESET: the function returns to its state after reset, and M2 is reset. -/
def Asic.pcieReset (a : Asic) : Asic := a.pcieChanged ((a.modPcie fun _ => (default : Pcie)).masterReset 2)
/-- PCIE_CONFIG_WRITE. -/
def Asic.pcieConfig (a : Asic) (w : PcieConfig) : Asic :=
  if !a.bus.pcie.link then a
  else a.pcieChanged (a.modPcie fun p =>
    match w with
    | .command b => { p with busMaster := b }
    | .msix e k => { p with msix := e, msixMask := k }
    | .deviceControl n => { p with payload := min 2 n.val }
    | .aer e => { p with aer := e })
/-- MSIX_TABLE_WRITE (BAR4): a cleared vector mask lets a pending message go. -/
def Asic.msixWrite (a : Asic) (k : Nat) (v : Word) : Asic :=
  if !a.bus.pcie.link then a
  else (a.modPcie fun p => { p with table := p.table.setF msixReset k v }).msixRelease

end Sys2Proof.Machine
end

