-- ==== Sys2Proof/Machine/Dma.lean ====
section
/-! DEFINITION. DMA bursts, COPY descriptors among them: their reads are accesses of M3 (R370, R373). -/

namespace Sys2Proof.Machine

/-- Read `n` words from `addr` for a COPY descriptor: the module after the reads, their bytes, and whether one was
rejected, which ends the reads (R373). -/
def Dev.copyReads : Nat → Nat → Dev → Dev × List Byte × Bool
  | 0, _, d => (d, [], false)
  | n + 1, addr, d =>
    let (d, w, s) := d.busRead 3 3 addr 2
    if s ≠ 0 then (d, [], true)
    else
      let (d, rest, bad) := Dev.copyReads n (addr + 4) d
      (d, leBytes 4 w.toNat ++ rest, bad)
/-- Bytes of the next COPY burst: to the end of the descriptor or of the 256-byte block of its destination (R370). -/
def Asic.copyLen (a : Asic) (c : Nat) : Nat :=
  let done := if (a.dmaCh c).taken then (a.dmaCh c).done else 0
  min (a.descLen c - done) (256 - (a.descDest c + done) % 256)
/-- The next burst of channel `c` reads registers: a sound COPY descriptor whose destination can be written. -/
def Asic.copyNext (a : Asic) (c : Nat) : Bool :=
  let done := if (a.dmaCh c).taken then (a.dmaCh c).done else 0
  !a.fallback && (a.dmaCh c).resend == 0 && a.descKind c == 1 && !a.descBad c
    && (if a.hkcOwns c then decide (a.descDest c + done + a.copyLen c ≤ 0x80000)
        else decide (a.pcieQueue < 8) && (a.translate (a.descDest c + done)).isSome)
/-- DMA_BURST: the channel that takes the path writes one burst. A burst one of whose reads is rejected is not written. -/
def Dev.dmaBurst (d : Dev) : Dev :=
  match d.asic.nextChan with
  | none => d
  | some c =>
    if d.asic.copyNext c then
      let done := if (d.asic.dmaCh c).taken then (d.asic.dmaCh c).done else 0
      let (d', bytes, bad) := d.copyReads (d.asic.copyLen c / 4) (d.asic.descField c 2 0 21 + done)
      d'.onAsic fun a => a.burstOf c fun a =>
        if bad then a.modDma c fun x => { x with copyBad := true } else a.issueBurst c bytes 0
    else d.onAsic fun a => a.burstOf c fun a => a.issueBurst c (List.replicate (a.copyLen c) 0) 0

end Sys2Proof.Machine
end

