-- ==== Sys2Proof/Machine/Flags.lean ====
section
/-! DEFINITION. The summary flags of the module: the status word the dictionary shows (R426). -/

namespace Sys2Proof.Machine

/-- Status word 0x5F10:01. -/
def Dev.statusWord (d : Dev) : Nat :=
  let a := d.asic
  a.mode + 8 * bit a.primer + 16 * bit (a.mode == 4) + 32 * bit (a.flag Reg.GLB_MODE.ADMIT) + 64 * bit a.brace + 128 * bit a.fallback
    + 2 ^ 8 * maskOf 8 (fun c => a.get (Reg.DPL_STATE.STATE c) == 2) + 2 ^ 16 * maskOf 8 (fun c => a.get (Reg.DPL_STATE.STATE c) == 3)
    + 2 ^ 24 * bit ((List.range 8).any fun c => a.flag (Reg.UMP_SEL.DISPUTED c)) + 2 ^ 25 * bit (a.flag Reg.UMP_CONSHI.VALID)
    + 2 ^ 26 * wordBits (d.live 0x0A1008) 0 2 + 2 ^ 28 * bit a.present' + 2 ^ 29 * bit d.kep.broken
    + 2 ^ 30 * bit (!(a.scale 0).isSet) + 2 ^ 31 * bit (a.activeOf (2 ≤ ·))

end Sys2Proof.Machine
end

