-- ==== Sys2Proof/Machine/Can.lean ====
section
/-! DEFINITION. The CANopen node (chapter 16): the object dictionary, SDO, PDOs, NMT, heartbeats, the controller's errors. -/

namespace Sys2Proof.Machine

/-! ### The objects (R421, R423, R424, R426) -/

/-- The register address an object of the manufacturer area maps, for its sub-index from 1. -/
def objAddr (index sub : Nat) : Nat := (index - 0x2000) / 256 * 65536 + index % 256 * 256 + (sub - 1) * 4
/-- The offset holds a listed register. -/
def Asic.listed (a : Asic) (addr : Nat) : Bool :=
  if 0x100000 ≤ addr then kepReserved addr != 0xFFFFFFFF
  else (regRow addr).isSome || (a.window addr).isSome || stagedBank addr
/-- Access codes of an object: 0 const, 1 ro, 2 rw, 3 rwg, 4 wo. -/
abbrev ObjAccess := Nat
/-- The access of a register object (R421). -/
def regAccess (addr : Nat) : ObjAccess :=
  let k := masksAt addr
  if addr = 0 then 0
  else if k.wk ≠ 0 then 3
  else if k.rw ||| k.wo ||| k.sq ||| k.w1 = 0 then 1
  else if k.wo ||| k.rv = 0xFFFFFFFF then 4
  else 2
/-- What an index and sub-index name: nothing (with the abort code), a listed register, an unlisted offset, or an object
of so many bytes (0 variable) and an access. -/
inductive ObjKind where
  | missing (code : Nat)
  | register (addr : Nat)
  | gap
  | value (size : Nat) (access : ObjAccess)
  deriving DecidableEq, Repr
/-- Size and access of the entries of the communication area and of 0x5F00–0x5F20; the data types are CiA 301's (PRESUMED). -/
def objEntry (index sub : Nat) : Option (Nat × ObjAccess) :=
  let one := fun (e : Nat × ObjAccess) => if sub = 0 then some e else none
  let arr := fun (n : Nat) (e : Nat × ObjAccess) => if sub = 0 then some (1, 0) else if sub ≤ n then some e else none
  if 0x1400 ≤ index ∧ index ≤ 0x1403 then (match sub with | 0 => some (1, 0) | 1 => some (4, 2) | 2 => some (1, 2) | _ => none)
  else if (0x1600 ≤ index ∧ index ≤ 0x1603) ∨ (0x1A00 ≤ index ∧ index ≤ 0x1A07) then
    (if sub = 0 then some (1, 2) else if sub ≤ 16 then some (4, 2) else none)
  else if 0x1800 ≤ index ∧ index ≤ 0x1807 then
    (match sub with | 0 => some (1, 0) | 1 => some (4, 2) | 2 => some (1, 2) | 3 => some (2, 2) | 5 => some (2, 2) | 6 => some (1, 2) | _ => none)
  else match index with
    | 0x1000 => one (4, 0)
    | 0x1001 => one (1, 1)
    | 0x1003 => if sub = 0 then some (1, 2) else if sub ≤ 8 then some (4, 1) else none
    | 0x1005 => one (4, 2)
    | 0x1008 => one (0, 0)
    | 0x1009 => one (0, 0)
    | 0x100A => one (0, 1)
    | 0x1014 => one (4, 2)
    | 0x1015 => one (2, 2)
    | 0x1016 => arr 2 (4, 2)
    | 0x1017 => one (2, 2)
    | 0x1018 => arr 4 (4, 1)
    | 0x1019 => one (1, 2)
    | 0x1200 => arr 2 (4, 1)
    | 0x5F00 => if sub = 4 then some (2, 1) else arr 3 (1, 3)
    | 0x5F10 => arr 3 (4, 1)
    | 0x5F20 => if sub = 2 then some (0, 4) else arr 1 (4, 2)
    | _ => none
/-- The object an index and a sub-index name. -/
def Asic.objKind (a : Asic) (index sub : Nat) : ObjKind :=
  if 0x2000 ≤ index ∧ index ≤ 0x30FF then
    if sub = 0 then .value 1 0
    else if 64 < sub then .missing 0x06090011
    else if a.listed (objAddr index sub) then .register (objAddr index sub)
    else .gap
  else match objEntry index sub with
    | some (n, k) => .value n k
    | none => .missing (if (objEntry index 0).isSome then 0x06090011 else 0x06020000)
/-- Size and access of an object. -/
def Asic.objShape (a : Asic) (index sub : Nat) : Option (Nat × ObjAccess) :=
  match a.objKind index sub with
  | .register addr => some (4, regAccess addr)
  | .value n k => some (n, k)
  | _ => none

/-! ### The status sample (R426) -/

/-- Form the three sub-indices of 0x5F10 from one capture. -/
def Dev.sampleStatus (d : Dev) : Dev :=
  let l := [d.statusWord, secOf d.asic.ts0 % 2 ^ 32, nsOf d.asic.ts0]
  d.onAsic fun a => { a with can := { a.can with status := l } }

/-! ### Reading an object -/

/-- The outcome of an object access: data, or an abort code of R422. -/
inductive ObjData where
  | data (bytes : List Byte)
  | abort (code : Nat)
  deriving DecidableEq, Repr
/-- The bytes of ASCII codes. -/
def codeBytes (l : List Nat) : List Byte := l.map (BitVec.ofNat 8)
/-- An object that no register holds. -/
def Asic.valueOf (a : Asic) (index sub : Nat) : ObjData :=
  let n := match objEntry index sub with | some (n, _) => n | none => 1
  let num := fun (v : Nat) => ObjData.data (leBytes n v)
  match index with
  | 0x1000 => num 0
  | 0x1001 => num a.errorRegister
  | 0x1003 =>
    if sub = 0 then num a.can.errors.length
    else match a.can.errors[sub - 1]? with
      | some e => num e
      | none => .abort 0x06090011
  | 0x1008 => .data (codeBytes [0x53, 0x5A, 0x4D, 0x2D, 0x38, 0x38, 0x32, 0x30])
  | 0x1009 => .data (codeBytes [0x42])
  | 0x100A => .data (Config.firmwareVersion (a.get Reg.GLB_FWCTL.BANK))
  | 0x1018 => num (match sub with
    | 0 => 4
    | 1 => Config.vendorId
    | 2 => if Config.orderingAA then 0x008820AA else 0x008820AC
    | 3 => 0x000B0000
    | _ => Config.serialNumber)
  | 0x1200 => num (match sub with | 0 => 2 | 1 => 0x600 + a.nodeId | _ => 0x580 + a.nodeId)
  | 0x5F00 => num (if sub = 4 then a.can.lost else a.obj index sub)
  | 0x5F10 => num (match sub with | 0 => 3 | k + 1 => a.can.status.getD k 0)
  | 0x5F20 => num 2
  | _ => if 0x2000 ≤ index ∧ index ≤ 0x30FF then num 64 else num (a.obj index sub)
/-- Address of `GLB_FWPTR` and of `GLB_FWDATA`. -/
def fwPtrAddr : Nat := 0x000028
def fwDataAddr : Nat := 0x00002C
/-- A read of a register by M0 for an owner of latches. -/
def Dev.readRegister (d : Dev) (owner addr : Nat) : Dev × ObjData :=
  let (d, w, s) := d.busRead 0 owner addr 2
  (d, if s = 0 then .data (leBytes 4 w.toNat) else .abort 0x08000022)
/-- A read of an object (R421, R425, R426). -/
def Dev.objRead (d : Dev) (owner index sub : Nat) : Dev × ObjData :=
  match d.asic.objKind index sub with
  | .missing code => (d, .abort code)
  | .gap => (d, .data (leBytes 4 0))
  | .register addr => if regAccess addr = 4 then (d, .abort 0x06010001) else d.readRegister owner addr
  | .value _ k =>
    if k = 4 then (d, .abort 0x06010001)
    else if index = 0x5F20 ∧ sub = 1 then d.readRegister owner fwPtrAddr
    else
      let d := if index = 0x5F10 ∧ sub = 1 then d.sampleStatus else d
      (d, d.asic.valueOf index sub)

/-! ### Writing an object -/

/-- The communication object of a mapping object. -/
def commOf (index : Nat) : Nat := index - 0x200
def isMapping (index : Nat) : Bool := (decide (0x1600 ≤ index) && decide (index ≤ 0x1603)) || (decide (0x1A00 ≤ index) && decide (index ≤ 0x1A07))
def isComm (index : Nat) : Bool := (decide (0x1400 ≤ index) && decide (index ≤ 0x1403)) || (decide (0x1800 ≤ index) && decide (index ≤ 0x1807))
/-- The entry may be mapped (R427); 0, or the abort code. -/
def Asic.mapCheck (a : Asic) (rpdo : Bool) (entry : Nat) : Nat :=
  let index := entry / 65536
  let sub := entry / 256 % 256
  match a.objKind index sub with
  | .missing code => code
  | .gap => 0x06090011
  | _ =>
    match a.objShape index sub with
    | some (n, k) => if n == 4 && entry % 256 == 32 && (if rpdo then k == 2 else k ≤ 2) then 0 else 0x06040041
    | none => 0x06040041
/-- A write of `v` to a mapping object, in the sequence of R427; 0, or the abort code. -/
def Asic.mappingCheck (a : Asic) (index sub v : Nat) : Nat :=
  let rpdo := decide (index < 0x1A00)
  if a.obj (commOf index) 1 / 2 ^ 31 = 0 then 0x08000022
  else if sub = 0 then
    if 16 < v then 0x06040042
    else if v ≠ 0 ∧ a.obj index 0 ≠ 0 then 0x08000022
    else if (List.range v).any fun k => a.obj index (k + 1) == 0 then 0x06040041
    else 0
  else if a.obj index 0 ≠ 0 then 0x08000022
  else if v = 0 then 0
  else a.mapCheck rpdo v
/-- The value is in the object's range; 0, or the abort code. -/
def Asic.rangeCheck (a : Asic) (index sub v : Nat) : Nat :=
  let range := fun (good : Bool) => if good then 0 else 0x06090030
  if isMapping index then a.mappingCheck index sub v
  else if isComm index then
    (if sub = 1 then range (v / 2 ^ 29 % 2 == 0) else if sub = 2 then range (v < 241 || 254 ≤ v) else 0)
  else match index with
    | 0x1003 => range (v == 0)
    | 0x1005 => range (v / 2 ^ 29 % 4 == 0)
    | 0x1014 => range (v / 2 ^ 29 % 4 == 0)
    | 0x1019 => range (v == 0 || (2 ≤ v && v ≤ 240))
    | 0x5F00 => if sub = 1 then range (1 ≤ v && v ≤ 127) else 0
    | _ => 0
/-- Take a communication object's new value, which goes to CONFIG within 1 s (R423). -/
def Asic.storeObj (a : Asic) (index sub v : Nat) : Asic :=
  if index = 0x1003 then { a with can := { a.can with errors := [] } }
  else
    let x := if objReset a.nodeId index sub = some v then none else some v
    let a := { a with can := { a.can with objects := a.can.objects.set (objKey index sub) x } }
    let a := if index = 0x1017 then { a with can := { a.can with beatAt := a.clk.now } }
      else if 0x1800 ≤ index ∧ index ≤ 0x1807 then { a with can := { a.can with tpdo := a.can.tpdo.mod (index - 0x1800) fun t => { t with syncs := 0 } } }
      else if index = 0x1016 then { a with can := { a.can with heard := a.can.heard.set (sub - 1) none, absent := a.can.absent.set (sub - 1) false } }
      else a
    if a.commits.any (· == .comm) then a else a.askCommit .comm
/-- Address of `GLB_KEY`, and the key. -/
def keyAddr : Nat := 0x000010
def keyValue : Nat := 0x5A17
/-- A write of a register by M0; rwg: inside a window only, behind the key (R421). 0, or the abort code. -/
def Dev.writeRegister (d : Dev) (owner addr access : Nat) (v : Word) : Dev × Nat :=
  if access = 3 ∧ !d.asic.present' then (d, 0x08000021)
  else
    let d := if access = 3 then (d.busWrite 0 owner keyAddr 2 (BitVec.ofNat 32 keyValue)).1 else d
    let (d, s) := d.busWrite 0 owner addr 2 v
    (d, if s = 0 then 0 else 0x08000022)
/-- A write of an object. 0, or the abort code. -/
def Dev.objWrite (d : Dev) (owner index sub : Nat) (bytes : List Byte) : Dev × Nat :=
  let v := ofLe bytes
  match d.asic.objKind index sub with
  | .missing code => (d, code)
  | .gap => (d, 0x06090011)
  | .register addr =>
    let k := regAccess addr
    if k ≤ 1 then (d, 0x06010002)
    else if bytes.length ≠ 4 then (d, 0x06070010)
    else d.writeRegister owner addr k (BitVec.ofNat 32 v)
  | .value n k =>
    if k ≤ 1 then (d, 0x06010002)
    else if n = 0 then
      if bytes.length ≠ 4 then (d, 0x06070010) else d.writeRegister owner fwDataAddr 4 (BitVec.ofNat 32 v)
    else if bytes.length ≠ n then (d, 0x06070010)
    else if index = 0x5F20 then d.writeRegister owner fwPtrAddr 2 (BitVec.ofNat 32 v)
    else
      let e := d.asic.rangeCheck index sub v
      if e ≠ 0 then (d, e)
      else if k = 3 ∧ !d.asic.present' then (d, 0x08000021)
      else (d.onAsic fun a => a.storeObj index sub v, 0)

/-! ### The SDO server (R422) -/

/-- A response frame. -/
def Asic.sdoReply (a : Asic) (bytes : List Byte) : Asic := a.send (.can (0x580 + a.nodeId) 0 (bytes ++ List.replicate (8 - bytes.length) 0))
/-- Command byte, index and sub-index of a response. -/
def sdoHead (cmd index sub : Nat) : List Byte := leBytes 1 cmd ++ leBytes 2 index ++ leBytes 1 sub
/-- An abort; it ends the session. -/
def Asic.sdoAbort (a : Asic) (index sub code : Nat) : Asic :=
  { a with can := { a.can with sdo := none } }.sdoReply (sdoHead 0x80 index sub ++ leBytes 4 code)
/-- The SDO server answers (R419). -/
def Asic.sdoRuns (a : Asic) : Bool := a.can.nmt == 5 || a.can.nmt == 127
/-- A client opens a transfer: one session runs at a time, and none opens from t0 − 100 ms of a bank swap (R80). -/
def Dev.sdoOpen (d : Dev) (index sub : Nat) (f : Dev → Dev) : Dev :=
  if !d.asic.sdoRuns then d
  else if d.asic.fw.boundary.isSome then d.onAsic fun a => a.sdoAbort index sub 0x08000020
  else f (d.onAsic fun a => { a with can := { a.can with sdo := none } })
/-- Initiate an upload: at most 4 bytes go with the response, more open a session. -/
def Dev.sdoUpload (d : Dev) (index sub : Nat) : Dev :=
  d.sdoOpen index sub fun d =>
    match d.objRead 4 index sub with
    | (d, .abort code) => d.onAsic fun a => a.sdoAbort index sub code
    | (d, .data l) => d.onAsic fun a =>
      if l.length ≤ 4 ∧ l ≠ [] then a.sdoReply (sdoHead (0x43 + 4 * (4 - l.length)) index sub ++ l)
      else
        let s : Sdo := { key := objKey index sub, data := l, toggle := false, upload := true, size := l.length, at_ := a.clk.now }
        { a with can := { a.can with sdo := some s } }.sdoReply (sdoHead 0x41 index sub ++ leBytes 4 l.length)
/-- An expedited download. -/
def Dev.sdoDownload (d : Dev) (index sub : Nat) (data : List Byte) : Dev :=
  d.sdoOpen index sub fun d =>
    let (d, e) := d.objWrite 4 index sub data
    d.onAsic fun a => if e = 0 then a.sdoReply (sdoHead 0x60 index sub) else a.sdoAbort index sub e
/-- Initiate a segmented download. -/
def Dev.sdoDownloadOpen (d : Dev) (index sub size : Nat) : Dev :=
  d.sdoOpen index sub fun d => d.onAsic fun a =>
    match a.objKind index sub with
    | .missing code => a.sdoAbort index sub code
    | .gap => a.sdoAbort index sub 0x06090011
    | _ =>
      match a.objShape index sub with
      | none => a
      | some (n, k) =>
        if k ≤ 1 then a.sdoAbort index sub 0x06010002
        else if n ≠ 0 ∧ size ≠ 0 ∧ size ≠ n then a.sdoAbort index sub 0x06070010
        else
          let s : Sdo := { key := objKey index sub, data := [], toggle := false, upload := false, size := size, at_ := a.clk.now }
          { a with can := { a.can with sdo := some s } }.sdoReply (sdoHead 0x60 index sub)
/-- Write the whole words received of a DOMAIN, each at once: the module, the bytes left over, 0 or the abort code. -/
def Dev.domainWords (index sub : Nat) : Nat → List Byte → Dev → Dev × List Byte × Nat
  | 0, l, d => (d, l, 0)
  | n + 1, l, d =>
    if l.length < 4 then (d, l, 0)
    else
      let (d, e) := d.objWrite 4 index sub (l.take 4)
      if e ≠ 0 then (d, l, e) else Dev.domainWords index sub n (l.drop 4) d
/-- A segment of an upload. -/
def Asic.uploadSegment (a : Asic) (s : Sdo) : Asic :=
  let l := s.data.take 7
  let rest := s.data.drop 7
  let next : Option Sdo := if rest = [] then none else some { s with data := rest, toggle := !s.toggle, at_ := a.clk.now }
  let cmd := 16 * bit s.toggle + 2 * (7 - l.length) + bit (rest == [])
  { a with can := { a.can with sdo := next } }.sdoReply (leBytes 1 cmd ++ l)
/-- A segment of a download. -/
def Dev.downloadSegment (d : Dev) (s : Sdo) (data : List Byte) (last : Bool) : Dev :=
  let index := s.key / 256
  let sub := s.key % 256
  let domain := match d.asic.objShape index sub with | some (n, _) => n == 0 | none => false
  let l := s.data ++ data.take 7
  let (d, l, e) : Dev × List Byte × Nat := if domain then Dev.domainWords index sub 2 l d else (d, l, 0)
  let (d, e) : Dev × Nat :=
    if e ≠ 0 || !last then (d, e)
    else if domain then (d, if l = [] then 0 else 0x06070010)
    else d.objWrite 4 index sub l
  d.onAsic fun a =>
    if e ≠ 0 then a.sdoAbort index sub e
    else
      let next : Option Sdo := if last then none else some { s with data := l, toggle := !s.toggle, at_ := a.clk.now }
      { a with can := { a.can with sdo := next } }.sdoReply (leBytes 1 (0x20 + 16 * bit s.toggle))
/-- A segment of the open session. -/
def Dev.sdoSegment (d : Dev) (toggle : Bool) (data : List Byte) (last : Bool) : Dev :=
  if !d.asic.sdoRuns then d
  else match d.asic.can.sdo with
    | none => d.onAsic fun a => a.sdoAbort 0 0 0x05040001
    | some s =>
      if toggle ≠ s.toggle then d.onAsic fun a => a.sdoAbort (s.key / 256) (s.key % 256) 0x05040001
      else if s.upload then d.onAsic fun a => a.uploadSegment s
      else d.downloadSegment s data last
/-- SDO_SESSION_TIMEOUT after 1 s without a segment. -/
def Asic.sdoTimeout (a : Asic) : Asic :=
  match a.can.sdo with
  | none => a
  | some s => if a.clk.now < s.at_ + second then a else a.sdoAbort (s.key / 256) (s.key % 256) 0x05040000

/-! ### PDOs (R416, R427, R428) -/

/-- Entries of a mapping object. -/
def Asic.mapped (a : Asic) (index : Nat) : List Nat := (List.range (a.obj index 0)).map fun k => a.obj index (k + 1)
/-- The next CAN FD frame length. -/
def fdLength (n : Nat) : Nat :=
  if n ≤ 8 then n else if n ≤ 12 then 12 else if n ≤ 16 then 16 else if n ≤ 20 then 20 else if n ≤ 24 then 24
  else if n ≤ 32 then 32 else if n ≤ 48 then 48 else 64
/-- PDOs run, and the PDO of this communication object is enabled. -/
def Asic.pdoOn (a : Asic) (comm : Nat) : Bool := a.can.nmt == 5 && a.obj comm 1 / 2 ^ 31 == 0
def Asic.tpdo (a : Asic) (t : Nat) : Tpdo := a.can.tpdo.get t
def Asic.modTpdo (a : Asic) (t : Nat) (f : Tpdo → Tpdo) : Asic := { a with can := { a.can with tpdo := a.can.tpdo.mod t f } }
/-- The data of mapped objects, read in mapping order. -/
def Dev.mappedData : List Nat → Dev → Dev × List Byte
  | [], d => (d, [])
  | e :: rest, d =>
    let (d, l) : Dev × List Byte :=
      if e / 65536 = 0x5F10 then (d, leBytes 4 (d.asic.can.status.getD (e / 256 % 256 - 1) 0))
      else match d.objRead 0 (e / 65536) (e / 256 % 256) with
        | (d, .data l) => (d, l)
        | (d, .abort _) => let (d, w) := d.undefinedData; (d, leBytes 4 w.toNat)
    let (d, more) := Dev.mappedData rest d
    (d, l ++ more)
/-- Sample a TPDO's objects. -/
def Dev.tpdoSample (d : Dev) (t : Nat) : Dev × List Byte := Dev.mappedData (d.asic.mapped (0x1A00 + t)) d.sampleStatus
/-- Send a TPDO with its sampled data. -/
def Asic.tpdoSend (a : Asic) (t : Nat) (l : List Byte) : Asic :=
  let a := a.modTpdo t fun x => { x with sent := some a.clk.now, data := l, held := false }
  a.send (.can (a.obj (0x1800 + t) 1 % 2048) (if a.can.rateD = 2 then 1 else 2) (l ++ List.replicate (fdLength l.length - l.length) 0))
/-- The inhibit time of a TPDO has run. -/
def Asic.tpdoFree (a : Asic) (t : Nat) : Bool :=
  match (a.tpdo t).sent with
  | none => true
  | some s => decide (s + a.obj (0x1800 + t) 3 * 100 * usec ≤ a.clk.now)
/-- An event of a TPDO of type 254 or 255: it is sent, or held for its inhibit time. -/
def Dev.tpdoTrigger (d : Dev) (t : Nat) : Dev :=
  if !d.asic.tpdoFree t then d.onAsic fun a => a.modTpdo t fun x => { x with held := true }
  else
    let (d, l) := d.tpdoSample t
    d.onAsic fun a => a.tpdoSend t l
/-- A TPDO of type 254 or 255 that runs. -/
def Asic.tpdoAsync (a : Asic) (t : Nat) : Bool := a.pdoOn (0x1800 + t) && decide (254 ≤ a.obj (0x1800 + t) 2) && !a.hkcStopped
/-- TPDO_EVENT_TIMER. -/
def Dev.tpdoTimer (d : Dev) (t : Nat) : Dev :=
  let a := d.asic
  let time := a.obj (0x1800 + t) 5
  let due := match (a.tpdo t).sent with | none => true | some s => decide (s + time * msec ≤ a.clk.now)
  if !a.tpdoAsync t || time == 0 || !due then d else d.tpdoTrigger t
/-- The status word a TPDO maps has changed since its last transmission (R428). -/
def Dev.statusMoved (d : Dev) (t : Nat) : Bool :=
  let a := d.asic
  match (a.mapped (0x1A00 + t)).findIdx? fun e => e == 0x5F100120 with
  | none => false
  | some k => (a.tpdo t).sent.isSome && !(a.tpdo t).held && ofLe (((a.tpdo t).data.drop (4 * k)).take 4) != d.statusWord
/-- Watch the status word of every TPDO that maps it. -/
def Dev.watchStatus (d : Dev) : Dev :=
  if d.asic.can.nmt ≠ 5 then d
  else (List.range 8).foldl (fun d t => if d.asic.tpdoAsync t && d.statusMoved t then d.tpdoTrigger t else d) d
/-- INHIBIT_TIME_EXPIRY: a held TPDO, or the next EMCY, goes. -/
def Dev.inhibitEnd (d : Dev) (tpdo : Option Nat) : Dev :=
  match tpdo with
  | none => d.onAsic Asic.sendEmcy
  | some t => if d.asic.tpdoAsync t && (d.asic.tpdo t).held && d.asic.tpdoFree t then d.tpdoTrigger t else d
/-- A synchronous TPDO at a SYNC: it counts from the SYNC with its start value (R423, CiA 301). -/
def Dev.tpdoSync (d : Dev) (counter t : Nat) : Dev :=
  let a := d.asic
  let n := a.obj (0x1800 + t) 2
  let x := a.tpdo t
  let start := a.obj (0x1800 + t) 6
  if !a.pdoOn (0x1800 + t) || decide (240 < n) then d
  else if x.syncs = 0 ∧ start ≠ 0 ∧ a.obj 0x1019 0 ≠ 0 ∧ counter ≠ start then d
  else
    let k := if n = 0 ∨ n ≤ x.syncs then 1 else x.syncs + 1
    let d := d.onAsic fun a => a.modTpdo t fun x => { x with syncs := k }
    if k < n then d
    else
      let (d, l) := d.tpdoSample t
      d.onAsic fun a => if n = 0 ∧ x.sent.isSome ∧ x.data = l then a else a.tpdoSend t l
/-- Make the writes of an RPDO, in mapping order; one the register layer rejects does not stop the rest. -/
def Dev.rpdoWrites : List Nat → List Byte → Dev → Dev
  | [], _, d => d
  | e :: rest, l, d => Dev.rpdoWrites rest (l.drop 4) (d.objWrite 0 (e / 65536) (e / 256 % 256) (l.take 4)).1
/-- CAN_SYNC_RECEIVED. A SYNC of the time the HKC is stopped moves no PDO (R434). -/
def Dev.canSync (d : Dev) (counter : Nat) : Dev :=
  if d.asic.can.nmt ≠ 5 ∨ d.asic.hkcStopped then d
  else
    let d := (List.range 8).foldl (fun d t => d.tpdoSync counter t) d
    let waiting := d.asic.can.rpdo
    let d := d.onAsic fun a => { a with can := { a.can with rpdo := [] } }
    waiting.foldl (fun d r => Dev.rpdoWrites (d.asic.mapped (0x1600 + r.1)) r.2 d) d
/-- RPDO_RECEIVED. -/
def Dev.rpdo (d : Dev) (r : Nat) (data : List Byte) : Dev :=
  let a := d.asic
  let n := 4 * (a.mapped (0x1600 + r)).length
  if !a.pdoOn (0x1400 + r) then d
  else if data.length < n then d.onAsic fun a => a.nodeEmcy 0x8210
  else if fdLength n < data.length then d.onAsic fun a => a.nodeEmcy 0x8220
  else if a.obj (0x1400 + r) 2 ≤ 240 then d.onAsic fun a => { a with can := { a.can with rpdo := a.can.rpdo ++ [(r, data)] } }
  else Dev.rpdoWrites (a.mapped (0x1600 + r)) data d

/-! ### NMT, heartbeats and the controller (R417–R420) -/

/-- A change of the NMT state; EMCYs queued in STOPPED go on leaving it (R434). -/
def Asic.setNmt (a : Asic) (s : Nat) : Asic := { a with can := { a.can with nmt := s } }.sendEmcy
/-- STOPPED: an open session ends without response. -/
def Asic.stopNode (a : Asic) : Asic := { a with can := { a.can with sdo := none } }.setNmt 4
/-- An NMT command reaches this node. -/
def Asic.nmtFor (a : Asic) (node : Nat) : Bool := node == 0 || node == a.nodeId
/-- CAN_HEARTBEAT_PRODUCE. -/
def Asic.heartbeatOut (a : Asic) : Asic :=
  let time := a.obj 0x1017 0
  if time = 0 ∨ a.can.nmt = 0 ∨ a.hkcStopped ∨ a.clk.now < a.can.beatAt + time * msec then a
  else { a with can := { a.can with beatAt := a.clk.now } }.send (.can (0x700 + a.nodeId) 0 (leBytes 8 a.can.nmt))
/-- Node-ID and time in ms of consumer entry `e`. -/
def Asic.consumer (a : Asic) (e : Nat) : Nat × Nat := (a.obj 0x1016 (e + 1) / 65536 % 256, a.obj 0x1016 (e + 1) % 65536)
/-- CAN_HEARTBEAT_RECEIVED. -/
def Asic.heartbeatIn (a : Asic) (node : Nat) : Asic :=
  a.each [0, 1] fun a e =>
    if (a.consumer e).1 ≠ node ∨ node = 0 ∨ (a.consumer e).2 = 0 then a
    else { a with can := { a.can with heard := a.can.heard.set e (some a.clk.now), absent := a.can.absent.set e false } }
/-- CAN_HEARTBEAT_CONSUMER_TIMEOUT: monitoring begins with the first heartbeat heard. -/
def Asic.heartbeatGone (a : Asic) (e : Nat) : Asic :=
  match a.can.heard.get e with
  | none => a
  | some t =>
    if (a.consumer e).2 = 0 ∨ a.can.absent.get e ∨ a.clk.now < t + (a.consumer e).2 * msec then a
    else { a with can := { a.can with absent := a.can.absent.set e true } }.nodeEmcy 0x8130
/-- BUS_OFF_RECOVERY: the controller restarts error-active. -/
def Asic.busOff (a : Asic) : Asic := { a with can := { a.can with errorPassive := false } }.nodeEmcy 0x8140
/-- ERROR_PASSIVE. -/
def Asic.enterPassive (a : Asic) : Asic :=
  if a.can.errorPassive then a else { a with can := { a.can with errorPassive := true } }.nodeEmcy 0x8120
/-- ERROR_ACTIVE_RETURN. -/
def Asic.leavePassive (a : Asic) : Asic := { a with can := { a.can with errorPassive := false } }

/-! ### Reception (R32, R417, R419) -/

/-- What the HKC does with a frame. -/
def Dev.canServe (d : Dev) : Instr → Dev
  | .nmtStartRemoteNode node => d.onAsic fun a => if a.nmtFor node.toNat then a.setNmt 5 else a
  | .nmtStopRemoteNode node => d.onAsic fun a => if a.nmtFor node.toNat then a.stopNode else a
  | .nmtEnterPreOperational node => d.onAsic fun a => if a.nmtFor node.toNat then a.setNmt 127 else a
  | .nmtResetNode node => d.onAsic fun a => if a.nmtFor node.toNat then a.bootNode d.nvm.objects else a
  | .nmtResetCommunication node => d.onAsic fun a => if a.nmtFor node.toNat then a.bootNode d.nvm.objects else a
  | .sdoExpeditedUpload index sub => d.sdoUpload index.toNat sub.toNat
  | .sdoSegmentedUpload index sub => d.sdoUpload index.toNat sub.toNat
  | .sdoExpeditedDownload index sub data => d.sdoDownload index.toNat sub.toNat data
  | .sdoSegmentedDownload index sub size => d.sdoDownloadOpen index.toNat sub.toNat size.toNat
  | .sdoSegment toggle data last => d.sdoSegment toggle data last
  | .canSyncReceived counter => d.canSync counter.toNat
  | .rpdoReceived r data => d.rpdo r.val data
  | .canHeartbeatReceived node => d.onAsic fun a => a.heartbeatIn node.toNat
  | _ => d
/-- A frame arrives: it passes the receive queue, whose overflow sends EMCY 0x8110, and waits there while the HKC is
stopped. A node in INITIALISATION takes none; a SYNC of the stopped time is lost on the PDOs. -/
def Dev.canReceive (d : Dev) (i : Instr) : Dev :=
  if !d.busRuns || d.asic.can.nmt == 0 then d
  else match d.asic.enqueue 9 0 16 with
    | (a, false) => { d with asic := a.nodeEmcy 0x8110 }
    | (a, true) =>
      if !a.hkcStopped then { d with asic := a }.canServe i
      else match i with
        | .canSyncReceived _ => { d with asic := a }
        | _ => { d with asic := { a with can := { a.can with rx := a.can.rx ++ [i] } } }
/-- The HKC runs again: it serves the frames that waited. -/
def Dev.canResume (d : Dev) : Dev :=
  if d.asic.hkcStopped then d
  else
    let l := d.asic.can.rx
    (l.foldl Dev.canServe (d.onAsic fun a => { a with can := { a.can with rx := [] } })).onAsic Asic.sendEmcy
/-- FW_ALIVE. -/
def Dev.firmwareAlive (d : Dev) : Dev := if d.asic.hkcStopped then (d.onAsic Asic.fwAlive).canResume else d
/-- FW_REVERT. -/
def Dev.firmwareRevert (d : Dev) : Dev :=
  let d' := d.onAsic Asic.fwRevert
  if d.asic.hkcStopped ∧ !d'.asic.hkcStopped then d'.canResume else d'

end Sys2Proof.Machine
end

