-- ==== Sys2Proof/Machine/Boot.lean ====
section
/-! DEFINITION. The configuration load of the COLD sequence (R38, R55, R57, R197, R202, R460, R464). -/

namespace Sys2Proof.Machine

/-- A word of the image, in all three copies. -/
def Asic.loadWord (a : Asic) (addr : Nat) (diff : Word) : Asic :=
  a.setMasked addr (BitVec.ofNat 32 (configMask addr)) (resetWord addr ^^^ diff)
/-- What the registers of a loaded word set going, as a write of them would; the software offset delivers no sample, and a
forced HOLDOVER that R172 does not allow becomes automatic control. -/
def Asic.loadEffect (old a : Asic) (addr : Nat) : Asic :=
  match regRow addr with
  | none => a
  | some (r, i) =>
    if r.addr = 0x071060 ∨ r.addr = 0x071070 then a
    else
      let a := if r.addr = 0x040000 ∧ a.forceRefused i (a.get (Reg.DPL_CTL.FORCE i)) then a.put (Reg.DPL_CTL.FORCE i) 0 else a
      (old.effect a 0 addr r.addr i (a.word addr).toNat true).1
/-- Every register image, then what the registers set going. -/
def Asic.loadImage (a : Asic) (words : Tab Word) : Asic :=
  let old := a
  let a := words.foldl (fun a p => a.loadWord p.1 p.2) a
  words.foldl (fun a p => old.loadEffect a p.1) a
/-- The active plan bank of the image, the hop table, and the running plan (R222, R223, R463). -/
def Asic.loadPlan (a : Asic) (bank hopTable : Tab Word) (plan : Nat) : Asic :=
  let running := (List.range 64).foldl (fun (t : Tab Word) w => t.setF planWordReset w (bank.getF planWordReset (plan * 64 + w))) []
  { a.put Reg.APL_HOPSTAT.CUR plan with apl := { a.apl with active := bank, hopTable := hopTable, running := running } }
/-- The committed fits: RETRACE for every oven that holds one (R197). -/
def Asic.loadFits (a : Asic) (fits : Tab (Option Fit)) : Asic :=
  a.each [0, 1] fun a o =>
    match fits.get o with
    | none => a
    | some f => (a.useFit o f).put (Reg.CAL_OVSTS.MSTAT o) 3
/-- Accepted Rally asymmetry results (R339). -/
def Asic.loadRally (a : Asic) (l : Tab (Word × Word × Word)) : Asic :=
  l.foldl (fun a (i, lo, hi, alpha) =>
    ((a.putWord (Reg.RLY_ASYMLO.ASYM i).addr lo.toNat).putWord (Reg.RLY_ASYMHI.ASYM i).addr hi.toNat).putWord (Reg.RLY_ALPHA.ALPHA i).addr alpha.toNat) a
/-- The placement map. The oven in use stays; a map that names another is committed anew (R38, R202). -/
def Asic.loadPlacement (a : Asic) (m : Tab Word) : Asic :=
  let named := (m.get 0).toNat ^^^ Reg.CAL_OVSTAT.ACTIVE.reset
  let a := a.restorePlacement m
  if named % 2 = a.activeOven then a else a.askCommit .placement
/-- CONFIGURATION_LOAD. Neither image valid: reset values, and the configuration-load source (R57). -/
def Dev.configurationLoad (d : Dev) : Dev :=
  let a := d.asic
  if !a.modes.coldOn || !a.clk.bkLocked || !(a.clk.sysLocked || a.fallback) || a.modes.loaded || a.modes.loadFailed then d
  else
    let n := d.nvm
    let a := { (a.loadPlacement n.placement) with cal := { a.cal with fld := n.field } }
    let a := a.loadFits n.fits
    let a := match n.imageInUse with
      | none => { (a.raise 1 0).loadPlan [] n.hopTable n.plan with modes := { a.modes with loadFailed := true } }
      | some b =>
        let image := if b then n.imageB else n.imageA
        let a := (a.loadPlan image.plan n.hopTable n.plan).loadImage image.words
        let a := (a.put Reg.NVM_CFGGEN.GEN image.gen).putB Reg.NVM_CFGGEN.IMG b
        { a with modes := { a.modes with loaded := true } }
    let a := (((a.loadRally n.rally).rallyRefreshAll).egRefreshAll).servosRefresh
    { d with asic := a.startApll }

end Sys2Proof.Machine
end

