-- ==== Sys2Proof/Machine/Run.lean ====
section
/-! DEFINITION. How a command acts on the state: the queue of waiting commands is never its business. -/

namespace Sys2Proof

/-- The detail byte of a unit's failed check (R438). -/
def UnitCheck.code : UnitCheck → Nat
  | .ok => 0
  | .residue => 1
  | .ecc => 2

end Sys2Proof

namespace Sys2Proof.Machine

/-- The outcome of a step. -/
abbrev Outcome := Host.Outcome State Fault Refusal
/-- A command that acts on the module. -/
def State.act (s : State) (f : Dev → Dev) : Outcome := .next { s with dev := f s.dev }
/-- A command that has no effect in SHELF, where only `KEP` and the NVM controller run (R72). -/
def State.awake (s : State) (f : Dev → Dev) : Outcome := s.act fun d => if d.sup.shelf then d else f d
/-- A command that acts on the ASIC. -/
def State.run (s : State) (f : Asic → Asic) : Outcome := s.act fun d => d.run f

/-- A master writes `v` to a command field; the other fields of the word are written as they stand, and no event bit is
written as 1, which would clear it (R405). -/
def Dev.command (d : Dev) (m : Master) (f : Fld) (v : Nat) : Dev :=
  d.write m f.addr (withField (d.stored f.addr &&& ~~~(BitVec.ofNat 32 (masksAt f.addr).sq)) f v).toNat
/-- A register write of any size. -/
def Dev.writeSized (d : Dev) (m : Master) (addr size : Nat) (v : Word) : Dev :=
  if d.busRuns then (d.busWrite m.val m.val addr size v).1 else d
/-- Address of the first rank word of a channel. -/
def rankAddr (c : Nat) : Nat := (Reg.UMP_RANK0.RANK c).addr
/-- Address of `DPL_BW`, `DPL_ACQBW`, `DPL_LOOP` or `DPL_FCLAMP` of a channel. -/
def loopAddr (c reg : Nat) : Nat := (Reg.DPL_BW.BW c).addr + 4 * reg
/-- SCALE_SECOND_BOUNDARY; at each of `TS0` the keep-alive copy takes its seconds (R261). -/
def Dev.scaleBoundary (d : Dev) (k : Nat) : Dev :=
  let d' := d.onAsic fun a => a.secondBoundary k
  if k = 0 ∧ (d'.asic.scale 0).sec ≠ (d.asic.scale 0).sec then { d' with kep := { d'.kep with sec := secOf d'.asic.ts0 } } else d'
/-- SERVO_SAMPLE, and the port that feeds the servo. -/
def Asic.servoSampleAll (a : Asic) (k : Nat) : Asic := a.servoTracked (a.servoSample k a.refDelay) k

end Sys2Proof.Machine
end

