-- ==== Sys2Proof/Machine/CmdApl.lean ====
section
/-! DEFINITION. Commands: APLLs, plans and hops (chapter 8). One meaning per row of the opcode table, over the shared operations. -/

namespace Sys2Proof.Machine

/-- BAND_STEP_COMPLETE (R214). -/
def execBandStepComplete (u : Fin 8) (band : BitVec 9) (miss : Bool) (s : State) : Outcome :=
  s.run fun a => a.bandStepComplete u.val band.toNat miss
/-- APLL_LOCK_DECLARED (R215). -/
def execApllLockDeclared (u : Fin 8) (s : State) : Outcome := s.run fun a => a.lockDeclared u.val
/-- APLL_LOSS_OF_LOCK (R216). -/
def execApllLossOfLock (u : Fin 8) (s : State) : Outcome := s.run fun a => a.lossOfLock u.val
/-- APLL_RELOCK_START (R229). -/
def execApllRelockStart (u : Fin 8) (s : State) : Outcome := s.run fun a => a.relockStart u.val
/-- SUBSTITUTION_RESTART (R230). -/
def execSubstitutionRestart (f : Fin 7) (s : State) : Outcome := s.run fun a => a.substitutionRestart f.val
/-- APL_HOP_GO (R223). -/
def execAplHopGo (m : Master) (v : Word) (s : State) : Outcome :=
  s.act fun d => d.write m Reg.APL_HOP.GO.addr (v.toNat ||| 2 ^ Reg.APL_HOP.GO.lsb)
/-- HOP_START (R225). -/
def execHopStart (s : State) : Outcome := s.run Asic.hopStart
/-- HOP_OUTPUT_RESTART (R225). -/
def execHopOutputRestart (f : Fin 7) (s : State) : Outcome := s.run fun a => a.hopRestart f.val
/-- GLIDE_END (R226). -/
def execGlideEnd (f : Fin 7) (s : State) : Outcome := s.run fun a => a.glideEnd f.val
/-- HOP_TABLE_CLEAR (R222). -/
def execHopTableClear (m : Master) (s : State) : Outcome := s.act fun d => d.command m Reg.APL_CMD.HTCLR 1
/-- APL_RELOCK (R217). -/
def execApllRelock (m : Master) (mask : BitVec 7) (s : State) : Outcome := s.act fun d => d.command m Reg.APL_CMD.RELOCK mask.toNat
/-- APLL_HANDOVER_GO (R231). -/
def execApllHandoverGo (m : Master) (v : Word) (s : State) : Outcome :=
  s.act fun d => d.write m Reg.APL_HO.GO.addr (v.toNat ||| 2 ^ Reg.APL_HO.GO.lsb)
/-- APLL_TRIM_MEASUREMENT (R231). -/
def execApllTrimMeasurement (diff : BitVec 32) (s : State) : Outcome := s.run fun a => a.trimMeasurement diff.toInt
/-- APLL_HANDOVER_SWITCH (R231). -/
def execApllHandoverSwitch (s : State) : Outcome := s.run Asic.aplHoSwitch
/-- APL_SPARE_WRITE (R236). -/
def execAplSpareWrite (m : Master) (v : Word) (s : State) : Outcome := s.act fun d => d.write m Reg.APL_SPARE.SHADOW.addr v.toNat

end Sys2Proof.Machine
end

