-- ==== Sys2Proof/Machine/CmdBus.lean ====
section
/-! DEFINITION. Commands: the register interface, SPI and PCIe (chapter 15). One meaning per row of the opcode table, over the shared operations. -/

namespace Sys2Proof.Machine

/-- REGISTER_WRITE (R389). -/
def execRegisterWrite (m : Master) (addr : BitVec 32) (size : Fin 4) (v : Word) (s : State) : Outcome :=
  s.act fun d => d.writeSized m addr.toNat size.val v
/-- PAIR_LOW_WORD_READ (R387). -/
def execPairLowWordRead (m : Master) (addr : BitVec 32) (s : State) : Outcome := s.act fun d => d.read m addr.toNat
/-- HELD_PAIR_HIGH_WRITE (R387). -/
def execHeldPairHighWrite (m : Master) (addr : BitVec 32) (v : Word) (s : State) : Outcome := s.act fun d => d.write m addr.toNat v.toNat
/-- TSC_FRAC_READ (R262). -/
def execTscFracRead (m : Master) (k : Fin 4) (s : State) : Outcome := s.act fun d => d.read m (Reg.TSC_FRAC.FRAC k.val).addr
/-- KEY_WRITE (R401). -/
def execKeyWrite (m : Master) (v : Word) (s : State) : Outcome := s.act fun d => d.write m keyAddr v.toNat
/-- KEY_TIMEOUT (R401). -/
def execKeyTimeout (s : State) : Outcome := s.run Asic.keyTimeout
/-- SEQUENCE_CLEAR_WRITE (R405). -/
def execSequenceClearWrite (m : Master) (addr : BitVec 32) (v : Word) (s : State) : Outcome := s.act fun d => d.write m addr.toNat v.toNat
/-- ALIAS_WRITE (R406). -/
def execAliasWrite (m : Master) (addr : BitVec 32) (v : Word) (s : State) : Outcome := s.act fun d => d.write m addr.toNat v.toNat
/-- TV_SCRUB (R404). -/
def execTvScrub (addr : BitVec 32) (s : State) : Outcome := s.run fun a => a.repair (addr.toNat / 4 * 4)
/-- BLOCK_LOCK_WRITE (R402). -/
def execBlockLockWrite (m : Master) (v : Word) (s : State) : Outcome := s.act fun d => d.write m Reg.GLB_LOCK.BLOCKS.addr v.toNat
/-- SPI_READ_FRAME (R393). -/
def execSpiReadFrame (size : Fin 4) (count : Fin 32) (addr : BitVec 32) (s : State) : Outcome :=
  s.act fun d => d.spiRead size.val count.val addr.toNat
/-- SPI_WRITE_FRAME (R393). -/
def execSpiWriteFrame (size : Fin 4) (count : Fin 32) (addr : BitVec 32) (data : List Word) (s : State) : Outcome :=
  s.act fun d => d.spiWrite size.val count.val addr.toNat data
/-- SPI_RESET (R396). -/
def execSpiReset (s : State) : Outcome := s.run Asic.spiReset
/-- SPI_FRAME_END (R396). -/
def execSpiFrameEnd (s : State) : Outcome := s.run Asic.spiFrameEnd
/-- PCIE_MEMORY_READ (R398). -/
def execPcieMemoryRead (bar2 : Bool) (offset : BitVec 25) (dw : Fin 1024) (first : BitVec 4) (last : BitVec 4) (s : State) : Outcome :=
  s.act fun d => d.pcieRead bar2 offset.toNat dw.val first.toNat last.toNat
/-- PCIE_MEMORY_WRITE (R398). -/
def execPcieMemoryWrite (bar2 : Bool) (offset : BitVec 25) (dw : Fin 1024) (first : BitVec 4) (last : BitVec 4) (data : List Word) (s : State) : Outcome :=
  s.act fun d => d.pcieWrite bar2 offset.toNat dw.val first.toNat last.toNat data
/-- PCIE_RESET (R399). -/
def execPcieReset (s : State) : Outcome := s.run Asic.pcieReset
/-- TXN_REQ (R407). -/
def execTxnReq (m : Master) (s : State) : Outcome := s.act fun d => d.command m Reg.GLB_TXN.REQ 1
/-- TXN_RENEW (R407). -/
def execTxnRenew (m : Master) (s : State) : Outcome := s.act fun d => d.command m Reg.GLB_TXN.RENEW 1
/-- TXN_COMMIT (R408). -/
def execTxnCommit (m : Master) (s : State) : Outcome := s.act fun d => d.command m Reg.GLB_TXN.COMMIT 1
/-- TXN_CHECK_COMPLETE (R408). -/
def execTxnCheckComplete (s : State) : Outcome := s.run Asic.txnChecked
/-- TXN_RELEASE (R409). -/
def execTxnRelease (m : Master) (s : State) : Outcome := s.act fun d => d.command m Reg.GLB_TXN.RELEASE 1
/-- TXN_LEASE_EXPIRY (R409). -/
def execTxnLeaseExpiry (s : State) : Outcome := s.run Asic.leaseExpiry
/-- PCIE_LINK_UP (R376). -/
def execPcieLinkUp (s : State) : Outcome := s.run Asic.pcieLinkUp
/-- PCIE_CONFIG_WRITE (R377). -/
def execPcieConfigWrite (w : PcieConfig) (s : State) : Outcome := s.run fun a => a.pcieConfig w
/-- MSIX_TABLE_WRITE (R442). -/
def execMsixTableWrite (k : Fin 64) (v : Word) (s : State) : Outcome := s.run fun a => a.msixWrite k.val v

end Sys2Proof.Machine
end

