-- ==== Sys2Proof/Machine/CmdCan.lean ====
section
/-! DEFINITION. Commands: the CANopen node (chapter 16). One meaning per row of the opcode table, over the shared operations. -/

namespace Sys2Proof.Machine

/-- NMT_START_REMOTE_NODE (R419). -/
def execNmtStartRemoteNode (node : BitVec 8) (s : State) : Outcome := s.awake fun d => d.canReceive (.nmtStartRemoteNode node)
/-- NMT_STOP_REMOTE_NODE (R419). -/
def execNmtStopRemoteNode (node : BitVec 8) (s : State) : Outcome := s.awake fun d => d.canReceive (.nmtStopRemoteNode node)
/-- NMT_ENTER_PRE_OPERATIONAL (R419). -/
def execNmtEnterPreOperational (node : BitVec 8) (s : State) : Outcome := s.awake fun d => d.canReceive (.nmtEnterPreOperational node)
/-- NMT_RESET_NODE (R419). -/
def execNmtResetNode (node : BitVec 8) (s : State) : Outcome := s.awake fun d => d.canReceive (.nmtResetNode node)
/-- NMT_RESET_COMMUNICATION (R419). -/
def execNmtResetCommunication (node : BitVec 8) (s : State) : Outcome := s.awake fun d => d.canReceive (.nmtResetCommunication node)
/-- SDO_EXPEDITED_UPLOAD (R425). -/
def execSdoExpeditedUpload (index : BitVec 16) (sub : BitVec 8) (s : State) : Outcome :=
  s.awake fun d => d.canReceive (.sdoExpeditedUpload index sub)
/-- SDO_EXPEDITED_DOWNLOAD (R421). -/
def execSdoExpeditedDownload (index : BitVec 16) (sub : BitVec 8) (data : List Byte) (s : State) : Outcome :=
  s.awake fun d => d.canReceive (.sdoExpeditedDownload index sub data)
/-- SDO_SEGMENTED_UPLOAD (R422). -/
def execSdoSegmentedUpload (index : BitVec 16) (sub : BitVec 8) (s : State) : Outcome :=
  s.awake fun d => d.canReceive (.sdoSegmentedUpload index sub)
/-- SDO_SEGMENTED_DOWNLOAD (R422). -/
def execSdoSegmentedDownload (index : BitVec 16) (sub : BitVec 8) (size : BitVec 32) (s : State) : Outcome :=
  s.awake fun d => d.canReceive (.sdoSegmentedDownload index sub size)
/-- SDO_SEGMENT (R422). -/
def execSdoSegment (toggle : Bool) (data : List Byte) (last : Bool) (s : State) : Outcome :=
  s.awake fun d => d.canReceive (.sdoSegment toggle data last)
/-- SDO_SESSION_TIMEOUT (R422). -/
def execSdoSessionTimeout (s : State) : Outcome := s.run Asic.sdoTimeout
/-- CAN_SYNC_RECEIVED (R428). -/
def execCanSyncReceived (counter : BitVec 8) (s : State) : Outcome := s.awake fun d => d.canReceive (.canSyncReceived counter)
/-- TPDO_EVENT_TIMER (R428). -/
def execTpdoEventTimer (t : Fin 8) (s : State) : Outcome := s.awake fun d => d.tpdoTimer t.val
/-- RPDO_RECEIVED (R428). -/
def execRpdoReceived (r : Fin 4) (data : List Byte) (s : State) : Outcome := s.awake fun d => d.canReceive (.rpdoReceived r data)
/-- CAN_HEARTBEAT_PRODUCE (R420). -/
def execCanHeartbeatProduce (s : State) : Outcome := s.run Asic.heartbeatOut
/-- CAN_HEARTBEAT_RECEIVED (R420). -/
def execCanHeartbeatReceived (node : BitVec 7) (s : State) : Outcome := s.awake fun d => d.canReceive (.canHeartbeatReceived node)
/-- CAN_HEARTBEAT_CONSUMER_TIMEOUT (R420). -/
def execCanHeartbeatConsumerTimeout (e : Fin 2) (s : State) : Outcome := s.run fun a => a.heartbeatGone e.val
/-- BUS_OFF_RECOVERY (R417). -/
def execBusOffRecovery (s : State) : Outcome := s.run Asic.busOff
/-- ERROR_PASSIVE (R417). -/
def execErrorPassive (s : State) : Outcome := s.run Asic.enterPassive
/-- INHIBIT_TIME_EXPIRY (R428). -/
def execInhibitTimeExpiry (tpdo : Option (Fin 8)) (s : State) : Outcome := s.awake fun d => d.inhibitEnd (tpdo.map fun t => t.val)
/-- ERROR_ACTIVE_RETURN (R429). -/
def execErrorActiveReturn (s : State) : Outcome := s.run Asic.leavePassive

end Sys2Proof.Machine
end

