-- ==== Sys2Proof/Machine/CmdDpl.lean ====
section
/-! DEFINITION. Commands: DPLL channels and holdover (chapter 6). One meaning per row of the opcode table, over the shared operations. -/

namespace Sys2Proof.Machine

/-- DPLL_UPDATE (R164). -/
def execDpllUpdate (c : Fin 8) (check : UnitCheck) (same : Bool) (s : State) : Outcome := s.run fun a => a.dpllUpdate c.val check.code same
/-- DPLL_EN_WRITE (R172). -/
def execDpllEnWrite (m : Master) (c : Fin 8) (v : Word) (s : State) : Outcome :=
  s.act fun d => d.write m (Reg.DPL_CTL.EN c.val).addr v.toNat
/-- DPLL_FORCE_AUTO (R172). -/
def execDpllForceAuto (m : Master) (c : Fin 8) (s : State) : Outcome := s.act fun d => d.command m (Reg.DPL_CTL.FORCE c.val) 0
/-- DPLL_FORCE_FREERUN (R172). -/
def execDpllForceFreerun (m : Master) (c : Fin 8) (s : State) : Outcome := s.act fun d => d.command m (Reg.DPL_CTL.FORCE c.val) 1
/-- DPLL_FORCE_HOLDOVER (R172). -/
def execDpllForceHoldover (m : Master) (c : Fin 8) (s : State) : Outcome := s.act fun d => d.command m (Reg.DPL_CTL.FORCE c.val) 2
/-- HOLDOVER_MODEL_UPDATE (R179). -/
def execHoldoverModelUpdate (c : Fin 8) (s : State) : Outcome := s.run fun a => a.holdoverModel c.val
/-- HISTORY_ENTRY_CLOSE (R176). -/
def execHistoryEntryClose (c : Fin 8) (s : State) : Outcome := s.run fun a => a.historyClose c.val
/-- DPL_HOCFG_WRITE (R177). -/
def execDplHocfgWrite (m : Master) (c : Fin 8) (reg : Fin 2) (v : Word) (s : State) : Outcome :=
  s.act fun d => d.write m (0x040020 + 0x1000 * c.val + 4 * reg.val) v.toNat
/-- DPL_LOOP_WRITE (R170). -/
def execDplLoopWrite (m : Master) (c : Fin 8) (reg : Fin 4) (v : Word) (s : State) : Outcome :=
  s.act fun d => d.write m (loopAddr c.val reg.val) v.toNat
/-- HOLDOVER_LIMIT (R180). -/
def execHoldoverLimit (c : Fin 8) (s : State) : Outcome := s.run fun a => a.holdoverLimit c.val
/-- DPLL_TELEMETRY_RECORD (R181). -/
def execDpllTelemetryRecord (c : Fin 8) (s : State) : Outcome := s.run fun a => a.telemetryRecord c.val
/-- AUTO_MIGRATION_LOAD (R185). -/
def execAutoMigrationLoad (c : Fin 8) (s : State) : Outcome := s.run fun a => a.autoMigrate c.val
/-- DPLL_MIGRATION_GO (R184). -/
def execDpllMigrationGo (m : Master) (v : Word) (s : State) : Outcome :=
  s.act fun d => d.write m Reg.DPL_MIG.GO.addr (v.toNat ||| 2 ^ Reg.DPL_MIG.GO.lsb)
/-- MIGRATION_START (R184). -/
def execMigrationStart (s : State) : Outcome := s.run Asic.migrationStart
/-- MIGRATION_CUTOVER (R184). -/
def execMigrationCutover (s : State) : Outcome := s.run Asic.migrationCutover

end Sys2Proof.Machine
end

