-- ==== Sys2Proof/Machine/CmdEvt.lean ====
section
/-! DEFINITION. Commands: event timing (chapter 11). One meaning per row of the opcode table, over the shared operations. -/

namespace Sys2Proof.Machine

/-- EVT_EDGE (R288). -/
def execEvtEdge (n : Fin 16) (falling : Bool) (ramp : BitVec 18) (sat : Bool) (s : State) : Outcome :=
  s.run fun a => a.evtEdge n.val falling ramp.toNat sat
/-- ACCEPTANCE_WINDOW_CLOSE (R290). -/
def execAcceptanceWindowClose (n : Fin 16) (s : State) : Outcome := s.run fun a => a.windowClose n.val
/-- EG_ARM (R294). -/
def execEgArm (m : Master) (g : Fin 4) (s : State) : Outcome := s.act fun d => d.command m (Reg.EG_CMD.ARM g.val) 1
/-- EG_DISARM (R294). -/
def execEgDisarm (m : Master) (g : Fin 4) (s : State) : Outcome := s.act fun d => d.command m (Reg.EG_CMD.DISARM g.val) 1
/-- GATE_OPEN (R293). -/
def execGateOpen (g : Fin 4) (s : State) : Outcome := s.run fun a => a.gateEdge g.val true
/-- GATE_CLOSE (R294). -/
def execGateClose (g : Fin 4) (s : State) : Outcome := s.run fun a => a.gateEdge g.val false
/-- MEASUREMENT_COMPLETE (R295). -/
def execMeasurementComplete (g : Fin 4) (s : State) : Outcome := s.run fun a => a.measComplete g.val
/-- MEASUREMENT_TIMEOUT (R295). -/
def execMeasurementTimeout (g : Fin 4) (s : State) : Outcome := s.run fun a => a.measTimeout g.val
/-- SETTLE_END (R294). -/
def execSettleEnd (g : Fin 4) (s : State) : Outcome := s.run fun a => a.settleEnd g.val
/-- EG_TMO_WRITE (R295). -/
def execEgTmoWrite (m : Master) (g : Fin 4) (v : Word) (s : State) : Outcome := s.act fun d => d.write m (Reg.EG_TMO.TMO g.val).addr v.toNat
/-- EG_CONFIG_WRITE (R295). -/
def execEgConfigWrite (m : Master) (g : Fin 4) (reg : Fin 2) (v : Word) (s : State) : Outcome :=
  s.act fun d => d.write m ((Reg.EG_CFG.EN g.val).addr + 4 * reg.val) v.toNat
/-- TAC_CAL_START (R298). -/
def execTacCalStart (t : Fin 34) (s : State) : Outcome := s.run fun a => a.tacCalStart t.val
/-- TAC_CAL_TABLE_COMPUTED (R298). -/
def execTacCalTableComputed (t : Fin 34) (lsb : BitVec 16) (corr : List Int) (s : State) : Outcome :=
  s.run fun a => a.tacTable t.val lsb.toNat corr
/-- TAC_TABLE_SWITCH (R298). -/
def execTacTableSwitch (t : Fin 34) (s : State) : Outcome := s.run fun a => a.tacTableSwitch t.val
/-- TAC_HANDOVER_GO (R300). -/
def execTacHandoverGo (m : Master) (v : Word) (s : State) : Outcome :=
  s.act fun d => d.write m Reg.EVT_TACHO.GO.addr (v.toNat ||| 2 ^ Reg.EVT_TACHO.GO.lsb)
/-- TAC_HANDOVER_TABLE_ACCEPTED (R300). -/
def execTacHandoverTableAccepted (lsb : BitVec 16) (corr : List Int) (s : State) : Outcome :=
  s.run fun a => a.tacHandoverTable lsb.toNat corr
/-- TAC_HANDOVER_CUTOVER (R300). -/
def execTacHandoverCutover (s : State) : Outcome := s.run Asic.tacHoCutover
/-- EVT_CONFIG_WRITE (R302). -/
def execEvtConfigWrite (m : Master) (n : Fin 16) (v : Word) (s : State) : Outcome :=
  s.act fun d => d.write m (Reg.EVT_CFG.EN n.val).addr v.toNat

end Sys2Proof.Machine
end

