-- ==== Sys2Proof/Machine/CmdFlt.lean ====
section
/-! DEFINITION. Commands: the fault collector (chapter 17). One meaning per row of the opcode table, over the shared operations. -/

namespace Sys2Proof.Machine

/-- FAULT_SOURCE_ACCEPTED (R435). -/
def execFaultSourceAccepted (s : State) : Outcome := s.run Asic.acceptSource
/-- FAULT_SOURCE_DEASSERTED (R436). -/
def execFaultSourceDeasserted (src : Fin 128) (s : State) : Outcome := s.run fun a => a.sourceDeasserted src.val
/-- BROKEN_WIRE (R437). -/
def execBrokenWire (src : Fin 128) (level : Bool) (s : State) : Outcome := s.run fun a => a.breakWire src.val level
/-- PAIR_RESTORED (R437). -/
def execPairRestored (src : Fin 128) (s : State) : Outcome := s.run fun a => a.pairRestored src.val
/-- FAULT_L_RELEASE (R441). -/
def execFaultLRelease (s : State) : Outcome := s.run Asic.releaseFaultL
/-- FAULT_L_SOFT_RELEASE (R441). -/
def execFaultLSoftRelease (m : Master) (s : State) : Outcome := s.act fun d => d.command m Reg.FLT_FAULTL.RELEASE 1
/-- FAULT_RECORD_CLOSE (R444). -/
def execFaultRecordClose (s : State) : Outcome := s.run Asic.closeFault
/-- RECOVERY_RUN_RESET (R449). -/
def execRecoveryRunReset (s : State) : Outcome := s.run Asic.runReset
/-- FLT_INJECT (R451). -/
def execFltInject (m : Master) (v : Word) (s : State) : Outcome :=
  s.act fun d => d.write m Reg.FLT_INJ.GO.addr (v.toNat ||| 2 ^ Reg.FLT_INJ.GO.lsb)
/-- FLT_INJECT_STOP (R451). -/
def execFltInjectStop (m : Master) (s : State) : Outcome := s.act fun d => d.command m Reg.FLT_INJ.STOP 1

end Sys2Proof.Machine
end

