-- ==== Sys2Proof/Machine/CmdModes.lean ====
section
/-! DEFINITION. Commands: supply, bring-up, modes, system clock, firmware (chapter 2). One meaning per row of the opcode table, over the shared operations. -/

namespace Sys2Proof.Machine

/-- VIN_QUALIFIED (R52). -/
def execVinQualified (s : State) : Outcome := s.act fun d => d.vinQualified
/-- OVEN_START_CHECK (R202). -/
def execOvenStartCheck (oscA : Bool) (oscB : Bool) (s : State) : Outcome := s.run fun a => a.ovenStart oscA oscB
/-- BKPLL_LOCKED (R55). -/
def execBkpllLocked (s : State) : Outcome := s.run Asic.bkpllLocked
/-- SYSPLL_LOCKED (R55). -/
def execSyspllLocked (s : State) : Outcome := s.run Asic.syspllLocked
/-- CONFIGURATION_LOAD (R55). -/
def execConfigurationLoad (s : State) : Outcome := s.awake fun d => d.configurationLoad
/-- COLD_SEQUENCE_COMPLETE (R55). -/
def execColdSequenceComplete (s : State) : Outcome := s.awake fun d => d.coldComplete
/-- BRACE_ENTRY (R70). -/
def execBraceEntry (vin : BitVec 16) (s : State) : Outcome := s.act fun d => d.braceEntry vin.toNat
/-- BRACE_EXIT (R70). -/
def execBraceExit (vin : BitVec 16) (s : State) : Outcome := s.act fun d => d.braceExit vin.toNat
/-- SHELF_ENTRY (R72). -/
def execShelfEntry (s : State) : Outcome := s.act fun d => d.shelfEntry
/-- KEEP_SECOND_TICK (R261). -/
def execKeepSecondTick (s : State) : Outcome := s.act fun d => d.keepTick
/-- SYSPLL_LOSS_OF_LOCK (R74). -/
def execSyspllLossOfLock (s : State) : Outcome := s.run Asic.syspllLoss
/-- SYSPLL_RELOCK (R30). -/
def execSyspllRelock (s : State) : Outcome := s.run Asic.syspllRelock
/-- SYSPLL_SWITCH_BACK (R75). -/
def execSyspllSwitchBack (s : State) : Outcome := s.run Asic.switchBack
/-- SUSTAINED_FALLBACK (R77). -/
def execSustainedFallback (s : State) : Outcome := s.run Asic.sustainedFallback
/-- PLACEMENT_CHANGE_DEFERRAL_END (R28). -/
def execPlacementChangeDeferralEnd (fn : Placed) (s : State) : Outcome := s.run fun a => a.deferralEnd fn
/-- UNDERLYING_MODE_UPDATE (R51). -/
def execUnderlyingModeUpdate (s : State) : Outcome := s.run Asic.modeUpdate
/-- ANCHOR_CONDITION_MET (R49). -/
def execAnchorConditionMet (c : Fin 8) (s : State) : Outcome := s.run fun a => a.anchorMet c.val
/-- LEAVE_SAFE (R67). -/
def execLeaveSafe (m : Master) (s : State) : Outcome := s.act fun d => d.command m Reg.GLB_MODECMD.CMD 1
/-- ENTER_FACTORY (R67). -/
def execEnterFactory (m : Master) (s : State) : Outcome := s.act fun d => d.command m Reg.GLB_MODECMD.CMD 2
/-- LEAVE_FACTORY (R68). -/
def execLeaveFactory (m : Master) (s : State) : Outcome := s.act fun d => d.command m Reg.GLB_MODECMD.CMD 3
/-- AUTOMATIC_RECOVERY (R449). -/
def execAutomaticRecovery (s : State) : Outcome := s.run Asic.recover
/-- FW_DATA_WRITE (R78). -/
def execFwDataWrite (m : Master) (w : Word) (s : State) : Outcome := s.act fun d => d.write m fwDataAddr w.toNat
/-- FW_ARM (R78). -/
def execFwArm (m : Master) (s : State) : Outcome := s.act fun d => d.command m Reg.GLB_FWCTL.ARM 1
/-- FW_CANCEL (R411). -/
def execFwCancel (m : Master) (s : State) : Outcome := s.act fun d => d.command m Reg.GLB_FWCTL.CANCEL 1
/-- FW_CHECKPOINT_START (R79). -/
def execFwCheckpointStart (s : State) : Outcome := s.run Asic.fwCheckpoint
/-- FW_BANK_SWAP (R79). -/
def execFwBankSwap (s : State) : Outcome := s.run Asic.fwSwap
/-- FW_ALIVE (R79). -/
def execFwAlive (s : State) : Outcome := s.awake fun d => d.firmwareAlive
/-- FW_REVERT (R81). -/
def execFwRevert (s : State) : Outcome := s.awake fun d => d.firmwareRevert
/-- VIN_COMPARATOR_CHANGE (R70). -/
def execVinComparatorChange (vin : BitVec 16) (s : State) : Outcome := s.act fun d => d.vinChange vin.toNat
/-- HOLD_UP_STORE_EXHAUSTED (R72). -/
def execHoldUpStoreExhausted (s : State) : Outcome := s.act fun d => d.holdUpOut
/-- KEEP_ALIVE_RAIL_LOSS (R485). -/
def execKeepAliveRailLoss (s : State) : Outcome := s.act fun d => d.railLoss
/-- VKEEP_LEVEL_CHANGE (R485). -/
def execVkeepLevelChange (good : Bool) (s : State) : Outcome := s.act fun d => d.vkeep good
/-- SEAL_SAMPLE (R414). -/
def execSealSample (reads : Bool) (s : State) : Outcome := s.act fun d => d.sealSample reads
/-- AUTH_ASSERTION (R431). -/
def execAuthAssertion (pin : Bool) (s : State) : Outcome := s.run fun a => a.assertAuth pin
/-- PRESENCE_WINDOW_EXPIRY (R432). -/
def execPresenceWindowExpiry (s : State) : Outcome := s.run Asic.expireWindow

end Sys2Proof.Machine
end

