-- ==== Sys2Proof/Machine/CmdNvm.lean ====
section
/-! DEFINITION. Commands: non-volatile memory and calibration (chapter 18). One meaning per row of the opcode table, over the shared operations. -/

namespace Sys2Proof.Machine

/-- NVM_OPEN (R456). -/
def execNvmOpen (m : Master) (s : State) : Outcome := s.act fun d => d.command m Reg.NVM_CMD.CMD 1
/-- NVM_COMMIT (R456). -/
def execNvmCommit (m : Master) (s : State) : Outcome := s.act fun d => d.command m Reg.NVM_CMD.CMD 2
/-- NVM_CLOSE (R456). -/
def execNvmClose (m : Master) (s : State) : Outcome := s.act fun d => d.command m Reg.NVM_CMD.CMD 3
/-- NVM_UNLOCK (R459). -/
def execNvmUnlock (m : Master) (s : State) : Outcome := s.act fun d => d.command m Reg.NVM_CMD.CMD 4
/-- NVM_LOCK (R459). -/
def execNvmLock (m : Master) (s : State) : Outcome := s.act fun d => d.command m Reg.NVM_CMD.CMD 5
/-- NVM_SAVECFG (R463). -/
def execNvmSavecfg (m : Master) (s : State) : Outcome := s.act fun d => d.command m Reg.NVM_CMD.CMD 6
/-- NVM_READ (R472). -/
def execNvmRead (m : Master) (s : State) : Outcome := s.act fun d => d.command m Reg.NVM_CMD.CMD 7
/-- NVM_BUFFER_WRITE (R456). -/
def execNvmBufferWrite (m : Master) (w : Word) (s : State) : Outcome := s.act fun d => d.write m 0x0E0010 w.toNat
/-- NVM_BUFFER_TIMEOUT (R456). -/
def execNvmBufferTimeout (s : State) : Outcome := s.run Asic.bufferTimeout
/-- NVM_UNLOCK_TIMEOUT (R459). -/
def execNvmUnlockTimeout (m : Master) (s : State) : Outcome := s.run fun a => a.unlockTimeout m
/-- NVM_UNLOCK_LOCKOUT_END (R459). -/
def execNvmUnlockLockoutEnd (part : Fin 4) (s : State) : Outcome := s.run fun a => a.lockoutEnd part.val
/-- NVM_SETPW (R459). -/
def execNvmSetpw (m : Master) (s : State) : Outcome := s.act fun d => d.command m Reg.NVM_PWCMD.SETPW 1
/-- NVM_LOGCLR (R465). -/
def execNvmLogclr (m : Master) (s : State) : Outcome := s.act fun d => d.command m Reg.NVM_PWCMD.LOGCLR 1
/-- NVM_COMMIT_START (R457). -/
def execNvmCommitStart (s : State) : Outcome := s.act fun d => d.commitStart
/-- NVM_COMMIT_COMPLETE (R457). -/
def execNvmCommitComplete (verified : Bool) (s : State) : Outcome := s.act fun d => d.commitComplete verified
/-- NVM_SCRUB (R462). -/
def execNvmScrub (page : Fin 2048) (ecc : Fin 3) (s : State) : Outcome := s.act fun d => d.scrubPage page.val ecc.val
/-- LOG_PAGE_COMMIT (R465). -/
def execLogPageCommit (s : State) : Outcome := s.run Asic.logCommit
/-- HOUR_METER_TICK (R460). -/
def execHourMeterTick (s : State) : Outcome := s.run Asic.hourTick
/-- NVM_PAGE_LOAD_COMPLETE (R472). -/
def execNvmPageLoadComplete (s : State) : Outcome := s.awake fun d => d.loadDone
/-- CAL_GO (R470). -/
def execCalGo (m : Master) (items : BitVec 8) (s : State) : Outcome := s.act fun d => d.write m Reg.CAL_CMD.GO.addr (1 + 256 * items.toNat)
/-- FIELD_STEP_START (R470). -/
def execFieldStepStart (item : Fin 8) (unit : Fin 64) (s : State) : Outcome := s.run fun a => a.stepStart item.val unit.val
/-- FIELD_STEP_RESULT (R469). -/
def execFieldStepResult (value : BitVec 32) (s : State) : Outcome := s.run fun a => a.stepResult value.toInt
/-- FIELD_STEP_ABANDON (R469). -/
def execFieldStepAbandon (s : State) : Outcome := s.run Asic.stepAbandon
/-- CAL_FRESET (R468). -/
def execCalFreset (m : Master) (items : BitVec 8) (s : State) : Outcome := s.act fun d => d.write m Reg.CAL_FRESET.ITEMS.addr items.toNat
/-- TJ_SAMPLE (R467). -/
def execTjSample (tj : BitVec 16) (s : State) : Outcome := s.run fun a => a.tjSample tj.toNat
/-- CAL_PERIOD_ELAPSED (R470). -/
def execCalPeriodElapsed (s : State) : Outcome := s.run Asic.periodElapsed

end Sys2Proof.Machine
end

