-- ==== Sys2Proof/Machine/CmdOut.lean ====
section
/-! DEFINITION. Commands: clock, sampler and pulse outputs (chapter 9). One meaning per row of the opcode table, over the shared operations. -/

namespace Sys2Proof.Machine

/-- OUT_ENABLE_WRITE (R243). -/
def execOutEnableWrite (m : Master) (v : Word) (s : State) : Outcome := s.act fun d => d.write m Reg.OUT_ENA.CLK.addr v.toNat
/-- DIVIDER_SYNC (R246). -/
def execDividerSync (o : Fin 24) (stretched : Bool) (s : State) : Outcome := s.run fun a => a.dividerSync o.val stretched
/-- OUT_SYNC_COMMAND (R246). -/
def execOutSyncCommand (m : Master) (s : State) : Outcome := s.act fun d => d.command m Reg.OUT_CMD.SYNC 1
/-- SYNC_L_EDGE (R247). -/
def execSyncLEdge (s : State) : Outcome := s.run Asic.syncLEdge
/-- SAFE_LEVEL_CHANGE (R241). -/
def execSafeLevelChange (o : Fin 24) (s : State) : Outcome := s.run fun a => a.safeLevel o.val
/-- OUT_SKIM_WRITE (R248). -/
def execOutSkimWrite (m : Master) (o : Fin 24) (v : Word) (s : State) : Outcome :=
  s.act fun d => d.write m (Reg.OUT_SKIM.TARGET o.val).addr v.toNat
/-- PLS_RELAY_EDGE (R252). -/
def execPlsRelayEdge (p : Fin 4) (bin : Fin 256) (s : State) : Outcome := s.run fun a => a.plsRelayEdge p.val bin.val
/-- PLS_TRACK_SLOT (R253). -/
def execPlsTrackSlot (p : Fin 4) (s : State) : Outcome := s.run fun a => a.plsTrackSlot p.val
/-- PLS_PULSE_END (R254). -/
def execPlsPulseEnd (p : Fin 4) (s : State) : Outcome := s.run fun a => a.plsPulseEnd p.val
/-- OUTPUT_DRIVER_FAULT (R438). -/
def execOutputDriverFault (o : Fin 36) (kind : Fin 3) (s : State) : Outcome := s.run fun a => a.driverFault o.val kind.val
/-- SKIM_TARGET_REACHED (R248). -/
def execSkimTargetReached (o : Fin 24) (s : State) : Outcome := s.run fun a => a.skimReached o.val

end Sys2Proof.Machine
end

