-- ==== Sys2Proof/Machine/CmdOvn.lean ====
section
/-! DEFINITION. Commands: oven oscillators (chapter 7). One meaning per row of the opcode table, over the shared operations. -/

namespace Sys2Proof.Machine

/-- OVEN_TEMPERATURE_SAMPLE (R192). -/
def execOvenTemperatureSample (o : Fin 2) (inner : BitVec 16) (outer : BitVec 16) (power : BitVec 16) (osc : Bool) (s : State) : Outcome :=
  s.run fun a => a.ovenTemperature o.val inner.toNat outer.toNat power.toNat osc
/-- BOARD_TEMP_SAMPLE (R194). -/
def execBoardTempSample (t : BitVec 16) (s : State) : Outcome := s.run fun a => a.boardTemp t.toNat
/-- OVEN_MODEL_EVALUATE (R194). -/
def execOvenModelEvaluate (s : State) : Outcome := s.run Asic.ovenEvaluate
/-- OVEN_HOURLY_POINT (R195). -/
def execOvenHourlyPoint (s : State) : Outcome := s.run Asic.ovenHour
/-- OVEN_MODEL_COMMIT (R197). -/
def execOvenModelCommit (s : State) : Outcome := s.run Asic.ovenModelCommit
/-- OVEN_FAULT (R200). -/
def execOvenFault (o : Fin 2) (cause : Fin 5) (s : State) : Outcome := s.run fun a => a.ovenFault o.val cause.val
/-- OVEN_FAULT_CLEAR (R200). -/
def execOvenFaultClear (o : Fin 2) (s : State) : Outcome := s.run fun a => a.ovenFaultClear o.val
/-- OVEN_HANDOVER_GO (R204). -/
def execOvenHandoverGo (m : Master) (v : Word) (s : State) : Outcome :=
  s.act fun d => d.write m Reg.CAL_OVHO.GO.addr (v.toNat ||| 2 ^ Reg.CAL_OVHO.GO.lsb)
/-- OVEN_HANDOVER_SWITCH (R204). -/
def execOvenHandoverSwitch (s : State) : Outcome := s.run Asic.ovenHoSwitch
/-- OVEN_EMERGENCY_HANDOVER (R205). -/
def execOvenEmergencyHandover (s : State) : Outcome := s.run Asic.emergencyOven
/-- OVEN_HANDOVER_SETTLED (R204). -/
def execOvenHandoverSettled (s : State) : Outcome := s.run Asic.ovenSettledAll

end Sys2Proof.Machine
end

