-- ==== Sys2Proof/Machine/CmdPrt.lean ====
section
/-! DEFINITION. Commands: network ports and PTP (chapter 12). One meaning per row of the opcode table, over the shared operations. -/

namespace Sys2Proof.Machine

/-- LINK_UP (R305). -/
def execLinkUp (p : Fin 7) (s : State) : Outcome := s.run fun a => a.linkUpAll p.val
/-- LINK_DOWN (R305). -/
def execLinkDown (p : Fin 7) (hiBer : Bool) (fecLock : Bool) (s : State) : Outcome := s.run fun a => a.linkDownAll p.val hiBer fecLock
/-- FRAME_RECEIVED (R306). -/
def execFrameReceived (p : PortNo) (f : Frame) (pos : BitVec 18) (cor : BitVec 16) (unc : BitVec 16) (s : State) : Outcome :=
  s.run fun a => a.frameReceived p f pos.toNat cor.toNat unc.toNat
/-- PTP_MESSAGE_RECEIVED (R315). -/
def execPtpMessageReceived (p : PortNo) (bmca : Bmca) (s : State) : Outcome := s.run fun a => a.ptpMessage p bmca
/-- PTP_SCHEDULED_SEND (R315). -/
def execPtpScheduledSend (p : PortNo) (kind : Fin 16) (pos : BitVec 18) (s : State) : Outcome :=
  s.run fun a => a.scheduledSend p kind.val pos.toNat
/-- HKC_MESSAGE_SEND (R315). -/
def execHkcMessageSend (p : PortNo) (kind : Fin 16) (pos : BitVec 18) (s : State) : Outcome := s.run fun a => a.hkcSend p kind.val pos.toNat
/-- PTP_EXCHANGE_COMPLETE (R316). -/
def execPtpExchangeComplete (p : PortNo) (s : State) : Outcome := s.run fun a => a.exchangeComplete p
/-- PTP_GRID_SAMPLE (R317). -/
def execPtpGridSample (p : PortNo) (s : State) : Outcome := s.run fun a => a.gridSample p
/-- PTP_FAULTY_EXIT (R315). -/
def execPtpFaultyExit (p : PortNo) (s : State) : Outcome := s.run fun a => a.faultyExit p
/-- ANNOUNCE_RECEIPT_TIMEOUT (R313). -/
def execAnnounceReceiptTimeout (p : PortNo) (s : State) : Outcome := s.run fun a => a.announceExpired p
/-- CUT_THROUGH_FRAME (R321). -/
def execCutThroughFrame (p : PortNo) (f : Frame) (pos : BitVec 18) (transit : BitVec 32) (cut : Bool) (s : State) : Outcome :=
  s.run fun a => a.cutThrough p f pos.toNat transit.toNat cut
/-- ESMC_SEND (R324). -/
def execEsmcSend (p : PortNo) (pos : BitVec 18) (s : State) : Outcome := s.run fun a => a.esmcSend p pos.toNat
/-- ESMC_PDU_RECEIVED (R324). -/
def execEsmcPduReceived (p : PortNo) (ssm : Fin 16) (s : State) : Outcome := s.run fun a => a.esmcReceived p ssm.val
/-- ESMC_TIMEOUT (R324). -/
def execEsmcTimeout (p : PortNo) (s : State) : Outcome := s.run fun a => a.esmcTimeout p
/-- PORT_CONFIG_WRITE (R307). -/
def execPortConfigWrite (m : Master) (p : PortNo) (v : Word) (s : State) : Outcome :=
  s.act fun d => d.write m (Reg.PRT_CFG.EN p).addr v.toNat
/-- PASS_APPLY (R326). -/
def execPassApply (pair : Fin 3) (s : State) : Outcome := s.run fun a => a.passApply pair.val

end Sys2Proof.Machine
end

