-- ==== Sys2Proof/Machine/CmdRec.lean ====
section
/-! DEFINITION. Commands: records, the arbiter and DMA (chapter 14). One meaning per row of the opcode table, over the shared operations. -/

namespace Sys2Proof.Machine

/-- RECORD_GRANT (R362). -/
def execRecordGrant (stuck : Bool) (s : State) : Outcome := s.run fun a => a.recordGrant stuck
/-- STARVATION (R367). -/
def execStarvation (q : Fin 16) (s : State) : Outcome := s.run fun a => a.starvation q.val
/-- HOLD_LIMIT (R368). -/
def execHoldLimit (q : Fin 16) (s : State) : Outcome := s.run fun a => a.holdLimit q.val
/-- HOLD_WATCHDOG (R368). -/
def execHoldWatchdog (q : Fin 16) (s : State) : Outcome := s.run fun a => a.holdWatchdog q.val
/-- REC_UNMASK (R368). -/
def execRecUnmask (m : Master) (slots : BitVec 16) (s : State) : Outcome := s.act fun d => d.command m Reg.REC_CMD.UNMASK slots.toNat
/-- REC_COUNTER_CLEAR (R366). -/
def execRecCounterClear (m : Master) (slots : BitVec 16) (s : State) : Outcome := s.act fun d => d.command m Reg.REC_CMD.CLR slots.toNat
/-- DMA_BURST (R372). -/
def execDmaBurst (s : State) : Outcome := s.awake fun d => d.dmaBurst
/-- DMA_FLUSH_TIMER (R372). -/
def execDmaFlushTimer (c : Fin 8) (s : State) : Outcome := s.run fun a => a.flushTimer c.val
/-- DMA_FLUSH (R372). -/
def execDmaFlush (m : Master) (c : Fin 8) (s : State) : Outcome := s.act fun d => d.command m (Reg.DMA_CHCMD.FLUSH c.val) 1
/-- DMA_TAIL_WRITE (R371). -/
def execDmaTailWrite (m : Master) (c : Fin 8) (v : Word) (s : State) : Outcome :=
  s.act fun d => d.write m (Reg.DMA_CHTAIL.TAIL c.val).addr v.toNat
/-- DESCRIPTOR_COMPLETE (R374). -/
def execDescriptorComplete (c : Fin 8) (s : State) : Outcome := s.run fun a => a.descComplete c.val
/-- BURST_ACKNOWLEDGED (R377). -/
def execBurstAcknowledged (c : Fin 8) (s : State) : Outcome := s.run fun a => a.burstAck c.val
/-- DMA_RESUME (R377). -/
def execDmaResume (m : Master) (c : Fin 8) (s : State) : Outcome := s.act fun d => d.command m (Reg.DMA_CHCMD.RESUME c.val) 1
/-- DMA_DISCARD (R382). -/
def execDmaDiscard (m : Master) (c : Fin 8) (s : State) : Outcome := s.act fun d => d.command m (Reg.DMA_CHCMD.DISCARD c.val) 1
/-- DMA_ENABLE_WRITE (R382). -/
def execDmaEnableWrite (m : Master) (c : Fin 8) (v : Word) (s : State) : Outcome :=
  s.act fun d => d.write m (Reg.DMA_CHCFG.EN c.val).addr v.toNat
/-- HKC_DESCRIPTOR_POST (R371). -/
def execHkcDescriptorPost (c : Fin 8) (w0 : Word) (w1 : Word) (w2 : Word) (s : State) : Outcome := s.run fun a => a.postDesc c.val w0 w1 w2

end Sys2Proof.Machine
end

