-- ==== Sys2Proof/Machine/CmdRef.lean ====
section
/-! DEFINITION. Commands: reference inputs (chapter 3). One meaning per row of the opcode table, over the shared operations. -/

namespace Sys2Proof.Machine

/-- REF_EDGE (R89). -/
def execRefEdge (i : Fin 24) (bin : Fin 256) (target : Fin 256) (s : State) : Outcome := s.run fun a => a.refEdge i.val bin.val target.val
/-- PRESENCE_WINDOW_END (R90). -/
def execPresenceWindowEnd (i : Fin 24) (s : State) : Outcome := s.run fun a => a.presenceWindowEnd i.val
/-- LANE_CAL_START (R96). -/
def execLaneCalStart (n : Fin 28) (s : State) : Outcome := s.run fun a => a.laneCalStart n.val
/-- LANE_CAL_TABLE_COMPUTED (R96). -/
def execLaneCalTableComputed (n : Fin 28) (span : BitVec 16) (widest : BitVec 16) (bounds : List Nat) (s : State) : Outcome :=
  s.run fun a => a.laneTable n.val span.toNat widest.toNat bounds
/-- LANE_TABLE_SWITCH (R96). -/
def execLaneTableSwitch (n : Fin 28) (s : State) : Outcome := s.run fun a => a.laneTableSwitch n.val
/-- LANE_HANDOVER_GO (R98). -/
def execLaneHandoverGo (m : Master) (v : Word) (s : State) : Outcome :=
  s.act fun d => d.write m Reg.REF_LANEHO.GO.addr (v.toNat ||| 2 ^ Reg.REF_LANEHO.GO.lsb)
/-- LANE_HANDOVER_CUTOVER (R98). -/
def execLaneHandoverCutover (s : State) : Outcome := s.run Asic.laneHoCutover
/-- TICK_END (R101). -/
def execTickEnd (s : State) : Outcome := s.run fun a => a.tickEnd.watchStep
/-- FREQ_MONITOR_WINDOW_END (R104). -/
def execFreqMonitorWindowEnd (i : Fin 24) (s : State) : Outcome := s.run fun a => a.freqWindowEnd i.val
/-- CALPPS_EDGE (R103). -/
def execCalppsEdge (offset : Int) (s : State) : Outcome := s.run fun a => a.calppsEdgeAll offset
/-- REF_CONFIG_WRITE (R107). -/
def execRefConfigWrite (m : Master) (i : Fin 24) (reg : Fin 3) (v : Word) (s : State) : Outcome :=
  s.act fun d => d.write m ((Reg.REF_CFG.EN i.val).addr + 4 * reg.val) v.toNat
/-- PHASE_RECORD (R108). -/
def execPhaseRecord (i : Fin 24) (s : State) : Outcome := s.run fun a => a.phaseRecord i.val

end Sys2Proof.Machine
end

