-- ==== Sys2Proof/Machine/CmdRly.lean ====
section
/-! DEFINITION. Commands: Rally, MATE and impairment (chapter 13). One meaning per row of the opcode table, over the shared operations. -/

namespace Sys2Proof.Machine

/-- RALLY_FRAME_SEND (R329). -/
def execRallyFrameSend (i : Fin 7) (pos : BitVec 18) (s : State) : Outcome := s.run fun a => a.rallySend i.val pos.toNat
/-- RALLY_FRAME_RECEIVED (R329). -/
def execRallyFrameReceived (i : Fin 7) (f : RallyFrame) (pos : BitVec 18) (s : State) : Outcome :=
  s.run fun a => a.rallyReceived i.val f pos.toNat
/-- RALLY_SAMPLE (R331). -/
def execRallySample (i : Fin 7) (edges : BitVec 32) (phi : BitVec 64) (psi : BitVec 64) (s : State) : Outcome :=
  s.run fun a => a.rallySample i.val edges.toNat phi.toNat psi.toNat
/-- RALLY_PARTNER_TIMEOUT (R335). -/
def execRallyPartnerTimeout (i : Fin 7) (s : State) : Outcome := s.run fun a => a.rallyTimeout i.val
/-- RALLY_ACAL_GO (R339). -/
def execRallyAcalGo (m : Master) (i : Fin 7) (v : Word) (s : State) : Outcome :=
  s.act fun d => d.write m (Reg.RLY_ACAL.GO i.val).addr (v.toNat ||| 2 ^ (Reg.RLY_ACAL.GO i.val).lsb)
/-- RALLY_ACAL_END (R339). -/
def execRallyAcalEnd (i : Fin 7) (s : State) : Outcome := s.run fun a => a.acalEnd i.val
/-- HEARTBEAT_SEND (R340). -/
def execHeartbeatSend (s : State) : Outcome := s.run Asic.heartbeatSend
/-- HEARTBEAT_RECEIVED (R342). -/
def execHeartbeatReceived (h : Heartbeat) (s : State) : Outcome := s.run fun a => a.heartbeatReceived h
/-- MATE_READY (R341). -/
def execMateReady (s : State) : Outcome := s.run Asic.mateReady
/-- HEARTBEAT_LOSS (R344). -/
def execHeartbeatLoss (s : State) : Outcome := s.run Asic.heartbeatLoss
/-- MATE_RELINQUISH (R346). -/
def execMateRelinquish (m : Master) (s : State) : Outcome := s.act fun d => d.command m Reg.RLY_MATECMD.RELINQ 1
/-- MATE_TAKE (R346). -/
def execMateTake (m : Master) (s : State) : Outcome := s.act fun d => d.command m Reg.RLY_MATECMD.TAKE 1
/-- MATE_PLANNED_HANDOVER (R346). -/
def execMatePlannedHandover (s : State) : Outcome := s.run Asic.plannedHandover
/-- SEAL_LOOP_OPEN (R345). -/
def execSealLoopOpen (s : State) : Outcome := s.run fun a => a.sealLoop true
/-- SEAL_LOOP_CLOSE (R345). -/
def execSealLoopClose (s : State) : Outcome := s.run fun a => a.sealLoop false
/-- IMP_ARM (R349). -/
def execImpArm (m : Master) (p : PortNo) (s : State) : Outcome := s.act fun d => d.command m (Reg.RLY_IMPCMD.ARM p) 1
/-- IMP_DISARM (R349). -/
def execImpDisarm (m : Master) (p : PortNo) (s : State) : Outcome := s.act fun d => d.command m (Reg.RLY_IMPCMD.DISARM p) 1
/-- IMP_DURATION_END (R349). -/
def execImpDurationEnd (p : PortNo) (s : State) : Outcome := s.run fun a => a.impExpire p
/-- REORDER_RELEASE (R350). -/
def execReorderRelease (p : PortNo) (egress : Bool) (pos : BitVec 18) (s : State) : Outcome :=
  s.run fun a => a.reorderRelease p egress pos.toNat

end Sys2Proof.Machine
end

