-- ==== Sys2Proof/Machine/CmdTsc.lean ====
section
/-! DEFINITION. Commands: time scales, servos and triggers (chapter 10). One meaning per row of the opcode table, over the shared operations. -/

namespace Sys2Proof.Machine

/-- SCALE_SECOND_BOUNDARY (R258). -/
def execScaleSecondBoundary (k : Fin 4) (s : State) : Outcome := s.awake fun d => d.scaleBoundary k.val
/-- TSC_SNAPSHOT (R263). -/
def execTscSnapshot (m : Master) (v : Word) (s : State) : Outcome :=
  s.act fun d => d.write m Reg.TSC_SNAP.GO.addr (v.toNat ||| 2 ^ Reg.TSC_SNAP.GO.lsb)
/-- TSC_CANCEL (R264). -/
def execTscCancel (m : Master) (k : Fin 4) (s : State) : Outcome := s.act fun d => d.command m (Reg.TSC_CMD.CMD k.val) 0
/-- TSC_SETNOW (R264). -/
def execTscSetnow (m : Master) (k : Fin 4) (s : State) : Outcome := s.act fun d => d.command m (Reg.TSC_CMD.CMD k.val) 1
/-- TSC_SETSEC (R264). -/
def execTscSetsec (m : Master) (k : Fin 4) (s : State) : Outcome := s.act fun d => d.command m (Reg.TSC_CMD.CMD k.val) 2
/-- TSC_STEP (R264). -/
def execTscStep (m : Master) (k : Fin 4) (s : State) : Outcome := s.act fun d => d.command m (Reg.TSC_CMD.CMD k.val) 3
/-- SERVO_SAMPLE (R268). -/
def execServoSample (k : Fin 4) (s : State) : Outcome := s.run fun a => a.servoSampleAll k.val
/-- SERVO_COAST (R269). -/
def execServoCoast (k : Fin 4) (s : State) : Outcome := s.run fun a => a.servoCoast k.val
/-- TSC_SWOFF_WRITE (R266). -/
def execTscSwoffWrite (m : Master) (k : Fin 4) (v : Word) (s : State) : Outcome :=
  s.act fun d => d.write m (Reg.TSC_SWOFFHI.OFF k.val).addr v.toNat
/-- TRG_ARM (R273). -/
def execTrgArm (m : Master) (n : Fin 8) (s : State) : Outcome := s.act fun d => d.command m (Reg.TRG_CMD.ARM n.val) 1
/-- TRG_DISARM (R273). -/
def execTrgDisarm (m : Master) (n : Fin 8) (s : State) : Outcome := s.act fun d => d.command m (Reg.TRG_CMD.DISARM n.val) 1
/-- TRIGGER_HANDOVER (R274). -/
def execTriggerHandover (n : Fin 8) (s : State) : Outcome := s.run fun a => a.trigHandover n.val
/-- TRIGGER_EDGE (R273). -/
def execTriggerEdge (n : Fin 8) (s : State) : Outcome := s.run fun a => a.trigEdge n.val
/-- TRG_PULSE_END (R272). -/
def execTrgPulseEnd (n : Fin 8) (s : State) : Outcome := s.run fun a => a.trigPulseEnd n.val

end Sys2Proof.Machine
end

