-- ==== Sys2Proof/Machine/CmdUmp.lean ====
section
/-! DEFINITION. Commands: the Umpire and the Ledger (chapters 4 and 5). One meaning per row of the opcode table, over the shared operations. -/

namespace Sys2Proof.Machine

/-- UMPIRE_EVALUATION (R113). -/
def execUmpireEvaluation (s : State) : Outcome := s.run Asic.umpireEvaluation
/-- SWITCH_TAKE_EFFECT (R132). -/
def execSwitchTakeEffect (c : Fin 8) (s : State) : Outcome := s.run fun a => a.switchTake c.val
/-- UMP_DISQ (R113). -/
def execUmpDisq (m : Master) (i : Fin 24) (s : State) : Outcome := s.act fun d => d.command m (Reg.UMP_ICMD.DISQ i.val) 1
/-- UMP_REQUAL (R113). -/
def execUmpRequal (m : Master) (i : Fin 24) (s : State) : Outcome := s.act fun d => d.command m (Reg.UMP_ICMD.REQUAL i.val) 1
/-- UMP_OVERRIDE_WRITE (R127). -/
def execUmpOverrideWrite (m : Master) (c : Fin 8) (v : Word) (s : State) : Outcome :=
  s.act fun d => d.write m (Reg.UMP_OVR.INDEX c.val).addr v.toNat
/-- UMP_RANK_WRITE (R125). -/
def execUmpRankWrite (m : Master) (c : Fin 8) (k : Fin 3) (v : Word) (s : State) : Outcome :=
  s.act fun d => d.write m ((rankAddr c.val) + 4 * k.val) v.toNat
/-- UMP_REEVAL (R137). -/
def execUmpReeval (m : Master) (c : Fin 8) (s : State) : Outcome := s.act fun d => d.command m (Reg.UMP_CHCMD.REEVAL c.val) 1
/-- UMP_BOCLR (R135). -/
def execUmpBoclr (m : Master) (c : Fin 8) (s : State) : Outcome := s.act fun d => d.command m (Reg.UMP_CHCMD.BOCLR c.val) 1
/-- BOCLR_APPLY (R135). -/
def execBoclrApply (c : Fin 8) (s : State) : Outcome := s.run fun a => a.boclrApply c.val
/-- LEDGER_PASS (R151). -/
def execLedgerPass (s : State) : Outcome := s.run Asic.ledgerPass
/-- SNAPSHOT_TAKE (R156). -/
def execSnapshotTake (m : Master) (s : State) : Outcome := s.act fun d => d.command m Reg.LDG_SNAPCTL.TAKE 1
/-- LDG_RST_GO (R144). -/
def execLdgRstGo (m : Master) (v : Word) (s : State) : Outcome :=
  s.act fun d => d.write m Reg.LDG_RST.GO.addr (v.toNat ||| 2 ^ Reg.LDG_RST.GO.lsb)

end Sys2Proof.Machine
end

