-- ==== Sys2Proof/Machine/Dispatch.lean ====
section
/-! DEFINITION. One arm per command, each one call of its meaning. -/

namespace Sys2Proof.Machine

def exec (command : Instr) (s : State) : Host.Outcome State Fault Refusal :=
  match command with
  | .vinQualified => Sys2Proof.Machine.execVinQualified s
  | .ovenStartCheck oscA oscB => Sys2Proof.Machine.execOvenStartCheck oscA oscB s
  | .bkpllLocked => Sys2Proof.Machine.execBkpllLocked s
  | .syspllLocked => Sys2Proof.Machine.execSyspllLocked s
  | .configurationLoad => Sys2Proof.Machine.execConfigurationLoad s
  | .coldSequenceComplete => Sys2Proof.Machine.execColdSequenceComplete s
  | .braceEntry vin => Sys2Proof.Machine.execBraceEntry vin s
  | .braceExit vin => Sys2Proof.Machine.execBraceExit vin s
  | .shelfEntry => Sys2Proof.Machine.execShelfEntry s
  | .keepSecondTick => Sys2Proof.Machine.execKeepSecondTick s
  | .syspllLossOfLock => Sys2Proof.Machine.execSyspllLossOfLock s
  | .syspllRelock => Sys2Proof.Machine.execSyspllRelock s
  | .syspllSwitchBack => Sys2Proof.Machine.execSyspllSwitchBack s
  | .sustainedFallback => Sys2Proof.Machine.execSustainedFallback s
  | .placementChangeDeferralEnd fn => Sys2Proof.Machine.execPlacementChangeDeferralEnd fn s
  | .underlyingModeUpdate => Sys2Proof.Machine.execUnderlyingModeUpdate s
  | .anchorConditionMet c => Sys2Proof.Machine.execAnchorConditionMet c s
  | .leaveSafe m => Sys2Proof.Machine.execLeaveSafe m s
  | .enterFactory m => Sys2Proof.Machine.execEnterFactory m s
  | .leaveFactory m => Sys2Proof.Machine.execLeaveFactory m s
  | .automaticRecovery => Sys2Proof.Machine.execAutomaticRecovery s
  | .fwDataWrite m w => Sys2Proof.Machine.execFwDataWrite m w s
  | .fwArm m => Sys2Proof.Machine.execFwArm m s
  | .fwCancel m => Sys2Proof.Machine.execFwCancel m s
  | .fwCheckpointStart => Sys2Proof.Machine.execFwCheckpointStart s
  | .fwBankSwap => Sys2Proof.Machine.execFwBankSwap s
  | .fwAlive => Sys2Proof.Machine.execFwAlive s
  | .fwRevert => Sys2Proof.Machine.execFwRevert s
  | .refEdge i bin target => Sys2Proof.Machine.execRefEdge i bin target s
  | .presenceWindowEnd i => Sys2Proof.Machine.execPresenceWindowEnd i s
  | .laneCalStart n => Sys2Proof.Machine.execLaneCalStart n s
  | .laneCalTableComputed n span widest bounds => Sys2Proof.Machine.execLaneCalTableComputed n span widest bounds s
  | .laneTableSwitch n => Sys2Proof.Machine.execLaneTableSwitch n s
  | .laneHandoverGo m v => Sys2Proof.Machine.execLaneHandoverGo m v s
  | .laneHandoverCutover => Sys2Proof.Machine.execLaneHandoverCutover s
  | .tickEnd => Sys2Proof.Machine.execTickEnd s
  | .freqMonitorWindowEnd i => Sys2Proof.Machine.execFreqMonitorWindowEnd i s
  | .calppsEdge offset => Sys2Proof.Machine.execCalppsEdge offset s
  | .refConfigWrite m i reg v => Sys2Proof.Machine.execRefConfigWrite m i reg v s
  | .phaseRecord i => Sys2Proof.Machine.execPhaseRecord i s
  | .umpireEvaluation => Sys2Proof.Machine.execUmpireEvaluation s
  | .switchTakeEffect c => Sys2Proof.Machine.execSwitchTakeEffect c s
  | .umpDisq m i => Sys2Proof.Machine.execUmpDisq m i s
  | .umpRequal m i => Sys2Proof.Machine.execUmpRequal m i s
  | .umpOverrideWrite m c v => Sys2Proof.Machine.execUmpOverrideWrite m c v s
  | .umpRankWrite m c k v => Sys2Proof.Machine.execUmpRankWrite m c k v s
  | .umpReeval m c => Sys2Proof.Machine.execUmpReeval m c s
  | .umpBoclr m c => Sys2Proof.Machine.execUmpBoclr m c s
  | .boclrApply c => Sys2Proof.Machine.execBoclrApply c s
  | .ledgerPass => Sys2Proof.Machine.execLedgerPass s
  | .snapshotTake m => Sys2Proof.Machine.execSnapshotTake m s
  | .ldgRstGo m v => Sys2Proof.Machine.execLdgRstGo m v s
  | .dpllUpdate c check same => Sys2Proof.Machine.execDpllUpdate c check same s
  | .dpllEnWrite m c v => Sys2Proof.Machine.execDpllEnWrite m c v s
  | .dpllForceAuto m c => Sys2Proof.Machine.execDpllForceAuto m c s
  | .dpllForceFreerun m c => Sys2Proof.Machine.execDpllForceFreerun m c s
  | .dpllForceHoldover m c => Sys2Proof.Machine.execDpllForceHoldover m c s
  | .holdoverModelUpdate c => Sys2Proof.Machine.execHoldoverModelUpdate c s
  | .historyEntryClose c => Sys2Proof.Machine.execHistoryEntryClose c s
  | .dplHocfgWrite m c reg v => Sys2Proof.Machine.execDplHocfgWrite m c reg v s
  | .dplLoopWrite m c reg v => Sys2Proof.Machine.execDplLoopWrite m c reg v s
  | .holdoverLimit c => Sys2Proof.Machine.execHoldoverLimit c s
  | .dpllTelemetryRecord c => Sys2Proof.Machine.execDpllTelemetryRecord c s
  | .autoMigrationLoad c => Sys2Proof.Machine.execAutoMigrationLoad c s
  | .dpllMigrationGo m v => Sys2Proof.Machine.execDpllMigrationGo m v s
  | .migrationStart => Sys2Proof.Machine.execMigrationStart s
  | .migrationCutover => Sys2Proof.Machine.execMigrationCutover s
  | .ovenTemperatureSample o inner outer power osc => Sys2Proof.Machine.execOvenTemperatureSample o inner outer power osc s
  | .boardTempSample t => Sys2Proof.Machine.execBoardTempSample t s
  | .ovenModelEvaluate => Sys2Proof.Machine.execOvenModelEvaluate s
  | .ovenHourlyPoint => Sys2Proof.Machine.execOvenHourlyPoint s
  | .ovenModelCommit => Sys2Proof.Machine.execOvenModelCommit s
  | .ovenFault o cause => Sys2Proof.Machine.execOvenFault o cause s
  | .ovenFaultClear o => Sys2Proof.Machine.execOvenFaultClear o s
  | .ovenHandoverGo m v => Sys2Proof.Machine.execOvenHandoverGo m v s
  | .ovenHandoverSwitch => Sys2Proof.Machine.execOvenHandoverSwitch s
  | .ovenEmergencyHandover => Sys2Proof.Machine.execOvenEmergencyHandover s
  | .ovenHandoverSettled => Sys2Proof.Machine.execOvenHandoverSettled s
  | .bandStepComplete u band miss => Sys2Proof.Machine.execBandStepComplete u band miss s
  | .apllLockDeclared u => Sys2Proof.Machine.execApllLockDeclared u s
  | .apllLossOfLock u => Sys2Proof.Machine.execApllLossOfLock u s
  | .apllRelockStart u => Sys2Proof.Machine.execApllRelockStart u s
  | .substitutionRestart f => Sys2Proof.Machine.execSubstitutionRestart f s
  | .aplHopGo m v => Sys2Proof.Machine.execAplHopGo m v s
  | .hopStart => Sys2Proof.Machine.execHopStart s
  | .hopOutputRestart f => Sys2Proof.Machine.execHopOutputRestart f s
  | .glideEnd f => Sys2Proof.Machine.execGlideEnd f s
  | .hopTableClear m => Sys2Proof.Machine.execHopTableClear m s
  | .apllRelock m mask => Sys2Proof.Machine.execApllRelock m mask s
  | .apllHandoverGo m v => Sys2Proof.Machine.execApllHandoverGo m v s
  | .apllTrimMeasurement diff => Sys2Proof.Machine.execApllTrimMeasurement diff s
  | .apllHandoverSwitch => Sys2Proof.Machine.execApllHandoverSwitch s
  | .aplSpareWrite m v => Sys2Proof.Machine.execAplSpareWrite m v s
  | .outEnableWrite m v => Sys2Proof.Machine.execOutEnableWrite m v s
  | .dividerSync o stretched => Sys2Proof.Machine.execDividerSync o stretched s
  | .outSyncCommand m => Sys2Proof.Machine.execOutSyncCommand m s
  | .syncLEdge => Sys2Proof.Machine.execSyncLEdge s
  | .safeLevelChange o => Sys2Proof.Machine.execSafeLevelChange o s
  | .outSkimWrite m o v => Sys2Proof.Machine.execOutSkimWrite m o v s
  | .plsRelayEdge p bin => Sys2Proof.Machine.execPlsRelayEdge p bin s
  | .plsTrackSlot p => Sys2Proof.Machine.execPlsTrackSlot p s
  | .plsPulseEnd p => Sys2Proof.Machine.execPlsPulseEnd p s
  | .outputDriverFault o kind => Sys2Proof.Machine.execOutputDriverFault o kind s
  | .scaleSecondBoundary k => Sys2Proof.Machine.execScaleSecondBoundary k s
  | .tscSnapshot m v => Sys2Proof.Machine.execTscSnapshot m v s
  | .tscCancel m k => Sys2Proof.Machine.execTscCancel m k s
  | .tscSetnow m k => Sys2Proof.Machine.execTscSetnow m k s
  | .tscSetsec m k => Sys2Proof.Machine.execTscSetsec m k s
  | .tscStep m k => Sys2Proof.Machine.execTscStep m k s
  | .servoSample k => Sys2Proof.Machine.execServoSample k s
  | .servoCoast k => Sys2Proof.Machine.execServoCoast k s
  | .tscSwoffWrite m k v => Sys2Proof.Machine.execTscSwoffWrite m k v s
  | .trgArm m n => Sys2Proof.Machine.execTrgArm m n s
  | .trgDisarm m n => Sys2Proof.Machine.execTrgDisarm m n s
  | .triggerHandover n => Sys2Proof.Machine.execTriggerHandover n s
  | .triggerEdge n => Sys2Proof.Machine.execTriggerEdge n s
  | .evtEdge n falling ramp sat => Sys2Proof.Machine.execEvtEdge n falling ramp sat s
  | .acceptanceWindowClose n => Sys2Proof.Machine.execAcceptanceWindowClose n s
  | .egArm m g => Sys2Proof.Machine.execEgArm m g s
  | .egDisarm m g => Sys2Proof.Machine.execEgDisarm m g s
  | .gateOpen g => Sys2Proof.Machine.execGateOpen g s
  | .gateClose g => Sys2Proof.Machine.execGateClose g s
  | .measurementComplete g => Sys2Proof.Machine.execMeasurementComplete g s
  | .measurementTimeout g => Sys2Proof.Machine.execMeasurementTimeout g s
  | .settleEnd g => Sys2Proof.Machine.execSettleEnd g s
  | .egTmoWrite m g v => Sys2Proof.Machine.execEgTmoWrite m g v s
  | .egConfigWrite m g reg v => Sys2Proof.Machine.execEgConfigWrite m g reg v s
  | .tacCalStart t => Sys2Proof.Machine.execTacCalStart t s
  | .tacCalTableComputed t lsb corr => Sys2Proof.Machine.execTacCalTableComputed t lsb corr s
  | .tacTableSwitch t => Sys2Proof.Machine.execTacTableSwitch t s
  | .tacHandoverGo m v => Sys2Proof.Machine.execTacHandoverGo m v s
  | .tacHandoverTableAccepted lsb corr => Sys2Proof.Machine.execTacHandoverTableAccepted lsb corr s
  | .tacHandoverCutover => Sys2Proof.Machine.execTacHandoverCutover s
  | .evtConfigWrite m n v => Sys2Proof.Machine.execEvtConfigWrite m n v s
  | .linkUp p => Sys2Proof.Machine.execLinkUp p s
  | .linkDown p hiBer fecLock => Sys2Proof.Machine.execLinkDown p hiBer fecLock s
  | .frameReceived p f pos cor unc => Sys2Proof.Machine.execFrameReceived p f pos cor unc s
  | .ptpMessageReceived p bmca => Sys2Proof.Machine.execPtpMessageReceived p bmca s
  | .ptpScheduledSend p kind pos => Sys2Proof.Machine.execPtpScheduledSend p kind pos s
  | .hkcMessageSend p kind pos => Sys2Proof.Machine.execHkcMessageSend p kind pos s
  | .ptpExchangeComplete p => Sys2Proof.Machine.execPtpExchangeComplete p s
  | .ptpGridSample p => Sys2Proof.Machine.execPtpGridSample p s
  | .ptpFaultyExit p => Sys2Proof.Machine.execPtpFaultyExit p s
  | .announceReceiptTimeout p => Sys2Proof.Machine.execAnnounceReceiptTimeout p s
  | .cutThroughFrame p f pos transit cut => Sys2Proof.Machine.execCutThroughFrame p f pos transit cut s
  | .esmcSend p pos => Sys2Proof.Machine.execEsmcSend p pos s
  | .esmcPduReceived p ssm => Sys2Proof.Machine.execEsmcPduReceived p ssm s
  | .esmcTimeout p => Sys2Proof.Machine.execEsmcTimeout p s
  | .portConfigWrite m p v => Sys2Proof.Machine.execPortConfigWrite m p v s
  | .passApply pair => Sys2Proof.Machine.execPassApply pair s
  | .rallyFrameSend i pos => Sys2Proof.Machine.execRallyFrameSend i pos s
  | .rallyFrameReceived i f pos => Sys2Proof.Machine.execRallyFrameReceived i f pos s
  | .rallySample i edges phi psi => Sys2Proof.Machine.execRallySample i edges phi psi s
  | .rallyPartnerTimeout i => Sys2Proof.Machine.execRallyPartnerTimeout i s
  | .rallyAcalGo m i v => Sys2Proof.Machine.execRallyAcalGo m i v s
  | .rallyAcalEnd i => Sys2Proof.Machine.execRallyAcalEnd i s
  | .heartbeatSend => Sys2Proof.Machine.execHeartbeatSend s
  | .heartbeatReceived h => Sys2Proof.Machine.execHeartbeatReceived h s
  | .mateReady => Sys2Proof.Machine.execMateReady s
  | .heartbeatLoss => Sys2Proof.Machine.execHeartbeatLoss s
  | .mateRelinquish m => Sys2Proof.Machine.execMateRelinquish m s
  | .mateTake m => Sys2Proof.Machine.execMateTake m s
  | .matePlannedHandover => Sys2Proof.Machine.execMatePlannedHandover s
  | .sealLoopOpen => Sys2Proof.Machine.execSealLoopOpen s
  | .sealLoopClose => Sys2Proof.Machine.execSealLoopClose s
  | .impArm m p => Sys2Proof.Machine.execImpArm m p s
  | .impDisarm m p => Sys2Proof.Machine.execImpDisarm m p s
  | .impDurationEnd p => Sys2Proof.Machine.execImpDurationEnd p s
  | .reorderRelease p egress pos => Sys2Proof.Machine.execReorderRelease p egress pos s
  | .recordGrant stuck => Sys2Proof.Machine.execRecordGrant stuck s
  | .starvation q => Sys2Proof.Machine.execStarvation q s
  | .holdLimit q => Sys2Proof.Machine.execHoldLimit q s
  | .holdWatchdog q => Sys2Proof.Machine.execHoldWatchdog q s
  | .recUnmask m slots => Sys2Proof.Machine.execRecUnmask m slots s
  | .recCounterClear m slots => Sys2Proof.Machine.execRecCounterClear m slots s
  | .dmaBurst => Sys2Proof.Machine.execDmaBurst s
  | .dmaFlushTimer c => Sys2Proof.Machine.execDmaFlushTimer c s
  | .dmaFlush m c => Sys2Proof.Machine.execDmaFlush m c s
  | .dmaTailWrite m c v => Sys2Proof.Machine.execDmaTailWrite m c v s
  | .descriptorComplete c => Sys2Proof.Machine.execDescriptorComplete c s
  | .burstAcknowledged c => Sys2Proof.Machine.execBurstAcknowledged c s
  | .dmaResume m c => Sys2Proof.Machine.execDmaResume m c s
  | .dmaDiscard m c => Sys2Proof.Machine.execDmaDiscard m c s
  | .dmaEnableWrite m c v => Sys2Proof.Machine.execDmaEnableWrite m c v s
  | .hkcDescriptorPost c w0 w1 w2 => Sys2Proof.Machine.execHkcDescriptorPost c w0 w1 w2 s
  | .registerWrite m addr size v => Sys2Proof.Machine.execRegisterWrite m addr size v s
  | .pairLowWordRead m addr => Sys2Proof.Machine.execPairLowWordRead m addr s
  | .heldPairHighWrite m addr v => Sys2Proof.Machine.execHeldPairHighWrite m addr v s
  | .tscFracRead m k => Sys2Proof.Machine.execTscFracRead m k s
  | .keyWrite m v => Sys2Proof.Machine.execKeyWrite m v s
  | .keyTimeout => Sys2Proof.Machine.execKeyTimeout s
  | .sequenceClearWrite m addr v => Sys2Proof.Machine.execSequenceClearWrite m addr v s
  | .aliasWrite m addr v => Sys2Proof.Machine.execAliasWrite m addr v s
  | .tvScrub addr => Sys2Proof.Machine.execTvScrub addr s
  | .blockLockWrite m v => Sys2Proof.Machine.execBlockLockWrite m v s
  | .spiReadFrame size count addr => Sys2Proof.Machine.execSpiReadFrame size count addr s
  | .spiWriteFrame size count addr data => Sys2Proof.Machine.execSpiWriteFrame size count addr data s
  | .spiReset => Sys2Proof.Machine.execSpiReset s
  | .spiFrameEnd => Sys2Proof.Machine.execSpiFrameEnd s
  | .pcieMemoryRead bar2 offset dw first last => Sys2Proof.Machine.execPcieMemoryRead bar2 offset dw first last s
  | .pcieMemoryWrite bar2 offset dw first last data => Sys2Proof.Machine.execPcieMemoryWrite bar2 offset dw first last data s
  | .pcieReset => Sys2Proof.Machine.execPcieReset s
  | .txnReq m => Sys2Proof.Machine.execTxnReq m s
  | .txnRenew m => Sys2Proof.Machine.execTxnRenew m s
  | .txnCommit m => Sys2Proof.Machine.execTxnCommit m s
  | .txnCheckComplete => Sys2Proof.Machine.execTxnCheckComplete s
  | .txnRelease m => Sys2Proof.Machine.execTxnRelease m s
  | .txnLeaseExpiry => Sys2Proof.Machine.execTxnLeaseExpiry s
  | .nmtStartRemoteNode node => Sys2Proof.Machine.execNmtStartRemoteNode node s
  | .nmtStopRemoteNode node => Sys2Proof.Machine.execNmtStopRemoteNode node s
  | .nmtEnterPreOperational node => Sys2Proof.Machine.execNmtEnterPreOperational node s
  | .nmtResetNode node => Sys2Proof.Machine.execNmtResetNode node s
  | .nmtResetCommunication node => Sys2Proof.Machine.execNmtResetCommunication node s
  | .sdoExpeditedUpload index sub => Sys2Proof.Machine.execSdoExpeditedUpload index sub s
  | .sdoExpeditedDownload index sub data => Sys2Proof.Machine.execSdoExpeditedDownload index sub data s
  | .sdoSegmentedUpload index sub => Sys2Proof.Machine.execSdoSegmentedUpload index sub s
  | .sdoSegmentedDownload index sub size => Sys2Proof.Machine.execSdoSegmentedDownload index sub size s
  | .sdoSegment toggle data last => Sys2Proof.Machine.execSdoSegment toggle data last s
  | .sdoSessionTimeout => Sys2Proof.Machine.execSdoSessionTimeout s
  | .canSyncReceived counter => Sys2Proof.Machine.execCanSyncReceived counter s
  | .tpdoEventTimer t => Sys2Proof.Machine.execTpdoEventTimer t s
  | .rpdoReceived r data => Sys2Proof.Machine.execRpdoReceived r data s
  | .canHeartbeatProduce => Sys2Proof.Machine.execCanHeartbeatProduce s
  | .canHeartbeatReceived node => Sys2Proof.Machine.execCanHeartbeatReceived node s
  | .canHeartbeatConsumerTimeout e => Sys2Proof.Machine.execCanHeartbeatConsumerTimeout e s
  | .busOffRecovery => Sys2Proof.Machine.execBusOffRecovery s
  | .errorPassive => Sys2Proof.Machine.execErrorPassive s
  | .authAssertion pin => Sys2Proof.Machine.execAuthAssertion pin s
  | .presenceWindowExpiry => Sys2Proof.Machine.execPresenceWindowExpiry s
  | .sealSample reads => Sys2Proof.Machine.execSealSample reads s
  | .faultSourceAccepted => Sys2Proof.Machine.execFaultSourceAccepted s
  | .faultSourceDeasserted src => Sys2Proof.Machine.execFaultSourceDeasserted src s
  | .brokenWire src level => Sys2Proof.Machine.execBrokenWire src level s
  | .pairRestored src => Sys2Proof.Machine.execPairRestored src s
  | .faultLRelease => Sys2Proof.Machine.execFaultLRelease s
  | .faultLSoftRelease m => Sys2Proof.Machine.execFaultLSoftRelease m s
  | .faultRecordClose => Sys2Proof.Machine.execFaultRecordClose s
  | .recoveryRunReset => Sys2Proof.Machine.execRecoveryRunReset s
  | .fltInject m v => Sys2Proof.Machine.execFltInject m v s
  | .fltInjectStop m => Sys2Proof.Machine.execFltInjectStop m s
  | .nvmOpen m => Sys2Proof.Machine.execNvmOpen m s
  | .nvmCommit m => Sys2Proof.Machine.execNvmCommit m s
  | .nvmClose m => Sys2Proof.Machine.execNvmClose m s
  | .nvmUnlock m => Sys2Proof.Machine.execNvmUnlock m s
  | .nvmLock m => Sys2Proof.Machine.execNvmLock m s
  | .nvmSavecfg m => Sys2Proof.Machine.execNvmSavecfg m s
  | .nvmRead m => Sys2Proof.Machine.execNvmRead m s
  | .nvmBufferWrite m w => Sys2Proof.Machine.execNvmBufferWrite m w s
  | .nvmBufferTimeout => Sys2Proof.Machine.execNvmBufferTimeout s
  | .nvmUnlockTimeout m => Sys2Proof.Machine.execNvmUnlockTimeout m s
  | .nvmUnlockLockoutEnd part => Sys2Proof.Machine.execNvmUnlockLockoutEnd part s
  | .nvmSetpw m => Sys2Proof.Machine.execNvmSetpw m s
  | .nvmLogclr m => Sys2Proof.Machine.execNvmLogclr m s
  | .nvmCommitStart => Sys2Proof.Machine.execNvmCommitStart s
  | .nvmCommitComplete verified => Sys2Proof.Machine.execNvmCommitComplete verified s
  | .nvmScrub page ecc => Sys2Proof.Machine.execNvmScrub page ecc s
  | .logPageCommit => Sys2Proof.Machine.execLogPageCommit s
  | .hourMeterTick => Sys2Proof.Machine.execHourMeterTick s
  | .calGo m items => Sys2Proof.Machine.execCalGo m items s
  | .fieldStepStart item unit => Sys2Proof.Machine.execFieldStepStart item unit s
  | .fieldStepResult value => Sys2Proof.Machine.execFieldStepResult value s
  | .fieldStepAbandon => Sys2Proof.Machine.execFieldStepAbandon s
  | .calFreset m items => Sys2Proof.Machine.execCalFreset m items s
  | .tjSample tj => Sys2Proof.Machine.execTjSample tj s
  | .vinComparatorChange vin => Sys2Proof.Machine.execVinComparatorChange vin s
  | .holdUpStoreExhausted => Sys2Proof.Machine.execHoldUpStoreExhausted s
  | .keepAliveRailLoss => Sys2Proof.Machine.execKeepAliveRailLoss s
  | .vkeepLevelChange good => Sys2Proof.Machine.execVkeepLevelChange good s
  | .pcieLinkUp => Sys2Proof.Machine.execPcieLinkUp s
  | .pcieConfigWrite w => Sys2Proof.Machine.execPcieConfigWrite w s
  | .msixTableWrite k v => Sys2Proof.Machine.execMsixTableWrite k v s
  | .inhibitTimeExpiry tpdo => Sys2Proof.Machine.execInhibitTimeExpiry tpdo s
  | .skimTargetReached o => Sys2Proof.Machine.execSkimTargetReached o s
  | .calPeriodElapsed => Sys2Proof.Machine.execCalPeriodElapsed s
  | .nvmPageLoadComplete => Sys2Proof.Machine.execNvmPageLoadComplete s
  | .errorActiveReturn => Sys2Proof.Machine.execErrorActiveReturn s
  | .trgPulseEnd n => Sys2Proof.Machine.execTrgPulseEnd n s

end Sys2Proof.Machine
end

