-- ==== Sys2Proof/Machine/Tick.lean ====
section
/-! DEFINITION. What an empty queue does: one TDC cycle passes (DESIGN CHOICE, log entry 5). -/

namespace Sys2Proof.Machine

/-- One TDC cycle of the model's time and of the coarse counter, which in a fallback advances by 25 every 20 ns (R21). -/
def Clk.tick (k : Clk) : Clk :=
  let now := k.now + 1
  let step := if !k.coarseOn then 0 else if k.sysLocked then 1 else if (now - k.lossAt.getD 0) % 25 = 0 then 25 else 0
  { k with now := now, coarse := k.coarse + step }
/-- The readers of the dual-clock queues take one entry each; the CAN receive queue waits while the HKC is stopped. -/
def Asic.drain (a : Asic) : Asic :=
  { a with fill := a.fill.foldl (fun (t : Tab Nat) p => t.set p.1 (if p.1 = 9 * 32 ∧ a.hkcStopped then p.2 else p.2 - 1)) [] }
/-- One cycle of the ASIC: pulses that fall due leave J1. -/
def Asic.tick (a : Asic) : Asic :=
  let a := { a with clk := a.clk.tick }.drain
  a.each [0, 1, 2, 3] fun a p => Asic.plsDue p 8 a
/-- One cycle of the module. In SHELF only time passes. -/
def Dev.tick (d : Dev) : Dev :=
  if d.sup.shelf then d.onAsic fun a => { a with clk := { a.clk with now := a.clk.now + 1 } }
  else (d.onAsic Asic.tick).watchStatus
/-- The block with no command waiting. -/
def State.idle (s : State) : Outcome := s.act Dev.tick

end Sys2Proof.Machine
end

