-- ==== Sys2Proof/Safety.lean ====
section
/-! DEFINITION. The terms claims are stated in: what a command that completes leaves, when the register bus takes a write,
which parts of the state a command left alone, and when a state is sound. -/

namespace Sys2Proof.Machine

/-- Command `c`, taken in state `s`, answers a next state, and that state satisfies `P`. -/
def Completes (c : Instr) (s : State) (P : State → Prop) : Prop := ∃ t, exec c s = .next t ∧ P t

/-- Command `c`, taken in state `s`, answers a next state in which the ASIC satisfies `P`; the queue, NVM, the supply and the
keep-alive block are as before, `KEP_OVSEL` aside, which follows the active oven (R202). -/
def Runs (c : Instr) (s : State) (P : Asic → Prop) : Prop :=
  Completes c s fun t => P t.dev.asic ∧ { t.dev.kep with ovenSel := s.dev.kep.ovenSel } = s.dev.kep ∧ t.dev.nvm = s.dev.nvm ∧
    t.dev.sup = s.dev.sup ∧ t.pending = s.pending

/-- The register bus takes a write of master `m` to any block but for a key it may need: the bus runs (R30), no block is
locked (R402), and `m` is not the DMA master M3. -/
def Dev.freeFor (d : Dev) (m : Master) : Bool := d.busRuns && d.asic.get Reg.GLB_LOCK.BLOCKS == 0 && m.val != 3
/-- The same, with the key lock open for `m` (R400, R401). -/
def Dev.keyFor (d : Dev) (m : Master) : Bool := d.freeFor m && d.asic.keyOpen m.val

/-- The keep-alive block, NVM, the supply and the queue are as before. -/
def State.sameOutside (s t : State) : Prop :=
  t.dev.kep = s.dev.kep ∧ t.dev.nvm = s.dev.nvm ∧ t.dev.sup = s.dev.sup ∧ t.pending = s.pending
/-- Every register word but those at the addresses of `l` reads as before. -/
def Asic.sameWords (a b : Asic) (l : List Nat) : Prop := ∀ addr, addr ∉ l → b.word addr = a.word addr

/-- The seal history agrees with itself: openings counted mean `BROKEN` (R433). -/
def Kep.sealSound (k : Kep) : Prop := k.count ≠ 0 → k.broken = true
/-- The register file is in canonical form, its three copies included: equal contents are equal data. -/
def Asic.canonical (a : Asic) : Prop := a.regs.wfF resetWord = true ∧ a.tv1.wf = true ∧ a.tv2.wf = true

/-- The commands that act in SHELF: on the supply, the keep-alive block and a commit in flight (R72). -/
def shelfCommand : Instr → Bool
  | .vinComparatorChange _ | .vkeepLevelChange _ | .sealSample _ | .nvmCommitComplete _ | .vinQualified | .keepSecondTick
  | .keepAliveRailLoss | .holdUpStoreExhausted => true
  | _ => false

end Sys2Proof.Machine
end

