-- ==== Sys2Proof/Certificates/Slice0/Obligations.lean ====
section
/-! DEFINITION. The statements for the provers. -/

open Sys2Proof Sys2Proof.Machine

/-- A step takes the command at the front of the queue and runs it with the queue's rest.
It rests on the model's own choices of log entry 1. -/
def Obligations.StepRunsFront : Prop :=
  ∀ (c : Instr) (rest : List Instr) (s : State), s.pending = c :: rest → step s = exec c { s with pending := rest }

/-- Every command completes, and none touches the queue of waiting commands.
It rests on the model's own choices of log entry 6. -/
def Obligations.EveryCommandCompletes : Prop :=
  ∀ (c : Instr) (s : State), Completes c s fun t => t.pending = s.pending

/-- With no command waiting one TDC cycle passes: in SHELF the model's time alone moves; else the coarse counter moves by
one, or in a fallback by 25 in each 25th cycle since the loss of lock, and no memory, seal or supply state changes
(DESIGN CHOICE, log entry 5; the counter's steps are R21's). -/
def Obligations.IdleStep : Prop :=
  ∀ s : State, s.pending = [] → ∃ t, step s = .next t ∧ t.pending = [] ∧ t.dev.kep = s.dev.kep ∧ t.dev.nvm = s.dev.nvm ∧
    t.dev.sup = s.dev.sup ∧ t.dev.asic.clk.now = s.dev.asic.clk.now + 1 ∧
    (s.dev.sup.shelf = true → t.dev.asic = { s.dev.asic with clk := { s.dev.asic.clk with now := s.dev.asic.clk.now + 1 } }) ∧
    (s.dev.sup.shelf = false → s.dev.asic.clk.coarseOn = true → s.dev.asic.clk.sysLocked = true →
      t.dev.asic.clk.coarse = s.dev.asic.clk.coarse + 1) ∧
    (s.dev.sup.shelf = false → s.dev.asic.clk.coarseOn = true → s.dev.asic.clk.sysLocked = false → ∀ t0, s.dev.asic.clk.lossAt = some t0 →
      t.dev.asic.clk.coarse = s.dev.asic.clk.coarse + (if (s.dev.asic.clk.now + 1 - t0) % 25 = 0 then 25 else 0))

/-- The registers right after reset, as the register tables give them (R14, R411): `GLB_ID`, `GLB_MODE` (PRIMER by
transition 2), the lock closed, the first words of the reference, channel, output, record and fault blocks.
It rests on the model's own choices of log entry 7. -/
def Obligations.ResetRegisters : Prop :=
  let a := State.reset.dev.asic
  a.word 0x000000 = 0x88200B00 ∧ a.word 0x000004 = 0x00025201 ∧ a.word 0x000014 = 0 ∧ a.word 0x000018 = 0 ∧
    a.get Reg.GLB_TXNCFG.LEASE = 10 ∧ (∀ c : Fin 8, a.get (Reg.DPL_STATE.STATE c.val) = 0) ∧
    (∀ i : Fin 24, a.get (Reg.UMP_ISTAT.STATE i.val) = 0) ∧ a.get Reg.OUT_ENA.CLK = 0 ∧ a.get Reg.REC_EN.SLOTS = Reg.REC_EN.SLOTS.reset

/-- The state after reset is sound: no opening of the lid is counted, the register file is canonical and holds nothing but
reset values, no copy differs, and no command waits.
It rests on the model's own choices of log entries 3, 7. -/
def Obligations.ResetSound : Prop :=
  State.reset.dev.kep.sealSound ∧ State.reset.dev.asic.canonical ∧ State.reset.dev.asic.regs = [] ∧
    (∀ addr, State.reset.dev.asic.copiesDiffer addr = false) ∧ State.reset.pending = []

/-- R433: every step keeps the seal history sound, from every state in which it is. -/
def Obligations.SealHistorySound : Prop :=
  ∀ s t : State, s.dev.kep.sealSound → step s = .next t → t.dev.kep.sealSound

/-- R433: nothing but the loss of the keep-alive rail lowers the seal's opening count or clears `BROKEN`, whatever command
is taken. -/
def Obligations.SealCountNeverFalls : Prop :=
  ∀ (c : Instr) (s t : State), c ≠ .keepAliveRailLoss → exec c s = .next t →
    s.dev.kep.count ≤ t.dev.kep.count ∧ (s.dev.kep.broken = true → t.dev.kep.broken = true)

/-- R72: in SHELF only the supply, the keep-alive block and a commit in flight act; a step that takes any other command
changes nothing but the queue.
It rests on the model's own choices of log entries 6, 36. -/
def Obligations.ShelfStandsStill : Prop :=
  ∀ (c : Instr) (rest : List Instr) (s : State), s.pending = c :: rest → s.dev.sup.shelf = true → shelfCommand c = false →
    step s = .next { s with pending := rest }

/-- What leaves and enters SHELF: only VIN_QUALIFIED leaves it (transition 1) and only SHELF_ENTRY enters it
(transition 14).
It rests on the model's own choices of log entries 6, 36. -/
def Obligations.ShelfGates : Prop :=
  ∀ (c : Instr) (s t : State), exec c s = .next t → s.dev.sup.shelf ≠ t.dev.sup.shelf →
    (c = .vinQualified ∧ s.dev.sup.shelf = true ∧ t.dev.asic.mode = 1) ∨ (c = .shelfEntry ∧ s.dev.sup.shelf = false ∧ t.dev.kep.lastMode = s.dev.asic.mode)

/-- R52, R55, R202: the bring-up. `VIN` good for 10 ms leaves SHELF into COLD; the oven the keep-alive block names is
taken if it oscillates, else the other; BKPLL's lock starts SYSFB, SYSPLL's lock follows; no image, no configuration.
It rests on the model's own choices of log entries 6, 34. -/
def Obligations.BringUp : Prop :=
  ∀ s : State,
    (∀ t0, s.dev.sup.shelf = true → s.dev.sup.goodAt = some t0 → t0 + 10 * msec ≤ s.dev.asic.clk.now →
      Completes .vinQualified s fun t => t.dev.sup.shelf = false ∧ t.dev.asic.mode = 1 ∧ t.dev.asic.modes.coldOn = true ∧
        t.dev.asic.modes.t0 = s.dev.asic.clk.now ∧ t.dev.asic.activeOven = s.dev.kep.ovenSel % 2 ∧
        t.dev.kep = { s.dev.kep with shelfTime := s.dev.kep.shelfNow, shelfNow := 0 } ∧ t.dev.nvm = s.dev.nvm) ∧
    (s.dev.sup.shelf = false → s.dev.asic.modes.coldOn = true →
      (∀ oscA oscB : Bool, s.dev.asic.clk.bkAt = none → s.dev.asic.modes.t0 + 20 * msec ≤ s.dev.asic.clk.now → (oscA = true ∨ oscB = true) →
        Completes (.ovenStartCheck oscA oscB) s fun t => t.dev.asic.clk.bkAt = some s.dev.asic.clk.now ∧
          t.dev.asic.activeOven = (if (if s.dev.asic.activeOven = 0 then oscA else oscB) then s.dev.asic.activeOven else 1 - s.dev.asic.activeOven)) ∧
      (s.dev.asic.clk.bkAt = none → s.dev.asic.modes.t0 + 200 * msec ≤ s.dev.asic.clk.now →
        Completes (.ovenStartCheck false false) s fun t => t.dev.asic.fallback = true ∧ t.dev.asic.clk.bkLocked = true) ∧
      (s.dev.asic.clk.bkAt.isSome = true → Completes .bkpllLocked s fun t => t.dev.asic.clk.bkLocked = true ∧ t.dev.nvm = s.dev.nvm) ∧
      (s.dev.asic.clk.bkLocked = true → s.dev.asic.fallback = false →
        Completes .syspllLocked s fun t => t = { s with dev := { s.dev with asic := { s.dev.asic with clk := { s.dev.asic.clk with sysLocked := true } } } }) ∧
      (s.dev.asic.clk.bkLocked = true → (s.dev.asic.clk.sysLocked = true ∨ s.dev.asic.fallback = true) →
        s.dev.asic.modes.loaded = false → s.dev.asic.modes.loadFailed = false →
        Completes .configurationLoad s fun t =>
          (if s.dev.nvm.imageInUse.isSome then t.dev.asic.modes.loaded = true else t.dev.asic.modes.loadFailed = true) ∧
          t.dev.nvm = s.dev.nvm ∧ t.dev.kep = s.dev.kep))

/-- R21, R55–R57: the end of COLD. The coarse counter starts at 0, the CANopen node is pre-operational, and the
module is in PRIMER, by cause 1 or, after a failed load, 12.
It rests on the model's own choices of log entries 6, 8. -/
def Obligations.ColdEnds : Prop :=
  ∀ s : State, s.dev.sup.shelf = false → s.dev.asic.modes.coldOn = true →
    (s.dev.asic.modes.loaded = true ∨ s.dev.asic.modes.loadFailed = true) →
    (s.dev.asic.fallback = false ∨ s.dev.asic.modes.t0 + 4000 * msec ≤ s.dev.asic.clk.now) →
    Completes .coldSequenceComplete s fun t => t.dev.asic.clk.coarse = 0 ∧ t.dev.asic.clk.coarseOn = true ∧ t.dev.asic.modes.coldOn = false ∧
      t.dev.asic.target = 2 ∧ t.dev.asic.can.nmt = 127 ∧ t.dev.kep = s.dev.kep ∧
      (s.dev.asic.mode ≠ 6 → s.dev.asic.flag Reg.RLY_MATECFG.EN = false →
        t.dev.asic.mode = 2 ∧ t.dev.asic.get Reg.GLB_MODE.CAUSE = if s.dev.asic.modes.loadFailed then 12 else 1)

/-- R70, R72, R73, R261, R485: the two comparators of `VIN` with their hysteresis, brace, and SHELF. Entry to SHELF saves the mode
and counts the reset; in SHELF the seconds and the length of the stay run; the loss of the rail clears the block; an
exhausted store ends the commit in flight.
It rests on the model's own choices of log entries 6, 36, 37. -/
def Obligations.SupplyEvents : Prop :=
  ∀ s : State,
    (∀ v : BitVec 16, Completes (.vinComparatorChange v) s fun t => t.dev.sup.vin = v.toNat ∧ (v.toNat < 1020 → t.dev.sup.warning = true) ∧
      (1040 ≤ v.toNat → t.dev.sup.warning = false) ∧ (v.toNat < 900 → t.dev.sup.reset = true) ∧ (940 ≤ v.toNat → t.dev.sup.reset = false) ∧
      (1020 ≤ v.toNat → v.toNat < 1040 → t.dev.sup.warning = s.dev.sup.warning) ∧
      t.dev.asic = s.dev.asic ∧ t.dev.kep = s.dev.kep ∧ t.dev.nvm = s.dev.nvm) ∧
    (∀ vin : BitVec 16, s.dev.sup.shelf = false → s.dev.asic.brace = false → s.dev.sup.warning = true →
      s.dev.sup.warningAt + usec ≤ s.dev.asic.clk.now →
      Completes (.braceEntry vin) s fun t => t.dev.asic.brace = true ∧ t.dev.kep = { s.dev.kep with braces := min 65535 (s.dev.kep.braces + 1) } ∧
        t.dev.asic.mode = s.dev.asic.mode ∧ t.dev.nvm = s.dev.nvm ∧ t.dev.sup = s.dev.sup) ∧
    (∀ (vin : BitVec 16) (t0 : Nat), s.dev.sup.shelf = false → s.dev.asic.brace = true → s.dev.sup.warning = false →
      s.dev.sup.goodAt = some t0 → t0 + 10 * msec ≤ s.dev.asic.clk.now →
      Completes (.braceExit vin) s fun t => t.dev.asic.brace = false ∧ t.dev.asic.mode = s.dev.asic.mode ∧ t.dev.kep = s.dev.kep ∧
        t.dev.nvm = s.dev.nvm ∧ t.dev.sup = s.dev.sup ∧ ∀ g : Fld, g.addr ≠ 4 → t.dev.asic.get g = s.dev.asic.get g) ∧
    (s.dev.sup.shelf = false → s.dev.sup.reset = true → s.dev.sup.resetAt + 2 * usec ≤ s.dev.asic.clk.now →
      Completes .shelfEntry s fun t => t.dev.sup.shelf = true ∧ t.dev.asic.mode = 0 ∧ t.dev.asic.clk.now = s.dev.asic.clk.now ∧
        t.dev.kep = { s.dev.kep with lastMode := s.dev.asic.mode, resets := min 65535 (s.dev.kep.resets + 1), shelfNow := 0 } ∧
        t.dev.asic.commits = [] ∧ t.dev.asic.tx = []) ∧
    (s.dev.sup.shelf = true →
      Completes .keepSecondTick s (fun t => t = { s with dev := { s.dev with kep := { s.dev.kep with
        sec := (s.dev.kep.sec + 1) % 2 ^ 48, shelfNow := min (2 ^ 32 - 1) (s.dev.kep.shelfNow + 1) } } }) ∧
      (s.dev.kep.vkeepOk = false → Completes .keepAliveRailLoss s fun t => t.dev.kep.sec = 0 ∧ t.dev.kep.count = 0 ∧ t.dev.kep.broken = false ∧
        t.dev.kep.scratch = 0 ∧ t.dev.kep.fresh = true ∧ t.dev.kep.vkeepOk = false ∧ t.dev.nvm = s.dev.nvm ∧ t.dev.sup = s.dev.sup ∧ t.dev.asic = s.dev.asic) ∧
      (s.dev.sup.held = false → Completes .holdUpStoreExhausted s fun t => t.dev.sup.held = true ∧ t.dev.nvm.flight = none ∧
        t.dev.kep = s.dev.kep ∧ t.dev.asic = s.dev.asic)) ∧
    ∀ good : Bool, Completes (.vkeepLevelChange good) s fun t => t = { s with dev := { s.dev with kep := { s.dev.kep with vkeepOk := good } } }

/-- R414, R433: the lid seal. The second sample in a row that reads open counts the opening, once until the loop reads
closed; a closed sample counts nothing.
It rests on the model's own choices of log entry 37. -/
def Obligations.SealSamples : Prop :=
  ∀ s : State,
    (s.dev.kep.openBefore = true → s.dev.kep.counted = false → s.dev.kep.count < 65535 →
      Completes (.sealSample true) s fun t => t.dev.kep.count = s.dev.kep.count + 1 ∧ t.dev.kep.broken = true ∧ t.dev.kep.intact = false ∧
        (s.dev.kep.count = 0 → t.dev.kep.sealTime = s.dev.kep.sec % 2 ^ 32) ∧ t.dev.sup = s.dev.sup) ∧
    (s.dev.kep.openBefore = false → Completes (.sealSample true) s fun t => t.dev.kep.count = s.dev.kep.count ∧
      t.dev.kep.broken = s.dev.kep.broken ∧ t.dev.kep.intact = false ∧ t.dev.asic = s.dev.asic ∧ t.dev.nvm = s.dev.nvm) ∧
    Completes (.sealSample false) s fun t => t.dev.kep.count = s.dev.kep.count ∧ t.dev.kep.broken = s.dev.kep.broken ∧
      t.dev.kep.intact = true ∧ t.dev.kep.counted = false ∧ t.dev.asic = s.dev.asic ∧ t.dev.nvm = s.dev.nvm


/-- R74–R77: the system clock. Loss of SYSPLL's lock moves SYS to SYSFB and starts a fallback; a lock regained for 1 ms
ends it, the coarse counter made continuous; a fallback of 10 s is sustained. No device mode changes.
It rests on the model's own choices of log entries 6, 35. -/
def Obligations.Fallback : Prop :=
  ∀ s : State, s.dev.sup.shelf = false →
    (s.dev.asic.fallback = false → s.dev.asic.clk.sysLocked = true →
      Runs .syspllLossOfLock s fun a => a.fallback = true ∧ a.mode = s.dev.asic.mode ∧
        a.clk = { s.dev.asic.clk with
          sysLocked := false, relockAt := none, lossAt := some s.dev.asic.clk.now, sustained := false
          fbkFrom := some s.dev.asic.clk.coarse }) ∧
    (s.dev.asic.fallback = true →
      (s.dev.asic.clk.relockAt = none → s.dev.asic.oscOk s.dev.asic.activeOven = true →
        Runs .syspllRelock s fun a => a = { s.dev.asic with clk := { s.dev.asic.clk with relockAt := some s.dev.asic.clk.now } }) ∧
      (∀ t0, s.dev.asic.clk.relockAt = some t0 → t0 + msec ≤ s.dev.asic.clk.now →
        Runs .syspllSwitchBack s fun a => a.fallback = false ∧ a.mode = s.dev.asic.mode ∧ a.clk.sysLocked = true ∧ a.clk.relockAt = none ∧
          a.clk.coarse = s.dev.asic.clk.coarse + (s.dev.asic.clk.now - s.dev.asic.clk.lossAt.getD 0) % 25) ∧
      (∀ t0, s.dev.asic.clk.lossAt = some t0 → s.dev.asic.clk.sustained = false → t0 + 10 * second ≤ s.dev.asic.clk.now →
        Runs .sustainedFallback s fun a => a.clk = { s.dev.asic.clk with sustained := true } ∧ (a.pair 5).has 0 = true ∧
          ∀ g : Fld, a.get g = s.dev.asic.get g))

/-- R47–R51: the underlying mode. A channel whose anchor run has lasted 10 s admits the module; a change of the mode R51
computes shows in `TARGET`, and in `MODE` with its cause where no other mode covers it; else nothing changes.
It rests on the model's own choices of log entry 6. -/
def Obligations.UnderlyingMode : Prop :=
  ∀ s : State, s.dev.sup.shelf = false →
    (s.dev.asic.underlying = s.dev.asic.target → Runs .underlyingModeUpdate s fun a => a = s.dev.asic) ∧
    (s.dev.asic.underlying ≠ s.dev.asic.target → s.dev.asic.mode ≠ s.dev.asic.target →
      Runs .underlyingModeUpdate s fun a => a = s.dev.asic.put Reg.GLB_MODE.TARGET s.dev.asic.underlying) ∧
    (s.dev.asic.underlying ≠ s.dev.asic.target → s.dev.asic.mode = s.dev.asic.target →
      Runs .underlyingModeUpdate s fun a => a.target = s.dev.asic.underlying ∧ a.mode = s.dev.asic.underlying ∧
        a.get Reg.GLB_MODE.PREV = s.dev.asic.mode ∧
        a.get Reg.GLB_MODE.CAUSE = s.dev.asic.moveCause s.dev.asic.target s.dev.asic.underlying % 16) ∧
    ∀ c : Fin 8, s.dev.asic.anchored c.val = true →
      Runs (.anchorConditionMet c) s fun a => a.flag Reg.GLB_MODE.ADMIT = true ∧ a.modes.anchor = true ∧ a.mode = s.dev.asic.mode ∧
        a.target = s.dev.asic.target ∧ ∀ g : Fld, g.addr ≠ 4 → a.get g = s.dev.asic.get g

/-- R53, R66–R68: the ways into and out of SAFE and FACTORY by command, and automatic recovery; for a module whose `MATE`
is off, so that the mode left for is the underlying one (transitions 10 to 13).
It rests on the model's own choices of log entry 20. -/
def Obligations.ModeCommands : Prop :=
  ∀ (s : State) (m : Master), s.dev.sup.shelf = false → s.dev.asic.flag Reg.RLY_MATECFG.EN = false → s.dev.asic.mateRole = 3 →
    (s.dev.keyFor m = true →
      (s.dev.asic.mode = 6 → s.dev.asic.safeNow = false → s.dev.asic.modes.beforeSafe ≠ 7 → s.dev.asic.modes.coldOn = false →
        (∀ r ∈ sourceTable, s.dev.asic.safeSource r.1 = true → s.dev.asic.flag (Reg.FLT_SRCST.ACTIVE r.1) = false) → s.dev.asic.target ≤ 4 →
        Runs (.leaveSafe m) s fun a => a.mode = s.dev.asic.target ∧ a.get Reg.GLB_MODE.PREV = 6 ∧ a.get Reg.GLB_MODE.CAUSE = 10) ∧
      (2 ≤ s.dev.asic.mode → s.dev.asic.mode ≤ 4 → s.dev.asic.present' = true →
        Runs (.enterFactory m) s fun a => a.mode = 7 ∧ a.target = s.dev.asic.target ∧ a.get Reg.GLB_MODE.CAUSE = 10 ∧ a.get Reg.FLT_INJST.COUNT = 0) ∧
      (s.dev.asic.mode = 7 → s.dev.asic.target ≤ 4 →
        Runs (.leaveFactory m) s fun a => a.mode = s.dev.asic.target ∧ a.get Reg.GLB_MODE.PREV = 7 ∧ a.get Reg.GLB_MODE.CAUSE = 10)) ∧
    (s.dev.asic.recoveryDue = true → s.dev.asic.modes.beforeSafe ≠ 7 → s.dev.asic.modes.coldOn = false → s.dev.asic.target ≤ 4 →
      Runs .automaticRecovery s fun a => a.mode = s.dev.asic.target ∧ a.get Reg.GLB_MODE.PREV = 6 ∧ a.get Reg.GLB_MODE.CAUSE = 9)

/-- R78–R81: the firmware bank swap. Words fill the inactive bank; arming checks the image there and, if it fails,
shows `BADIMG` and arms nothing; an armed swap waits for a boundary, swaps the banks there, and is confirmed by the new
firmware or reverted after 2 s
(stated where no CAN frame waited for the HKC).
It rests on the model's own choices of log entries 6, 19, 38. -/
def Obligations.FirmwareSwap : Prop :=
  ∀ (s : State) (m : Master),
    (s.dev.freeFor m = true → s.dev.asic.flag Reg.GLB_FWCTL.PEND = false → ∀ w : Word,
      Completes (.fwDataWrite m w) s fun t =>
        t.dev.nvm = { s.dev.nvm with firmware := s.dev.nvm.firmware.set ((1 - s.dev.asic.get Reg.GLB_FWCTL.BANK) * 2 ^ 18 + s.dev.asic.get Reg.GLB_FWPTR.PTR) w } ∧
        t.dev.asic.get Reg.GLB_FWPTR.PTR = (s.dev.asic.get Reg.GLB_FWPTR.PTR + 1) % 2 ^ 18 ∧ t.dev.kep = s.dev.kep ∧ t.dev.sup = s.dev.sup) ∧
    (s.dev.keyFor m = true →
      (s.dev.asic.flag Reg.GLB_FWCTL.PEND = false →
        (s.dev.asic.present' = true → Runs (.fwArm m) s fun a =>
          a.flag Reg.GLB_FWCTL.PEND = Config.imageGenuine (s.dev.nvm.bankWords (1 - s.dev.asic.get Reg.GLB_FWCTL.BANK)) ∧
          (a.flag Reg.GLB_FWCTL.PEND = true → a.fw.armedAt = some s.dev.asic.clk.now ∧ a.fw.boundary = none) ∧
          (a.flag Reg.GLB_FWCTL.PEND = false → a.flag Reg.GLB_FWCTL.BADIMG = true ∧ a.fw = s.dev.asic.fw))) ∧
      (s.dev.asic.flag Reg.GLB_FWCTL.PEND = true → s.dev.asic.fw.boundary = none →
        Runs (.fwCancel m) s fun a => a.flag Reg.GLB_FWCTL.PEND = false ∧ a.fw.armedAt = none)) ∧
    (s.dev.sup.shelf = false →
      (∀ t0, s.dev.asic.fw.armedAt = some t0 → s.dev.asic.fw.boundary = none → s.dev.asic.swapAllowed = true →
        900000000 ≤ nsOf s.dev.asic.ts0 → t0 + 100 * msec ≤ s.dev.asic.nextSecond →
        Runs .fwCheckpointStart s fun a => a.fw.boundary = some s.dev.asic.nextSecond ∧ a.can.sdo = none ∧ ∀ g : Fld, a.get g = s.dev.asic.get g) ∧
      (∀ t0, s.dev.asic.fw.boundary = some t0 → t0 ≤ s.dev.asic.clk.now → s.dev.asic.swapAllowed = true →
        Runs .fwBankSwap s fun a => a.get Reg.GLB_FWCTL.BANK = 1 - s.dev.asic.get Reg.GLB_FWCTL.BANK ∧ a.flag Reg.GLB_FWCTL.PEND = false ∧
          a.flag Reg.GLB_FWCTL.ALIVE = false ∧ a.fw.swappedAt = some s.dev.asic.clk.now ∧ a.present' = false) ∧
      (s.dev.asic.fw.swappedAt.isSome = true → s.dev.asic.can.rx = [] → Completes .fwAlive s fun t => t.dev.asic.flag Reg.GLB_FWCTL.ALIVE = true ∧
        t.dev.asic.fw.swappedAt = none ∧ t.dev.kep = s.dev.kep ∧ t.dev.sup = s.dev.sup) ∧
      (∀ t0, s.dev.asic.fw.swappedAt = some t0 → t0 + 2 * second ≤ s.dev.asic.clk.now → s.dev.asic.can.rx = [] → Completes .fwRevert s fun t =>
        t.dev.asic.get Reg.GLB_FWCTL.BANK = 1 - s.dev.asic.get Reg.GLB_FWCTL.BANK ∧ t.dev.asic.fw.swappedAt = none ∧
          t.dev.kep = s.dev.kep ∧ t.dev.sup = s.dev.sup))

/-- R431, R432: an AUTH assertion opens a presence window of 60 s, or restarts it; its end closes it. No register of the
module changes.
It rests on the model's own choices of log entries 6, 26. -/
def Obligations.PresenceWindow : Prop :=
  ∀ s : State, s.dev.sup.shelf = false →
    (∀ pin : Bool, s.dev.asic.modes.coldOn = false →
      Runs (.authAssertion pin) s fun a => a.can.window = some (s.dev.asic.clk.now + 60 * second) ∧ a.present' = true ∧
        ∀ g : Fld, a.get g = s.dev.asic.get g) ∧
    (∀ e, s.dev.asic.can.window = some e → e ≤ s.dev.asic.clk.now →
      Runs .presenceWindowExpiry s fun a => a.present' = false ∧ a = { s.dev.asic with can := { s.dev.asic.can with window := none } }) ∧
    (∀ e, s.dev.asic.can.window = some e → s.dev.asic.clk.now < e → Runs .presenceWindowExpiry s fun a => a = s.dev.asic)

/-- R86–R89: a selected edge of a reference. A disabled or misconfigured input, or one in PTP mode, takes none; the holdoff
counts it as a glitch; the prescaler and then the 25.6 ns rule pass or count it; an edge passed counts in `EDGES`.
It rests on the model's own choices of log entries 2, 39. -/
def Obligations.ReferenceEdge : Prop :=
  ∀ (s : State) (i : Fin 24) (bin target : Fin 256), s.dev.sup.shelf = false →
    (s.dev.asic.ptpMode i.val = true ∨ s.dev.asic.refUsable i.val = false → Runs (.refEdge i bin target) s fun a => a = s.dev.asic) ∧
    (s.dev.asic.ptpMode i.val = false → s.dev.asic.refUsable i.val = true →
      (∀ t, s.dev.asic.flag (Reg.REF_CFG.TYPE i.val) = true → s.dev.asic.get (Reg.REF_CFG.HOLDOFF i.val) ≠ 0 → (s.dev.asic.inp i.val).held = some t →
        s.dev.asic.clk.coarse < t + 125 * 2 ^ (s.dev.asic.get (Reg.REF_CFG.HOLDOFF i.val) - 1) →
        Runs (.refEdge i bin target) s fun a => a = s.dev.asic.addSat (Reg.REF_CNT.GLITCH i.val) 1) ∧
      (s.dev.asic.get (Reg.REF_CFG.HOLDOFF i.val) = 0 → (s.dev.asic.inp i.val).pre + 1 < s.dev.asic.preRatio i.val →
        Runs (.refEdge i bin target) s fun a =>
          a = s.dev.asic.modInp i.val fun x => { x with held := some s.dev.asic.clk.coarse, pre := x.pre + 1 }) ∧
      (s.dev.asic.get (Reg.REF_CFG.HOLDOFF i.val) = 0 → s.dev.asic.preRatio i.val ≤ (s.dev.asic.inp i.val).pre + 1 →
        (∀ t, (s.dev.asic.lane (s.dev.asic.laneOf i.val)).last = some t → s.dev.asic.clk.coarse < t + 32 →
          Runs (.refEdge i bin target) s fun a =>
            a = (s.dev.asic.modInp i.val fun x => { x with held := some s.dev.asic.clk.coarse, pre := 0 }).addSat (Reg.REF_OVR.COUNT i.val) 1) ∧
        ((∀ t, (s.dev.asic.lane (s.dev.asic.laneOf i.val)).last = some t → t + 32 ≤ s.dev.asic.clk.coarse) →
          Runs (.refEdge i bin target) s fun a => (a.inp i.val).windowEdge = true ∧ (a.inp i.val).pre = 0 ∧
            (a.lane (s.dev.asic.laneOf i.val)).last = some s.dev.asic.clk.coarse ∧
            a.get2 (Reg.REF_EDGLO.EDGES i.val) (Reg.REF_EDGHI.EDGES i.val)
              = (s.dev.asic.get2 (Reg.REF_EDGLO.EDGES i.val) (Reg.REF_EDGHI.EDGES i.val) + 1) % 2 ^ 64)))

/-- R90, R91, R101, R103, R104: presence, tick samples, `CALPPS` and the frequency monitor.
It rests on the model's own choices of log entries 6, 57. -/
def Obligations.ReferenceMonitors : Prop :=
  ∀ (s : State), s.dev.sup.shelf = false →
    (∀ i : Fin 24, s.dev.asic.ptpMode i.val = false → s.dev.asic.refUsable i.val = true →
      ((s.dev.asic.inp i.val).windowEdge = false →
        Runs (.presenceWindowEnd i) s fun a => a.present i.val = false ∧ (a.inp i.val).good = 0) ∧
      ((s.dev.asic.inp i.val).windowEdge = true → (s.dev.asic.inp i.val).good < 255 → s.dev.asic.present i.val = false → (s.dev.asic.inp i.val).gated = false →
        s.dev.asic.get (Reg.REF_PRES.REGAIN i.val) ≤ (s.dev.asic.inp i.val).good + 1 →
        Runs (.presenceWindowEnd i) s fun a => a.present i.val = true ∧ (a.inp i.val).good = (s.dev.asic.inp i.val).good + 1 ∧
          (a.inp i.val).windowEdge = false)) ∧
    (∀ i : Fin 24, (s.dev.asic.inp i.val).tickN ≠ 0 →
      Runs .tickEnd s fun a => (a.inp i.val).tickN = 0 ∧
        (a.inp i.val).last = some ⟨s.dev.asic.clk.coarse, roundDiv (s.dev.asic.inp i.val).tickSum (s.dev.asic.inp i.val).tickN,
          (s.dev.asic.inp i.val).tickN, (s.dev.asic.inp i.val).run⟩) ∧
    (∀ off : Int, Runs (.calppsEdge off) s fun a => a.getS Reg.REF_CALPPS.OFFSET = max (-127) (min 127 off) ∧
      a.flag Reg.REF_CALPPS.AMBIG = decide (50 < off.natAbs)) ∧
    (∀ (i : Fin 24) (b e : Sample), s.dev.asic.refUsable i.val = true → (s.dev.asic.inp i.val).fStart = some b → (s.dev.asic.inp i.val).last = some e →
      b.run = (s.dev.asic.inp i.val).run → e.run = (s.dev.asic.inp i.val).run → b.t < e.t → s.dev.asic.fallbackIn b.t e.t = false →
      Runs (.freqMonitorWindowEnd i) s fun a => (a.inp i.val).fStart = some e ∧
        a.get2S (Reg.REF_FRLO.FREQ i.val) (Reg.REF_FRHI.FREQ i.val)
          = satS 48 (roundDiv (-(e.phase - b.phase) * 10 * 2 ^ 60) ((e.t - b.t) * 524288) + s.dev.asic.ovenOffset))

/-- R107, R108, R109: a configuration word of a reference reads back what was written, and `CFGERR` follows; at the end of
a record interval that held edges the open record closes and is offered to slot 0.
It rests on the model's own choices of log entry 46. -/
def Obligations.ReferenceRecords : Prop :=
  ∀ (s : State) (i : Fin 24),
    (∀ (m : Master) (v : Word), s.dev.freeFor m = true →
      Runs (.refConfigWrite m i 0 v) s (fun a => a.get (Reg.REF_CFG.EN i.val) = wordBits v 0 1 ∧ a.get (Reg.REF_CFG.PRE i.val) = wordBits v 8 4 ∧
        a.flag (Reg.REF_STAT.CFGERR i.val) = a.refCfgErr i.val) ∧
      (i.val ≠ 22 →
        Runs (.refConfigWrite m i 1 v) s (fun a => a.get (Reg.REF_NOMLO.NOM i.val) = v.toNat ∧ a.flag (Reg.REF_STAT.CFGERR i.val) = a.refCfgErr i.val) ∧
        Runs (.refConfigWrite m i 2 v) s (fun a => a.get (Reg.REF_NOMHI.NOM i.val) = wordBits v 0 8 ∧ a.flag (Reg.REF_STAT.CFGERR i.val) = a.refCfgErr i.val))) ∧
    (s.dev.sup.shelf = false → s.dev.asic.refUsable i.val = true → s.dev.asic.get (Reg.REF_REC.INT i.val) ≠ 0 → s.dev.asic.get (Reg.REF_REC.INT i.val) < 6 →
      Runs (.phaseRecord i) s fun a => (a.inp i.val).recN = 0 ∧ (a.inp i.val).recSum = 0 ∧ (a.inp i.val).last = (s.dev.asic.inp i.val).last ∧
        ((s.dev.asic.inp i.val).recN ≠ 0 → s.dev.asic.fallback = false → s.dev.asic.deferred = [] →
          hasBit (s.dev.asic.get Reg.REC_EN.SLOTS) 0 = true → s.dev.asic.regionFull (s.dev.asic.get (Reg.REC_SLOTCFG.CH 0)) = false →
          ∃ r, a.recs.queue.get 0 = s.dev.asic.recs.queue.get 0 ++ [r] ∧ r.head? = some 1 ∧ r[2]? = some (BitVec.ofNat 8 i.val)))

/-- R96–R98: lane calibration and lane handover. A plausible table counts and is taken at the switch, an implausible one is
a reject; a handover is started, refused or deferred, and at its end moves the reference to the new lane.
It rests on the model's own choices of log entries 6, 47, 74. -/
def Obligations.Lanes : Prop :=
  ∀ (s : State),
    (s.dev.sup.shelf = false →
      (∀ n : Fin 28, (s.dev.asic.flag Reg.REF_TCAL.EN = true → s.dev.asic.calAllowed = true →
          Runs (.laneCalStart n) s fun a => (a.lane n.val).collecting = true ∧ ∀ g : Fld, a.get g = s.dev.asic.get g) ∧
        (∀ (span widest : BitVec 16) (bounds : List Nat), (s.dev.asic.lane n.val).collecting = true → s.dev.asic.calAllowed = true →
          Runs (.laneCalTableComputed n span widest bounds) s fun a => (a.lane n.val).collecting = false ∧
            a.get (Reg.REF_LSTAT.REJECTS n.val) = (if tablePlausible span.toNat widest.toNat bounds (s.dev.asic.laneRef n.val) then 0
              else min 3 (s.dev.asic.get (Reg.REF_LSTAT.REJECTS n.val) + 1))) ∧
        (∀ t, (s.dev.asic.lane n.val).accepted = some t →
          Runs (.laneTableSwitch n) s fun a => (a.lane n.val).table = t.2.2 ∧ (a.lane n.val).accepted = none ∧ a.flag (Reg.REF_LSTAT.CALOK n.val) = true)) ∧
      (∀ h : LaneHo, s.dev.asic.ref.ho = some h → s.dev.asic.fallback = false → h.start + h.overlap ≤ s.dev.asic.clk.coarse → 16 ≤ h.edges →
        h.idx < 24 → h.new < 28 → h.old < 28 → s.dev.asic.ref.wait = [] →
        Runs .laneHandoverCutover s fun a => a.laneOf h.idx = h.new ∧ a.ref.ho = none ∧ a.flag Reg.REF_HOSTAT.BUSY = false ∧ a.flag Reg.REF_HOSTAT.DONE = true ∧
          a.ref.shift.get h.idx = s.dev.asic.ref.shift.get h.idx + roundDiv h.diff h.edges) ∧
      (∀ (i lane ovl : Nat) (soft : Bool), s.dev.asic.deferred = [.lane i lane ovl soft] → s.dev.asic.laneHoWaits i = false →
        ∀ k : Fin 24, k.val ≠ 22 → Runs (.placementChangeDeferralEnd (.lane k)) s fun a => a.deferred = [] ∧ a.flag Reg.REF_HOSTAT.BUSY = true ∧
          a.ref.ho = some { idx := i, old := s.dev.asic.laneOf i, new := lane, start := s.dev.asic.clk.coarse, overlap := ovl, diff := 0, edges := 0, soft })) ∧
    (∀ (m : Master) (v : Word), s.dev.keyFor m = true → s.dev.asic.flag Reg.REF_HOSTAT.BUSY = false →
      wordBits v Reg.REF_LANEHO.FUNC.lsb Reg.REF_LANEHO.FUNC.width < 24 → wordBits v Reg.REF_LANEHO.OVL.lsb Reg.REF_LANEHO.OVL.width ≤ 3 →
      s.dev.asic.laneFree (wordBits v Reg.REF_LANEHO.LANE.lsb Reg.REF_LANEHO.LANE.width) = true →
      s.dev.asic.laneHoWaits (wordBits v Reg.REF_LANEHO.FUNC.lsb Reg.REF_LANEHO.FUNC.width) = false →
      Runs (.laneHandoverGo m v) s fun a => a.flag Reg.REF_HOSTAT.BUSY = true ∧ ∃ h, a.ref.ho = some h ∧
        h.idx = wordBits v Reg.REF_LANEHO.FUNC.lsb Reg.REF_LANEHO.FUNC.width ∧ h.new = wordBits v Reg.REF_LANEHO.LANE.lsb Reg.REF_LANEHO.LANE.width ∧
        h.old = s.dev.asic.laneOf h.idx ∧ h.start = s.dev.asic.clk.coarse)

/-- R111: the lane handovers that are rejected. A `GO` while one runs, of a function above 23, with an overlap above 3 or to a lane
that is not free sets `REJECTED`, raises a guard violation and starts nothing. -/
def Obligations.LaneHandoverRejections : Prop :=
  ∀ (s : State) (m : Master) (v : Word), s.dev.keyFor m = true →
    s.dev.asic.flag Reg.REF_HOSTAT.BUSY = true ∨ 23 < wordBits v Reg.REF_LANEHO.FUNC.lsb Reg.REF_LANEHO.FUNC.width ∨
      3 < wordBits v Reg.REF_LANEHO.OVL.lsb Reg.REF_LANEHO.OVL.width ∨
      s.dev.asic.laneFree (wordBits v Reg.REF_LANEHO.LANE.lsb Reg.REF_LANEHO.LANE.width) = false →
    Runs (.laneHandoverGo m v) s fun a => a.flag Reg.REF_HOSTAT.REJECTED = true ∧ a.ref = s.dev.asic.ref ∧ a.deferred = s.dev.asic.deferred ∧
      a.flag Reg.REF_HOSTAT.BUSY = s.dev.asic.flag Reg.REF_HOSTAT.BUSY ∧
      a.flt = (s.dev.asic.raiseAccess 7 ⟨Reg.REF_LANEHO.GO.addr, m.val, true, 2, false⟩).flt

/-- R112, R113, R127, R132, R135, R137: the Umpire's commands. `REQUAL` puts a DISQUALIFIED index into SOAK, `DISQ` disqualifies
an index that is not ABSENT with cause 6; a written override reads back and, where its index is usable and is not the one
selected, starts the switch to it; `REEVAL` does so too; a rank reads back; `BOCLR` waits for the tick and then clears B. A
switch whose time has come writes the last-switch registers: where from, where to, why, and whether the fit was short.
It rests on the model's own choices of log entries 20, 42, 43, 44. -/
def Obligations.UmpireCommands : Prop :=
  ∀ (s : State) (m : Master),
    (∀ i : Fin 24, s.dev.keyFor m = true →
      (s.dev.asic.qual i.val = 4 → Runs (.umpRequal m i) s fun a => a.qual i.val = 1 ∧ a.get (Reg.UMP_ISTAT.CAUSE i.val) = 0 ∧
        (a.ui i.val).soak = 0 ∧ (a.ui i.val).enteredAt = s.dev.asic.clk.now ∧ a.clk = s.dev.asic.clk) ∧
      (s.dev.asic.qual i.val = 1 ∨ s.dev.asic.qual i.val = 2 ∨ s.dev.asic.qual i.val = 3 → Runs (.umpDisq m i) s fun a => a.qual i.val = 4 ∧
        a.get (Reg.UMP_ISTAT.CAUSE i.val) = 6 ∧ a.flag (Reg.UMP_ISTAT.DISQD i.val) = true ∧ hasBit (a.ui i.val).causes 6 = true ∧ a.clk = s.dev.asic.clk)) ∧
    (∀ c : Fin 8,
      (∀ v : Word, s.dev.keyFor m = true → wordBits v 0 5 ≤ 23 → wordBits v 0 5 ≠ 22 →
        Runs (.umpOverrideWrite m c v) s fun a => a.get (Reg.UMP_OVR.INDEX c.val) = wordBits v 0 5 ∧ a.get (Reg.UMP_OVR.EN c.val) = wordBits v 5 1 ∧
          a.get (Reg.UMP_OVR.FALLBACK c.val) = wordBits v 6 1 ∧
          (s.dev.asic.fallback = false → (s.dev.asic.uc c.val).switch = none → s.dev.asic.flag (Reg.UMP_OVR.EN c.val) = false → wordBits v 5 1 = 1 →
            s.dev.asic.qual (wordBits v 0 5) = 2 ∨ s.dev.asic.qual (wordBits v 0 5) = 3 → s.dev.asic.sel c.val ≠ 31 → s.dev.asic.sel c.val ≠ wordBits v 0 5 →
            a.flag (Reg.UMP_SEL.SWBUSY c.val) = true ∧ (a.uc c.val).switch
              = some { old := s.dev.asic.sel c.val, new := wordBits v 0 5, t0 := s.dev.asic.clk.coarse, reason := 4 })) ∧
      (s.dev.keyFor m = true → s.dev.asic.fallback = false → (s.dev.asic.uc c.val).switch = none → s.dev.asic.flag (Reg.UMP_OVR.EN c.val) = true →
        s.dev.asic.qual (s.dev.asic.get (Reg.UMP_OVR.INDEX c.val)) = 2 ∨ s.dev.asic.qual (s.dev.asic.get (Reg.UMP_OVR.INDEX c.val)) = 3 →
        s.dev.asic.sel c.val ≠ 31 → s.dev.asic.sel c.val ≠ s.dev.asic.get (Reg.UMP_OVR.INDEX c.val) →
        Runs (.umpReeval m c) s fun a => a.flag (Reg.UMP_SEL.SWBUSY c.val) = true ∧ ∃ r, (a.uc c.val).switch
          = some { old := s.dev.asic.sel c.val, new := s.dev.asic.get (Reg.UMP_OVR.INDEX c.val), t0 := s.dev.asic.clk.coarse, reason := r }) ∧
      (∀ v : Word, s.dev.freeFor m = true → Runs (.umpRankWrite m c 0 v) s (fun a => a.get (Reg.UMP_RANK0.RANK c.val) = v.toNat) ∧
        Runs (.umpRankWrite m c 1 v) s (fun a => a.get (Reg.UMP_RANK1.RANK c.val) = v.toNat) ∧
        Runs (.umpRankWrite m c 2 v) s (fun a => a.get (Reg.UMP_RANK2.RANK c.val) = v.toNat)) ∧
      (s.dev.keyFor m = true → Runs (.umpBoclr m c) s fun a => (a.uc c.val).boclr = true ∧ a.clk = s.dev.asic.clk ∧ a.dpl = s.dev.asic.dpl ∧
        ∀ g : Fld, g.addr ≠ 0x14 → a.get g = s.dev.asic.get g) ∧
      (s.dev.sup.shelf = false → (s.dev.asic.uc c.val).boclr = true → Runs (.boclrApply c) s fun a => a.get2S (Reg.UMP_BOLO.BO c.val) (Reg.UMP_BOHI.BO c.val) = 0 ∧
        (a.uc c.val).boclr = false ∧ a.dpl = s.dev.asic.dpl ∧
        ∀ g : Fld, g.addr ≠ 0x022020 + 0x40 * c.val → g.addr ≠ 0x022024 + 0x40 * c.val → a.get g = s.dev.asic.get g) ∧
      (s.dev.sup.shelf = false → ∀ w : Switch, (s.dev.asic.uc c.val).switch = some w →
      (s.dev.asic.fallback = true ∨ s.dev.asic.clk.coarse < switchTick w.t0 + 145 → Runs (.switchTakeEffect c) s fun a => a = s.dev.asic) ∧
      (s.dev.asic.fallback = false → switchTick w.t0 + 145 ≤ s.dev.asic.clk.coarse → s.dev.asic.targetGood c.val w.new = true →
        w.old < 32 → w.new < 32 → w.reason < 8 → Runs (.switchTakeEffect c) s fun a =>
        a.get (Reg.UMP_LSW.FROM c.val) = w.old ∧ a.get (Reg.UMP_LSW.TO c.val) = w.new ∧ a.get (Reg.UMP_LSW.REASON c.val) = w.reason ∧
        a.flag (Reg.UMP_LSW.SHORTFIT c.val) = (s.dev.asic.putty c.val w.old w.new (switchTick w.t0)).2.2.2.1 ∧
        a.flag (Reg.UMP_LSW.ALIGN c.val) = (s.dev.asic.putty c.val w.old w.new (switchTick w.t0)).2.2.2.2 ∧
        a.get (Reg.UMP_SWCNT.COUNT c.val) = (s.dev.asic.get (Reg.UMP_SWCNT.COUNT c.val) + 1) % 2 ^ (Reg.UMP_SWCNT.COUNT c.val).width ∧ a.clk = s.dev.asic.clk)))

/-- R117: consensus at an evaluation. It is valid when the voters are at least `MINVOTE`, where a value below 3 acts as 3; `DOMINANT`
is set when one voter's weight is half of all or more, and y_c is computed all the same. Not in a fallback, in which an
evaluation changes nothing, nor after a pass whose gap holds one. -/
def Obligations.UmpireEvaluation : Prop :=
  ∀ s : State, s.dev.sup.shelf = false →
    (s.dev.asic.fallback = true → Runs .umpireEvaluation s fun a => a = s.dev.asic) ∧
    (s.dev.asic.fallback = false →
      s.dev.asic.ldg.gap = false ∨ s.dev.asic.fallbackIn (s.dev.asic.clk.coarse - 2 * second) s.dev.asic.clk.coarse = false → Runs .umpireEvaluation s fun a =>
      a.get Reg.UMP_CONSHI.VOTERS = s.dev.asic.voters.length ∧
      a.consValid = decide (max 3 (s.dev.asic.get Reg.UMP_QUORUM.MINVOTE) ≤ s.dev.asic.voters.length) ∧
      a.flag Reg.UMP_CONSHI.DOMINANT = (s.dev.asic.voters.any fun v => decide (totalWeight s.dev.asic.voters ≤ 2 * v.2.2)) ∧
      ∀ y, medianFrom (totalWeight s.dev.asic.voters) 0 s.dev.asic.voters = some y → a.get2S Reg.UMP_CONSLO.FREQ Reg.UMP_CONSHI.FREQ = freqCode y)
/-- R144, R151–R156: the Ledger. No pass in a fallback or before the first second has ended; a pass with `EN` = 0 wipes the
matrix once; a pass with `EN` = 1 counts itself, clears the requests and takes a pending snapshot; `TAKE` asks for a
snapshot, `LDG_RST` for a restart. A pass changes no Umpire, channel or time-scale state.
It rests on the model's own choices of log entries 6, 20, 45. -/
def Obligations.Ledger : Prop :=
  ∀ s : State,
    (s.dev.sup.shelf = false →
      (s.dev.asic.fallback = true ∨ s.dev.asic.clk.coarse < second → Runs .ledgerPass s fun a => a = s.dev.asic) ∧
      (s.dev.asic.fallback = false → second ≤ s.dev.asic.clk.coarse →
        (s.dev.asic.flag Reg.LDG_CFG.EN = false → s.dev.asic.ldg.stopped = true → Runs .ledgerPass s fun a => a = s.dev.asic) ∧
        (s.dev.asic.flag Reg.LDG_CFG.EN = false → s.dev.asic.ldg.stopped = false → Runs .ledgerPass s fun a => a.ldg.live = [] ∧ a.ldg.stopped = true ∧
          a.ldg.restartAll = false ∧ a.ldg.ovenRestart = false ∧ a.clk = s.dev.asic.clk ∧ a.ump = s.dev.asic.ump ∧ a.dpl = s.dev.asic.dpl ∧ a.tsc = s.dev.asic.tsc) ∧
        (s.dev.asic.flag Reg.LDG_CFG.EN = true → Runs .ledgerPass s fun a => a.get Reg.LDG_UPD.COUNT = (s.dev.asic.get Reg.LDG_UPD.COUNT + 1) % 2 ^ 32 ∧
          a.ldg.restartAll = false ∧ a.ldg.ovenRestart = false ∧ a.ldg.stopped = false ∧ a.ldg.mint = s.dev.asic.minTerm ∧
          (s.dev.asic.flag Reg.LDG_SNAPST.PEND = true → a.ldg.shown = a.ldg.live ∧ a.ldg.hidden = s.dev.asic.ldg.shown ∧
            a.get Reg.LDG_SNAPST.SNAPSEQ = (s.dev.asic.get Reg.LDG_SNAPST.SNAPSEQ + 1) % 2 ^ Reg.LDG_SNAPST.SNAPSEQ.width) ∧
          a.clk = s.dev.asic.clk ∧ a.ump = s.dev.asic.ump ∧ a.dpl = s.dev.asic.dpl ∧ a.tsc = s.dev.asic.tsc))) ∧
    (∀ m : Master, s.dev.freeFor m = true → Runs (.snapshotTake m) s fun a => a.flag Reg.LDG_SNAPST.PEND = true ∧ a.ldg = s.dev.asic.ldg ∧
      ∀ g : Fld, g.addr ≠ Reg.LDG_SNAPST.PEND.addr → a.get g = s.dev.asic.get g) ∧
    (∀ (m : Master) (v : Word), s.dev.keyFor m = true →
      (wordBits v Reg.LDG_RST.ALL.lsb 1 = 1 → Runs (.ldgRstGo m v) s fun a => a.ldg = { s.dev.asic.ldg with restartAll := true } ∧ a.clk = s.dev.asic.clk) ∧
      (wordBits v Reg.LDG_RST.ALL.lsb 1 = 0 → wordBits v 0 5 ≤ 23 → Runs (.ldgRstGo m v) s fun a =>
        (a.ldg.idx.get (wordBits v 0 5)).restart = true ∧ a.ldg.restartAll = s.dev.asic.ldg.restartAll ∧ a.ldg.live = s.dev.asic.ldg.live ∧ a.clk = s.dev.asic.clk))
/-- R161: a restart of the Ledger's estimators for an index above 23, with `ALL` = 0, is rejected: the previous values stay and a
guard violation is raised. -/
def Obligations.LedgerRestartRejections : Prop :=
  ∀ (s : State) (m : Master) (v : Word), s.dev.keyFor m = true → wordBits v Reg.LDG_RST.ALL.lsb 1 = 0 → 23 < wordBits v 0 5 →
    Runs (.ldgRstGo m v) s fun a => a.ldg = s.dev.asic.ldg ∧ a.word Reg.LDG_RST.ALL.addr = s.dev.asic.word Reg.LDG_RST.ALL.addr ∧
      a.flt = (s.dev.asic.raiseAccess 7 ⟨Reg.LDG_RST.ALL.addr, m.val, true, 2, false⟩).flt

/-- R169, R170, R172, R177, R184, R186, R187: the registers that control a channel. `EN` = 0 or `FORCE` = 1 leaves it in FREERUN,
`FORCE` = 2 puts a locked or acquiring channel that has been LOCKED into HOLDOVER, `FORCE` = 0 ends a forced FREERUN by ACQUIRE
and a forced holdover by a switch from the holdover phase; loop and holdover settings read back; a change of the history
interval invalidates the history; a migration is started or waits.
It rests on the model's own choices of log entries 20, 49. -/
def Obligations.ChannelControl : Prop :=
  ∀ (s : State) (m : Master) (c : Fin 8),
    (∀ v : Word, s.dev.keyFor m = true → wordBits v 1 2 ≠ 2 → Runs (.dpllEnWrite m c v) s fun a =>
      a.get (Reg.DPL_CTL.EN c.val) = wordBits v 0 1 ∧ a.get (Reg.DPL_CTL.FORCE c.val) = wordBits v 1 2 ∧ a.get (Reg.DPL_CTL.REC c.val) = wordBits v 3 3 ∧
      (wordBits v 0 1 = 0 → a.chanState c.val = 0)) ∧
    (s.dev.keyFor m = true → Runs (.dpllForceFreerun m c) s fun a => a.get (Reg.DPL_CTL.FORCE c.val) = 1 ∧ a.chanState c.val = 0) ∧
    (s.dev.keyFor m = true → (s.dev.asic.chan c.val).lockedBefore = true → s.dev.asic.flag (Reg.DPL_CTL.EN c.val) = true →
      s.dev.asic.chanState c.val = 1 ∨ s.dev.asic.chanState c.val = 2 → Runs (.dpllForceHoldover m c) s fun a => a.get (Reg.DPL_CTL.FORCE c.val) = 2 ∧ a.chanState c.val = 3) ∧
    (s.dev.keyFor m = true → s.dev.asic.flag (Reg.DPL_CTL.EN c.val) = true → s.dev.asic.sel c.val ≠ 31 → s.dev.asic.get (Reg.DPL_STATE.UNIT c.val) ≠ 15 →
      (s.dev.asic.chanState c.val = 0 → Runs (.dpllForceAuto m c) s fun a => a.get (Reg.DPL_CTL.FORCE c.val) = 0 ∧ a.chanState c.val = 1) ∧
      (s.dev.asic.chanState c.val = 3 → s.dev.asic.fallback = false → (s.dev.asic.uc c.val).switch = none →
        Runs (.dpllForceAuto m c) s fun a => a.get (Reg.DPL_CTL.FORCE c.val) = 0 ∧ a.chanState c.val = 3 ∧ (a.uc c.val).switch
          = some { old := 31, new := s.dev.asic.sel c.val, t0 := s.dev.asic.clk.coarse, reason := 7 })) ∧
    (s.dev.freeFor m = true → ∀ v : Word,
      Runs (.dplHocfgWrite m c 0 v) s (fun a => a.get (Reg.DPL_HOWIN.WIN c.val) = wordBits v 0 17 ∧ a.get (Reg.DPL_HIST.INT c.val) = a.hoInterval c.val % 128 ∧
        (a.hoInterval c.val ≠ s.dev.asic.hoInterval c.val → (∀ h ∈ (a.chan c.val).hist, h.valid = false) ∧ (a.chan c.val).open_ = none)) ∧
      Runs (.dplHocfgWrite m c 1 v) s (fun a => a.get (Reg.DPL_HOCFG.GUARD c.val) = wordBits v 0 12 ∧ a.get (Reg.DPL_HOCFG.LIMIT c.val) = wordBits v 13 14 ∧
        a.get (Reg.DPL_HIST.INT c.val) = a.hoInterval c.val % 128 ∧
        (a.hoInterval c.val ≠ s.dev.asic.hoInterval c.val → (∀ h ∈ (a.chan c.val).hist, h.valid = false) ∧ (a.chan c.val).open_ = none)) ∧
      Runs (.dplLoopWrite m c 0 v) s (fun a => a.get (Reg.DPL_BW.BW c.val) = v.toNat ∧ a.dpl = s.dev.asic.dpl) ∧
      Runs (.dplLoopWrite m c 1 v) s (fun a => a.get (Reg.DPL_ACQBW.BW c.val) = v.toNat ∧ a.dpl = s.dev.asic.dpl) ∧
      Runs (.dplLoopWrite m c 2 v) s (fun a => a.get (Reg.DPL_LOOP.DAMP c.val) = wordBits v 0 8 ∧ a.get (Reg.DPL_LOOP.PSL c.val) = wordBits v 8 14 ∧
        a.dpl = s.dev.asic.dpl) ∧
      Runs (.dplLoopWrite m c 3 v) s (fun a => a.get (Reg.DPL_FCLAMP.LIM c.val) = v.toNat ∧ a.dpl = s.dev.asic.dpl)) ∧
    (∀ v : Word, s.dev.keyFor m = true → s.dev.asic.unitFree (wordBits v 3 4) = true →
      Runs (.dpllMigrationGo m v) s fun a =>
        (s.dev.asic.migrationClear = false → a.dpl = { s.dev.asic.dpl with wait := s.dev.asic.dpl.wait ++ [(wordBits v 0 3, wordBits v 3 4)] }) ∧
        (s.dev.asic.migrationClear = true → s.dev.asic.parityFree 2 (wordBits v 0 3) = false → a.dpl = s.dev.asic.dpl ∧
          a.deferred = s.dev.asic.deferred ++ [.dpll (wordBits v 0 3) (wordBits v 3 4)]) ∧
        (s.dev.asic.migrationClear = true → s.dev.asic.parityFree 2 (wordBits v 0 3) = true → a.flag Reg.DPL_MIGSTAT.BUSY = true ∧
          a.dpl = { s.dev.asic.dpl with mig := some { chan := wordBits v 0 3, unit := wordBits v 3 4, t0 := s.dev.asic.clk.coarse, copied := false } }))

/-- R164–R168, R172, R174, R176, R178–R185: what a channel does by itself. An update takes the sample that is due, forms the phase
error of R164, keeps I inside the clamp and locks after the lock time; a failed check marks the unit and makes no update; the
holdover word is the average, corrected by the oven model; a history entry closes with its mean; the holdover limit is raised
once; a failed unit's channel goes to the lowest free spare, or to none; a migration copies and then cuts over.
It rests on the model's own choices of log entries 6, 13, 39. -/
def Obligations.ChannelRuns : Prop :=
  ∀ (s : State) (c : Fin 8), s.dev.sup.shelf = false →
    (∀ (k : UnitCheck) (same : Bool),
      (s.dev.asic.updates c.val = false ∨ s.dev.asic.sampleDue c.val = none → Runs (.dpllUpdate c k same) s fun a => a = s.dev.asic) ∧
      (∀ x : Sample, s.dev.asic.updates c.val = true → s.dev.asic.sampleDue c.val = some x →
        (k.code ≠ 0 → Runs (.dpllUpdate c k same) s fun a =>
          a = (s.dev.asic.put Reg.DPL_UNITS.FAULT (s.dev.asic.get Reg.DPL_UNITS.FAULT ||| 2 ^ s.dev.asic.get (Reg.DPL_STATE.UNIT c.val))).raise (24 + c.val)
            (s.dev.asic.get (Reg.DPL_STATE.UNIT c.val) + 256 * k.code)) ∧
        (k.code = 0 → Runs (.dpllUpdate c k true) s fun a => (a.chan c.val).lastSample = x.t ∧ ((a.chan c.val).integ.natAbs : Int) ≤ s.dev.asic.fclamp c.val ∧
          a.get2 (Reg.DPL_PELO.ERR c.val) (Reg.DPL_PEHI.ERR c.val) = code 64 (roundDiv ((x.phase - s.dev.asic.buildOut c.val
            + (s.dev.asic.get2S (Reg.DPL_PHOFFLO.PHOFF c.val) (Reg.DPL_PHOFFHI.PHOFF c.val) + (s.dev.asic.chan c.val).rally)) * 2 ^ 32
            - (s.dev.asic.settleChan c.val).thetaTime c.val x.t) (2 ^ 32)) ∧
          (s.dev.asic.chanState c.val = 1 → a.chanState c.val
            = if max 1 (min 3600 (s.dev.asic.get (Reg.DPL_LOCK.LOCKTIME c.val))) * second ≤ (a.chan c.val).okTime then 2 else 1)))) ∧
    (s.dev.asic.chanState c.val = 3 → s.dev.asic.fallback = false → s.dev.asic.get (Reg.DPL_STATE.UNIT c.val) ≠ 15 →
      Runs (.holdoverModelUpdate c) s fun a => (a.chan c.val).integ = clampTo (s.dev.asic.fclamp c.val) (s.dev.asic.hoWord c.val) ∧ (a.chan c.val).prop = 0 ∧
        a.flag (Reg.DPL_STATE.MODELED c.val) = s.dev.asic.hoModeled c.val) ∧
    ((s.dev.asic.chan c.val).open_ = none → Runs (.historyEntryClose c) s fun a =>
      (a.chan c.val).open_ = some (s.dev.asic.clk.coarse / (s.dev.asic.hoInterval c.val * second) * (s.dev.asic.hoInterval c.val * second)) ∧
      (a.chan c.val).hist = (s.dev.asic.chan c.val).hist ∧ (a.chan c.val).openSum = 0) ∧
    (∀ t, (s.dev.asic.chan c.val).open_ = some t → t + s.dev.asic.hoInterval c.val * second ≤ s.dev.asic.clk.coarse → Runs (.historyEntryClose c) s fun a =>
      (a.chan c.val).hist = ((⟨roundDiv (((s.dev.asic.settleChan c.val).chan c.val).openSum) (s.dev.asic.clk.coarse - t), (s.dev.asic.chan c.val).openOk,
        (s.dev.asic.chan c.val).openFrozen, (t + s.dev.asic.clk.coarse) / 2⟩ : HistEntry) :: (s.dev.asic.chan c.val).hist).take 1024 ∧
      (a.chan c.val).appended = (s.dev.asic.chan c.val).appended + 1 ∧ ∀ g : Fld, a.get g = s.dev.asic.get g) ∧
    (s.dev.asic.chanState c.val = 3 → s.dev.asic.get (Reg.DPL_HOCFG.LIMIT c.val) ≠ 0 → s.dev.asic.fallback = false → (s.dev.asic.chan c.val).limitDone = false →
      min 8760 (s.dev.asic.get (Reg.DPL_HOCFG.LIMIT c.val)) * 3600 ≤ s.dev.asic.hoSeconds c.val →
      Runs (.holdoverLimit c) s fun a => a = (s.dev.asic.modChan c.val fun d => { d with limitDone := true }).raise 34 c.val) ∧
    (s.dev.asic.get (Reg.DPL_CTL.REC c.val) ≠ 0 → s.dev.asic.get (Reg.DPL_CTL.REC c.val) < 6 → Runs (.dpllTelemetryRecord c) s fun a =>
      (a.chan c.val).teleN = 0 ∧ (a.chan c.val).teleFrom = s.dev.asic.clk.coarse ∧
      (hasBit (s.dev.asic.get Reg.REC_EN.SLOTS) 12 = true → s.dev.asic.regionFull (s.dev.asic.get (Reg.REC_SLOTCFG.CH 12)) = false →
        ∃ r, a.recs.queue.get 12 = s.dev.asic.recs.queue.get 12 ++ [r] ∧ r.head? = some 6 ∧ r[2]? = some (BitVec.ofNat 8 c.val))) ∧
    (s.dev.asic.dpl.auto.contains c.val = true → s.dev.asic.parityFree 2 c.val = true → s.dev.asic.get (Reg.DPL_STATE.UNIT c.val) ≠ 15 →
      (∀ u, s.dev.asic.spareUnit = some u → Runs (.autoMigrationLoad c) s fun a => a.get (Reg.DPL_STATE.UNIT c.val) = u ∧ (a.chan c.val).integ = (s.dev.asic.chan c.val).ck.integ ∧
        a.parityOf 2 c.val = !s.dev.asic.parityOf 2 c.val ∧ a.flag Reg.DPL_MIGSTAT.CHECKPOINT = true ∧ a.dpl.auto.contains c.val = false) ∧
      (s.dev.asic.spareUnit = none → Runs (.autoMigrationLoad c) s fun a => a.get (Reg.DPL_STATE.UNIT c.val) = 15)) ∧
    (∀ g : Migration, s.dev.asic.dpl.mig = some g → g.chan < 8 → g.unit < 15 →
      (s.dev.asic.get (Reg.DPL_STATE.UNIT g.chan) ≠ 15 → g.copied = false → tickAfter (g.t0 + 125) + 2555 ≤ s.dev.asic.clk.coarse →
        Runs .migrationStart s fun a => a = { s.dev.asic with dpl := { s.dev.asic.dpl with mig := some { g with copied := true } } }) ∧
      (g.copied = true → tickAfter (g.t0 + 125) + 200058 ≤ s.dev.asic.clk.coarse → s.dev.asic.dpl.wait = [] → Runs .migrationCutover s fun a =>
        a.get (Reg.DPL_STATE.UNIT g.chan) = g.unit ∧ a.dpl.mig = none ∧ a.flag Reg.DPL_MIGSTAT.BUSY = false ∧ a.flag Reg.DPL_MIGSTAT.DONE = true ∧
        a.parityOf 2 g.chan = !s.dev.asic.parityOf 2 g.chan))

/-- R192–R194, R197, R200: an oven's samples and faults. A temperature sample shows errors and power; an oven within the
criteria for 120 s, no earlier than 180 s after t0, sets WARM, the active oven's WARM sets `ADMIT`; an oven never leaves
the ±200 mK band without keeping WARM. A board sample shows θ and keeps the last 100; an evaluation shows m(t) of both
models; a commit asks for every accepted fit. A reported fault marks the oven with its cause, is raised, and clears once
every cause has been absent for 60 s.
It rests on the model's own choices of log entries 2, 51. -/
def Obligations.OvenSamples : Prop :=
  ∀ s : State, s.dev.sup.shelf = false →
    (∀ (o : Fin 2) (inner outer power : BitVec 16) (osc : Bool),
      Runs (.ovenTemperatureSample o inner outer power osc) s fun a => a.get (Reg.CAL_OVTEMP.INNER o.val) = inner.toNat ∧
        a.get (Reg.CAL_OVTEMP.OUTER o.val) = outer.toNat ∧ a.get (Reg.CAL_OVPWR.PWR o.val) = power.toNat ∧ a.activeOven = s.dev.asic.activeOven ∧
        (s.dev.asic.ovenWarm o.val = true → inner.toInt.natAbs ≤ 200 → a.ovenWarm o.val = true) ∧
        (s.dev.asic.ovenWarm o.val = false → (20 < inner.toInt.natAbs ∨ 100 < outer.toInt.natAbs ∨ osc = false ∨
          s.dev.asic.clk.now < s.dev.asic.modes.t0 + 180 * second) → a.ovenWarm o.val = false) ∧
        (∀ t, s.dev.asic.ovenWarm o.val = false → (s.dev.asic.oven o.val).warmSince = some t → t + 120 * second ≤ s.dev.asic.clk.now →
          s.dev.asic.modes.t0 + 180 * second ≤ s.dev.asic.clk.now → inner.toInt.natAbs ≤ 20 → outer.toInt.natAbs ≤ 100 → osc = true →
          a.ovenWarm o.val = true ∧ (o.val = s.dev.asic.activeOven → a.flag Reg.GLB_MODE.ADMIT = true))) ∧
    (∀ t : BitVec 16, Runs (.boardTempSample t) s fun a => a.get Reg.CAL_OVBTEMP.TEMP = t.toNat ∧
      a.ovn = { s.dev.asic.ovn with temps := (t.toInt :: s.dev.asic.ovn.temps).take 100 } ∧ a.clk = s.dev.asic.clk ∧
      ∀ g : Fld, g.addr ≠ Reg.CAL_OVBTEMP.TEMP.addr → a.get g = s.dev.asic.get g) ∧
    (Runs .ovenModelEvaluate s fun a => a.ovn.hourNT = s.dev.asic.ovn.hourNT + 1 ∧ a.ovn.hourT = s.dev.asic.ovn.hourT + s.dev.asic.theta ∧ a.clk = s.dev.asic.clk ∧
      ∀ o : Fin 2, (∀ f, (s.dev.asic.oven o.val).pending = some f → a.get (Reg.CAL_OVSTS.MSTAT o.val) = 2 ∧ (a.oven o.val).use = f ∧ (a.oven o.val).pending = none) ∧
        ((s.dev.asic.oven o.val).pending = none → (a.oven o.val).use = (s.dev.asic.oven o.val).use) ∧
        a.ovenM o.val = satS 48 (roundRat ((a.oven o.val).use.m (secOf s.dev.asic.ts0) s.dev.asic.theta * 2 ^ 60))) ∧
    (Runs .ovenModelCommit s fun a => a.ovn = { s.dev.asic.ovn with committed := s.dev.asic.clk.now } ∧
      a.commits = s.dev.asic.commits ++ (if (s.dev.asic.oven 0).fit.isSome then [.model 0] else []) ++ (if (s.dev.asic.oven 1).fit.isSome then [.model 1] else []) ∧
      ∀ g : Fld, a.get g = s.dev.asic.get g) ∧
    (∀ o : Fin 2,
      (∀ k : Fin 5, k.val = 1 ∨ k.val = 2 → Runs (.ovenFault o k) s fun a => a.ovenFaulty o.val = true ∧ a.get (Reg.CAL_OVSTS.FCAUSE o.val) = k.val ∧
        hasBit (a.oven o.val).causes k.val = true ∧ (a.pair 35).has o.val = true ∧ (k.val = 1 → a.oscOk o.val = false) ∧
        (k.val = 1 → o.val = s.dev.asic.activeOven → a.ovn.oscLost = true)) ∧
      (s.dev.asic.ovenFaulty o.val = true → (hasBit (s.dev.asic.oven o.val).causes 1 = true → s.dev.asic.oscOk o.val = true) → s.dev.asic.tempLost o.val = false →
        (s.dev.asic.oven o.val).blame < s.dev.asic.xcnt → (s.dev.asic.oven o.val).clearSince + 60 * second ≤ s.dev.asic.clk.now →
        Runs (.ovenFaultClear o) s fun a => a.ovenFaulty o.val = false ∧ a.get (Reg.CAL_OVSTS.FCAUSE o.val) = 0 ∧ (a.oven o.val).causes = 0 ∧
          (a.pair 35).has o.val = false ∧ a.clk = s.dev.asic.clk))
/-- R195, R203–R205: the hourly point and the oven handover. Each closed hour adds one point per oven at the `TS0` second and
opens the next hour. `GO` starts a planned handover from t0 if the inactive oven is WARM and not faulted, and it waits while
a rule bars it. At Ts the oven select takes the other oven, the relieved oven retires, and index 22 restarts; an emergency
does so at once; 200 µs later the handover is over, recorded and committed.
It rests on the model's own choices of log entries 6, 16. -/
def Obligations.OvenHandover : Prop :=
  ∀ s : State,
    (s.dev.sup.shelf = false →
      (Runs .ovenHourlyPoint s fun a => a.ovn.hourFrom = s.dev.asic.clk.coarse ∧ a.ovn.hourNT = 0 ∧ a.ovn.hourT = 0 ∧ a.ovn.hourOk = true ∧
        a.clk = s.dev.asic.clk ∧ ∀ o : Fin 2, ∃ p : OvenPoint, (a.oven o.val).points = (p :: (s.dev.asic.oven o.val).points).take 336 ∧
          p.time = secOf s.dev.asic.ts0 ∧ (s.dev.asic.ovn.hourCold.get o.val = true ∨ s.dev.asic.ovn.hourOk = false → p.valid = false)) ∧
      (∀ t0, s.dev.asic.ovn.hoReq = some t0 → s.dev.asic.ovn.hoAt = none → t0 + 100 * msec ≤ s.dev.asic.clk.coarse →
        secOf (s.dev.asic.scaleAt 0 ((t0 + 100 * msec) * uPerCycle - 1)) < secOf s.dev.asic.ts0 → s.dev.asic.fallback = false → s.dev.asic.parityFree 1 22 = true →
        Runs .ovenHandoverSwitch s fun a => a.activeOven = s.dev.asic.inactiveOven ∧ a.flag (Reg.CAL_OVSTS.RETIRED s.dev.asic.inactiveOven) = false ∧
          a.flag (Reg.CAL_OVSTS.RETIRED s.dev.asic.activeOven) = !s.dev.asic.flag (Reg.CAL_OVSTS.RETIRED s.dev.asic.inactiveOven) ∧
          a.ovn.hoAt = some s.dev.asic.clk.coarse ∧ a.ovn.emerg = false ∧ a.ovn.hoReq = none ∧ a.ovn.fit22 = [] ∧ a.ldg.ovenRestart = true ∧ a.clk = s.dev.asic.clk) ∧
      (s.dev.asic.ovn.oscLost = true → s.dev.asic.ovenSpare = true → Runs .ovenEmergencyHandover s fun a => a.activeOven = s.dev.asic.inactiveOven ∧
        a.flag Reg.CAL_OVSTAT.HOBUSY = true ∧ a.ovn.hoAt = some s.dev.asic.clk.coarse ∧ a.ovn.emerg = true ∧ a.ovn.oscLost = false ∧
        a.clk = { s.dev.asic.clk with degradedUntil := s.dev.asic.clk.now + 200 * usec }) ∧
      (∀ t, s.dev.asic.ovn.hoAt = some t → t + 200 * usec ≤ s.dev.asic.clk.coarse → s.dev.asic.deferred = [] → s.dev.asic.dpl.wait = [] → s.dev.asic.apl.ho = none →
        Runs .ovenHandoverSettled s fun a =>
        a.flag Reg.CAL_OVSTAT.HOBUSY = false ∧ a.flag Reg.CAL_OVEVT.HOD = true ∧ (s.dev.asic.ovn.emerg = true → a.flag Reg.CAL_OVEVT.EMERG = true) ∧
        a.get Reg.CAL_OVHOSTEP.STEP = code 32 s.dev.asic.ovn.hoStep ∧ a.ovn.hoAt = none ∧ a.ovn.hoReq = none ∧ Commit.placement ∈ a.commits ∧
        a.activeOven = s.dev.asic.activeOven)) ∧
    (∀ (m : Master) (v : Word), s.dev.keyFor m = true → s.dev.asic.flag Reg.CAL_OVSTAT.HOBUSY = false → s.dev.asic.ovenWarm s.dev.asic.inactiveOven = true →
      s.dev.asic.ovenFaulty s.dev.asic.inactiveOven = false → Runs (.ovenHandoverGo m v) s fun a => a.get Reg.CAL_OVHO.AUTO = wordBits v 1 1 ∧
        (s.dev.asic.ovenHoBarred = true → a.ovn = { s.dev.asic.ovn with hoWait := true } ∧ a.flag Reg.CAL_OVSTAT.HOBUSY = false) ∧
        (s.dev.asic.ovenHoBarred = false → a.flag Reg.CAL_OVSTAT.HOBUSY = true ∧
          a.ovn = { s.dev.asic.ovn with hoWait := false, hoReq := some s.dev.asic.clk.coarse, emerg := false }))

/-- R214–R217, R229–R232: what an APLL unit does by itself. A band step ends after its time with the band found, kept in the
hop table; a miss at the end of a core is retried by a full search and, out of retries, is the unit's FAULT. Lock is
declared after the lock time. A loss of lock of a carrier is met by the spare unit where the rules allow it and else by a
relock 10 µs later. A substitution restarts the function's outputs and shows itself.
It rests on the model's own choices of log entries 6, 53, 54. -/
def Obligations.ApllUnits : Prop :=
  ∀ s : State, s.dev.sup.shelf = false →
    (∀ (u : Fin 8) (band : BitVec 9) (miss : Bool),
      (((s.dev.asic.au u.val).phase ≠ 1 ∧ (s.dev.asic.au u.val).phase ≠ 4) ∨ s.dev.asic.clk.now < (s.dev.asic.au u.val).stepAt + (s.dev.asic.au u.val).stepTime →
        Runs (.bandStepComplete u band miss) s fun a => a = s.dev.asic) ∧
      (((s.dev.asic.au u.val).phase = 1 ∨ (s.dev.asic.au u.val).phase = 4) → (s.dev.asic.au u.val).stepAt + (s.dev.asic.au u.val).stepTime ≤ s.dev.asic.clk.now →
        (miss = false ∨ bandEnd u.val band.toNat = false → Runs (.bandStepComplete u band miss) s fun a => (a.au u.val).phase = 2 ∧
          (a.au u.val).stepEnd = s.dev.asic.clk.now ∧ wordBits (a.hopEntry (hopKey s.dev.asic.curPlan u.val)) 0 9 = band.toNat ∧
          wordBits (a.hopEntry (hopKey s.dev.asic.curPlan u.val)) 9 1 = 1 ∧ a.commits = s.dev.asic.commits ++ [.hopTable] ∧ a.clk = s.dev.asic.clk) ∧
        (miss = true → bandEnd u.val band.toNat = true →
          ((s.dev.asic.au u.val).retries < s.dev.asic.get Reg.APL_LOLCFG.RETRY → Runs (.bandStepComplete u band miss) s fun a => (a.au u.val).phase = 4 ∧
            (a.au u.val).retries = (s.dev.asic.au u.val).retries + 1 ∧ (a.au u.val).full = true ∧ (a.au u.val).stepAt = s.dev.asic.clk.now + bandWait) ∧
          (s.dev.asic.get Reg.APL_LOLCFG.RETRY ≤ (s.dev.asic.au u.val).retries → Runs (.bandStepComplete u band miss) s fun a => (a.au u.val).phase = 5 ∧
            a.flag (Reg.APL_ASTAT.FAULT u.val) = true ∧ ∀ f, s.dev.asic.fnOf u.val = some f → (a.pair 41).has f = true)))) ∧
    (∀ u : Fin 8,
      ((s.dev.asic.au u.val).phase ≠ 2 ∨ s.dev.asic.clk.now < (s.dev.asic.au u.val).stepEnd + lockTime u.val → Runs (.apllLockDeclared u) s fun a => a = s.dev.asic) ∧
      ((s.dev.asic.au u.val).phase = 2 → (s.dev.asic.au u.val).stepEnd + lockTime u.val ≤ s.dev.asic.clk.now → Runs (.apllLockDeclared u) s fun a =>
        (a.au u.val).phase = 3 ∧ (a.au u.val).lockAt = s.dev.asic.clk.now ∧ (a.au u.val).retries = 0 ∧
        ∀ k ∈ s.dev.asic.slotsOf u.val, a.flag (Reg.APL_AEVT.LOCKD k) = true ∧ a.flag (Reg.APL_ASTAT.ALIGNED k) = true ∧ a.flag (Reg.APL_ASTAT.LOL k) = false) ∧
      ((s.dev.asic.au u.val).phase ≠ 2 → (s.dev.asic.au u.val).phase ≠ 3 → Runs (.apllLossOfLock u) s fun a => a = s.dev.asic) ∧
      (u.val ≠ 7 → (s.dev.asic.au u.val).phase = 3 → s.dev.asic.carrier u.val = u.val → s.dev.asic.apl.subs = [] →
        (s.dev.asic.aplSubAllowed = true → s.dev.asic.spare7 = true → Runs (.apllLossOfLock u) s fun a => a.carrier u.val = 7 ∧ a.carrier 7 = u.val ∧
          a.flag (Reg.APL_ASTAT.RETIRED u.val) = true ∧ a.flag (Reg.APL_ASTAT.LOL u.val) = true ∧ a.apl.follow7 = some u.val ∧ (a.au u.val).phase = 0 ∧
          a.apl.subs = [(u.val, s.dev.asic.clk.coarse)] ∧ Commit.placement ∈ a.commits) ∧
        (s.dev.asic.aplSubAllowed = false ∨ s.dev.asic.spare7 = false → Runs (.apllLossOfLock u) s fun a => a.carrier u.val = u.val ∧
          a.flag (Reg.APL_ASTAT.LOL u.val) = true ∧ (a.au u.val).phase = 4 ∧ (a.au u.val).relockAt = some (s.dev.asic.clk.now + 10 * usec) ∧ a.apl.subs = [])) ∧
      ((s.dev.asic.au u.val).relockAt = none → Runs (.apllRelockStart u) s fun a => a = s.dev.asic) ∧
      (∀ t, (s.dev.asic.au u.val).relockAt = some t →
        (s.dev.asic.clk.now < t → Runs (.apllRelockStart u) s fun a => a = s.dev.asic) ∧
        (t ≤ s.dev.asic.clk.now → Runs (.apllRelockStart u) s fun a => (a.au u.val).phase = 1 ∧ (a.au u.val).full = false ∧
          (a.au u.val).stepAt = s.dev.asic.clk.now ∧ (a.au u.val).relockAt = none ∧ a.clk = s.dev.asic.clk))) ∧
    ∀ f : Fin 7,
      (s.dev.asic.apl.subs.find? (fun p => p.1 == f.val) = none → Runs (.substitutionRestart f) s fun a => a = s.dev.asic) ∧
      (∀ g t, s.dev.asic.apl.subs.find? (fun p => p.1 == f.val) = some (g, t) → s.dev.asic.lockSettled 7 = true → t + usec ≤ s.dev.asic.clk.coarse →
        Runs (.substitutionRestart f) s fun a => a.flag (Reg.APL_ASTAT.LOL f.val) = false ∧ a.flag (Reg.APL_AEVT.SUBD f.val) = true ∧
          a.flag Reg.APL_HOSTAT.AUTO = true ∧ a.get Reg.APL_HOSTAT.FUNC = f.val ∧ a.get Reg.APL_HOSTAT.OLD = f.val ∧ a.get Reg.APL_HOSTAT.NEW = 7 ∧
          a.apl.subs = s.dev.asic.apl.subs.filter fun p => p.1 != f.val)
/-- R221–R226, R231, R233, R236: plans, hops, handovers and the commands of the block. `GO` makes a hop due at once or at its
second; a hop latches the plan's words as the running set; outputs restart from a settled lock, a glide ends in its time;
`HTCLR` marks every entry invalid and `RELOCK` starts failed units afresh; a handover starts where a target is free, waits
while it is barred, compares, gives up after 8 comparisons, and switches.
It rests on the model's own choices of log entries 6, 20, 53, 55. -/
def Obligations.ApllHops : Prop :=
  ∀ s : State,
    (s.dev.sup.shelf = false →
      (s.dev.asic.hopDue = none → Runs .hopStart s fun a => a = s.dev.asic) ∧
      (∀ p late, s.dev.asic.hopDue = some (p, late) → p < 64 → s.dev.asic.apl.ho = none → s.dev.asic.ovn.hoWait = false → Runs .hopStart s fun a =>
        a.curPlan = p ∧ a.get Reg.APL_HOPSTAT.PREV = s.dev.asic.curPlan ∧ a.flag Reg.APL_HOPSTAT.PEND = false ∧ a.apl.hopReq = none ∧
        a.apl.hopAt = s.dev.asic.clk.coarse ∧ (late = true → a.flag Reg.APL_HOPSTAT.LATE = true) ∧
        ∀ w : Fin 64, a.runWord w.val = s.dev.asic.apl.active.getF planWordReset (p * 64 + w.val)) ∧
      (∀ f : Fin 7,
        (s.dev.asic.apl.hopWait.contains f.val = false ∨ s.dev.asic.lockSettled (s.dev.asic.carrier f.val) = false →
          Runs (.hopOutputRestart f) s fun a => a = s.dev.asic) ∧
        (s.dev.asic.apl.hopWait.contains f.val = true → s.dev.asic.lockSettled (s.dev.asic.carrier f.val) = true → s.dev.asic.apl.ho = none →
          s.dev.asic.ovn.hoWait = false → Runs (.hopOutputRestart f) s fun a => a.apl.hopWait = s.dev.asic.apl.hopWait.filter (· != f.val) ∧
            a.flag (Reg.APL_ASTAT.HELD f.val) = false) ∧
        (s.dev.asic.apl.glides.find? (fun p => p.1 == f.val) = none → Runs (.glideEnd f) s fun a => a = s.dev.asic) ∧
        (∀ g t, s.dev.asic.apl.glides.find? (fun p => p.1 == f.val) = some (g, t) → t ≤ s.dev.asic.clk.coarse → s.dev.asic.apl.ho = none → s.dev.asic.ovn.hoWait = false →
          Runs (.glideEnd f) s fun a => a.apl.glides = s.dev.asic.apl.glides.filter (fun p => p.1 != f.val) ∧ a.flag (Reg.APL_AEVT.GLIDED f.val) = true)) ∧
      (∀ (h : AplHo) (d : BitVec 32), s.dev.asic.apl.ho = some h → h.started = true → h.ready = false → (s.dev.asic.au h.target).phase = 3 →
        h.since + 51200 * (h.tries + 1) ≤ s.dev.asic.clk.coarse →
        (d.toInt.natAbs ≤ 500 → Runs (.apllTrimMeasurement d) s fun a =>
          a = { s.dev.asic with apl := { s.dev.asic.apl with ho := some { h with ready := true, step := d.toInt } } }) ∧
        (500 < d.toInt.natAbs → h.tries < 7 → Runs (.apllTrimMeasurement d) s fun a =>
          a = { s.dev.asic with apl := { s.dev.asic.apl with ho := some { h with tries := h.tries + 1 } } }) ∧
        (500 < d.toInt.natAbs → 7 ≤ h.tries → Runs (.apllTrimMeasurement d) s fun a => a.apl.ho = none ∧ a.flag Reg.APL_HOSTAT.MISMATCH = true ∧
          a.flag Reg.APL_HOSTAT.BUSY = false)) ∧
      (∀ h : AplHo, s.dev.asic.apl.ho = some h → h.ready = true → h.fn < 7 → h.target < 8 → s.dev.asic.carrier h.fn ≠ h.target → Runs .apllHandoverSwitch s fun a => a.apl.ho = none ∧
        a.carrier h.fn = h.target ∧ a.flag (Reg.APL_ASTAT.RETIRED h.target) = false ∧ a.flag Reg.APL_HOSTAT.DONE = true ∧ a.flag Reg.APL_HOSTAT.BUSY = false ∧
        a.get Reg.APL_HOSTAT.FUNC = h.fn ∧ a.get Reg.APL_HOSTAT.OLD = s.dev.asic.carrier h.fn ∧ a.get Reg.APL_HOSTAT.NEW = h.target ∧
        a.get Reg.APL_HOSTEP.STEP = code 32 h.step ∧ Commit.placement ∈ a.commits)) ∧
    (∀ (m : Master) (v : Word), s.dev.keyFor m = true →
      (s.dev.asic.flag Reg.APL_HOPSTAT.BUSY = false → wordBits v 6 1 = 0 → Runs (.aplHopGo m v) s fun a => a.apl = { s.dev.asic.apl with hopReq := some (wordBits v 0 6, none) } ∧
        a.flag Reg.APL_HOPSTAT.PEND = false ∧ a.get Reg.APL_HOP.PLAN = wordBits v 0 6) ∧
      (s.dev.asic.flag Reg.APL_HOPSTAT.BUSY = false → wordBits v 6 1 = 1 →
        0 < signed 32 ((s.dev.asic.get Reg.APL_HOPSEC.SEC + 2 ^ 32 - secOf s.dev.asic.ts0 % 2 ^ 32) % 2 ^ 32) → Runs (.aplHopGo m v) s fun a =>
        a.apl = { s.dev.asic.apl with hopReq := some (wordBits v 0 6, some (s.dev.asic.get Reg.APL_HOPSEC.SEC)) } ∧ a.flag Reg.APL_HOPSTAT.PEND = true) ∧
      (∀ u, wordBits v 0 3 < 7 → s.dev.asic.aplTarget (wordBits v 0 3) = some u → s.dev.asic.flag Reg.APL_HOSTAT.BUSY = false → Runs (.apllHandoverGo m v) s fun a =>
        a.flag Reg.APL_HOSTAT.BUSY = true ∧ ∃ h, a.apl.ho = some h ∧ h.fn = wordBits v 0 3 ∧ h.target = u ∧ h.ready = false ∧ h.started = !s.dev.asic.aplHoBarred) ∧
      (Runs (.aplSpareWrite m v) s fun a => a.get Reg.APL_SPARE.SHADOW = wordBits v 0 3 ∧
        (s.dev.asic.free7 = true → a.apl.follow7 = if wordBits v 0 3 = 7 then none else some (wordBits v 0 3)) ∧
        (s.dev.asic.free7 = false → a.apl = s.dev.asic.apl))) ∧
    ∀ m : Master, s.dev.keyFor m = true →
      (Runs (.hopTableClear m) s fun a => (∀ k : Fin 512, wordBits (a.hopEntry k.val) 9 1 = 0) ∧ a.commits = s.dev.asic.commits ++ [.hopTable] ∧
        a.clk = s.dev.asic.clk ∧ ∀ g : Fld, g.addr ≠ 0x14 → a.get g = s.dev.asic.get g) ∧
      ∀ mask : BitVec 7, Runs (.apllRelock m mask) s fun a => ∀ f : Fin 7, mask.getLsbD f.val = true → (s.dev.asic.au f.val).phase = 5 →
        (a.au f.val).phase = 1 ∧ (a.au f.val).retries = 0 ∧ (a.au f.val).stepAt = s.dev.asic.clk.now + bandWait

/-- R240–R243, R245–R249: clock outputs. A newly enabled output asks for a divider sync, one disabled is squelched in an
orderly way; a due sync of an output that may run starts it on its grid; `SYNC` asks for one of every masked output;
a `SYNC_L` edge moves the grid of the outputs that take it, or is counted as ignored; a forced squelch ends at the safe
level; a Skim target is taken at once by a stopped output and approached by a running one; a driver's state is a level.
It rests on the model's own choices of log entries 20, 56. -/
def Obligations.ClockOutputs : Prop :=
  ∀ s : State,
    (∀ (m : Master) (v : Word), s.dev.freeFor m = true → Runs (.outEnableWrite m v) s fun a =>
      a.get Reg.OUT_ENA.CLK = wordBits v 0 24 ∧ a.get Reg.OUT_ENA.PLS = wordBits v 24 4 ∧ a.clk = s.dev.asic.clk ∧ ∀ o : Fin 24,
        (hasBit (s.dev.asic.get Reg.OUT_ENA.CLK) o.val = false → v.getLsbD o.val = true → (s.dev.asic.o o.val).syncAt = none →
          (a.o o.val).syncAt = some (s.dev.asic.clk.coarse + usec + 8)) ∧
        (hasBit (s.dev.asic.get Reg.OUT_ENA.CLK) o.val = true → v.getLsbD o.val = false → s.dev.asic.flag (Reg.OUT_STAT.RUN o.val) = true →
          a.flag (Reg.OUT_STAT.RUN o.val) = false ∧ a.flag (Reg.OUT_STAT.SQUELCH o.val) = true ∧ a.flag (Reg.OUT_STAT.FORCED o.val) = false ∧
          a.flag (Reg.OUT_STAT.SQD o.val) = true ∧ (a.o o.val).pin = .safe) ∧
        (hasBit (s.dev.asic.get Reg.OUT_ENA.CLK) o.val = v.getLsbD o.val → a.o o.val = s.dev.asic.o o.val)) ∧
    (∀ m : Master, s.dev.freeFor m = true → Runs (.outSyncCommand m) s fun a => a.clk = s.dev.asic.clk ∧ (∀ g : Fld, g.addr ≠ 0x14 → a.get g = s.dev.asic.get g) ∧
      ∀ o : Fin 24, a.o o.val = if hasBit (s.dev.asic.get Reg.OUT_SYNCMASK.MASK) o.val
        then { s.dev.asic.o o.val with syncAt := some (max ((s.dev.asic.o o.val).syncAt.getD 0) s.dev.asic.clk.coarse) } else s.dev.asic.o o.val) ∧
    (∀ (m : Master) (o : Fin 24) (v : Word), s.dev.freeFor m = true → Runs (.outSkimWrite m o v) s fun a => a.get (Reg.OUT_SKIM.TARGET o.val) = v.toNat ∧
      (s.dev.asic.flag (Reg.OUT_STAT.RUN o.val) = false → s.dev.asic.skimNow o.val ≠ signed 32 v.toNat → a.getS (Reg.OUT_SKIMCUR.S o.val) = signed 32 v.toNat ∧
        a.flag (Reg.OUT_STAT.SKIMD o.val) = true ∧ (a.o o.val).skimFrom = none) ∧
      (s.dev.asic.flag (Reg.OUT_STAT.RUN o.val) = true → s.dev.asic.skimNow o.val ≠ signed 32 v.toNat →
        (a.o o.val).skimFrom = some (s.dev.asic.skimNow o.val, s.dev.asic.clk.coarse))) ∧
    (s.dev.sup.shelf = false →
      (∀ (o : Fin 24) (w : Bool),
        ((s.dev.asic.o o.val).syncAt = none → Runs (.dividerSync o w) s fun a => a = s.dev.asic) ∧
        (∀ t, (s.dev.asic.o o.val).syncAt = some t →
          (s.dev.asic.clk.coarse < t → Runs (.dividerSync o w) s fun a => a = s.dev.asic) ∧
          (t ≤ s.dev.asic.clk.coarse → s.dev.asic.outMayRun o.val = false → Runs (.dividerSync o w) s fun a =>
            a = s.dev.asic.modO o.val fun x => { x with syncAt := none }) ∧
          (t ≤ s.dev.asic.clk.coarse → s.dev.asic.outMayRun o.val = true → Runs (.dividerSync o w) s fun a => (a.o o.val).syncAt = none ∧ (a.o o.val).pin = .clock ∧
            (a.o o.val).gridAt = s.dev.asic.clk.coarse ∧ (a.o o.val).gridSyncL = false ∧ (a.o o.val).div = (s.dev.asic.runWord (40 + o.val)).toNat ∧
            a.flag (Reg.OUT_STAT.RUN o.val) = true ∧ a.flag (Reg.OUT_STAT.SQUELCH o.val) = false ∧ a.flag (Reg.OUT_STAT.FORCED o.val) = false ∧
            a.flag (Reg.OUT_STAT.SYNCD o.val) = true ∧ a.flag (Reg.OUT_STAT.UNANCH o.val) = (!s.dev.asic.anchored' o.val || s.dev.asic.fallback) ∧
            (w = true → a.flag (Reg.OUT_STAT.GUARDD o.val) = true)))) ∧
      (∀ o : Fin 24,
        ((s.dev.asic.o o.val).pin = .held → Runs (.safeLevelChange o) s fun a => a = s.dev.asic.modO o.val fun x => { x with pin := .safe }) ∧
        ((s.dev.asic.o o.val).pin ≠ .held → Runs (.safeLevelChange o) s fun a => a = s.dev.asic) ∧
        ((s.dev.asic.o o.val).skimFrom = none ∨ s.dev.asic.skimNow o.val ≠ s.dev.asic.getS (Reg.OUT_SKIM.TARGET o.val) →
          Runs (.skimTargetReached o) s fun a => a = s.dev.asic) ∧
        ((s.dev.asic.o o.val).skimFrom ≠ none → s.dev.asic.skimNow o.val = s.dev.asic.getS (Reg.OUT_SKIM.TARGET o.val) → Runs (.skimTargetReached o) s fun a =>
          a.getS (Reg.OUT_SKIMCUR.S o.val) = s.dev.asic.getS (Reg.OUT_SKIM.TARGET o.val) ∧ a.flag (Reg.OUT_STAT.SKIMD o.val) = true ∧ (a.o o.val).skimFrom = none)) ∧
      (s.dev.asic.flag Reg.OUT_SYNCCFG.EN = false → Runs .syncLEdge s fun a => a = s.dev.asic) ∧
      (s.dev.asic.flag Reg.OUT_SYNCCFG.EN = true → s.dev.asic.fallback = true → Runs .syncLEdge s fun a => a.flag Reg.OUT_SYNCSTAT.IGNORED = true ∧
        a.get Reg.OUT_SYNCIGN.COUNT = min 65535 (s.dev.asic.get Reg.OUT_SYNCIGN.COUNT + 1) ∧ a.out = s.dev.asic.out) ∧
      (s.dev.asic.flag Reg.OUT_SYNCCFG.EN = true → s.dev.asic.fallback = false → (∀ t, s.dev.asic.out.syncLAt = some t → t + usec ≤ s.dev.asic.clk.coarse) →
        Runs .syncLEdge s fun a => a.flag Reg.OUT_SYNCSTAT.SYNCD = true ∧ a.get Reg.OUT_SYNCSTAT.COUNT = (s.dev.asic.get Reg.OUT_SYNCSTAT.COUNT + 1) % 65536 ∧
          a.out.syncLAt = some s.dev.asic.clk.coarse ∧ ∀ o : Fin 24,
          (s.dev.asic.takesSyncL o.val = true → a.o o.val = { s.dev.asic.o o.val with gridAt := s.dev.asic.clk.coarse, gridSyncL := true } ∧
            a.flag (Reg.OUT_STAT.UNANCH o.val) = true ∧ a.flag (Reg.OUT_STAT.SYNCD o.val) = true) ∧
          (s.dev.asic.takesSyncL o.val = false → a.o o.val = s.dev.asic.o o.val)) ∧
      ∀ (o : Fin 36) (k : Fin 3), Runs (.outputDriverFault o k) s fun a => (a.pair 43).has o.val = (k.val != 0) ∧ a.clk = s.dev.asic.clk ∧
        ∀ g : Fld, a.get g = s.dev.asic.get g)
/-- R251–R254: pulse outputs. In RELAY an edge that completes `DIV` schedules a pulse 12 cycles and `OFF` later, unless the
queue of 8 is full; the others are counted. In TRACK the tracker starts at a numbered slot, follows it, and flies over a
missing one. A pulse ends when its width has passed.
It rests on the model's own choices of log entries 6, 40, 52. -/
def Obligations.PulseOutputs : Prop :=
  ∀ (s : State) (p : Fin 4), s.dev.sup.shelf = false →
    (∀ bin : Fin 256,
      (s.dev.asic.relay p.val = false ∨ s.dev.asic.plsRun p.val = false ∨ s.dev.asic.present (s.dev.asic.plsIdx p.val) = false →
        Runs (.plsRelayEdge p bin) s fun a => a = s.dev.asic) ∧
      (s.dev.asic.relay p.val = true → s.dev.asic.plsRun p.val = true → s.dev.asic.present (s.dev.asic.plsIdx p.val) = true →
        ((s.dev.asic.pls p.val).relayed + 1 < s.dev.asic.plsDiv p.val → Runs (.plsRelayEdge p bin) s fun a =>
          a = s.dev.asic.modPls p.val fun x => { x with relayed := (s.dev.asic.pls p.val).relayed + 1 }) ∧
        (s.dev.asic.plsDiv p.val ≤ (s.dev.asic.pls p.val).relayed + 1 → (s.dev.asic.pls p.val).lastStart = none → (s.dev.asic.pls p.val).queue.length < 8 →
          Runs (.plsRelayEdge p bin) s fun a => (∀ g : Fld, a.get g = s.dev.asic.get g) ∧ a.pls p.val = { s.dev.asic.pls p.val with
            relayed := 0, lastStart := some (s.dev.asic.edgeTime bin.val + 12 * uPerCycle + 5 * s.dev.asic.plsOff p.val),
            queue := (s.dev.asic.pls p.val).queue ++ [{ start := s.dev.asic.edgeTime bin.val + 12 * uPerCycle + 5 * s.dev.asic.plsOff p.val, step := 0, k := 0, n := 1 }] }))) ∧
    (s.dev.asic.relay p.val = true ∨ s.dev.asic.plsCfgErr p.val = true → Runs (.plsTrackSlot p) s fun a => a = s.dev.asic) ∧
    (s.dev.asic.relay p.val = false → s.dev.asic.plsCfgErr p.val = false →
      ((s.dev.asic.inp (s.dev.asic.plsIdx p.val)).numbered = false → (s.dev.asic.pls p.val).tracking = false → Runs (.plsTrackSlot p) s fun a => a = s.dev.asic) ∧
      ((s.dev.asic.inp (s.dev.asic.plsIdx p.val)).numbered = true → (s.dev.asic.pls p.val).tracking = false → Runs (.plsTrackSlot p) s fun a =>
        (a.pls p.val).tracking = true ∧ (a.pls p.val).slot = (s.dev.asic.inp (s.dev.asic.plsIdx p.val)).n ∧
        (a.pls p.val).phi = (s.dev.asic.inp (s.dev.asic.plsIdx p.val)).phase * 2 ^ 32 ∧ (a.pls p.val).run = (s.dev.asic.inp (s.dev.asic.plsIdx p.val)).run ∧
        a.flag (Reg.PLS_STAT.FLY p.val) = false) ∧
      ((s.dev.asic.inp (s.dev.asic.plsIdx p.val)).numbered = false → (s.dev.asic.pls p.val).tracking = true → Runs (.plsTrackSlot p) s fun a =>
        (a.pls p.val).slot = (s.dev.asic.pls p.val).slot + 1 ∧ a.flag (Reg.PLS_STAT.FLY p.val) = true ∧
        (a.pls p.val).phi = (s.dev.asic.pls p.val).phi - s.dev.asic.slideOf (s.dev.asic.plsIdx p.val) (s.dev.asic.get (Reg.PLS_CFG.CHAN p.val)))) ∧
    ((s.dev.asic.pls p.val).active = none → Runs (.plsPulseEnd p) s fun a => a = s.dev.asic) ∧
    ∀ b e, (s.dev.asic.pls p.val).active = some (b, e) →
      (s.dev.asic.nowU < e → Runs (.plsPulseEnd p) s fun a => a = s.dev.asic) ∧
      (e ≤ s.dev.asic.nowU → Runs (.plsPulseEnd p) s fun a => a = s.dev.asic.modPls p.val fun x => { x with active := none })

/-- R258, R263, R264, R271: the time scales. `SETNOW` and `STEP` move an enabled scale at once and are counted, `SETSEC` waits
for the next second, `CANCEL` takes it back; a second's beginning is handled once, applies a waiting `SETSEC` and a leap,
and gives `TS0`'s seconds to the keep-alive copy; a snapshot holds the masked scales and the coarse counter at one instant.
It rests on the model's own choices of log entries 20, 58. -/
def Obligations.TimeScales : Prop :=
  ∀ s : State,
    (∀ (m : Master) (k : Fin 4), s.dev.keyFor m = true → s.dev.asic.flag (Reg.TSC_CFG.EN k.val) = true →
      (Runs (.tscCancel m k) s fun a => a.flag (Reg.TSC_EVT.SETPEND k.val) = false ∧ a.tsc = s.dev.asic.tsc ∧ a.clk = s.dev.asic.clk) ∧
      (s.dev.asic.get (Reg.TSC_SETNS.NS k.val) < 1000000000 → Runs (.tscSetnow m k) s fun a =>
        (a.scale k.val).base = (s.dev.asic.setSecValue k.val * secUnits + s.dev.asic.get (Reg.TSC_SETNS.NS k.val) * nsUnits
          + s.dev.asic.get (Reg.TSC_SETFRAC.FRAC k.val) * pqUnits) % scaleWrap ∧ (a.scale k.val).tu = s.dev.asic.clk.coarse ∧
        (a.scale k.val).lastJump = s.dev.asic.clk.coarse ∧ (a.scale k.val).isSet = true ∧ (a.scale k.val).rate = (s.dev.asic.scale k.val).rate ∧
        a.flag (Reg.TSC_EVT.SETD k.val) = true ∧ a.flag (Reg.TSC_EVT.SETPEND k.val) = false ∧
        a.get (Reg.TSC_CNT.SETS k.val) = min 65535 (s.dev.asic.get (Reg.TSC_CNT.SETS k.val) + 1) ∧ a.clk = s.dev.asic.clk) ∧
      (Runs (.tscSetsec m k) s fun a => a.flag (Reg.TSC_EVT.SETPEND k.val) = true ∧ a.tsc = s.dev.asic.tsc ∧ a.clk = s.dev.asic.clk) ∧
      (Runs (.tscStep m k) s fun a => (a.scale k.val).base = (((s.dev.asic.scaleAt k.val s.dev.asic.nowU : Int)
          + s.dev.asic.get2S (Reg.TSC_STEPLO.STEP k.val) (Reg.TSC_STEPHI.STEP k.val) * pqUnits) % scaleWrap).toNat % scaleWrap ∧
        (a.scale k.val).tu = s.dev.asic.clk.coarse ∧ (a.scale k.val).lastJump = s.dev.asic.clk.coarse ∧ (a.scale k.val).isSet = (s.dev.asic.scale k.val).isSet ∧
        a.flag (Reg.TSC_EVT.STEPPED k.val) = true ∧ a.get (Reg.TSC_CNT.STEPS k.val) = min 65535 (s.dev.asic.get (Reg.TSC_CNT.STEPS k.val) + 1) ∧
        a.clk = s.dev.asic.clk)) ∧
    (∀ (m : Master) (v : Word), s.dev.freeFor m = true → Runs (.tscSnapshot m v) s fun a =>
      a.get2 Reg.TSC_SNAPCCLO.COUNT Reg.TSC_SNAPCCHI.COUNT = s.dev.asic.clk.coarse % 2 ^ 64 ∧
      a.get Reg.TSC_SNAPST.SNAPSEQ = (s.dev.asic.get Reg.TSC_SNAPST.SNAPSEQ + 1) % 65536 ∧ a.tsc = s.dev.asic.tsc ∧ a.clk = s.dev.asic.clk ∧ ∀ k : Fin 4,
        if v.getLsbD k.val = true then
          a.get2 (Reg.TSC_CAPSECLO.SEC k.val) (Reg.TSC_CAPSECHI.SEC k.val) = secOf (s.dev.asic.scaleAt k.val s.dev.asic.nowU) % 2 ^ 48 ∧
          a.get (Reg.TSC_CAPNS.NS k.val) = nsOf (s.dev.asic.scaleAt k.val s.dev.asic.nowU) ∧
          a.get (Reg.TSC_CAPFRAC.FRAC k.val) = fracOf (s.dev.asic.scaleAt k.val s.dev.asic.nowU) % 65536
        else a.get (Reg.TSC_CAPNS.NS k.val) = s.dev.asic.get (Reg.TSC_CAPNS.NS k.val)) ∧
    ∀ k : Fin 4, s.dev.sup.shelf = false →
      (s.dev.asic.flag (Reg.TSC_CFG.EN k.val) = false ∨ secOf (s.dev.asic.scaleAt k.val s.dev.asic.nowU) = (s.dev.asic.scale k.val).sec →
        Runs (.scaleSecondBoundary k) s fun a => a = s.dev.asic) ∧
      (s.dev.asic.flag (Reg.TSC_CFG.EN k.val) = true → secOf (s.dev.asic.scaleAt k.val s.dev.asic.nowU) ≠ (s.dev.asic.scale k.val).sec →
        (s.dev.asic.flag (Reg.TSC_EVT.SETPEND k.val) = false → s.dev.asic.get (Reg.TSC_UTC.LEAP k.val) = 0 → Completes (.scaleSecondBoundary k) s fun t =>
          t.dev.asic = s.dev.asic.setScale k.val { s.dev.asic.scale k.val with sec := secOf (s.dev.asic.scaleAt k.val s.dev.asic.nowU) } ∧
          t.dev.kep = (if k.val = 0 then { s.dev.kep with sec := secOf t.dev.asic.ts0 } else s.dev.kep)) ∧
        (s.dev.asic.flag (Reg.TSC_EVT.SETPEND k.val) = false → s.dev.asic.get (Reg.TSC_UTC.LEAP k.val) = 1 →
          (secOf (s.dev.asic.scaleAt k.val s.dev.asic.nowU) + 2 ^ 48 - 1) % 2 ^ 48 % 2 ^ 32 = s.dev.asic.get (Reg.TSC_LEAPSEC.SEC k.val) →
          Completes (.scaleSecondBoundary k) s fun t => t.dev.asic.get (Reg.TSC_UTC.LEAP k.val) = 0 ∧ t.dev.asic.flag (Reg.TSC_EVT.LEAPD k.val) = true ∧
            t.dev.asic.get (Reg.TSC_UTC.OFFSET k.val) = code 16 (s.dev.asic.getS (Reg.TSC_UTC.OFFSET k.val) + 1) ∧ t.dev.asic.clk = s.dev.asic.clk) ∧
        (s.dev.asic.flag (Reg.TSC_EVT.SETPEND k.val) = true → s.dev.asic.get (Reg.TSC_UTC.LEAP k.val) = 0 → Completes (.scaleSecondBoundary k) s fun t =>
          t.dev.asic.flag (Reg.TSC_EVT.SETPEND k.val) = false ∧ (t.dev.asic.scale k.val).tu = s.dev.asic.clk.coarse ∧ (t.dev.asic.scale k.val).isSet = true ∧
          (t.dev.asic.scale k.val).base = (s.dev.asic.setSecValue k.val * secUnits + s.dev.asic.scaleAt k.val s.dev.asic.nowU % secUnits) % scaleWrap ∧
          t.dev.asic.flag (Reg.TSC_EVT.SETD k.val) = true))
/-- R266–R270: a scale's servo. A software sample waits for its scale; an idle servo drops what waits; a discarded sample has
no effect; a sample beyond the step limit steps the scale, any other moves I inside the clamp; without a valid sample for
`TIMEOUT` the servo coasts.
It rests on the model's own choices of log entries 6, 58. -/
def Obligations.Servos : Prop :=
  ∀ (s : State) (k : Fin 4),
    (∀ (m : Master) (v : Word), s.dev.freeFor m = true → Runs (.tscSwoffWrite m k v) s fun a => a.get (Reg.TSC_SWOFFHI.OFF k.val) = wordBits v 0 16 ∧
      a.get (Reg.TSC_SWOFFLO.OFF k.val) = s.dev.asic.get (Reg.TSC_SWOFFLO.OFF k.val) ∧ a.clk = s.dev.asic.clk ∧
      (s.dev.asic.get (Reg.TSC_SRV.SRC k.val) ≠ 4 → a.tsc = s.dev.asic.tsc) ∧
      (s.dev.asic.get (Reg.TSC_SRV.SRC k.val) = 4 → (a.scale k.val).samples = (s.dev.asic.scale k.val).samples
        ++ [(a.get2S (Reg.TSC_SWOFFLO.OFF k.val) (Reg.TSC_SWOFFHI.OFF k.val), s.dev.asic.clk.coarse, s.dev.asic.degraded)])) ∧
    (s.dev.sup.shelf = false →
      (s.dev.asic.servoIdle k.val = true → Runs (.servoSample k) s fun a => a = s.dev.asic.setScale k.val { s.dev.asic.scale k.val with samples := [] }) ∧
      (s.dev.asic.servoIdle k.val = false → s.dev.asic.servoOffset k.val s.dev.asic.refDelay = none → Runs (.servoSample k) s fun a => a = s.dev.asic) ∧
      (∀ e t b, s.dev.asic.servoIdle k.val = false → s.dev.asic.servoOffset k.val s.dev.asic.refDelay = some (e, t, b) →
        (s.dev.asic.servoDiscards k.val t b = true → Runs (.servoSample k) s fun a =>
          a = s.dev.asic.setScale k.val { s.dev.asic.scale k.val with samples := (s.dev.asic.scale k.val).samples.tail }) ∧
        (s.dev.asic.servoDiscards k.val t b = false →
          (s.dev.asic.flag (Reg.TSC_SRV.STEPEN k.val) = true → (s.dev.asic.get (Reg.TSC_STEPLIM.LIM k.val) : Int) < e.natAbs → Runs (.servoSample k) s fun a =>
            a.get (Reg.TSC_SRVSTAT.STATE k.val) = 1 ∧ a.flag (Reg.TSC_SRVSTAT.STEPD k.val) = true ∧ a.flag (Reg.TSC_SRVSTAT.SLEWING k.val) = false ∧
            a.get2 (Reg.TSC_SRVELO.ERR k.val) (Reg.TSC_SRVEHI.ERR k.val) = code 48 e ∧ (a.scale k.val).integ = (s.dev.asic.scale k.val).integ ∧
            (a.scale k.val).prop = 0 ∧ (a.scale k.val).lastJump = s.dev.asic.clk.coarse ∧ (a.scale k.val).samples = (s.dev.asic.scale k.val).samples.tail) ∧
          (s.dev.asic.flag (Reg.TSC_SRV.STEPEN k.val) = false ∨ (e.natAbs : Int) ≤ s.dev.asic.get (Reg.TSC_STEPLIM.LIM k.val) → Runs (.servoSample k) s fun a =>
            a.get2 (Reg.TSC_SRVELO.ERR k.val) (Reg.TSC_SRVEHI.ERR k.val) = code 48 e ∧ ((a.scale k.val).integ.natAbs : Int) ≤ s.dev.asic.servoClamp k.val ∧
            (a.scale k.val).lastSample = some t ∧ (a.scale k.val).quietFrom = s.dev.asic.clk.coarse ∧
            (a.scale k.val).samples = (s.dev.asic.scale k.val).samples.tail))) ∧
      ((s.dev.asic.get (Reg.TSC_SRVSTAT.STATE k.val) ≠ 1 ∧ s.dev.asic.get (Reg.TSC_SRVSTAT.STATE k.val) ≠ 2) ∨ s.dev.asic.fallback = true ∨
          s.dev.asic.clk.coarse < (s.dev.asic.scale k.val).quietFrom + second * max 1 (s.dev.asic.get (Reg.TSC_SRVTIM.TIMEOUT k.val)) →
        Runs (.servoCoast k) s fun a => a = s.dev.asic) ∧
      (s.dev.asic.get (Reg.TSC_SRVSTAT.STATE k.val) = 1 ∨ s.dev.asic.get (Reg.TSC_SRVSTAT.STATE k.val) = 2 → s.dev.asic.fallback = false →
        (s.dev.asic.scale k.val).quietFrom + second * max 1 (s.dev.asic.get (Reg.TSC_SRVTIM.TIMEOUT k.val)) ≤ s.dev.asic.clk.coarse → Runs (.servoCoast k) s fun a =>
        a.get (Reg.TSC_SRVSTAT.STATE k.val) = 3 ∧ a.flag (Reg.TSC_SRVSTAT.COASTD k.val) = true ∧ (a.scale k.val).prop = 0 ∧
        (a.scale k.val).integ = (s.dev.asic.scale k.val).integ ∧ (a.scale k.val).lastSample = none))
/-- R272–R276: triggers. `ARM` latches the start and the count; a one-shot trigger armed less than 200 ns ahead is late and
fires at once; `DISARM` leaves what was handed over; the next edge is handed over when it is at most 1 µs away; an edge
that falls due leaves the module, or is skipped while the trigger may not emit; a one-shot trigger is then done.
It rests on the model's own choices of log entries 6, 14, 40. -/
def Obligations.Triggers : Prop :=
  ∀ (s : State) (n : Fin 8),
    (∀ m : Master, s.dev.freeFor m = true →
      (s.dev.asic.trigCfgErr n.val = false → s.dev.asic.fallback = true ∨ (200 * pqPerNs : Int) ≤ -diffPq (s.dev.asic.scaleAt (s.dev.asic.trigScale n.val) s.dev.asic.nowU)
          (s.dev.asic.get (Reg.TRG_STSEC.SEC n.val) * pqPerSec + s.dev.asic.get (Reg.TRG_STNS.NS n.val) * pqPerNs + s.dev.asic.get (Reg.TRG_STFRAC.FRAC n.val)) →
        Runs (.trgArm m n) s fun a => a.trigArmed n.val = true ∧ a.clk = s.dev.asic.clk ∧ a.trig n.val = { s.dev.asic.trig n.val with
          x := s.dev.asic.get (Reg.TRG_STSEC.SEC n.val) * pqPerSec + s.dev.asic.get (Reg.TRG_STNS.NS n.val) * pqPerNs + s.dev.asic.get (Reg.TRG_STFRAC.FRAC n.val)
          left := s.dev.asic.get (Reg.TRG_COUNT.COUNT n.val), handed := false }) ∧
      (s.dev.asic.trigCfgErr n.val = false → s.dev.asic.fallback = false → s.dev.asic.flag (Reg.TRG_CFG.MODE n.val) = false →
        -diffPq (s.dev.asic.scaleAt (s.dev.asic.trigScale n.val) s.dev.asic.nowU)
          (s.dev.asic.get (Reg.TRG_STSEC.SEC n.val) * pqPerSec + s.dev.asic.get (Reg.TRG_STNS.NS n.val) * pqPerNs + s.dev.asic.get (Reg.TRG_STFRAC.FRAC n.val)) < (200 * pqPerNs : Int) →
        Runs (.trgArm m n) s fun a => a.trigArmed n.val = true ∧ a.flag (Reg.TRG_STAT.LATE n.val) = true ∧ (a.trig n.val).handed = true ∧
          (a.trig n.val).queue = (s.dev.asic.trig n.val).queue ++ [s.dev.asic.nowU + 250 * uPerCycle]) ∧
      (Runs (.trgDisarm m n) s fun a => a.trigArmed n.val = false ∧ a.tsc = s.dev.asic.tsc ∧ a.clk = s.dev.asic.clk)) ∧
    (s.dev.sup.shelf = false →
      (s.dev.asic.trigArmed n.val = false ∨ s.dev.asic.trigCfgErr n.val = true ∨ s.dev.asic.flag (Reg.TSC_CFG.EN (s.dev.asic.trigScale n.val)) = false ∨
          (s.dev.asic.trig n.val).handed = true ∨ s.dev.asic.trigDiff n.val < -(1000 * pqPerNs : Int) → Runs (.triggerHandover n) s fun a => a = s.dev.asic) ∧
      (s.dev.asic.trigArmed n.val = true → s.dev.asic.trigCfgErr n.val = false → s.dev.asic.flag (Reg.TSC_CFG.EN (s.dev.asic.trigScale n.val)) = true →
        (s.dev.asic.trig n.val).handed = false → -(1000 * pqPerNs : Int) ≤ s.dev.asic.trigDiff n.val → (s.dev.asic.trig n.val).queue.length < 8 →
        ((s.dev.asic.trig n.val).left = 0 ∨ (s.dev.asic.trig n.val).queue.length < (s.dev.asic.trig n.val).left) →
        Runs (.triggerHandover n) s fun a => (a.trig n.val).queue = (s.dev.asic.trig n.val).queue
            ++ [s.dev.asic.nowU + s.dev.asic.toTimeline (s.dev.asic.trigScale n.val) (-s.dev.asic.trigDiff n.val)] ∧
          (s.dev.asic.flag (Reg.TRG_CFG.MODE n.val) = false → (a.trig n.val).handed = true ∧ (a.trig n.val).x = (s.dev.asic.trig n.val).x) ∧
          (s.dev.asic.flag (Reg.TRG_CFG.MODE n.val) = true → (a.trig n.val).handed = false ∧
            (a.trig n.val).x = ((s.dev.asic.trig n.val).x + s.dev.asic.trigPeriod n.val) % (2 ^ 32 * pqPerSec)) ∧ ∀ g : Fld, a.get g = s.dev.asic.get g) ∧
      ((s.dev.asic.trig n.val).queue = [] → Runs (.triggerEdge n) s fun a => a = s.dev.asic) ∧
      (∀ e l, (s.dev.asic.trig n.val).queue = e :: l →
        (s.dev.asic.nowU < e → Runs (.triggerEdge n) s fun a => a = s.dev.asic) ∧
        (e ≤ s.dev.asic.nowU → hasBit (s.dev.asic.get Reg.TSC_TRGENA.EN) n.val = true → s.dev.asic.trigCfgErr n.val = false → s.dev.asic.mode ≠ 6 → s.dev.asic.mode ≠ 5 →
          Runs (.triggerEdge n) s fun a => (a.trig n.val).queue = l ∧ (a.trig n.val).left = (s.dev.asic.trig n.val).left - 1 ∧
            (a.trig n.val).activeAt = some s.dev.asic.clk.coarse ∧ a.tx = s.dev.asic.tx ++ [.edge (28 + n.val) e] ∧ a.flag (Reg.TRG_STAT.FIRED n.val) = true ∧
            a.get (Reg.TRG_FIRES.COUNT n.val) = (s.dev.asic.get (Reg.TRG_FIRES.COUNT n.val) + 1) % 2 ^ 32 ∧
            (s.dev.asic.flag (Reg.TRG_CFG.MODE n.val) = false → a.trigArmed n.val = false)) ∧
        (e ≤ s.dev.asic.nowU → hasBit (s.dev.asic.get Reg.TSC_TRGENA.EN) n.val = false → Runs (.triggerEdge n) s fun a => (a.trig n.val).queue = l ∧
          a.tx = s.dev.asic.tx ∧ a.get (Reg.TRG_CNT.SKIPS n.val) = min 65535 (s.dev.asic.get (Reg.TRG_CNT.SKIPS n.val) + 1))) ∧
      ((s.dev.asic.trig n.val).activeAt = none → Runs (.trgPulseEnd n) s fun a => a = s.dev.asic) ∧
      (∀ t, (s.dev.asic.trig n.val).activeAt = some t →
        ((s.dev.asic.clk.coarse - t) * 4 < s.dev.asic.trigWidth n.val * 5 → Runs (.trgPulseEnd n) s fun a => a = s.dev.asic) ∧
        (s.dev.asic.trigWidth n.val * 5 ≤ (s.dev.asic.clk.coarse - t) * 4 → Runs (.trgPulseEnd n) s fun a =>
          a = s.dev.asic.setTrig n.val { s.dev.asic.trig n.val with activeAt := none })))

/-- R284–R290, R302: event inputs. An edge the selection rejects has no effect; one inside the holdoff is a glitch; the
prescaler swallows edges; an edge that passes opens a window of 640 ns, is captured and counted, or is dropped where the
window is full; a window that has run its time closes and offers its record; a write of `EVT_CFG` closes the window and
starts the input afresh.
It rests on the model's own choices of log entries 2, 6, 60. -/
def Obligations.EventInputs : Prop :=
  ∀ (s : State) (n : Fin 16),
    (s.dev.sup.shelf = false → ∀ (fall : Bool) (ramp : BitVec 18) (sat : Bool),
      (s.dev.asic.evtUsable n.val = false ∨ (s.dev.asic.get (Reg.EVT_CFG.EDGE n.val) ≠ 2 ∧ fall ≠ (s.dev.asic.get (Reg.EVT_CFG.EDGE n.val) == 1)) →
        Runs (.evtEdge n fall ramp sat) s fun a => a = s.dev.asic) ∧
      (s.dev.asic.evtUsable n.val = true → s.dev.asic.get (Reg.EVT_CFG.EDGE n.val) = 2 ∨ fall = (s.dev.asic.get (Reg.EVT_CFG.EDGE n.val) == 1) →
        (∀ t, (s.dev.asic.ei n.val).held = some t → s.dev.asic.get (Reg.EVT_CFG.HOLDOFF n.val) ≠ 0 →
          s.dev.asic.clk.coarse < t + 125 * 2 ^ (s.dev.asic.get (Reg.EVT_CFG.HOLDOFF n.val) - 1) → Runs (.evtEdge n fall ramp sat) s fun a =>
            a.flag (Reg.EVT_STAT.GLITCHD n.val) = true ∧ a.get (Reg.EVT_DROPS.GLITCH n.val) = min 65535 (s.dev.asic.get (Reg.EVT_DROPS.GLITCH n.val) + 1) ∧
            a.evt = s.dev.asic.evt) ∧
        (s.dev.asic.get (Reg.EVT_CFG.HOLDOFF n.val) = 0 ∨ (s.dev.asic.ei n.val).held = none →
          ((s.dev.asic.ei n.val).pre + 1 < 2 ^ s.dev.asic.get (Reg.EVT_CFG.PRE n.val) → Runs (.evtEdge n fall ramp sat) s fun a =>
            (∀ g : Fld, a.get g = s.dev.asic.get g) ∧
            a.ei n.val = { s.dev.asic.ei n.val with held := some s.dev.asic.clk.coarse, pre := (s.dev.asic.ei n.val).pre + 1 }) ∧
          (2 ^ s.dev.asic.get (Reg.EVT_CFG.PRE n.val) ≤ (s.dev.asic.ei n.val).pre + 1 → (s.dev.asic.ei n.val).window = none → Runs (.evtEdge n fall ramp sat) s fun a =>
            (a.ei n.val).pre = 0 ∧ (a.ei n.val).held = some s.dev.asic.clk.coarse ∧ a.flag (Reg.EVT_STAT.OPEN n.val) = true ∧
            (∃ w, (a.ei n.val).window = some w ∧ w.caps.length = 1 ∧ w.dropped = 0 ∧ w.sat = sat ∧
              (w.caps.headD default).t = s.dev.asic.captureTime n.val ramp.toNat ∧ (w.caps.headD default).falling = fall) ∧
            a.get2 (Reg.EVT_CNTLO.EVENTS n.val) (Reg.EVT_CNTHI.EVENTS n.val) = (s.dev.asic.get2 (Reg.EVT_CNTLO.EVENTS n.val) (Reg.EVT_CNTHI.EVENTS n.val) + 1) % 2 ^ 64 ∧
            a.get2 (Reg.EVT_LASTLO.COARSE n.val) (Reg.EVT_LASTHI.COARSE n.val) = code 64 (s.dev.asic.captureTime n.val ramp.toNat / lsbPerCycle) ∧
            a.get (Reg.EVT_LASTF.FINE n.val) = (s.dev.asic.captureTime n.val ramp.toNat % lsbPerCycle).toNat) ∧
          (∀ w, 2 ^ s.dev.asic.get (Reg.EVT_CFG.PRE n.val) ≤ (s.dev.asic.ei n.val).pre + 1 → (s.dev.asic.ei n.val).window = some w → 2 ≤ w.caps.length →
            s.dev.asic.captureTime n.val ramp.toNat < w.ends → Runs (.evtEdge n fall ramp sat) s fun a =>
              (a.ei n.val).window = some { w with dropped := w.dropped + 1 } ∧ a.flag (Reg.EVT_STAT.DROPD n.val) = true ∧
              a.get (Reg.EVT_DROPS.DROPS n.val) = min 65535 (s.dev.asic.get (Reg.EVT_DROPS.DROPS n.val) + 1))))) ∧
    (s.dev.sup.shelf = false →
      ((s.dev.asic.ei n.val).window = none → Runs (.acceptanceWindowClose n) s fun a => a = s.dev.asic) ∧
      ∀ w, (s.dev.asic.ei n.val).window = some w →
        (s.dev.asic.nowLsb < w.ends → Runs (.acceptanceWindowClose n) s fun a => a = s.dev.asic) ∧
        (w.ends ≤ s.dev.asic.nowLsb → Runs (.acceptanceWindowClose n) s fun a => (a.ei n.val).window = none ∧ a.flag (Reg.EVT_STAT.OPEN n.val) = false ∧
          (s.dev.asic.flag (Reg.EVT_CFG.REC n.val) = false → a.recs = s.dev.asic.recs) ∧
          (s.dev.asic.flag (Reg.EVT_CFG.REC n.val) = true → s.dev.asic.flag (Reg.EVT_CFG.GATED n.val) = false ∨ w.gate = true →
            hasBit (s.dev.asic.get Reg.REC_EN.SLOTS) (1 + s.dev.asic.get (Reg.EVT_CFG.GROUP n.val)) = true →
            s.dev.asic.regionFull (s.dev.asic.get (Reg.REC_SLOTCFG.CH (1 + s.dev.asic.get (Reg.EVT_CFG.GROUP n.val)))) = false →
            a.recs.queue.get (1 + s.dev.asic.get (Reg.EVT_CFG.GROUP n.val))
              = s.dev.asic.recs.queue.get (1 + s.dev.asic.get (Reg.EVT_CFG.GROUP n.val)) ++ [s.dev.asic.eventRecord n.val w]))) ∧
    ∀ (m : Master) (v : Word), s.dev.freeFor m = true → Runs (.evtConfigWrite m n v) s fun a => a.get (Reg.EVT_CFG.EN n.val) = wordBits v 0 1 ∧
      a.get (Reg.EVT_CFG.EDGE n.val) = wordBits v 1 2 ∧ a.get (Reg.EVT_CFG.PRE n.val) = wordBits v 8 4 ∧ a.get (Reg.EVT_CFG.HOLDOFF n.val) = wordBits v 12 4 ∧
      a.get (Reg.EVT_CFG.GROUP n.val) = wordBits v 16 2 ∧ (a.ei n.val).window = none ∧ (a.ei n.val).pre = 0 ∧ (a.ei n.val).held = none ∧
      a.flag (Reg.EVT_STAT.CFGERR n.val) = a.evtCfgErr n.val
/-- R292–R297: event groups. `ARM` loads the count and waits for the gate; the gate follows its pin; a measurement ends 40 ns
after its last capture, at its timeout or by `DISARM`, is counted, and settles for 32 ns before the next one, or is done;
the registers of a group take effect at once.
It rests on the model's own choices of log entries 6, 60. -/
def Obligations.EventGroups : Prop :=
  ∀ (s : State) (g : Fin 4),
    (∀ m : Master, s.dev.freeFor m = true →
      (s.dev.asic.flag (Reg.EG_STAT.CFGERR g.val) = false → s.dev.asic.flag (Reg.EG_CFG.EN g.val) = true → Runs (.egArm m g) s fun a =>
        a.get (Reg.EG_REMAIN.COUNT g.val) = s.dev.asic.get (Reg.EG_COUNT.COUNT g.val) ∧ (a.eg g.val).limited = (s.dev.asic.get (Reg.EG_COUNT.COUNT g.val) != 0) ∧
        a.egState g.val = (if s.dev.asic.egState g.val = 0 then (if s.dev.asic.gateIs g.val = true then 2 else 1) else s.dev.asic.egState g.val)) ∧
      (Runs (.egDisarm m g) s fun a => a.egState g.val = 0 ∧ a.clk = s.dev.asic.clk ∧ (s.dev.asic.egState g.val = 3 → a.flag (Reg.EG_STAT.ABORTD g.val) = true ∧
        a.get (Reg.EG_MEAS.COUNT g.val) = (s.dev.asic.get (Reg.EG_MEAS.COUNT g.val) + 1) % 2 ^ 32)) ∧
      (∀ v : Word, Runs (.egTmoWrite m g v) s fun a => a.get (Reg.EG_TMO.TMO g.val) = v.toNat ∧ (s.dev.asic.egState g.val ≠ 3 → a.evt = s.dev.asic.evt) ∧
        a.clk = s.dev.asic.clk) ∧
      (∀ v : Word, Runs (.egConfigWrite m g 0 v) s (fun a => a.get (Reg.EG_CFG.EN g.val) = wordBits v 0 1 ∧ a.get (Reg.EG_CFG.START g.val) = wordBits v 1 4 ∧
          a.get (Reg.EG_CFG.GATE g.val) = wordBits v 5 2 ∧ a.flag (Reg.EG_STAT.CFGERR g.val) = a.egCfgErr g.val ∧ a.egState g.val ≠ 3 ∧
          (wordBits v 0 1 = 0 ∨ a.egCfgErr g.val = true → a.egState g.val = 0)) ∧
        Runs (.egConfigWrite m g 1 v) s (fun a => a.get (Reg.EG_STOPS.MASK g.val) = wordBits v 0 16 ∧ a.flag (Reg.EG_STAT.CFGERR g.val) = a.egCfgErr g.val ∧
          a.egState g.val ≠ 3 ∧ (a.egCfgErr g.val = true → a.egState g.val = 0)))) ∧
    (s.dev.sup.shelf = false →
      (s.dev.asic.get (Reg.EG_CFG.GATE g.val) ≠ 1 → s.dev.asic.get (Reg.EG_CFG.GATE g.val) ≠ 2 →
        Runs (.gateOpen g) s (fun a => a = s.dev.asic) ∧ Runs (.gateClose g) s (fun a => a = s.dev.asic)) ∧
      (s.dev.asic.get (Reg.EG_CFG.GATE g.val) = 1 ∨ s.dev.asic.get (Reg.EG_CFG.GATE g.val) = 2 →
        Runs (.gateOpen g) s (fun a => a.flag (Reg.EG_STAT.GATEOPEN g.val) = true ∧ a.gateIs g.val = true ∧
          (s.dev.asic.flag (Reg.EG_STAT.GATEOPEN g.val) = false → s.dev.asic.egState g.val = 1 → a.egState g.val = 2)) ∧
        Runs (.gateClose g) s (fun a => a.flag (Reg.EG_STAT.GATEOPEN g.val) = false ∧ a.gateIs g.val = false ∧
          (s.dev.asic.flag (Reg.EG_STAT.GATEOPEN g.val) = true → s.dev.asic.egState g.val = 2 → a.egState g.val = 1))) ∧
      ((s.dev.asic.eg g.val).fullAt = none ∨ s.dev.asic.egState g.val ≠ 3 → Runs (.measurementComplete g) s fun a => a = s.dev.asic) ∧
      (∀ t, (s.dev.asic.eg g.val).fullAt = some t → s.dev.asic.egState g.val = 3 → t + lsbOfNs 40 ≤ s.dev.asic.nowLsb → Runs (.measurementComplete g) s fun a =>
        a.get (Reg.EG_MEAS.COUNT g.val) = (s.dev.asic.get (Reg.EG_MEAS.COUNT g.val) + 1) % 2 ^ 32 ∧
        a.get (Reg.EG_REMAIN.COUNT g.val) = s.dev.asic.get (Reg.EG_REMAIN.COUNT g.val) - 1 ∧ (a.eg g.val).endAt = s.dev.asic.clk.coarse ∧
        a.get (Reg.EG_TMOCNT.RUN g.val) = 0 ∧ (s.dev.asic.flag (Reg.EG_STAT.GATEOPEN g.val) = true → a.egState g.val = 4)) ∧
      (s.dev.asic.egState g.val ≠ 3 ∨ s.dev.asic.egExpired g.val = false → Runs (.measurementTimeout g) s fun a => a = s.dev.asic) ∧
      (s.dev.asic.egState g.val = 3 → s.dev.asic.egExpired g.val = true → s.dev.asic.get (Reg.EG_TMOCFG.ESC g.val) = 0 → Runs (.measurementTimeout g) s fun a =>
        a.egState g.val = 4 ∧ a.flag (Reg.EG_STAT.TMOD g.val) = true ∧ a.get (Reg.EG_TMOCNT.TOTAL g.val) = min 65535 (s.dev.asic.get (Reg.EG_TMOCNT.TOTAL g.val) + 1) ∧
        a.get (Reg.EG_MEAS.COUNT g.val) = (s.dev.asic.get (Reg.EG_MEAS.COUNT g.val) + 1) % 2 ^ 32) ∧
      (s.dev.asic.egState g.val ≠ 4 ∨ s.dev.asic.clk.coarse < (s.dev.asic.eg g.val).endAt + 40 → Runs (.settleEnd g) s fun a => a = s.dev.asic) ∧
      (s.dev.asic.egState g.val = 4 → (s.dev.asic.eg g.val).endAt + 40 ≤ s.dev.asic.clk.coarse → Runs (.settleEnd g) s fun a => a.evt = s.dev.asic.evt ∧
        (s.dev.asic.egLast g.val = true → a.egState g.val = 0 ∧ a.flag (Reg.EG_STAT.DONE g.val) = true) ∧
        (s.dev.asic.egLast g.val = false → a.egState g.val = if s.dev.asic.flag (Reg.EG_STAT.GATEOPEN g.val) = true then 2 else 1)))
/-- R298–R300: TACs. A plausible ramp table is counted and takes effect when its TAC rests; an implausible one is counted as a
reject. A TAC handover starts to a free TAC, needs the target's table, and at its end the position takes the new TAC, the old
one is free and retired.
It rests on the model's own choices of log entries 6, 47. -/
def Obligations.Tacs : Prop :=
  ∀ s : State,
    (s.dev.sup.shelf = false →
      (∀ t : Fin 34,
        (s.dev.asic.flag Reg.EVT_TCAL.EN = true → s.dev.asic.calAllowed = true → Runs (.tacCalStart t) s fun a => a = s.dev.asic.modTac t.val fun x => { x with collecting := true }) ∧
        (s.dev.asic.flag Reg.EVT_TCAL.EN = false ∨ s.dev.asic.calAllowed = false → Runs (.tacCalStart t) s fun a => a = s.dev.asic) ∧
        (∀ (lsb : BitVec 16) (corr : List Int),
          ((s.dev.asic.tac t.val).collecting = false ∨ s.dev.asic.calAllowed = false → Runs (.tacCalTableComputed t lsb corr) s fun a => a = s.dev.asic) ∧
          ((s.dev.asic.tac t.val).collecting = true → s.dev.asic.calAllowed = true →
            Runs (.tacCalTableComputed t lsb corr) s fun a =>
              (a.tac t.val).collecting = false ∧ a.get (Reg.EVT_TGAIN.LSB t.val) = lsb.toNat ∧
              (tacPlausible lsb.toNat corr (s.dev.asic.tacRef t.val) = true → (a.tac t.val).accepted = some { lsb := lsb.toNat, corr } ∧
                a.get (Reg.EVT_TSTAT.REJECTS t.val) = 0 ∧ a.get (Reg.EVT_TCALN.COUNT t.val) = (s.dev.asic.get (Reg.EVT_TCALN.COUNT t.val) + 1) % 2 ^ 32) ∧
              (tacPlausible lsb.toNat corr (s.dev.asic.tacRef t.val) = false → (a.tac t.val).accepted = (s.dev.asic.tac t.val).accepted ∧
                a.get (Reg.EVT_TSTAT.REJECTS t.val) = min 3 (s.dev.asic.get (Reg.EVT_TSTAT.REJECTS t.val) + 1) ∧
                a.get (Reg.EVT_TCALN.COUNT t.val) = s.dev.asic.get (Reg.EVT_TCALN.COUNT t.val)))) ∧
        ((s.dev.asic.tac t.val).accepted = none → Runs (.tacTableSwitch t) s fun a => a = s.dev.asic) ∧
        (∀ x, (s.dev.asic.tac t.val).accepted = some x → s.dev.asic.tacIdle t.val = true → s.dev.asic.noWindow (s.dev.asic.tacPos t.val) = true →
          Runs (.tacTableSwitch t) s fun a => (a.tac t.val).table = x ∧ (a.tac t.val).accepted = none ∧ a.flag (Reg.EVT_TSTAT.CALOK t.val) = true)) ∧
      (∀ (h : TacHo) (lsb : BitVec 16) (corr : List Int), s.dev.asic.evt.ho = some h → h.accepted = false → s.dev.asic.calAllowed = true → h.new < 34 →
        s.dev.asic.evt.wait = [] → Runs (.tacHandoverTableAccepted lsb corr) s fun a =>
          (tacPlausible lsb.toNat corr (s.dev.asic.tacRef h.new) = true →
            a.evt.ho = some { h with accepted := true } ∧ (a.tac h.new).table = { lsb := lsb.toNat, corr } ∧ a.flag (Reg.EVT_TSTAT.CALOK h.new) = true) ∧
          (tacPlausible lsb.toNat corr (s.dev.asic.tacRef h.new) = false →
            a.evt.ho = none ∧ a.flag Reg.EVT_HOSTAT.BUSY = false ∧ a.flag Reg.EVT_HOSTAT.REJECTED = true)) ∧
      (∀ h : TacHo, s.dev.asic.evt.ho = some h → h.accepted = true → s.dev.asic.noWindow h.pos = true → s.dev.asic.tacIdle h.old = true → s.dev.asic.evt.wait = [] →
        h.pos < 32 → h.old < 34 → h.new < 34 → h.old ≠ h.new → Runs .tacHandoverCutover s fun a => a.tacAt h.pos = h.new ∧ a.evt.ho = none ∧
          a.tacPos h.new = h.pos ∧ a.tacPos h.old = 32 ∧ a.flag (Reg.EVT_TSTAT.RETIRED h.new) = false ∧
          a.flag (Reg.EVT_TSTAT.RETIRED h.old) = !s.dev.asic.flag (Reg.EVT_TSTAT.RETIRED h.new) ∧ a.flag Reg.EVT_HOSTAT.BUSY = false ∧
          a.flag Reg.EVT_HOSTAT.DONE = true ∧ a.get Reg.EVT_HOSTAT.POS = h.pos ∧ a.get Reg.EVT_HOSTAT.OLD = h.old ∧ Commit.placement ∈ a.commits ∧
          a.parityOf 3 (h.pos / 2) = !s.dev.asic.parityOf 3 (h.pos / 2))) ∧
    ∀ (m : Master) (v : Word), s.dev.keyFor m = true → s.dev.asic.flag Reg.EVT_HOSTAT.BUSY = false → wordBits v 5 6 < 34 →
      s.dev.asic.flag (Reg.EVT_TSTAT.FREE (wordBits v 5 6)) = true → Runs (.tacHandoverGo m v) s fun a => a.flag Reg.EVT_HOSTAT.BUSY = true ∧
        (s.dev.asic.parityFree 3 (wordBits v 0 5 / 2) = true → a.evt = { s.dev.asic.evt with ho := some ⟨wordBits v 0 5, s.dev.asic.tacAt (wordBits v 0 5), wordBits v 5 6, true, false⟩ }) ∧
        (s.dev.asic.parityFree 3 (wordBits v 0 5 / 2) = false → a.evt = s.dev.asic.evt ∧
          a.deferred = s.dev.asic.deferred ++ [.tac (wordBits v 0 5) (wordBits v 5 6) true])

/-- R305–R307, R319–R321, R324, R326: the network ports. A link that comes up or goes down is shown and, for an enabled port,
noted; a received frame is counted, and a bad, short or unwanted one is counted as that; a frame on a pass-through pair
leaves the other port, a Sync with its residence in the correctionField; ESMC is sent and received with its quality level
and times out; a write of `PRT_CFG` reads back with the configuration's error; pass-through applies to both ports.
It rests on the model's own choices of log entries 2, 62, 64, 65. -/
def Obligations.PortFrames : Prop :=
  ∀ s : State,
    (s.dev.sup.shelf = false →
      (∀ p : Fin 6,
        (Runs (.linkUp (p.castLE (by decide))) s fun a => (s.dev.asic.flag (Reg.PRT_CFG.EN p.val) = true → a.linkIs p.val = true) ∧
          (s.dev.asic.flag (Reg.PRT_CFG.EN p.val) = true → s.dev.asic.linkIs p.val = false → a.flag (Reg.PRT_STAT.LINKD p.val) = true ∧
            a.flag (Reg.PRT_STAT.HIBER p.val) = false ∧ a.flag (Reg.PRT_STAT.FECLOCK p.val) = s.dev.asic.flag (Reg.PRT_CFG.FEC p.val)) ∧
          (s.dev.asic.flag (Reg.PRT_CFG.EN p.val) = false → a.linkIs p.val = s.dev.asic.linkIs p.val)) ∧
        (∀ hb fl : Bool, Runs (.linkDown (p.castLE (by decide)) hb fl) s fun a => a.linkIs p.val = false ∧ a.flag (Reg.PRT_STAT.HIBER p.val) = hb ∧
          a.flag (Reg.PRT_STAT.FECLOCK p.val) = (fl && s.dev.asic.flag (Reg.PRT_CFG.FEC p.val)) ∧
          (s.dev.asic.linkIs p.val = true → a.flag (Reg.PRT_STAT.DOWND p.val) = true))) ∧
      (Runs (.linkUp 6) s fun a => a.flag Reg.RLY_MATEST.LINK = true) ∧ (∀ hb fl : Bool, Runs (.linkDown 6 hb fl) s fun a => a.flag Reg.RLY_MATEST.LINK = false) ∧
      ∀ p : Fin 6,
        (∀ (f : Frame) (pos : BitVec 18) (cor unc : BitVec 16),
          (s.dev.asic.linkIs p.val = false ∨ s.dev.asic.terminates p.val f = false → Runs (.frameReceived p f pos cor unc) s fun a => a = s.dev.asic) ∧
          (s.dev.asic.linkIs p.val = true → s.dev.asic.terminates p.val f = true → s.dev.asic.flag (Reg.RLY_IMPSTAT.ARMED p.val) = false →
            Runs (.frameReceived p f pos cor unc) s fun a =>
              a.get2 (Reg.PRT_RXLO.FRAMES p.val) (Reg.PRT_RXHI.FRAMES p.val) = (s.dev.asic.get2 (Reg.PRT_RXLO.FRAMES p.val) (Reg.PRT_RXHI.FRAMES p.val) + 1) % 2 ^ 64 ∧
              (s.dev.asic.flag (Reg.PRT_CFG.FEC p.val) = true → a.get (Reg.PRT_FECCNT.COR p.val) = min 65535 (s.dev.asic.get (Reg.PRT_FECCNT.COR p.val) + cor.toNat) ∧
                a.get (Reg.PRT_FECCNT.UNC p.val) = min 65535 (s.dev.asic.get (Reg.PRT_FECCNT.UNC p.val) + unc.toNat)) ∧
              (f.bad = true → a.flag (Reg.PRT_STAT.FCSD p.val) = true ∧
                a.get (Reg.PRT_ERRCNT.FCSBAD p.val) = min 65535 (s.dev.asic.get (Reg.PRT_ERRCNT.FCSBAD p.val) + 1)) ∧
              (f.bad = false → f.len < 64 ∨ 9216 < f.len → a.get (Reg.PRT_ERRCNT.DISCARD p.val) = min 65535 (s.dev.asic.get (Reg.PRT_ERRCNT.DISCARD p.val) + 1)) ∧
              (∀ v, f.bad = false → 64 ≤ f.len → f.len ≤ 9216 → f.ptp = some v → s.dev.asic.takesPtp p.val f v = true → s.dev.asic.fill.get (96 + p.val) < 64 →
                (a.port p.val).inbox = (s.dev.asic.port p.val).inbox
                  ++ [⟨f.cls, f, s.dev.asic.ingressTime p.val pos.toNat, s.dev.asic.scalePq (s.dev.asic.prtScale p.val) (s.dev.asic.ingressTime p.val pos.toNat), s.dev.asic.degraded⟩]))) ∧
        (∀ (f : Frame) (pos : BitVec 18) (tr : BitVec 32) (cut : Bool),
          ((s.dev.asic.port p.val).passing = false ∨ s.dev.asic.linkIs p.val = false ∨ s.dev.asic.terminates p.val f = true →
            Runs (.cutThroughFrame p f pos tr cut) s fun a => a = s.dev.asic) ∧
          ((s.dev.asic.port p.val).passing = true → s.dev.asic.linkIs p.val = true → s.dev.asic.terminates p.val f = false →
            (s.dev.asic.linkIs (pairOf p.val) = false → Runs (.cutThroughFrame p f pos tr cut) s fun a => a.tx = s.dev.asic.tx ∧
              a.get (Reg.PRT_ERRCNT.DISCARD (pairOf p.val)) = min 65535 (s.dev.asic.get (Reg.PRT_ERRCNT.DISCARD (pairOf p.val)) + 1)) ∧
            (s.dev.asic.linkIs (pairOf p.val) = true → s.dev.asic.flag (Reg.RLY_IMPSTAT.ARMED p.val) = false → s.dev.asic.flag (Reg.RLY_IMPSTAT.ARMED (pairOf p.val)) = false →
              (f.ptp = none → Runs (.cutThroughFrame p f pos tr cut) s fun a =>
                a.tx = s.dev.asic.tx ++ [.frame (pairOf p.val) f.bytes (if cut = true then 2 else if f.bad = true then 1 else 0)] ∧
                a.get2 (Reg.PRT_TXLO.FRAMES (pairOf p.val)) (Reg.PRT_TXHI.FRAMES (pairOf p.val))
                  = (s.dev.asic.get2 (Reg.PRT_TXLO.FRAMES (pairOf p.val)) (Reg.PRT_TXHI.FRAMES (pairOf p.val)) + 1) % 2 ^ 64) ∧
              (∀ v, f.ptp = some v → f.parses v = true → f.isEvent v = true → f.msgType v = 0 → s.dev.asic.p2p p.val = false →
                Runs (.cutThroughFrame p f pos tr cut) s fun a =>
                  a.tx = s.dev.asic.tx ++ [.frame (pairOf p.val) (f.withCorrection v (min (2 ^ 63 - 1) (f.correction v
                    + roundDiv (s.dev.asic.egressTime (pairOf p.val) (pos.toNat + tr.toNat) - s.dev.asic.ingressTime p.val pos.toNat) 5))).bytes
                    (if cut = true then 2 else if f.bad = true then 1 else 0)])))) ∧
        (∀ pos : BitVec 18,
          (s.dev.asic.flag (Reg.PRT_SYNCE.ESMCEN p.val) = false ∨ s.dev.asic.linkIs p.val = false → Runs (.esmcSend p pos) s fun a => a = s.dev.asic) ∧
          (s.dev.asic.flag (Reg.PRT_SYNCE.ESMCEN p.val) = true → s.dev.asic.linkIs p.val = true → s.dev.asic.flag (Reg.RLY_IMPSTAT.ARMED p.val) = false →
            Runs (.esmcSend p pos) s fun a => a.tx = s.dev.asic.tx ++ [.port p.val 0x100 [(s.dev.asic.get (Reg.PRT_SYNCE.TXQL p.val) : Int),
              s.dev.asic.scalePq (s.dev.asic.prtScale p.val) (s.dev.asic.egressTime p.val pos.toNat)]] ∧
              a.get2 (Reg.PRT_TXLO.FRAMES p.val) (Reg.PRT_TXHI.FRAMES p.val) = (s.dev.asic.get2 (Reg.PRT_TXLO.FRAMES p.val) (Reg.PRT_TXHI.FRAMES p.val) + 1) % 2 ^ 64)) ∧
        (∀ ssm : Fin 16,
          ((s.dev.asic.port p.val).inbox.find? (fun x => x.cls == 4) = none → Runs (.esmcPduReceived p ssm) s fun a => a = s.dev.asic) ∧
          (∀ x, (s.dev.asic.port p.val).inbox.find? (fun x => x.cls == 4) = some x → Runs (.esmcPduReceived p ssm) s fun a =>
            (a.port p.val).inbox = (s.dev.asic.port p.val).inbox.erase x ∧ (a.port p.val).esmcAt = s.dev.asic.clk.coarse ∧
            (s.dev.asic.flag (Reg.PRT_SYNCE.ESMCEN p.val) = true → a.get (Reg.PRT_SYNCE.RXQL p.val) = ssm.val ∧ a.flag (Reg.PRT_SYNCE.ESMCTO p.val) = false))) ∧
        (s.dev.asic.flag (Reg.PRT_SYNCE.ESMCEN p.val) = false ∨ s.dev.asic.clk.coarse < (s.dev.asic.port p.val).esmcAt + 5 * second →
          Runs (.esmcTimeout p) s fun a => a = s.dev.asic) ∧
        (s.dev.asic.flag (Reg.PRT_SYNCE.ESMCEN p.val) = true → (s.dev.asic.port p.val).esmcAt + 5 * second ≤ s.dev.asic.clk.coarse →
          Runs (.esmcTimeout p) s fun a => a.flag (Reg.PRT_SYNCE.ESMCTO p.val) = true ∧ a.get (Reg.PRT_SYNCE.RXQL p.val) = 15)) ∧
    (∀ k : Fin 3, s.dev.sup.shelf = false → Runs (.passApply k) s fun a => (a.port (2 * k.val)).passing = s.dev.asic.flag (Reg.PRT_CFG.PASS (2 * k.val)) ∧
      (a.port (2 * k.val + 1)).passing = s.dev.asic.flag (Reg.PRT_CFG.PASS (2 * k.val)) ∧ a.clk = s.dev.asic.clk ∧ ∀ g : Fld, a.get g = s.dev.asic.get g) ∧
    ∀ (m : Master) (p : Fin 6) (v : Word), s.dev.freeFor m = true → Runs (.portConfigWrite m p v) s fun a => a.get (Reg.PRT_CFG.EN p.val) = wordBits v 0 1 ∧
      a.get (Reg.PRT_CFG.SPEED p.val) = wordBits v 1 1 ∧ a.get (Reg.PRT_CFG.FEC p.val) = wordBits v 2 1 ∧ a.get (Reg.PRT_CFG.PASS p.val) = wordBits v 3 1 ∧
      a.get (Reg.PRT_CFG.TXCHAN p.val) = wordBits v 5 3 ∧ a.flag (Reg.PRT_STAT.CFGERR p.val) = a.prtCfgErr p.val ∧ (wordBits v 0 1 = 0 → a.linkIs p.val = false) ∧
      (wordBits v 3 1 ≠ s.dev.asic.get (Reg.PRT_CFG.PASS p.val) → a.get (Reg.PRT_CFG.PASS (pairOf p.val)) = wordBits v 3 1)
/-- R313–R317: PTP on a port. The oldest message is taken from the queue: a one-step Sync to a slave begins an exchange, a
Delay_Req to a master is owed an answer, an Announce restarts its timeout; a complete exchange gives a delay and an offset,
one spoilt by a step of the scale is discarded; a grid second with offsets is a sample and one without is a miss; messages
carry successive sequenceIds; a port leaves FAULTY after 1 s, and a silent master is succeeded.
It rests on the model's own choices of log entries 2, 6, 62, 63. -/
def Obligations.PtpEngine : Prop :=
  ∀ (s : State) (p : Fin 6), s.dev.sup.shelf = false →
    (∀ b : Bmca,
      ((s.dev.asic.port p.val).inbox.find? (fun x => x.cls == 1 || x.cls == 2) = none → Runs (.ptpMessageReceived p b) s fun a => a = s.dev.asic) ∧
      (∀ x v, (s.dev.asic.port p.val).inbox.find? (fun x => x.cls == 1 || x.cls == 2) = some x → x.f.ptp = some v → Runs (.ptpMessageReceived p b) s fun a =>
        (a.port p.val).inbox = (s.dev.asic.port p.val).inbox.erase x ∧
        (x.f.msgType v = 0 → s.dev.asic.ptpState p.val = 8 ∨ s.dev.asic.ptpState p.val = 9 → hasBit (x.f.byte (v.hdr + 6)) 1 = false →
          ∃ h, (a.port p.val).sync = some h ∧ h.seq = x.f.seqId v ∧ h.own = x.scale ∧ h.far = some (x.f.stamp v) ∧ h.corr = x.f.correction v) ∧
        (x.f.msgType v = 1 → s.dev.asic.ptpState p.val = 6 → (a.port p.val).owed = (s.dev.asic.port p.val).owed
          ++ [⟨x.f.num (v.hdr + 20) 10, x.f.seqId v, x.scale, x.f.correction v⟩]) ∧
        (x.f.msgType v = 11 → (a.port p.val).lastAnn = s.dev.asic.clk.coarse))) ∧
    (∀ (k : Fin 16) (pos : BitVec 18),
      (s.dev.asic.ptpSends p.val = false → Runs (.ptpScheduledSend p k pos) s fun a => a = s.dev.asic) ∧
      (s.dev.asic.ptpSends p.val = true → s.dev.asic.flag (Reg.RLY_IMPSTAT.ARMED p.val) = false → s.dev.asic.fill.get (128 + p.val) < 64 →
        (k.val = 0 ∨ k.val = 11) → s.dev.asic.ptpState p.val = 6 → Runs (.ptpScheduledSend p k pos) s fun a =>
          (a.port p.val).seqs.get k.val = ((s.dev.asic.port p.val).seqs.get k.val + 1) % 65536 ∧
          a.tx = s.dev.asic.tx ++ [.port p.val k.val [((s.dev.asic.port p.val).seqs.get k.val : Int),
            s.dev.asic.scalePq (s.dev.asic.prtScale p.val) (s.dev.asic.egressTime p.val pos.toNat)]]) ∧
      (∀ o l, k.val = 9 → (s.dev.asic.port p.val).owed = o :: l → s.dev.asic.ptpSends p.val = true → s.dev.asic.flag (Reg.RLY_IMPSTAT.ARMED p.val) = false →
        s.dev.asic.fill.get (128 + p.val) < 64 → Runs (.hkcMessageSend p k pos) s fun a => (a.port p.val).owed = l ∧
          a.tx = s.dev.asic.tx ++ [.port p.val 9 [(o.seq : Int), o.t, o.corr, (o.req : Int),
            s.dev.asic.scalePq (s.dev.asic.prtScale p.val) (s.dev.asic.egressTime p.val pos.toNat)]])) ∧
    (s.dev.asic.prtCfgErr p.val = true → Runs (.ptpExchangeComplete p) s fun a => a = s.dev.asic) ∧
    (∀ x y t1 t4, s.dev.asic.prtCfgErr p.val = false → s.dev.asic.p2p p.val = false → (s.dev.asic.port p.val).sync = some x → (s.dev.asic.port p.val).dreq = some y →
      x.far = some t1 → y.far = some t4 → Runs (.ptpExchangeComplete p) s fun a => (a.port p.val).sync = none ∧ (a.port p.val).dreq = none ∧
        (x.spoilt (s.dev.asic.scaleJumps (s.dev.asic.prtScale p.val)) = true ∨ y.spoilt (s.dev.asic.scaleJumps (s.dev.asic.prtScale p.val)) = true →
          a.flag (Reg.PRT_PTPEVT.DISCD p.val) = true ∧ (a.port p.val).delays = (s.dev.asic.port p.val).delays) ∧
        (x.spoilt (s.dev.asic.scaleJumps (s.dev.asic.prtScale p.val)) = false → y.spoilt (s.dev.asic.scaleJumps (s.dev.asic.prtScale p.val)) = false →
          (a.port p.val).delays = (roundDiv (x.own - t1 - x.corr + (t4 - y.own - y.corr)) 2 :: (s.dev.asic.port p.val).delays).take
            (max 1 (s.dev.asic.get (Reg.PRT_PTPINT.MPDN p.val))) ∧
          a.get2 (Reg.PRT_OFFLO.OFF p.val) (Reg.PRT_OFFHI.OFF p.val) = code (32 + (Reg.PRT_OFFHI.OFF p.val).width) (x.own - t1 - x.corr - a.mld p.val - s.dev.asic.asym p.val))) ∧
    ((s.dev.asic.port p.val).offs.find? (fun x => x.1 == (s.dev.asic.clk.coarse - 1) / second) = none → Runs (.ptpGridSample p) s fun a =>
      a.flag (Reg.PRT_PTPST.SAMPLED p.val) = false ∧ a.get (Reg.PRT_PTPCNT.SAMPLES p.val) = s.dev.asic.get (Reg.PRT_PTPCNT.SAMPLES p.val) ∧
      a.get (Reg.PRT_PTPCNT.MISS p.val) = if s.dev.asic.ptpState p.val = 8 ∨ s.dev.asic.ptpState p.val = 9
        then min 65535 (s.dev.asic.get (Reg.PRT_PTPCNT.MISS p.val) + 1) else s.dev.asic.get (Reg.PRT_PTPCNT.MISS p.val)) ∧
    (∀ x, (s.dev.asic.port p.val).offs.find? (fun x => x.1 == (s.dev.asic.clk.coarse - 1) / second) = some x → Runs (.ptpGridSample p) s fun a =>
      a.flag (Reg.PRT_PTPST.SAMPLED p.val) = true ∧ a.get (Reg.PRT_PTPCNT.SAMPLES p.val) = (s.dev.asic.get (Reg.PRT_PTPCNT.SAMPLES p.val) + 1) % 65536 ∧
      a.get (Reg.PRT_PTPCNT.MISS p.val) = s.dev.asic.get (Reg.PRT_PTPCNT.MISS p.val)) ∧
    (s.dev.asic.ptpState p.val ≠ 2 ∨ s.dev.asic.prtCfgErr p.val = true ∨ s.dev.asic.linkIs p.val = false ∨ s.dev.asic.clk.now < (s.dev.asic.port p.val).clearSince + second →
      Runs (.ptpFaultyExit p) s fun a => a = s.dev.asic) ∧
    (s.dev.asic.ptpState p.val = 2 → s.dev.asic.prtCfgErr p.val = false → s.dev.asic.linkIs p.val = true → (s.dev.asic.port p.val).clearSince + second ≤ s.dev.asic.clk.now →
      Runs (.ptpFaultyExit p) s fun a => a.ptpState p.val = 4 ∧ a.flag (Reg.PRT_PTPEVT.STATED p.val) = true ∧ (a.port p.val).lastAnn = s.dev.asic.clk.coarse) ∧
    (s.dev.asic.ptpState p.val ≠ 4 → s.dev.asic.ptpState p.val ≠ 7 → s.dev.asic.ptpState p.val ≠ 8 → s.dev.asic.ptpState p.val ≠ 9 →
      Runs (.announceReceiptTimeout p) s fun a => a = s.dev.asic) ∧
    (s.dev.asic.ptpState p.val = 4 ∨ s.dev.asic.ptpState p.val = 8 ∨ s.dev.asic.ptpState p.val = 9 →
      (s.dev.asic.port p.val).lastAnn + s.dev.asic.announceTimeout p.val ≤ s.dev.asic.clk.coarse → s.dev.asic.mode ≠ 5 →
      Runs (.announceReceiptTimeout p) s fun a => a.ptpState p.val = if s.dev.asic.get (Reg.PRT_PTPCFG.ROLE p.val) = 2 then 4 else 6)

/-- R329–R333, R335, R339: a Rally instance. A frame is sent only on a link; a frame that fails its check is counted and has no
other effect; a good one gives the partner's values, and moves SEARCH to SYNC; 2 s of silence return to SEARCH. A sample
with its terms gives RTT, Δ and O by R331–R333, or is ambiguous and counted; a spoilt second gives none. Calibration
starts only in TRACK on a FOLLOW instance, and adds the mean to the asymmetry or is refused.
It rests on the model's own choices of log entries 6, 66. -/
def Obligations.Rally : Prop :=
  ∀ (s : State) (i : Fin 7),
    (s.dev.sup.shelf = false →
      (∀ pos : BitVec 18,
        (s.dev.asic.flag (Reg.RLY_CFG.EN i.val) = false ∨ s.dev.asic.rallyLink i.val = false → Runs (.rallyFrameSend i pos) s fun a => a = s.dev.asic) ∧
        (s.dev.asic.flag (Reg.RLY_CFG.EN i.val) = true → s.dev.asic.rallyLink i.val = true →
          (i.val < 6 → (s.dev.asic.port i.val).passing = false ∧ s.dev.asic.flag (Reg.RLY_IMPSTAT.ARMED i.val) = false) →
          Runs (.rallyFrameSend i pos) s fun a => (∃ l, a.tx = s.dev.asic.tx ++ [.port i.val 0x101 l] ∧
            l.take 9 = [((bit (s.dev.asic.follows' i.val) : Nat) : Int), ((if i.val < 6 then s.dev.asic.get (Reg.PRT_CFG.SPEED i.val) else 1 : Nat) : Int),
              ((s.dev.asic.scaleJumps (s.dev.asic.rallyScale i.val) : Nat) : Int), ((bit s.dev.asic.fallback : Nat) : Int), ((bit s.dev.asic.degraded : Nat) : Int),
              (s.dev.asic.rally i.val).egress.getD 0, (s.dev.asic.rally i.val).ingress.getD 0, (s.dev.asic.rally i.val).phi.getD 0, (s.dev.asic.rally i.val).psi.getD 0]) ∧
            (a.rally i.val).egress = some (s.dev.asic.scalePq (s.dev.asic.rallyScale i.val) (s.dev.asic.rallyEgress i.val pos.toNat)))) ∧
      (∀ (f : RallyFrame) (pos : BitVec 18), i.val < 6 →
        ((s.dev.asic.port i.val).inbox.find? (fun x => x.cls == 3) = none → Runs (.rallyFrameReceived i f pos) s fun a => a = s.dev.asic) ∧
        (∀ x, (s.dev.asic.port i.val).inbox.find? (fun x => x.cls == 3) = some x → Runs (.rallyFrameReceived i f pos) s fun a =>
          (a.port i.val).inbox = (s.dev.asic.port i.val).inbox.erase x ∧
          (s.dev.asic.flag (Reg.RLY_CFG.EN i.val) = false → (∀ g : Fld, a.get g = s.dev.asic.get g) ∧ a.rly = s.dev.asic.rly) ∧
          (s.dev.asic.flag (Reg.RLY_CFG.EN i.val) = true → f.good = false → a.rly = s.dev.asic.rly ∧
            a.get (Reg.RLY_CNT.DISCARD i.val) = min 65535 (s.dev.asic.get (Reg.RLY_CNT.DISCARD i.val) + 1)) ∧
          (s.dev.asic.flag (Reg.RLY_CFG.EN i.val) = true → f.good = true → (a.rally i.val).heard = s.dev.asic.clk.coarse ∧
            (a.rally i.val).ingress = some (s.dev.asic.scalePq (s.dev.asic.rallyScale i.val) x.t) ∧
            (2 ≤ a.rallyState i.val → (a.rally i.val).partner = some (f, x.t)) ∧ (a.flag (Reg.RLY_STAT.CFGERR i.val) = true → a.rallyState i.val = 0) ∧
            (s.dev.asic.rallyState i.val = 1 → s.dev.asic.rallyLink i.val = true → a.flag (Reg.RLY_STAT.CFGERR i.val) = false → a.rallyState i.val = 2)))) ∧
      (s.dev.asic.rallyState i.val < 2 ∨ s.dev.asic.clk.coarse < (s.dev.asic.rally i.val).heard + 2 * second →
        Runs (.rallyPartnerTimeout i) s fun a => a = s.dev.asic) ∧
      (2 ≤ s.dev.asic.rallyState i.val → (s.dev.asic.rally i.val).heard + 2 * second ≤ s.dev.asic.clk.coarse →
        Runs (.rallyPartnerTimeout i) s fun a => a.rallyState i.val = 1 ∧ (a.rally i.val).partner = none ∧
          (s.dev.asic.rallyState i.val = 3 → a.flag (Reg.RLY_STAT.LOSTD i.val) = true ∧ (i.val = 6 → a.flag Reg.RLY_MATEST.READY = false))) ∧
      (∀ (edges : BitVec 32) (phi psi : BitVec 64),
        (s.dev.asic.rallyState i.val < 2 ∨ 4 < s.dev.asic.rallyState i.val → Runs (.rallySample i edges phi psi) s fun a => a = s.dev.asic) ∧
        (s.dev.asic.rallyState i.val = 4 → s.dev.asic.fallback = false → s.dev.asic.partnerSuspends i.val = false →
          Runs (.rallySample i edges phi psi) s fun a => a.rallyState i.val = 2) ∧
        (s.dev.asic.rallyState i.val = 2 ∨ s.dev.asic.rallyState i.val = 3 → s.dev.asic.clk.coarse < (s.dev.asic.rally i.val).heard + 2 * second →
          ((s.dev.asic.rally i.val).inN = 0 ∨ (s.dev.asic.rally i.val).outN = 0 ∨ (s.dev.asic.rally i.val).spoilt = true ∨ s.dev.asic.degraded = true →
            Runs (.rallySample i edges phi psi) s fun a => (∀ g : Fld, a.get g = s.dev.asic.get g) ∧ (a.rally i.val).inN = 0 ∧ (a.rally i.val).outN = 0 ∧
              (a.rally i.val).spoilt = false) ∧
          (∀ f tp, (s.dev.asic.rally i.val).partner = some (f, tp) → (s.dev.asic.rally i.val).inN ≠ 0 → (s.dev.asic.rally i.val).outN ≠ 0 →
            (s.dev.asic.rally i.val).spoilt = false → s.dev.asic.degraded = false →
            let u := s.dev.asic.rallyU i.val
            let own := if i.val < 6 then s.dev.asic.ownPhi i.val ((s.dev.asic.clk.coarse - 1) / second) else (phi.toNat : Int)
            let ownPsi := if i.val < 6 then s.dev.asic.ownPsi i.val else (psi.toNat : Int)
            let sg : Rat := if s.dev.asic.follows' i.val then 1 else -1
            let meanIn : Rat := ((s.dev.asic.rally i.val).inSum : Rat) / (((s.dev.asic.rally i.val).inN : Nat) : Rat)
            let meanOut : Rat := ((s.dev.asic.rally i.val).outSum : Rat) / (((s.dev.asic.rally i.val).outN : Nat) : Rat)
            let drift : Rat := (signed 64 f.rate.toNat : Rat) / 2 ^ 60 * (((s.dev.asic.nowU - tp : Int) : Rat) / 5)
            let w1 := wrapU u (ofQ32 own + (ofQ32 (signed 64 f.phi.toNat) - drift) - (meanIn + meanOut))
            let rtt := meanIn + meanOut + w1
            let delta := s.dev.asic.rallyDelta i.val rtt
            let coarse := sg * delta - (meanIn - meanOut) / 2
            let w2 := wrapU u (ofQ32 (signed 64 f.psi.toNat) + drift - ofQ32 ownPsi + (rtt / 2 + sg * delta) - ofQ32 own - coarse)
            (u / 4 < absRat w1 ∨ u / 4 < absRat w2 → Runs (.rallySample i edges phi psi) s fun a => a.flag (Reg.RLY_STAT.AMBIGD i.val) = true ∧
              a.get (Reg.RLY_CNT.DISCARD i.val) = min 65535 (s.dev.asic.get (Reg.RLY_CNT.DISCARD i.val) + 1) ∧ (a.rally i.val).run = 0 ∧
              a.get (Reg.RLY_CNT.SAMPLES i.val) = s.dev.asic.get (Reg.RLY_CNT.SAMPLES i.val)) ∧
            (absRat w1 ≤ u / 4 → absRat w2 ≤ u / 4 → Runs (.rallySample i edges phi psi) s fun a =>
              a.get2 (Reg.RLY_OFFLO.OFF i.val) (Reg.RLY_OFFHI.OFF i.val) = code 64 (roundRat (coarse + w2)) ∧
              a.get2 (Reg.RLY_RTTLO.RTT i.val) (Reg.RLY_RTTHI.RTT i.val) = code 64 (roundRat rtt) ∧
              a.get2 (Reg.RLY_DELTALO.DELTA i.val) (Reg.RLY_DELTAHI.DELTA i.val) = code 64 (roundRat delta) ∧
              a.get (Reg.RLY_CNT.SAMPLES i.val) = (s.dev.asic.get (Reg.RLY_CNT.SAMPLES i.val) + 1) % 65536)))) ∧
      (s.dev.asic.flag (Reg.RLY_ACAL.BUSY i.val) = false ∨ s.dev.asic.clk.coarse < (s.dev.asic.rally i.val).acalFrom + s.dev.asic.acalTime i.val * second →
        Runs (.rallyAcalEnd i) s fun a => a = s.dev.asic) ∧
      (s.dev.asic.flag (Reg.RLY_ACAL.BUSY i.val) = true → (s.dev.asic.rally i.val).acalFrom + s.dev.asic.acalTime i.val * second ≤ s.dev.asic.clk.coarse →
        Runs (.rallyAcalEnd i) s fun a => a.flag (Reg.RLY_ACAL.BUSY i.val) = false ∧ a.rly = s.dev.asic.rly ∧
          ((s.dev.asic.rally i.val).acalBad = true ∨ (s.dev.asic.rally i.val).acalN = 0 ∨ s.dev.asic.calTimeOk = false ∨ s.dev.asic.rallyState i.val ≠ 3 →
            a.flag (Reg.RLY_STAT.ACALREJ i.val) = true ∧ a.commits = s.dev.asic.commits ∧
            a.get2 (Reg.RLY_ASYMLO.ASYM i.val) (Reg.RLY_ASYMHI.ASYM i.val) = s.dev.asic.get2 (Reg.RLY_ASYMLO.ASYM i.val) (Reg.RLY_ASYMHI.ASYM i.val)) ∧
          ((s.dev.asic.rally i.val).acalBad = false → (s.dev.asic.rally i.val).acalN ≠ 0 → s.dev.asic.calTimeOk = true →
            (s.dev.asic.inp 23).run = (s.dev.asic.rally i.val).acalRun → s.dev.asic.rallyState i.val = 3 → s.dev.asic.flag (Reg.RLY_ACAL.MODE i.val) = false →
            (roundDiv (s.dev.asic.rally i.val).acalSum (s.dev.asic.rally i.val).acalN).natAbs ≤ 100 * 65536 →
            a.flag (Reg.RLY_STAT.ACALD i.val) = true ∧ a.commits = s.dev.asic.commits ++ [.rally i.val] ∧
            a.get2 (Reg.RLY_ASYMLO.ASYM i.val) (Reg.RLY_ASYMHI.ASYM i.val) = code 64 (s.dev.asic.get2S (Reg.RLY_ASYMLO.ASYM i.val) (Reg.RLY_ASYMHI.ASYM i.val)
              + roundDiv (s.dev.asic.rally i.val).acalSum (s.dev.asic.rally i.val).acalN)))) ∧
    ∀ (m : Master) (v : Word), s.dev.keyFor m = true →
      (s.dev.asic.follows' i.val = true → s.dev.asic.rallyState i.val = 3 → Runs (.rallyAcalGo m i v) s fun a => a.flag (Reg.RLY_ACAL.BUSY i.val) = true ∧
        (a.rally i.val).acalFrom = s.dev.asic.clk.coarse ∧ (a.rally i.val).acalSum = 0 ∧ (a.rally i.val).acalN = 0 ∧
        (a.rally i.val).acalBad = (!s.dev.asic.calTimeOk) ∧ a.get (Reg.RLY_ACAL.TIME i.val) = wordBits v 0 12 ∧ a.get (Reg.RLY_ACAL.MODE i.val) = wordBits v 12 1) ∧
      (s.dev.asic.follows' i.val = false ∨ s.dev.asic.rallyState i.val ≠ 3 → Runs (.rallyAcalGo m i v) s fun a => a.rly = s.dev.asic.rly ∧
        a.flag (Reg.RLY_ACAL.BUSY i.val) = s.dev.asic.flag (Reg.RLY_ACAL.BUSY i.val))
/-- R340–R346: `MATE`. A heartbeat carries role, device mode, READY and `PREF`; one received shows the partner and resolves the
roles by the table of R342; READY needs TRACK for the time set; the loss of heartbeats is counted, a STANDBY module takes
over and an ACTIVE one is SOLO; a request for a planned handover is taken or rejected, and at T_s the roles change; an open
seal loop puts the module OUT.
It rests on the model's own choices of log entries 6, 67. -/
def Obligations.MateRoles : Prop :=
  ∀ s : State,
    (s.dev.sup.shelf = false →
      (s.dev.asic.flag Reg.RLY_MATEST.LINK = false → Runs .heartbeatSend s (fun a => a = s.dev.asic) ∧
        ∀ h : Heartbeat, Runs (.heartbeatReceived h) s (fun a => a = s.dev.asic)) ∧
      (s.dev.asic.flag Reg.RLY_MATEST.LINK = true → Runs .heartbeatSend s (fun a => (∃ l, a.tx = s.dev.asic.tx ++ [.heartbeat l] ∧
          l.take 4 = [s.dev.asic.mateRole, s.dev.asic.mode, bit (s.dev.asic.flag Reg.RLY_MATEST.READY), bit (s.dev.asic.flag Reg.RLY_MATECFG.PREF)] ∧
          l.length = 21) ∧ a.rly = s.dev.asic.rly ∧ ∀ g : Fld, a.get g = s.dev.asic.get g) ∧
        ∀ h : Heartbeat, Runs (.heartbeatReceived h) s (fun a => a.flag Reg.RLY_MATEST.HB = true ∧ a.flag Reg.RLY_MATEST.PREADY = h.ready ∧
          a.get Reg.RLY_PSER.SERIAL = h.serial.toNat ∧ a.mate.lastHb = s.dev.asic.clk.now ∧ a.mate.partner = some h ∧
          (s.dev.asic.flag Reg.RLY_MATEST.HB = false → a.flag Reg.RLY_MATEEVT.PARTNERD = true) ∧
          (s.dev.asic.mateRole = 0 → a.mateRole = if h.role.val = 0 then (if s.dev.asic.winsTie h = true then 1 else 2) else if h.role.val = 1 then 2
            else if h.role.val = 2 then 1 else 0) ∧
          (s.dev.asic.mateRole = 1 → a.mateRole = if h.role.val = 1 ∧ (s.dev.asic.roleTime < h.time.toNat ∨
            (s.dev.asic.roleTime = h.time.toNat ∧ s.dev.asic.winsTie h = false)) then 2 else 1) ∧
          (s.dev.asic.mateRole = 2 → a.mateRole = if h.role.val = 3 ∨ (h.role.val = 2 ∧ s.dev.asic.winsTie h = true) then 1 else 2) ∧
          (s.dev.asic.mateRole = 3 → a.mateRole = 3))) ∧
      (s.dev.asic.mateRole = 2 → s.dev.asic.rallyState 6 = 3 →
        (s.dev.asic.rally 6).trackSince + second * max 1 (min 3600 (s.dev.asic.get Reg.RLY_MATECFG.READYT)) ≤ s.dev.asic.clk.now →
        Runs .mateReady s fun a => a = s.dev.asic.put Reg.RLY_MATEST.READY 1) ∧
      (s.dev.asic.mateRole ≠ 2 ∨ s.dev.asic.rallyState 6 ≠ 3 ∨
        s.dev.asic.clk.now < (s.dev.asic.rally 6).trackSince + second * max 1 (min 3600 (s.dev.asic.get Reg.RLY_MATECFG.READYT)) →
        Runs .mateReady s fun a => a = s.dev.asic) ∧
      (s.dev.asic.flag Reg.RLY_MATEST.HB = false ∨ s.dev.asic.clk.now < s.dev.asic.mate.lastHb + 12500 * max 2 (s.dev.asic.get Reg.RLY_MATECFG.HBTO) →
        Runs .heartbeatLoss s fun a => a = s.dev.asic) ∧
      (s.dev.asic.flag Reg.RLY_MATEST.HB = true → s.dev.asic.mate.lastHb + 12500 * max 2 (s.dev.asic.get Reg.RLY_MATECFG.HBTO) ≤ s.dev.asic.clk.now →
        Runs .heartbeatLoss s fun a => a.flag Reg.RLY_MATEST.HB = false ∧ a.flag Reg.RLY_MATEST.PREADY = false ∧ a.flag Reg.RLY_MATEEVT.HBLOSTD = true ∧
          a.get Reg.RLY_MATECNT.HBLOSS = min 65535 (s.dev.asic.get Reg.RLY_MATECNT.HBLOSS + 1) ∧ a.mate.partner = none ∧ a.mate.ts = none ∧
          a.mateRole = (if s.dev.asic.mateRole = 2 then 1 else if s.dev.asic.mateRole = 1 then 0 else s.dev.asic.mateRole) ∧
          (s.dev.asic.mateRole = 2 → a.flag Reg.RLY_MATEEVT.TAKEND = true ∧
            a.get Reg.RLY_MATECNT.TAKES = min 65535 (s.dev.asic.get Reg.RLY_MATECNT.TAKES + 1) ∧
            (s.dev.asic.flag Reg.RLY_MATEST.READY = false → a.flag Reg.RLY_MATEEVT.UNREADY = true))) ∧
      (s.dev.asic.mate.ts = none → Runs .matePlannedHandover s fun a => a = s.dev.asic) ∧
      (∀ t, s.dev.asic.mate.ts = some t →
        (s.dev.asic.clk.coarse < t → Runs .matePlannedHandover s fun a => a = s.dev.asic) ∧
        (t ≤ s.dev.asic.clk.coarse → Runs .matePlannedHandover s fun a => a.mate.ts = none ∧ a.mate.relinquish = false ∧ a.mate.take = false ∧
          a.mateRole = (if s.dev.asic.mateRole = 1 then 2 else if s.dev.asic.mateRole = 2 then 1 else s.dev.asic.mateRole) ∧
          (s.dev.asic.mateRole = 1 → a.flag Reg.RLY_MATEEVT.RELD = true) ∧ (s.dev.asic.mateRole = 2 → a.flag Reg.RLY_MATEEVT.TAKEND = true))) ∧
      (Runs .sealLoopOpen s fun a => a.mate.sealOpen = true ∧ a.mateRole = 3 ∧ a.mode = s.dev.asic.mode ∧ a.clk = s.dev.asic.clk) ∧
      (Runs .sealLoopClose s fun a => a.mate.sealOpen = false ∧
        (s.dev.asic.mateRole ≠ 3 → s.dev.asic.flag Reg.RLY_MATECFG.EN = true → s.dev.asic.mode ≠ 1 → s.dev.asic.mode ≠ 6 → s.dev.asic.mode ≠ 7 →
          a = s.dev.asic.modMate fun x => { x with sealOpen := false }) ∧
        (s.dev.asic.flag Reg.RLY_MATECFG.EN = false → a.mateRole = 3) ∧
        (s.dev.asic.mateRole = 3 → s.dev.asic.flag Reg.RLY_MATEST.HB = false → s.dev.asic.flag Reg.RLY_MATECFG.EN = true → s.dev.asic.mode ≠ 1 → s.dev.asic.mode ≠ 5 →
          s.dev.asic.mode ≠ 6 → s.dev.asic.mode ≠ 7 → a.mateRole = 0))) ∧
    ∀ m : Master, s.dev.keyFor m = true →
      (s.dev.asic.mateRole = 1 → s.dev.asic.flag Reg.RLY_MATEST.PREADY = true → s.dev.asic.mate.ts = none → s.dev.asic.mate.take = false →
        Runs (.mateRelinquish m) s fun a => a.mate = { s.dev.asic.mate with relinquish := true, ts := some (tickAt (s.dev.asic.clk.coarse + 100 * usec)) }) ∧
      (s.dev.asic.mateRole ≠ 1 ∨ s.dev.asic.flag Reg.RLY_MATEST.PREADY = false ∨ s.dev.asic.mate.ts ≠ none ∨ s.dev.asic.mate.take = true →
        Runs (.mateRelinquish m) s fun a => a.mate = s.dev.asic.mate ∧ a.flag Reg.RLY_MATEEVT.REJ = true) ∧
      (s.dev.asic.mateRole = 2 → s.dev.asic.flag Reg.RLY_MATEST.READY = true → s.dev.asic.mate.ts = none → s.dev.asic.mate.take = false →
        Runs (.mateTake m) s fun a => a.mate = { s.dev.asic.mate with take := true }) ∧
      (s.dev.asic.mateRole ≠ 2 ∨ s.dev.asic.flag Reg.RLY_MATEST.READY = false ∨ s.dev.asic.mate.ts ≠ none ∨ s.dev.asic.mate.take = true →
        Runs (.mateTake m) s fun a => a.mate = s.dev.asic.mate ∧ a.flag Reg.RLY_MATEEVT.REJ = true)
/-- R349–R351: impairment. `ARM` with presence in a mode of service starts a run from its seed, and is rejected otherwise; a run
ends by `DISARM` or after its duration, once; a frame held for REORDER goes on after the next one or after 100 µs, noted and
counted.
It rests on the model's own choices of log entries 6, 17. -/
def Obligations.Impairment : Prop :=
  ∀ (s : State) (p : Fin 6),
    (∀ m : Master, s.dev.keyFor m = true →
      (s.dev.asic.present' = true → s.dev.asic.mode = 2 ∨ s.dev.asic.mode = 3 ∨ s.dev.asic.mode = 4 ∨ s.dev.asic.mode = 5 ∨ s.dev.asic.mode = 7 →
        Runs (.impArm m p) s fun a => a.flag (Reg.RLY_IMPSTAT.ARMED p.val) = true ∧ a.impair p.val = { s.dev.asic.impair p.val with
          seed := if s.dev.asic.get (Reg.RLY_IMPSEED.SEED p.val) = 0 then 0xACE1 else s.dev.asic.get (Reg.RLY_IMPSEED.SEED p.val)
          seen := 0, start := s.dev.asic.clk.coarse }) ∧
      (s.dev.asic.present' = false ∨ s.dev.asic.mode = 0 ∨ s.dev.asic.mode = 1 ∨ s.dev.asic.mode = 6 → Runs (.impArm m p) s fun a =>
        a.flag (Reg.RLY_IMPSTAT.REJ p.val) = true ∧ a.prt = s.dev.asic.prt ∧
        a.flag (Reg.RLY_IMPSTAT.ARMED p.val) = s.dev.asic.flag (Reg.RLY_IMPSTAT.ARMED p.val)) ∧
      (Runs (.impDisarm m p) s fun a => a.flag (Reg.RLY_IMPSTAT.ARMED p.val) = false ∧ a.prt = s.dev.asic.prt ∧
        (s.dev.asic.flag (Reg.RLY_IMPSTAT.ARMED p.val) = true → a.flag (Reg.RLY_IMPSTAT.ENDD p.val) = true))) ∧
    (s.dev.sup.shelf = false →
      (s.dev.asic.flag (Reg.RLY_IMPSTAT.ARMED p.val) = false ∨ s.dev.asic.clk.coarse < (s.dev.asic.impair p.val).start + s.dev.asic.impDuration p.val * second →
        Runs (.impDurationEnd p) s fun a => a = s.dev.asic) ∧
      (s.dev.asic.flag (Reg.RLY_IMPSTAT.ARMED p.val) = true → (s.dev.asic.impair p.val).start + s.dev.asic.impDuration p.val * second ≤ s.dev.asic.clk.coarse →
        Runs (.impDurationEnd p) s fun a => a.flag (Reg.RLY_IMPSTAT.ARMED p.val) = false ∧ a.flag (Reg.RLY_IMPSTAT.ENDD p.val) = true ∧
          a.prt = s.dev.asic.prt) ∧
      ∀ (egress : Bool) (pos : BitVec 18),
        ((s.dev.asic.impair p.val).held.find? (fun h => h.egress == egress) = none → Runs (.reorderRelease p egress pos) s fun a => a = s.dev.asic) ∧
        ∀ h, (s.dev.asic.impair p.val).held.find? (fun h => h.egress == egress) = some h →
          (h.next = false → s.dev.asic.clk.coarse < h.start + 100 * usec → Runs (.reorderRelease p egress pos) s fun a => a = s.dev.asic) ∧
          (h.next = true ∨ h.start + 100 * usec ≤ s.dev.asic.clk.coarse → Runs (.reorderRelease p egress pos) s fun a =>
            a.prt.imp = s.dev.asic.prt.imp.set p.val { s.dev.asic.impair p.val with held := (s.dev.asic.impair p.val).held.filter (· != h) } ∧
            a.get (Reg.RLY_IMPCNT.COUNT p.val) = (s.dev.asic.get (Reg.RLY_IMPCNT.COUNT p.val) + 1) % 2 ^ 32 ∧
            (∀ k l, h.item = .built k l → a.tx = s.dev.asic.tx
              ++ [.port p.val k (l ++ [s.dev.asic.scalePq (s.dev.asic.prtScale p.val) (s.dev.asic.egressTime p.val pos.toNat)])])))

/-- R361–R368: the arbiter. A transfer in progress ends before a decision; the winner is the first eligible slot with credit at or
after PTR, or of all eligible slots after a reload; its grant and its wait are counted and its oldest record goes to its
channel's region. Starvation, the hold limit and the watchdog act once their time has passed and not before; `UNMASK` and
`CLR` act on the slots they name.
It rests on the model's own choices of log entries 6, 12, 68. -/
def Obligations.Arbiter : Prop :=
  ∀ s : State,
    (s.dev.sup.shelf = false →
      (∀ q, slots.find? (fun q => (s.dev.asic.recs.transfer.get q).isSome) = some q →
        Runs (.recordGrant true) s (fun a => a = s.dev.asic) ∧
        Runs (.recordGrant false) s (fun a => a.recs.transfer.get q = none ∧ a.recs.queue.get q = (s.dev.asic.recs.queue.get q).drop 1)) ∧
      (slots.find? (fun q => (s.dev.asic.recs.transfer.get q).isSome) = none → s.dev.asic.recs.holder = none →
        (∀ stuck : Bool, slots.filter s.dev.asic.eligible = [] → Runs (.recordGrant stuck) s fun a => a = s.dev.asic) ∧
        (∀ q, s.dev.asic.pick ((slots.filter s.dev.asic.eligible).filter fun q => 0 < s.dev.asic.credit q) = some q →
          s.dev.asic.dropsHalted (s.dev.asic.slotChan q) = false → s.dev.asic.flag Reg.REC_CFG.MODE = false →
          Runs (.recordGrant false) s (fun a => a.get (Reg.REC_GRANTS.COUNT q) = (s.dev.asic.get (Reg.REC_GRANTS.COUNT q) + 1) % 2 ^ 32 ∧
            a.get2 (Reg.REC_WAITLO.CYCLES q) (Reg.REC_WAITHI.CYCLES q)
              = (s.dev.asic.get2 (Reg.REC_WAITLO.CYCLES q) (Reg.REC_WAITHI.CYCLES q) + s.dev.asic.waitNow q) % 2 ^ 48 ∧
            a.recs.spent = s.dev.asic.recs.spent.set q (s.dev.asic.recs.spent.get q + 1) ∧
            a.recs.ptr = (if s.dev.asic.credit q = 1 then (q + 1) % 16 else s.dev.asic.recs.ptr) ∧
            ∃ r rest, s.dev.asic.recs.queue.get q = r :: rest ∧ a.recs.queue = s.dev.asic.recs.queue.set q rest ∧
              a.recs.region = s.dev.asic.recs.region.set (s.dev.asic.slotChan q)
                (s.dev.asic.recs.region.get (s.dev.asic.slotChan q) ++ [(r, s.dev.asic.clk.now)])) ∧
          Runs (.recordGrant true) s (fun a => a.get (Reg.REC_GRANTS.COUNT q) = (s.dev.asic.get (Reg.REC_GRANTS.COUNT q) + 1) % 2 ^ 32 ∧
            a.recs.transfer = s.dev.asic.recs.transfer.set q (some s.dev.asic.clk.now) ∧ a.recs.queue = s.dev.asic.recs.queue)) ∧
        (∀ q, (slots.filter s.dev.asic.eligible).filter (fun q => 0 < s.dev.asic.credit q) = [] → s.dev.asic.pick (slots.filter s.dev.asic.eligible) = some q →
          Runs (.recordGrant true) s fun a => a.get (Reg.REC_GRANTS.COUNT q) = (s.dev.asic.get (Reg.REC_GRANTS.COUNT q) + 1) % 2 ^ 32 ∧
            a.recs.spent = Tab.set ([] : Tab Nat) q 1 ∧ ∀ k : Fin 16, a.recs.weight.get k.val = max 1 (s.dev.asic.get (Reg.REC_SLOTCFG.WEIGHT k.val)))) ∧
      ∀ q : Fin 16,
        (s.dev.asic.slotQueue q.val = [] ∨ s.dev.asic.recs.starved.get q.val = true ∨ s.dev.asic.waitNow q.val < max 1 (s.dev.asic.get Reg.REC_STARVTH.THRESH) →
          Runs (.starvation q) s fun a => a = s.dev.asic) ∧
        (s.dev.asic.slotQueue q.val ≠ [] → s.dev.asic.recs.starved.get q.val = false → max 1 (s.dev.asic.get Reg.REC_STARVTH.THRESH) ≤ s.dev.asic.waitNow q.val →
          Runs (.starvation q) s fun a => hasBit (a.get Reg.REC_SLOTFLAG.STARVING) q.val = true ∧ a.flag Reg.REC_STAT.STARVD = true ∧
            a.recs = { s.dev.asic.recs with starved := s.dev.asic.recs.starved.set q.val true } ∧
            a.get Reg.REC_SLOTFLAG.MASKED = s.dev.asic.get Reg.REC_SLOTFLAG.MASKED) ∧
        (hasBit (s.dev.asic.get Reg.REC_SLOTFLAG.MASKED) q.val = true ∨ s.dev.asic.transferCycles q.val ≤ max 1 (s.dev.asic.get Reg.REC_CFG.HOLDLIM) →
          Runs (.holdLimit q) s fun a => a = s.dev.asic) ∧
        (hasBit (s.dev.asic.get Reg.REC_SLOTFLAG.MASKED) q.val = false → max 1 (s.dev.asic.get Reg.REC_CFG.HOLDLIM) < s.dev.asic.transferCycles q.val →
          Runs (.holdLimit q) s fun a => hasBit (a.get Reg.REC_SLOTFLAG.MASKED) q.val = true ∧ a.flag Reg.REC_STAT.HOLDD = true ∧ a.recs = s.dev.asic.recs) ∧
        (s.dev.asic.transferCycles q.val < 4096 → Runs (.holdWatchdog q) s fun a => a = s.dev.asic) ∧
        (4096 ≤ s.dev.asic.transferCycles q.val → Runs (.holdWatchdog q) s fun a => a.flag Reg.REC_STAT.WDOGD = true ∧ a.recs = s.dev.asic.recs)) ∧
    ∀ (m : Master) (mask : BitVec 16), s.dev.freeFor m = true →
      Runs (.recUnmask m mask) s (fun a => a.get Reg.REC_SLOTFLAG.MASKED = s.dev.asic.get Reg.REC_SLOTFLAG.MASKED &&& (65535 ^^^ mask.toNat) ∧
        a.get Reg.REC_SLOTFLAG.STARVING = s.dev.asic.get Reg.REC_SLOTFLAG.STARVING ∧ a.recs = s.dev.asic.recs) ∧
      Runs (.recCounterClear m mask) s (fun a => ∀ q : Fin 16,
        (hasBit mask.toNat q.val = true → a.get (Reg.REC_GRANTS.COUNT q.val) = 0 ∧
          a.get2 (Reg.REC_WAITLO.CYCLES q.val) (Reg.REC_WAITHI.CYCLES q.val) = 0 ∧ a.get (Reg.REC_LONGEST.CYCLES q.val) = 0) ∧
        (hasBit mask.toNat q.val = false → a.get (Reg.REC_GRANTS.COUNT q.val) = s.dev.asic.get (Reg.REC_GRANTS.COUNT q.val) ∧
          a.get (Reg.REC_LONGEST.CYCLES q.val) = s.dev.asic.get (Reg.REC_LONGEST.CYCLES q.val)))
/-- R370–R377, R382: the DMA engine. The path writes a burst of the channel that takes it, or halts the channel on a bad descriptor
or a bad translation; a fallback pauses it. A flush applies to records that wait. A completed descriptor advances HEAD and
is written back; an acknowledged burst frees its records. `TAIL` of a host channel moves as written, not onto HEAD; an HKC
channel's ring fills through `Q14`; RESUME and DISCARD act or are rejected by the channel's state; an enable with a bad
region is rejected.
It rests on the model's own choices of log entries 6, 69. -/
def Obligations.DmaEngine : Prop :=
  ∀ s : State,
    (s.dev.sup.shelf = false →
      (s.dev.asic.nextChan = none ∨ s.dev.asic.fallback = true → Runs .dmaBurst s fun a => a = s.dev.asic) ∧
      (∀ c, s.dev.asic.nextChan = some c → s.dev.asic.fallback = false → s.dev.asic.hkcOwns c = false → s.dev.asic.pcieQueue < 8 →
        (s.dev.asic.dmaCh c).resend = 0 → (s.dev.asic.dmaCh c).taken = false →
        (s.dev.asic.descBad c = true → Runs .dmaBurst s fun a => a.flag (Reg.DMA_CHSTAT.HALTED c) = true ∧ a.get (Reg.DMA_CHSTAT.ERR c) = 2 ∧
          a.flag (Reg.DMA_CHSTAT.ERRD c) = true ∧ a.tx = s.dev.asic.tx ∧ a.recs = s.dev.asic.recs) ∧
        (∀ l, s.dev.asic.descBad c = false → s.dev.asic.descKind c = 0 →
          l = (s.dev.asic.waiting c).take (min (s.dev.asic.descLen c) (256 - s.dev.asic.descDest c % 256) / 32) → l ≠ [] → (s.dev.asic.dmaCh c).done = 0 →
          (s.dev.asic.translate (s.dev.asic.descDest c) = none → Runs .dmaBurst s fun a => a.flag (Reg.DMA_CHSTAT.HALTED c) = true ∧
            a.get (Reg.DMA_CHSTAT.ERR c) = 1 ∧ a.get (Reg.DMA_CHRESUME.ADDR c) = s.dev.asic.descDest c ∧ a.tx = s.dev.asic.tx ∧ a.recs = s.dev.asic.recs) ∧
          (∀ host, s.dev.asic.translate (s.dev.asic.descDest c) = some host → s.dev.asic.bus.pcie.payload ≠ 0 → Runs .dmaBurst s fun a =>
            a.tx = s.dev.asic.tx ++ [.hostWrite host (l.map fun r => r.1).flatten] ∧ a.recs = s.dev.asic.recs ∧
            (a.dmaCh c).taken = true ∧ (a.dmaCh c).done = (l.map fun r => r.1).flatten.length ∧
            (a.dmaCh c).flight = (s.dev.asic.dmaCh c).flight ++ [⟨s.dev.asic.descDest c, host, (l.map fun r => r.1).flatten, l.length⟩] ∧
            a.get2 (Reg.DMA_CHBYTLO.BYTES c) (Reg.DMA_CHBYTHI.BYTES c)
              = (s.dev.asic.get2 (Reg.DMA_CHBYTLO.BYTES c) (Reg.DMA_CHBYTHI.BYTES c) + (l.map fun r => r.1).flatten.length) % 2 ^ 64))) ∧
      ∀ c : Fin 8,
        (s.dev.asic.flushDue c.val = false → Runs (.dmaFlushTimer c) s fun a => a = s.dev.asic) ∧
        (s.dev.asic.flushDue c.val = true → s.dev.asic.flag (Reg.DMA_CHCFG.EN c.val) = false →
          Runs (.dmaFlushTimer c) s fun a => a = s.dev.asic.modDma c.val fun x => { x with flushing := true }) ∧
        (s.dev.asic.ringEmpty c.val = true ∨ s.dev.asic.descDone c.val = false ∨ s.dev.asic.halted c.val = true →
          Runs (.descriptorComplete c) s fun a => a = s.dev.asic) ∧
        (s.dev.asic.ringEmpty c.val = false → s.dev.asic.descDone c.val = true → s.dev.asic.halted c.val = false → Runs (.descriptorComplete c) s fun a =>
          a.get (Reg.DMA_CHHEAD.HEAD c.val) = (s.dev.asic.get (Reg.DMA_CHHEAD.HEAD c.val) + 1) % 64 ∧ a.flag (Reg.DMA_CHSTAT.DONED c.val) = true ∧
          (a.dmaCh c.val).taken = false ∧ a.recs = s.dev.asic.recs ∧
          a.word (descAddr c.val (s.dev.asic.get (Reg.DMA_CHHEAD.HEAD c.val)) 3) = BitVec.ofNat 32 ((s.dev.asic.dmaCh c.val).done + 2 ^ 17
            + 2 ^ 18 * (if (s.dev.asic.dmaCh c.val).copyBad = true then 4 else 0) + 2 ^ 22 * ((s.dev.asic.dmaCh c.val).flags % 2)
            + 2 ^ 23 * ((s.dev.asic.dmaCh c.val).flags / 2 % 2)) ∧
          ((s.dev.asic.dmaCh c.val).copyBad = true → a.get (Reg.DMA_CHSTAT.ERR c.val) = 4)) ∧
        ((s.dev.asic.dmaCh c.val).flight.length ≤ (s.dev.asic.dmaCh c.val).resend → Runs (.burstAcknowledged c) s fun a => a = s.dev.asic) ∧
        (∀ b rest, (s.dev.asic.dmaCh c.val).flight = b :: rest → (s.dev.asic.dmaCh c.val).resend < rest.length + 1 →
          Runs (.burstAcknowledged c) s fun a => (a.dmaCh c.val).flight = rest ∧ a.recs = { s.dev.asic.recs with
              region := s.dev.asic.recs.region.set c.val ((s.dev.asic.recs.region.get c.val).drop b.recs) } ∧
            a.get (Reg.DMA_CHFILL.FILL c.val) = ((s.dev.asic.recs.region.get c.val).length - b.recs) % 16384) ∧
        ∀ w0 w1 w2 : Word,
          (s.dev.asic.hkcOwns c.val = false ∨ s.dev.asic.ringFull c.val = true ∨ s.dev.asic.fw.swappedAt.isSome = true ∨ s.dev.asic.slotQueue 14 ≠ [] →
            Runs (.hkcDescriptorPost c w0 w1 w2) s fun a => a = s.dev.asic) ∧
          (s.dev.asic.hkcOwns c.val = true → s.dev.asic.ringFull c.val = false → s.dev.asic.fw.swappedAt = none → s.dev.asic.slotQueue 14 = [] →
            Runs (.hkcDescriptorPost c w0 w1 w2) s fun a => a.get (Reg.DMA_CHTAIL.TAIL c.val) = (s.dev.asic.get (Reg.DMA_CHTAIL.TAIL c.val) + 1) % 64 ∧
              a.word (descAddr c.val (s.dev.asic.get (Reg.DMA_CHTAIL.TAIL c.val)) 0) = w0 ∧ a.word (descAddr c.val (s.dev.asic.get (Reg.DMA_CHTAIL.TAIL c.val)) 1) = w1 ∧
              a.word (descAddr c.val (s.dev.asic.get (Reg.DMA_CHTAIL.TAIL c.val)) 2) = w2)) ∧
    ∀ (m : Master) (c : Fin 8),
      (s.dev.freeFor m = true → ∀ v : Word,
        (s.dev.asic.hkcOwns c.val = true ∨ (wordBits v 0 6 = s.dev.asic.get (Reg.DMA_CHHEAD.HEAD c.val) ∧
            s.dev.asic.get (Reg.DMA_CHTAIL.TAIL c.val) ≠ s.dev.asic.get (Reg.DMA_CHHEAD.HEAD c.val)) → Runs (.dmaTailWrite m c v) s fun a =>
          a.get (Reg.DMA_CHTAIL.TAIL c.val) = s.dev.asic.get (Reg.DMA_CHTAIL.TAIL c.val)) ∧
        (s.dev.asic.hkcOwns c.val = false → wordBits v 0 6 ≠ s.dev.asic.get (Reg.DMA_CHHEAD.HEAD c.val) → Runs (.dmaTailWrite m c v) s fun a =>
          a.get (Reg.DMA_CHTAIL.TAIL c.val) = wordBits v 0 6 ∧ a.dma = s.dev.asic.dma ∧ a.recs = s.dev.asic.recs)) ∧
      (s.dev.keyFor m = true →
        (s.dev.asic.waiting c.val = [] → Runs (.dmaFlush m c) s fun a => a.dma = s.dev.asic.dma ∧ a.recs = s.dev.asic.recs) ∧
        (s.dev.asic.waiting c.val ≠ [] → s.dev.asic.flag (Reg.DMA_CHCFG.EN c.val) = false → Runs (.dmaFlush m c) s fun a =>
          a.dma = (s.dev.asic.modDma c.val fun x => { x with flushing := true }).dma ∧ a.recs = s.dev.asic.recs) ∧
        (s.dev.asic.halted c.val = false ∨ (s.dev.asic.get (Reg.DMA_CHSTAT.ERR c.val) = 3 ∧ s.dev.asic.dmaLink = false) → Runs (.dmaResume m c) s fun a =>
          a.flag (Reg.DMA_CHSTAT.HALTED c.val) = s.dev.asic.flag (Reg.DMA_CHSTAT.HALTED c.val) ∧ a.dma = s.dev.asic.dma) ∧
        (s.dev.asic.halted c.val = true → s.dev.asic.get (Reg.DMA_CHSTAT.ERR c.val) ≠ 3 ∨ s.dev.asic.dmaLink = true → Runs (.dmaResume m c) s fun a =>
          a.flag (Reg.DMA_CHSTAT.HALTED c.val) = false ∧ (s.dev.asic.get (Reg.DMA_CHSTAT.ERR c.val) ≠ 5 → a.dma = s.dev.asic.dma) ∧
          (s.dev.asic.get (Reg.DMA_CHSTAT.ERR c.val) = 5 → (a.dmaCh c.val).taken = false)) ∧
        (s.dev.asic.flag (Reg.DMA_CHCFG.EN c.val) = true → Runs (.dmaDiscard m c) s fun a => a.recs = s.dev.asic.recs ∧ a.dma = s.dev.asic.dma) ∧
        (s.dev.asic.flag (Reg.DMA_CHCFG.EN c.val) = false → Runs (.dmaDiscard m c) s fun a => a.recs.region.get c.val = [] ∧ (a.dmaCh c.val).flight = [] ∧
          a.get (Reg.DMA_CHFILL.FILL c.val) = 0 ∧
          a.get (Reg.DMA_CHDROP.COUNT c.val) = min (2 ^ 32 - 1) (s.dev.asic.get (Reg.DMA_CHDROP.COUNT c.val) + (s.dev.asic.recs.region.get c.val).length)) ∧
        ∀ v : Word,
          (wordBits v 4 1 = s.dev.asic.get (Reg.DMA_CHCFG.OWNER c.val) → wordBits v 0 1 = 0 ∨ s.dev.asic.regionBad c.val = false →
            Runs (.dmaEnableWrite m c v) s fun a => a.get (Reg.DMA_CHCFG.EN c.val) = wordBits v 0 1 ∧ a.get (Reg.DMA_CHCFG.PRIO c.val) = wordBits v 1 3 ∧
              a.get (Reg.DMA_CHCFG.HALTDROP c.val) = wordBits v 5 1 ∧ a.get (Reg.DMA_CHCFG.FLUSH c.val) = wordBits v 6 8) ∧
          (wordBits v 0 1 = 1 → s.dev.asic.regionBad c.val = true → Runs (.dmaEnableWrite m c v) s fun a =>
            a.get (Reg.DMA_CHCFG.EN c.val) = s.dev.asic.get (Reg.DMA_CHCFG.EN c.val) ∧ a.get (Reg.DMA_CHCFG.OWNER c.val) = s.dev.asic.get (Reg.DMA_CHCFG.OWNER c.val)))

/-- R384–R388, R400, R402, R403, R406: register accesses. An unaligned write and one outside every target change nothing and raise
`FE8`; a guarded write without the key, and one to a locked block, change no register but that the key is re-armed, and raise
`FE7`. `REC_EN` is written as a word or bit by bit through the alias window; an alias write of an event register is
rejected, one of a read-only bit has no effect. The low word of a held pair waits for the high word; a read of the low
word of a latched pair latches the high one.
It rests on the model's own choices of log entries 21, 22, 23, 24. -/
def Obligations.RegisterAccess : Prop :=
  ∀ (s : State) (m : Master), s.dev.busRuns = true →
    (∀ (addr : BitVec 32) (size : Fin 4) (v : Word), aligned addr.toNat size.val true = false ∨ targetOf addr.toNat = .none →
      Runs (.registerWrite m addr size v) s fun a => a = s.dev.asic.raiseAccess 8 ⟨addr.toNat, m.val, true, size.val, false⟩) ∧
    (∀ (addr : BitVec 32) (v : Word), addr.toNat < 0x110000 → addr.toNat % 4 = 0 → addr.toNat / 65536 ≠ 14 →
      (s.dev.guarded addr.toNat v = true → s.dev.asic.keyOpen m.val = false → Runs (.registerWrite m addr 2 v) s fun a =>
        a = s.dev.asic.rearm.raiseAccess 7 ⟨addr.toNat, m.val, true, 2, false⟩) ∧
      (s.dev.guarded addr.toNat v = false → heldLow addr.toNat = false → s.dev.asic.blockLocked addr.toNat = true →
        s.dev.changes addr.toNat (without ((masksAt addr.toNat).rw ||| (masksAt addr.toNat).wk) (masksAt addr.toNat).wo) v = true →
        Runs (.registerWrite m addr 2 v) s fun a => a = s.dev.asic.raiseAccess 7 ⟨addr.toNat, m.val, true, 2, false⟩) ∧
      (s.dev.guarded addr.toNat v = false → heldLow addr.toNat = true → m.val ≠ 3 → s.dev.asic.barredWindow m.val addr.toNat = false →
        Runs (.registerWrite m addr 2 v) s fun a =>
          a = { s.dev.asic with bus := { s.dev.asic.bus with hold := s.dev.asic.bus.hold.set (latchKey m.val addr.toNat) (some v.toNat) } }) ∧
      (latchLow addr.toNat = true → s.dev.asic.copiesDiffer addr.toNat = false → Runs (.pairLowWordRead m addr) s fun a => a = { s.dev.asic with
        bus := { s.dev.asic.bus with latch := s.dev.asic.bus.latch.set (latchKey m.val (addr.toNat + 4)) (some (s.dev.live (addr.toNat + 4)).toNat) } })) ∧
    (∀ k : Fin 4, s.dev.asic.copiesDiffer (Reg.TSC_FRAC.FRAC k.val).addr = false → Runs (.tscFracRead m k) s fun a => (∀ g : Fld, a.get g = s.dev.asic.get g) ∧
      ∀ j : Fin 3, a.bus.latch.get (latchKey m.val ((Reg.TSC_FRAC.FRAC k.val).addr + 4 * (j.val + 1)))
        = some (s.dev.live ((Reg.TSC_FRAC.FRAC k.val).addr + 4 * (j.val + 1))).toNat) ∧
    (∀ (addr : BitVec 32) (v : Word), 0x40000000 ≤ addr.toNat → addr.toNat < 0x42000000 → addr.toNat % 4 = 0 →
      (addr.toNat - 0x40000000) / 128 * 4 / 65536 ≠ 14 →
      ((masksAt ((addr.toNat - 0x40000000) / 128 * 4)).sq ≠ 0 → Runs (.aliasWrite m addr v) s fun a =>
        a = s.dev.asic.raiseAccess 7 ⟨addr.toNat, m.val, true, 2, true⟩) ∧
      (masksAt ((addr.toNat - 0x40000000) / 128 * 4) = {} → wideWo ((addr.toNat - 0x40000000) / 128 * 4) = 0 → Runs (.aliasWrite m addr v) s fun a =>
        a = s.dev.asic)) ∧
    (s.dev.freeFor m = true →
      (∀ v : Word, Runs (.registerWrite m 0x0B0008 2 v) s fun a => a.get Reg.REC_EN.SLOTS = wordBits v 0 16 ∧
        (∀ g : Fld, g.addr ≠ 0x0B0008 → g.addr ≠ Reg.GLB_RVSTAT.COUNT.addr → g.addr ≠ Reg.GLB_RVADDR.ADDR.addr → a.get g = s.dev.asic.get g)) ∧
      (∀ (q : Fin 16) (v : Word), Runs (.aliasWrite m (BitVec.ofNat 32 (0x40000000 + 32 * 0x0B0008 + 4 * q.val)) v) s fun a => ∀ k : Fin 16,
        hasBit (a.get Reg.REC_EN.SLOTS) k.val = if k = q then v.getLsbD 0 else hasBit (s.dev.asic.get Reg.REC_EN.SLOTS) k.val) ∧
      (∀ (k : Fin 1024) (low : Nat) (v : Word), s.dev.asic.bus.hold.get (latchKey m.val (0x0C4000 + 8 * k.val)) = some low → low < 2 ^ 32 →
        Runs (.heldPairHighWrite m (BitVec.ofNat 32 (0x0C4004 + 8 * k.val)) v) s fun a => a.word (0x0C4004 + 8 * k.val) = v ∧
          (a.word (0x0C4000 + 8 * k.val)).toNat = low ∧ a.bus.hold.get (latchKey m.val (0x0C4000 + 8 * k.val)) = none) ∧
      (∀ addr ∈ [0x0B000C, 0x0A100C, 0x20, 0x0C0110], ∀ (v : Word) (e : Fin 24), hasBit (masksAt addr).sq (8 + e.val) = true →
        Runs (.sequenceClearWrite m (BitVec.ofNat 32 addr) v) s fun a => hasBit (a.word addr).toNat (8 + e.val)
          = (hasBit (s.dev.asic.word addr).toNat (8 + e.val) && !(hasBit v.toNat (8 + e.val) && wordBits v 0 8 == wordBits (s.dev.asic.word addr) 0 8))))
/-- R401, R402, R404: the key, the block lock and triplicated fields. `5A17H` unlocks for the master that wrote it, any other value
re-arms; the key times out after 100 ms. `GLB_LOCK` takes its first write and no other. A word whose copies differ in at
most one place per bit reads as stored; a scrub repairs it, counts and reports.
It rests on the model's own choices of log entries 24, 26, 28. -/
def Obligations.KeyAndCopies : Prop :=
  ∀ s : State,
    (∀ (m : Master) (v : Word), s.dev.freeFor m = true →
      Runs (.keyWrite m v) s (fun a => (v = 0x5A17 → a.flag Reg.GLB_KEYST.UNLOCKED = true ∧ a.get Reg.GLB_KEYST.OWNER = m.val ∧ a.bus.keyAt = s.dev.asic.clk.now) ∧
        (v ≠ 0x5A17 → a.flag Reg.GLB_KEYST.UNLOCKED = false) ∧ ∀ g : Fld, g.addr ≠ 0x14 → a.get g = s.dev.asic.get g) ∧
      Runs (.blockLockWrite m v) s (fun a => (s.dev.asic.bus.lockWritten = false → s.dev.asic.modes.coldOn = false →
          a.get Reg.GLB_LOCK.BLOCKS = wordBits v 0 17 ∧ a.bus.lockWritten = true) ∧
        (s.dev.asic.bus.lockWritten = true → a.get Reg.GLB_LOCK.BLOCKS = 0 ∧ a.bus.lockWritten = true))) ∧
    (s.dev.sup.shelf = false →
      (s.dev.asic.flag Reg.GLB_KEYST.UNLOCKED = true → s.dev.asic.bus.keyAt + 100 * msec ≤ s.dev.asic.clk.now → Runs .keyTimeout s fun a => a = s.dev.asic.rearm) ∧
      (s.dev.asic.flag Reg.GLB_KEYST.UNLOCKED = false ∨ s.dev.asic.clk.now < s.dev.asic.bus.keyAt + 100 * msec → Runs .keyTimeout s fun a => a = s.dev.asic) ∧
      ∀ addr : BitVec 32,
        (s.dev.asic.copiesDiffer (addr.toNat / 4 * 4) = false → Runs (.tvScrub addr) s fun a => a = s.dev.asic) ∧
        (s.dev.asic.copiesDiffer (addr.toNat / 4 * 4) = true → addr.toNat / 4 * 4 ≠ 0x34 → addr.toNat / 4 * 4 ≠ 0x38 → Runs (.tvScrub addr) s fun a =>
          a.word (addr.toNat / 4 * 4) = s.dev.asic.word (addr.toNat / 4 * 4) ∧ a.stored (addr.toNat / 4 * 4) = s.dev.asic.word (addr.toNat / 4 * 4) ∧
          a.copiesDiffer (addr.toNat / 4 * 4) = false ∧
          a.get Reg.GLB_TVSTAT.COUNT = min 65535 (s.dev.asic.get Reg.GLB_TVSTAT.COUNT + 1) ∧ a.get Reg.GLB_TVADDR.ADDR = addr.toNat / 4 * 4 % 2 ^ 21)) ∧
    ∀ addr : Nat, s.dev.asic.tv1.get addr &&& s.dev.asic.tv2.get addr = 0 → s.dev.asic.word addr = s.dev.asic.stored addr
/-- R392–R399, R376, R442: SPI and PCIe. A frame of one access makes the access of master M1 and answers its status and data; a
frame of another shape makes none and is an unaligned access; a reset drops what M1 holds. A request of one aligned DW is the
access of M2; the function's registers follow its configuration, and a reset returns them to their reset state.
It rests on the model's own choices of log entries 2, 27. -/
def Obligations.SpiAndPcie : Prop :=
  ∀ s : State,
    (s.dev.busRuns = true →
      (∀ addr : BitVec 32,
        (∀ v : Word, ∃ t st, exec (.registerWrite 1 addr 2 v) s = .next t ∧ Completes (.spiWriteFrame 2 0 addr [v]) s fun u =>
          u.dev.asic = t.dev.asic.spiAnswer st true [] ∧ u.dev.kep = t.dev.kep ∧ u.dev.nvm = t.dev.nvm ∧ u.pending = t.pending) ∧
        (∀ (size : Fin 4) (count : Fin 32) (data : List Word), spiBad size.val count.val = true →
          Runs (.spiWriteFrame size count addr data) s (fun a => a = (s.dev.asic.raiseAccess 8 ⟨addr.toNat, 1, true, size.val, false⟩).spiAnswer 1 true []) ∧
          Runs (.spiReadFrame size count addr) s (fun a => a = (s.dev.asic.raiseAccess 8 ⟨addr.toNat, 1, false, size.val, false⟩).spiAnswer 1 false
            (List.replicate (spiWidth size.val) 0))) ∧
        (addr.toNat < 0x110000 → addr.toNat % 4 = 0 → addr.toNat / 65536 ≠ 14 → s.dev.asic.copiesDiffer addr.toNat = false → latchesOf addr.toNat = [] →
          s.dev.asic.bus.latch.get (latchKey 1 addr.toNat) = none → Runs (.spiReadFrame 2 0 addr) s fun a =>
            a.tx = s.dev.asic.tx ++ [.spi (0xA5 :: s.dev.asic.spiStatus 0 false :: beBytes 4 (s.dev.live addr.toNat).toNat)] ∧
            (∀ g : Fld, a.get g = s.dev.asic.get g) ∧ a.bus.spiPrev = false)) ∧
      (∀ offset : BitVec 25, s.dev.asic.bus.pcie.link = true →
        (offset.toNat < 0x110000 → offset.toNat % 4 = 0 → offset.toNat / 65536 ≠ 14 → s.dev.asic.copiesDiffer offset.toNat = false → latchesOf offset.toNat = [] →
          s.dev.asic.bus.latch.get (latchKey 2 offset.toNat) = none → Runs (.pcieMemoryRead false offset 1 15 0) s fun a =>
            a.tx = s.dev.asic.tx ++ [.completion 0 [s.dev.live offset.toNat]] ∧ ∀ g : Fld, a.get g = s.dev.asic.get g) ∧
        (offset.toNat % 4 ≠ 0 → Runs (.pcieMemoryRead false offset 1 15 0) s fun a => a.tx = s.dev.asic.tx ++ [.completion 1 []] ∧ a.regs = s.dev.asic.regs) ∧
        ∀ v : Word, offset.toNat % 4 = 0 → s.dev.asic.bus.pcie.aer = false → ∃ t, exec (.registerWrite 2 (BitVec.ofNat 32 offset.toNat) 2 v) s = .next t ∧
          Completes (.pcieMemoryWrite false offset 1 15 0 [v]) s fun u => u = t)) ∧
    (s.dev.sup.shelf = false →
      (s.dev.busRuns = true → ∀ (offset : BitVec 25) (dw : Fin 1024) (first last : BitVec 4) (data : List Word) (bar2 : Bool), s.dev.asic.bus.pcie.link = false →
        Runs (.pcieMemoryRead bar2 offset dw first last) s (fun a => a = s.dev.asic) ∧ Runs (.pcieMemoryWrite bar2 offset dw first last data) s (fun a => a = s.dev.asic)) ∧
      (Runs .spiReset s fun a => (s.dev.asic.flag Reg.GLB_KEYST.UNLOCKED = true → s.dev.asic.get Reg.GLB_KEYST.OWNER = 1 → a.flag Reg.GLB_KEYST.UNLOCKED = false) ∧
        (s.dev.asic.flag Reg.GLB_TXN.HELD = true → s.dev.asic.get Reg.GLB_TXN.OWNER = 1 → s.dev.asic.flag Reg.GLB_TXN.CHECK = false →
          a.flag Reg.GLB_TXN.HELD = false ∧ a.flag Reg.GLB_TXNST.RESETREL = true ∧ a.apl.staged = s.dev.asic.apl.active) ∧
        (s.dev.asic.get Reg.GLB_TXN.OWNER ≠ 1 → a.flag Reg.GLB_TXN.HELD = s.dev.asic.flag Reg.GLB_TXN.HELD)) ∧
      (Runs .spiFrameEnd s fun a => a = { s.dev.asic with bus := { s.dev.asic.bus with spiPrev := true } }) ∧
      (Runs .pcieLinkUp s fun a => a.bus.pcie.link = true ∧ a.bus.pcie.busMaster = s.dev.asic.bus.pcie.busMaster ∧
        a.flag Reg.DMA_SUM.LINK = s.dev.asic.bus.pcie.busMaster) ∧
      (Runs .pcieReset s fun a => a.bus.pcie = (default : Pcie) ∧ a.flag Reg.DMA_SUM.LINK = false ∧
        (s.dev.asic.flag Reg.GLB_KEYST.UNLOCKED = true → s.dev.asic.get Reg.GLB_KEYST.OWNER = 2 → a.flag Reg.GLB_KEYST.UNLOCKED = false)) ∧
      (s.dev.asic.bus.pcie.link = false → (∀ w : PcieConfig, Runs (.pcieConfigWrite w) s fun a => a = s.dev.asic) ∧
        ∀ (k : Fin 64) (v : Word), Runs (.msixTableWrite k v) s fun a => a = s.dev.asic) ∧
      (s.dev.asic.bus.pcie.link = true →
        (∀ b : Bool, Runs (.pcieConfigWrite (.command b)) s (fun a => a.bus.pcie.busMaster = b ∧ a.flag Reg.DMA_SUM.LINK = b) ∧
          Runs (.pcieConfigWrite (.aer b)) s (fun a => a.bus.pcie.aer = b)) ∧
        (∀ b k : Bool, Runs (.pcieConfigWrite (.msix b k)) s fun a => a.bus.pcie.msix = b ∧ a.bus.pcie.msixMask = k ∧ (b = false → a.tx = s.dev.asic.tx)) ∧
        (∀ n : Fin 8, Runs (.pcieConfigWrite (.deviceControl n)) s fun a => a.bus.pcie.payload = min 2 n.val) ∧
        ∀ (k : Fin 64) (v : Word), Runs (.msixTableWrite k v) s fun a => a.bus.pcie.table = s.dev.asic.bus.pcie.table.setF msixReset k.val v ∧
          (s.dev.asic.bus.pcie.msix = false → a.tx = s.dev.asic.tx ∧ a.bus.pcie.pba = s.dev.asic.bus.pcie.pba)))
/-- R407–R410: the transaction lock. `REQ` grants a free lock with a copy of the active bank, renews the holder's lease and is denied
another master, with no guard violation; M3 is granted nothing; `RENEW`, `COMMIT` and `RELEASE` are the holder's; a sound commit swaps the banks and frees the lock, an
unsound one names its first offence and leaves both banks; the lease frees the lock when it has run out.
It rests on the model's own choices of log entries 6, 25. -/
def Obligations.TransactionLock : Prop :=
  ∀ s : State,
    (∀ m : Master, s.dev.freeFor m = true → s.dev.asic.leaseOver = false →
      (s.dev.asic.txnHeld = false → Runs (.txnReq m) s fun a => a.txnOwner m.val = true ∧ a.flag Reg.GLB_TXNST.GRANTD = true ∧
        a.apl = { s.dev.asic.apl with staged := s.dev.asic.apl.active } ∧ a.bus.leaseEnd = s.dev.asic.clk.now + s.dev.asic.lease) ∧
      (s.dev.asic.txnOwner m.val = true → Runs (.txnReq m) s (fun a => a.txnOwner m.val = true ∧ a.apl = s.dev.asic.apl ∧
          a.bus.leaseEnd = s.dev.asic.clk.now + s.dev.asic.lease) ∧
        Runs (.txnRenew m) s (fun a => a.txnOwner m.val = true ∧ a.apl = s.dev.asic.apl ∧ a.bus.leaseEnd = s.dev.asic.clk.now + s.dev.asic.lease) ∧
        Runs (.txnCommit m) s (fun a => a.flag Reg.GLB_TXN.CHECK = true ∧ a.apl = s.dev.asic.apl ∧
          (s.dev.asic.flag Reg.GLB_TXN.CHECK = false → a.bus.leaseLeft = s.dev.asic.bus.leaseEnd - s.dev.asic.clk.now)) ∧
        (s.dev.asic.flag Reg.GLB_TXN.CHECK = false → Runs (.txnRelease m) s fun a => a.txnHeld = false ∧
          a.apl = { s.dev.asic.apl with staged := s.dev.asic.apl.active }) ∧
        (s.dev.asic.flag Reg.GLB_TXN.CHECK = true → Runs (.txnRelease m) s fun a => a.txnHeld = true ∧ a.bus.checkDrop = true ∧ a.apl = s.dev.asic.apl)) ∧
      (s.dev.asic.txnHeld = true → s.dev.asic.txnOwner m.val = false →
        Runs (.txnReq m) s (fun a => a.flag Reg.GLB_TXNST.DENIED = true ∧ a.txnHeld = true ∧ a.get Reg.GLB_TXN.OWNER = s.dev.asic.get Reg.GLB_TXN.OWNER ∧
          a.apl = s.dev.asic.apl ∧ a.bus.leaseEnd = s.dev.asic.bus.leaseEnd ∧ a.flt = s.dev.asic.flt)) ∧
      (s.dev.asic.txnOwner m.val = false → ∀ c ∈ [Instr.txnRenew m, .txnCommit m, .txnRelease m], Runs c s fun a =>
        a.txnHeld = s.dev.asic.txnHeld ∧ a.get Reg.GLB_TXN.OWNER = s.dev.asic.get Reg.GLB_TXN.OWNER ∧ a.flag Reg.GLB_TXN.CHECK = s.dev.asic.flag Reg.GLB_TXN.CHECK ∧
        a.apl = s.dev.asic.apl ∧ a.bus.leaseEnd = s.dev.asic.bus.leaseEnd ∧ a.flt = (s.dev.asic.raiseAccess 7 ⟨0x18, m.val, true, 2, false⟩).flt)) ∧
    (∀ m : Master, s.dev.busRuns = true → m.val = 3 → ∀ c ∈ [Instr.txnReq m, .txnRenew m, .txnCommit m, .txnRelease m], Runs c s fun a =>
      a.txnHeld = s.dev.asic.txnHeld ∧ a.get Reg.GLB_TXN.OWNER = s.dev.asic.get Reg.GLB_TXN.OWNER ∧ a.apl = s.dev.asic.apl) ∧
    (s.dev.sup.shelf = false →
      (s.dev.asic.leaseOver = false → Runs .txnLeaseExpiry s fun a => a = s.dev.asic) ∧
      (s.dev.asic.leaseOver = true → Runs .txnLeaseExpiry s fun a => a.txnHeld = false ∧ a.flag Reg.GLB_TXNST.EXPIRED = true ∧
        a.apl = { s.dev.asic.apl with staged := s.dev.asic.apl.active }) ∧
      (s.dev.asic.flag Reg.GLB_TXN.CHECK = false → Runs .txnCheckComplete s fun a => a = s.dev.asic) ∧
      (s.dev.asic.flag Reg.GLB_TXN.CHECK = true →
        (s.dev.asic.planCheck = none → Runs .txnCheckComplete s fun a => a.txnHeld = false ∧ a.flag Reg.GLB_TXN.CHECK = false ∧
          a.flag Reg.GLB_TXNST.COMMITD = true ∧ a.apl.active = s.dev.asic.apl.staged ∧ a.apl.staged = s.dev.asic.apl.active) ∧
        (∀ p k r, s.dev.asic.planCheck = some (p, k, r) → Runs .txnCheckComplete s fun a => a.flag Reg.GLB_TXN.CHECK = false ∧
          a.apl.active = s.dev.asic.apl.active ∧ a.get Reg.APL_BADREC.PLAN = p ∧ a.get Reg.APL_BADREC.SLOT = k ∧ a.get Reg.APL_BADREC.REASON = r ∧
          a.flag Reg.APL_HOPSTAT.COMMITREJ = true ∧ a.flag Reg.GLB_TXNST.COMMITREJ = true ∧
          (s.dev.asic.bus.checkDrop = false → a.txnHeld = s.dev.asic.txnHeld ∧ a.apl.staged = s.dev.asic.apl.staged ∧
            a.bus.leaseEnd = s.dev.asic.clk.now + s.dev.asic.bus.leaseLeft) ∧
          (s.dev.asic.bus.checkDrop = true → a.txnHeld = false ∧ a.flag Reg.GLB_TXNST.RESETREL = true))))

/-- R417, R419, R420, R79: the CANopen node. A frame is served when the node runs; one that finds its queue full is lost with EMCY
0x8110, one that arrives while the HKC is stopped waits. An NMT command for this node sets its state, a reset boots it with
the committed objects. Heartbeats are produced at their interval, consumed, and their absence told once; bus-off and
error-passive are told.
It rests on the model's own choices of log entries 6, 31, 32. -/
def Obligations.CanNode : Prop :=
  ∀ s : State, s.dev.sup.shelf = false →
    (∀ c ∈ [Instr.nmtStartRemoteNode 0, .nmtStopRemoteNode 0, .nmtEnterPreOperational 0, .nmtResetNode 0, .nmtResetCommunication 0,
        .sdoExpeditedUpload 0x1000 0, .sdoSegment true [] true, .rpdoReceived 0 [], .canHeartbeatReceived 1],
      (s.dev.busRuns = false ∨ s.dev.asic.can.nmt = 0 → Runs c s fun a => a = s.dev.asic) ∧
      (s.dev.busRuns = true → s.dev.asic.can.nmt ≠ 0 → 16 ≤ s.dev.asic.fill.get 288 → Runs c s fun a => a.can.nmt = s.dev.asic.can.nmt ∧
        a.can.objects = s.dev.asic.can.objects ∧ a.can.rx = s.dev.asic.can.rx ∧
        (s.dev.asic.obj 0x1014 0 < 2 ^ 31 → a.can.errors = (0x8110 :: s.dev.asic.can.errors).take 8)) ∧
      (s.dev.busRuns = true → s.dev.asic.can.nmt ≠ 0 → s.dev.asic.fill.get 288 < 16 → s.dev.asic.hkcStopped = true → Runs c s fun a =>
        a.can = { s.dev.asic.can with rx := s.dev.asic.can.rx ++ [c] } ∧ a.tx = s.dev.asic.tx)) ∧
    (s.dev.busRuns = true → s.dev.asic.can.nmt ≠ 0 → s.dev.asic.fill.get 288 < 16 → s.dev.asic.hkcStopped = false →
      (∀ node : BitVec 8, node.toNat ≠ 0 → node.toNat ≠ s.dev.asic.nodeId →
        ∀ c ∈ [Instr.nmtStartRemoteNode node, .nmtStopRemoteNode node, .nmtEnterPreOperational node, .nmtResetNode node, .nmtResetCommunication node],
          Runs c s fun a => a.can = s.dev.asic.can ∧ a.tx = s.dev.asic.tx) ∧
      (∀ node : BitVec 8, node.toNat = 0 ∨ node.toNat = s.dev.asic.nodeId →
        Runs (.nmtStartRemoteNode node) s (fun a => a.can.nmt = 5 ∧ a.can.sdo = s.dev.asic.can.sdo) ∧
        Runs (.nmtStopRemoteNode node) s (fun a => a.can.nmt = 4 ∧ a.can.sdo = none) ∧
        Runs (.nmtEnterPreOperational node) s (fun a => a.can.nmt = 127 ∧ a.can.sdo = s.dev.asic.can.sdo) ∧
        ∀ c ∈ [Instr.nmtResetNode node, .nmtResetCommunication node], Runs c s fun a => a.can.nmt = 127 ∧ a.can.sdo = none ∧ a.can.errors = [] ∧
          a.can.objects = s.dev.nvm.objects ∧ a.tx = s.dev.asic.tx ++ [.can (0x700 + a.nodeId) 0 (leBytes 8 0)]) ∧
      ∀ (node : BitVec 7) (e : Fin 2), Runs (.canHeartbeatReceived node) s fun a =>
        ((s.dev.asic.consumer e.val).1 = node.toNat → node.toNat ≠ 0 → (s.dev.asic.consumer e.val).2 ≠ 0 →
          a.can.heard.get e.val = some s.dev.asic.clk.now ∧ a.can.absent.get e.val = false) ∧
        ((s.dev.asic.consumer e.val).1 ≠ node.toNat → a.can.heard.get e.val = s.dev.asic.can.heard.get e.val ∧
          a.can.absent.get e.val = s.dev.asic.can.absent.get e.val)) ∧
    (s.dev.asic.obj 0x1017 0 = 0 ∨ s.dev.asic.can.nmt = 0 ∨ s.dev.asic.hkcStopped = true ∨ s.dev.asic.clk.now < s.dev.asic.can.beatAt + s.dev.asic.obj 0x1017 0 * msec →
      Runs .canHeartbeatProduce s fun a => a = s.dev.asic) ∧
    (s.dev.asic.obj 0x1017 0 ≠ 0 → s.dev.asic.can.nmt ≠ 0 → s.dev.asic.hkcStopped = false → s.dev.asic.can.beatAt + s.dev.asic.obj 0x1017 0 * msec ≤ s.dev.asic.clk.now →
      Runs .canHeartbeatProduce s fun a => a.can = { s.dev.asic.can with beatAt := s.dev.asic.clk.now } ∧
        a.tx = s.dev.asic.tx ++ [.can (0x700 + s.dev.asic.nodeId) 0 (leBytes 8 s.dev.asic.can.nmt)]) ∧
    (∀ e : Fin 2,
      (s.dev.asic.can.heard.get e.val = none ∨ s.dev.asic.can.absent.get e.val = true → Runs (.canHeartbeatConsumerTimeout e) s fun a => a = s.dev.asic) ∧
      (∀ t, s.dev.asic.can.heard.get e.val = some t → s.dev.asic.can.absent.get e.val = false → (s.dev.asic.consumer e.val).2 ≠ 0 →
        (s.dev.asic.clk.now < t + (s.dev.asic.consumer e.val).2 * msec → Runs (.canHeartbeatConsumerTimeout e) s fun a => a = s.dev.asic) ∧
        (t + (s.dev.asic.consumer e.val).2 * msec ≤ s.dev.asic.clk.now → Runs (.canHeartbeatConsumerTimeout e) s fun a => a.can.absent.get e.val = true ∧
          (s.dev.asic.obj 0x1014 0 < 2 ^ 31 → a.can.errors = (0x8130 :: s.dev.asic.can.errors).take 8)))) ∧
    (Runs .busOffRecovery s fun a => a.can.errorPassive = false ∧
      (s.dev.asic.obj 0x1014 0 < 2 ^ 31 → a.can.errors = (0x8140 :: s.dev.asic.can.errors).take 8)) ∧
    (Runs .errorPassive s fun a => a.can.errorPassive = true ∧ (s.dev.asic.can.errorPassive = false → s.dev.asic.obj 0x1014 0 < 2 ^ 31 →
      a.can.errors = (0x8120 :: s.dev.asic.can.errors).take 8) ∧ (s.dev.asic.can.errorPassive = true → a = s.dev.asic)) ∧
    (Runs .errorActiveReturn s fun a => a = { s.dev.asic with can := { s.dev.asic.can with errorPassive := false } })
/-- R421–R423, R425, R80: SDO. An upload of at most 4 bytes answers them with the response, of more opens a session; an object that
does not exist, one not readable, one not writable, data of the wrong length and a value out of range are aborted with their
codes; a good download is taken. Segments follow the toggle; a session without a segment for 1 s is aborted; none opens
from 100 ms before a bank swap.
It rests on the model's own choices of log entries 6, 30, 31. -/
def Obligations.SdoServer : Prop :=
  ∀ s : State, s.dev.sup.shelf = false →
    (s.dev.asic.can.sdo = none → Runs .sdoSessionTimeout s fun a => a = s.dev.asic) ∧
    (∀ x, s.dev.asic.can.sdo = some x →
      (s.dev.asic.clk.now < x.at_ + second → Runs .sdoSessionTimeout s fun a => a = s.dev.asic) ∧
      (x.at_ + second ≤ s.dev.asic.clk.now → Runs .sdoSessionTimeout s fun a => a.can.sdo = none ∧ a.tx = s.dev.asic.tx
        ++ [.can (0x580 + s.dev.asic.nodeId) 0 (sdoHead 0x80 (x.key / 256) (x.key % 256) ++ leBytes 4 0x05040000)])) ∧
    (s.dev.busRuns = true → s.dev.asic.fill.get 288 < 16 → s.dev.asic.hkcStopped = false → s.dev.asic.can.nmt = 5 ∨ s.dev.asic.can.nmt = 127 →
      (s.dev.asic.can.sdo = none → ∀ (toggle last : Bool) (data : List Byte), Runs (.sdoSegment toggle data last) s fun a => a.can = s.dev.asic.can ∧
        a.tx = s.dev.asic.tx ++ [.can (0x580 + s.dev.asic.nodeId) 0 (sdoHead 0x80 0 0 ++ leBytes 4 0x05040001)]) ∧
      (∀ (x : Sdo) (toggle last : Bool) (data : List Byte), s.dev.asic.can.sdo = some x →
        (toggle ≠ x.toggle → Runs (.sdoSegment toggle data last) s fun a => a.can.sdo = none ∧
          a.tx = s.dev.asic.tx ++ [.can (0x580 + s.dev.asic.nodeId) 0 (sdoHead 0x80 (x.key / 256) (x.key % 256) ++ leBytes 4 0x05040001)]) ∧
        (toggle = x.toggle → x.upload = true → Runs (.sdoSegment toggle data last) s fun a =>
          a.can.sdo = (if x.data.drop 7 = [] then none else some { x with data := x.data.drop 7, toggle := !x.toggle, at_ := s.dev.asic.clk.now }) ∧
          a.tx = s.dev.asic.tx ++ [.can (0x580 + s.dev.asic.nodeId) 0 (leBytes 1 (16 * bit x.toggle + 2 * (7 - (x.data.take 7).length)
            + bit (x.data.drop 7 == [])) ++ x.data.take 7 ++ List.replicate (7 - (x.data.take 7).length) 0)]) ∧
        (toggle = x.toggle → x.upload = false → last = false → (∀ n k, s.dev.asic.objShape (x.key / 256) (x.key % 256) = some (n, k) → n ≠ 0) →
          Runs (.sdoSegment toggle data last) s fun a =>
            a.can.sdo = some { x with data := x.data ++ data.take 7, toggle := !x.toggle, at_ := s.dev.asic.clk.now } ∧
            a.tx = s.dev.asic.tx ++ [.can (0x580 + s.dev.asic.nodeId) 0 (leBytes 1 (0x20 + 16 * bit x.toggle) ++ List.replicate 7 0)])) ∧
      ∀ (index : BitVec 16) (sub : BitVec 8) (data : List Byte) (size : BitVec 32),
        (s.dev.asic.fw.boundary.isSome = true →
          ∀ c ∈ [Instr.sdoExpeditedUpload index sub, .sdoSegmentedUpload index sub, .sdoExpeditedDownload index sub data, .sdoSegmentedDownload index sub size],
            Runs c s fun a => a.can.sdo = none ∧
              a.tx = s.dev.asic.tx ++ [.can (0x580 + s.dev.asic.nodeId) 0 (sdoHead 0x80 index.toNat sub.toNat ++ leBytes 4 0x08000020)]) ∧
        (s.dev.asic.fw.boundary = none →
          (∀ code, s.dev.asic.objKind index.toNat sub.toNat = .missing code →
            ∀ c ∈ [Instr.sdoExpeditedUpload index sub, .sdoSegmentedUpload index sub, .sdoExpeditedDownload index sub data, .sdoSegmentedDownload index sub size],
              Runs c s fun a => a.can.sdo = none ∧
                a.tx = s.dev.asic.tx ++ [.can (0x580 + s.dev.asic.nodeId) 0 (sdoHead 0x80 index.toNat sub.toNat ++ leBytes 4 code)]) ∧
          (s.dev.asic.objKind index.toNat sub.toNat = .gap → Runs (.sdoExpeditedUpload index sub) s fun a => a.can.sdo = none ∧
            a.tx = s.dev.asic.tx ++ [.can (0x580 + s.dev.asic.nodeId) 0 (sdoHead 0x43 index.toNat sub.toNat ++ leBytes 4 0)]) ∧
          (∀ addr, s.dev.asic.objKind index.toNat sub.toNat = .register addr → regAccess addr ≠ 4 → addr < 0x110000 → addr % 4 = 0 → addr / 65536 ≠ 14 →
            s.dev.asic.copiesDiffer addr = false → latchesOf addr = [] → s.dev.asic.bus.latch.get (latchKey 4 addr) = none →
            Runs (.sdoExpeditedUpload index sub) s fun a => a.can.sdo = none ∧ ∃ w : Word,
              a.tx = s.dev.asic.tx ++ [.can (0x580 + s.dev.asic.nodeId) 0 (sdoHead 0x43 index.toNat sub.toNat ++ leBytes 4 w.toNat)] ∧
              w = ({ s.dev with asic := { s.dev.asic with fill := s.dev.asic.fill.set 288 (s.dev.asic.fill.get 288 + 1), can := { s.dev.asic.can with sdo := none } } } : Dev).live addr) ∧
          (∀ n k l, s.dev.asic.objKind index.toNat sub.toNat = .value n k → k ≠ 4 → index.toNat ≠ 0x5F10 → index.toNat ≠ 0x5F20 →
            s.dev.asic.valueOf index.toNat sub.toNat = .data l → ∀ c ∈ [Instr.sdoExpeditedUpload index sub, .sdoSegmentedUpload index sub],
              (l ≠ [] → l.length ≤ 4 → Runs c s fun a => a.can.sdo = none ∧ a.tx = s.dev.asic.tx ++ [.can (0x580 + s.dev.asic.nodeId) 0
                (sdoHead (0x43 + 4 * (4 - l.length)) index.toNat sub.toNat ++ l ++ List.replicate (4 - l.length) 0)]) ∧
              (4 < l.length → Runs c s fun a =>
                a.can.sdo = some ⟨objKey index.toNat sub.toNat, l, false, true, l.length, s.dev.asic.clk.now⟩ ∧
                a.tx = s.dev.asic.tx ++ [.can (0x580 + s.dev.asic.nodeId) 0 (sdoHead 0x41 index.toNat sub.toNat ++ leBytes 4 l.length)])) ∧
          (∀ n k, s.dev.asic.objKind index.toNat sub.toNat = .value n k →
            (k ≤ 1 → ∀ c ∈ [Instr.sdoExpeditedDownload index sub data, .sdoSegmentedDownload index sub size], Runs c s fun a => a.can.sdo = none ∧
              a.tx = s.dev.asic.tx ++ [.can (0x580 + s.dev.asic.nodeId) 0 (sdoHead 0x80 index.toNat sub.toNat ++ leBytes 4 0x06010002)]) ∧
            (2 ≤ k → n ≠ 0 → size.toNat = 0 ∨ size.toNat = n → Runs (.sdoSegmentedDownload index sub size) s fun a =>
              a.can.sdo = some ⟨objKey index.toNat sub.toNat, [], false, false, size.toNat, s.dev.asic.clk.now⟩ ∧
              a.tx = s.dev.asic.tx ++ [.can (0x580 + s.dev.asic.nodeId) 0 (sdoHead 0x60 index.toNat sub.toNat ++ leBytes 4 0)]) ∧
            (2 ≤ k → n ≠ 0 → data.length ≠ n → Runs (.sdoExpeditedDownload index sub data) s fun a => a.can.sdo = none ∧
              a.tx = s.dev.asic.tx ++ [.can (0x580 + s.dev.asic.nodeId) 0 (sdoHead 0x80 index.toNat sub.toNat ++ leBytes 4 0x06070010)]) ∧
            (2 ≤ k → n ≠ 0 → data.length = n → index.toNat ≠ 0x5F20 →
              (s.dev.asic.rangeCheck index.toNat sub.toNat (ofLe data) ≠ 0 → Runs (.sdoExpeditedDownload index sub data) s fun a => a.can.sdo = none ∧
                a.can.objects = s.dev.asic.can.objects ∧ a.tx = s.dev.asic.tx ++ [.can (0x580 + s.dev.asic.nodeId) 0 (sdoHead 0x80 index.toNat sub.toNat
                  ++ leBytes 4 (s.dev.asic.rangeCheck index.toNat sub.toNat (ofLe data)))]) ∧
              (s.dev.asic.rangeCheck index.toNat sub.toNat (ofLe data) = 0 → k = 3 → s.dev.asic.present' = false →
                Runs (.sdoExpeditedDownload index sub data) s fun a => a.can.sdo = none ∧ a.can.objects = s.dev.asic.can.objects ∧
                  a.tx = s.dev.asic.tx ++ [.can (0x580 + s.dev.asic.nodeId) 0 (sdoHead 0x80 index.toNat sub.toNat ++ leBytes 4 0x08000021)]) ∧
              (s.dev.asic.rangeCheck index.toNat sub.toNat (ofLe data) = 0 → k = 2 ∨ s.dev.asic.present' = true → index.toNat ≠ 0x1003 →
                Runs (.sdoExpeditedDownload index sub data) s fun a => a.can.sdo = none ∧ a.obj index.toNat sub.toNat = ofLe data ∧
                  Commit.comm ∈ a.commits ∧
                  a.tx = s.dev.asic.tx ++ [.can (0x580 + s.dev.asic.nodeId) 0 (sdoHead 0x60 index.toNat sub.toNat ++ leBytes 4 0)])))))
/-- R427, R428, R430: PDOs and the inhibit times. An event timer or an inhibit time that has not run has no effect; a TPDO whose
inhibit time still runs is held; one that may go is sent. A SYNC counts for the synchronous TPDOs and sends those whose turn
it is. An RPDO too short or too long is told and dropped; one of a synchronous type waits for SYNC.
It rests on the model's own choices of log entries 6, 31, 32. -/
def Obligations.Pdos : Prop :=
  ∀ s : State, s.dev.sup.shelf = false →
    (∀ t : Fin 8,
      (s.dev.asic.tpdoAsync t.val = false ∨ s.dev.asic.obj (0x1800 + t.val) 5 = 0 → Runs (.tpdoEventTimer t) s fun a => a = s.dev.asic) ∧
      (∀ x, (s.dev.asic.tpdo t.val).sent = some x → s.dev.asic.clk.now < x + s.dev.asic.obj (0x1800 + t.val) 5 * msec →
        Runs (.tpdoEventTimer t) s fun a => a = s.dev.asic) ∧
      (s.dev.asic.tpdoAsync t.val = true → s.dev.asic.obj (0x1800 + t.val) 5 ≠ 0 →
        (∀ x, (s.dev.asic.tpdo t.val).sent = some x → x + s.dev.asic.obj (0x1800 + t.val) 5 * msec ≤ s.dev.asic.clk.now) →
        (s.dev.asic.tpdoFree t.val = false → Runs (.tpdoEventTimer t) s fun a => a = s.dev.asic.modTpdo t.val fun x => { x with held := true }) ∧
        (s.dev.asic.tpdoFree t.val = true → Runs (.tpdoEventTimer t) s fun a => (a.tpdo t.val).sent = some s.dev.asic.clk.now ∧ (a.tpdo t.val).held = false ∧
          a.tx.length = s.dev.asic.tx.length + 1)) ∧
      (s.dev.asic.tpdoAsync t.val = false ∨ (s.dev.asic.tpdo t.val).held = false ∨ s.dev.asic.tpdoFree t.val = false →
        Runs (.inhibitTimeExpiry (some t)) s fun a => a = s.dev.asic) ∧
      (s.dev.asic.tpdoAsync t.val = true → (s.dev.asic.tpdo t.val).held = true → s.dev.asic.tpdoFree t.val = true →
        Runs (.inhibitTimeExpiry (some t)) s fun a => (a.tpdo t.val).sent = some s.dev.asic.clk.now ∧ (a.tpdo t.val).held = false)) ∧
    (s.dev.asic.can.emcy = [] ∨ s.dev.asic.emcyFree = false → Runs (.inhibitTimeExpiry none) s fun a => a = s.dev.asic) ∧
    (∀ e rest, s.dev.asic.can.emcy = e :: rest → s.dev.asic.emcyFree = true → Runs (.inhibitTimeExpiry none) s fun a =>
      a.can = { s.dev.asic.can with emcy := rest, emcyAt := some s.dev.asic.clk.now } ∧ a.tx = s.dev.asic.tx ++ [.can (s.dev.asic.obj 0x1014 0 % 2048) 0 e]) ∧
    (s.dev.busRuns = true → s.dev.asic.fill.get 288 < 16 →
      (∀ counter : BitVec 8, s.dev.asic.can.nmt ≠ 0 → s.dev.asic.can.nmt ≠ 5 ∨ s.dev.asic.hkcStopped = true →
        Runs (.canSyncReceived counter) s fun a => a.can = s.dev.asic.can ∧ a.tx = s.dev.asic.tx) ∧
      (∀ (counter : BitVec 8) (t : Fin 8), s.dev.asic.can.nmt = 5 → s.dev.asic.hkcStopped = false → s.dev.asic.can.rpdo = [] →
        s.dev.asic.pdoOn (0x1800 + t.val) = true → 1 ≤ s.dev.asic.obj (0x1800 + t.val) 2 → s.dev.asic.obj (0x1800 + t.val) 2 ≤ 240 →
        s.dev.asic.obj (0x1800 + t.val) 6 = 0 → Runs (.canSyncReceived counter) s fun a =>
          (s.dev.asic.obj (0x1800 + t.val) 2 = (s.dev.asic.tpdo t.val).syncs + 1 → (a.tpdo t.val).sent = some s.dev.asic.clk.now) ∧
          ((s.dev.asic.tpdo t.val).syncs + 1 < s.dev.asic.obj (0x1800 + t.val) 2 → (a.tpdo t.val).syncs = (s.dev.asic.tpdo t.val).syncs + 1 ∧
            (a.tpdo t.val).sent = (s.dev.asic.tpdo t.val).sent)) ∧
      ∀ (r : Fin 4) (data : List Byte), s.dev.asic.can.nmt ≠ 0 → s.dev.asic.hkcStopped = false →
        (s.dev.asic.pdoOn (0x1400 + r.val) = false → Runs (.rpdoReceived r data) s fun a => a.can = s.dev.asic.can ∧ a.tx = s.dev.asic.tx) ∧
        (s.dev.asic.pdoOn (0x1400 + r.val) = true → s.dev.asic.obj 0x1014 0 < 2 ^ 31 →
          (data.length < 4 * (s.dev.asic.mapped (0x1600 + r.val)).length → Runs (.rpdoReceived r data) s fun a =>
            a.can.errors = (0x8210 :: s.dev.asic.can.errors).take 8 ∧ a.can.rpdo = s.dev.asic.can.rpdo) ∧
          (fdLength (4 * (s.dev.asic.mapped (0x1600 + r.val)).length) < data.length → 4 * (s.dev.asic.mapped (0x1600 + r.val)).length ≤ data.length →
            Runs (.rpdoReceived r data) s fun a => a.can.errors = (0x8220 :: s.dev.asic.can.errors).take 8 ∧ a.can.rpdo = s.dev.asic.can.rpdo) ∧
          (4 * (s.dev.asic.mapped (0x1600 + r.val)).length ≤ data.length → data.length ≤ fdLength (4 * (s.dev.asic.mapped (0x1600 + r.val)).length) →
            s.dev.asic.obj (0x1400 + r.val) 2 ≤ 240 → Runs (.rpdoReceived r data) s fun a =>
              a.can = { s.dev.asic.can with rpdo := s.dev.asic.can.rpdo ++ [(r.val, data)] } ∧ a.tx = s.dev.asic.tx)))

/-- R435, R436, R440–R448: occurrences and their records. The occurrence accepted next makes its source active, is counted, and opens
a record that closes after the shadow time, or is merged; the first error is captured; class ERROR pulls `FAULT_L`, the
interrupt reaction sets `PEND`, the SAFE reaction enters SAFE. A record that is due closes, and is offered when it is logged.
It rests on the model's own choices of log entries 6, 50. -/
def Obligations.FaultRecords : Prop :=
  ∀ s : State, s.dev.sup.shelf = false →
    (s.dev.asic.nextOcc = none → Runs .faultSourceAccepted s fun a => a = s.dev.asic) ∧
    (∀ o, s.dev.asic.nextOcc = some o → o.src < 128 →
      (s.dev.asic.flag (Reg.FLT_SRCST.BROKEN o.src) = true → o.broken = false → o.injected = false → Runs .faultSourceAccepted s fun a =>
        a = { s.dev.asic with flt := { s.dev.asic.flt with raised := s.dev.asic.flt.raised.erase o } }) ∧
      (s.dev.asic.flag (Reg.FLT_SRCST.BROKEN o.src) = false ∨ o.broken = true ∨ o.injected = true → hasBit (s.dev.asic.reactions o.src) 3 = false →
        (hasBit (s.dev.asic.reactions o.src) 4 = true → Runs .faultSourceAccepted s fun a => a.mode = 6 ∧ a.flt.quietSince = s.dev.asic.clk.now ∧
          (s.dev.asic.mode ≠ 6 → a.flt.fstate = true ∧ a.flag Reg.FLT_STAT.SAFED = true ∧ a.modes.beforeSafe = s.dev.asic.mode)) ∧
        (hasBit (s.dev.asic.reactions o.src) 4 = false → Runs .faultSourceAccepted s fun a => a.flag (Reg.FLT_SRCST.ACTIVE o.src) = true ∧
          a.flag (Reg.FLT_SRCST.OCCD o.src) = true ∧ a.flt.raised = s.dev.asic.flt.raised.erase o ∧ a.get (Reg.FLT_SRCLAST.SEC o.src) = o.sec % 2 ^ 32 ∧
          a.get (Reg.FLT_SRCCNT.COUNT o.src) = (s.dev.asic.get (Reg.FLT_SRCCNT.COUNT o.src) + 1
            + (if o.injected = true then 0 else (s.dev.asic.pair o.src).extra)) % 2 ^ 32 ∧
          (s.dev.asic.mergeInto o = none → s.dev.asic.flt.opened.length < 16 → (∃ r, a.flt.opened = s.dev.asic.flt.opened ++ [r] ∧ r.first = o ∧
              r.taken = s.dev.asic.reactions o.src ∧ r.closeAt = s.dev.asic.clk.now + 125 + s.dev.asic.get Reg.FLT_SHADOW.TIME * usec) ∧
            (hasBit (s.dev.asic.reactions o.src) 1 = true → a.flag (Reg.FLT_SRCST.PEND o.src) = true)) ∧
          (∀ k, s.dev.asic.mergeInto o = some k → a.flt.opened.length = s.dev.asic.flt.opened.length) ∧
          (2 ≤ sourceClass o.src → a.flt.faultL = true) ∧
          (sourceClass o.src ≠ 0 → s.dev.asic.flag Reg.FLT_FESTAT.VALID = false → a.flag Reg.FLT_FESTAT.VALID = true ∧ a.get Reg.FLT_FESTAT.SOURCE = o.src) ∧
          (sourceClass o.src = 0 → a.get Reg.FLT_FESTAT.VALID = s.dev.asic.get Reg.FLT_FESTAT.VALID)))) ∧
    (s.dev.asic.flt.opened.find? (fun r => decide (r.closeAt ≤ s.dev.asic.clk.now)) = none → Runs .faultRecordClose s fun a => a = s.dev.asic) ∧
    (∀ r, s.dev.asic.flt.opened.find? (fun r => decide (r.closeAt ≤ s.dev.asic.clk.now)) = some r → Runs .faultRecordClose s fun a =>
      a.flt.opened = s.dev.asic.flt.opened.erase r ∧ (hasBit r.taken 0 = false → a.recs = s.dev.asic.recs) ∧
      (hasBit r.taken 0 = true → hasBit (s.dev.asic.get Reg.REC_EN.SLOTS) 13 = true → s.dev.asic.regionFull (s.dev.asic.get (Reg.REC_SLOTCFG.CH 13)) = false →
        a.recs.queue.get 13 = s.dev.asic.recs.queue.get 13 ++ [s.dev.asic.faultRecord r])) ∧
    (s.dev.asic.mode = 6 ∨ s.dev.asic.clk.now < s.dev.asic.flt.lastSafe + 86400 * second → Runs .recoveryRunReset s fun a => a = s.dev.asic) ∧
    (s.dev.asic.mode ≠ 6 → s.dev.asic.flt.lastSafe + 86400 * second ≤ s.dev.asic.clk.now → Runs .recoveryRunReset s fun a => a = s.dev.asic.put Reg.FLT_RCOUNT.RUN 0)
/-- R436, R437, R441, R451: pairs, `FAULT_L` and injection. A LEVEL source without a faulty unit becomes inactive; a broken pair raises
`FE15`, and the source too when it has the SAFE reaction; a restored one does not. `FAULT_L` is released when its mode allows
and not before. An injection is taken only in FACTORY; STOP releases all.
It rests on the model's own choices of log entry 6. -/
def Obligations.FaultPairs : Prop :=
  ∀ s : State,
    (s.dev.sup.shelf = false →
      (∀ src : Fin 128,
        (sourceLevel src.val = false ∨ s.dev.asic.flag (Reg.FLT_SRCST.ACTIVE src.val) = false ∨ (s.dev.asic.pair src.val).units ≠ [] ∨
          s.dev.asic.flag (Reg.FLT_SRCST.BROKEN src.val) = true ∨ (s.dev.asic.pair src.val).inject = 2 ∨
          (s.dev.asic.clk.now < (s.dev.asic.pair src.val).offSince + 75 ∧ src.val ≠ 15) → Runs (.faultSourceDeasserted src) s fun a => a = s.dev.asic) ∧
        (sourceLevel src.val = true → s.dev.asic.flag (Reg.FLT_SRCST.ACTIVE src.val) = true → (s.dev.asic.pair src.val).units = [] →
          s.dev.asic.flag (Reg.FLT_SRCST.BROKEN src.val) = false → (s.dev.asic.pair src.val).inject ≠ 2 →
          (s.dev.asic.pair src.val).offSince + 75 ≤ s.dev.asic.clk.now ∨ src.val = 15 → Runs (.faultSourceDeasserted src) s fun a =>
            a.flag (Reg.FLT_SRCST.ACTIVE src.val) = false ∧ a.flt.opened = s.dev.asic.flt.opened ∧
            (s.dev.asic.safeSource src.val = true → a.flt.quietSince = s.dev.asic.clk.now)) ∧
        (∀ level : Bool,
          (sourceReserved src.val = true ∨ src.val = 15 ∨ s.dev.asic.flag (Reg.FLT_SRCST.BROKEN src.val) = true → Runs (.brokenWire src level) s fun a => a = s.dev.asic) ∧
          (sourceReserved src.val = false → src.val ≠ 15 → s.dev.asic.flag (Reg.FLT_SRCST.BROKEN src.val) = false → Runs (.brokenWire src level) s fun a =>
            a.flag (Reg.FLT_SRCST.BROKEN src.val) = true ∧ a.flag Reg.FLT_STAT.BROKEND = true ∧ (a.pair 15).has src.val = true ∧
            a.flt.raised.map (fun o => o.src) = s.dev.asic.flt.raised.map (fun o => o.src) ++ [15]
              ++ (if s.dev.asic.safeSource src.val = true then [src.val] else []))) ∧
        (s.dev.asic.flag (Reg.FLT_SRCST.BROKEN src.val) = false ∨ (s.dev.asic.pair src.val).inject = 3 → Runs (.pairRestored src) s fun a => a = s.dev.asic) ∧
        (s.dev.asic.flag (Reg.FLT_SRCST.BROKEN src.val) = true → (s.dev.asic.pair src.val).inject ≠ 3 → Runs (.pairRestored src) s fun a =>
          a.flag (Reg.FLT_SRCST.BROKEN src.val) = false ∧ (a.pair 15).has src.val = false ∧ a.flt.raised = s.dev.asic.flt.raised)) ∧
      (s.dev.asic.faultLFree = false → Runs .faultLRelease s fun a => a = s.dev.asic) ∧
      (s.dev.asic.flt.faultL = true → s.dev.asic.flt.faultLAt + 10 * usec ≤ s.dev.asic.clk.now →
        s.dev.asic.get Reg.FLT_FAULTL.MODE = 0 ∨ (s.dev.asic.get Reg.FLT_FAULTL.MODE = 1 ∧ s.dev.asic.flt.releaseAsked = true) ∨
          (2 ≤ s.dev.asic.get Reg.FLT_FAULTL.MODE ∧ s.dev.asic.activeOf (2 ≤ ·) = false ∧ s.dev.asic.flt.fstate = false) → Runs .faultLRelease s fun a =>
          a = { s.dev.asic with flt := { s.dev.asic.flt with faultL := false, releaseAsked := false } })) ∧
    ∀ m : Master,
      (s.dev.freeFor m = true →
        (s.dev.asic.get Reg.FLT_FAULTL.MODE ≠ 1 ∨ s.dev.asic.flt.faultL = false → Runs (.faultLSoftRelease m) s fun a => a.flt = s.dev.asic.flt) ∧
        (s.dev.asic.get Reg.FLT_FAULTL.MODE = 1 → s.dev.asic.flt.faultL = true → Runs (.faultLSoftRelease m) s fun a =>
          (s.dev.asic.flt.faultLAt + 10 * usec ≤ s.dev.asic.clk.now → a.flt = { s.dev.asic.flt with faultL := false, releaseAsked := false }) ∧
          (s.dev.asic.clk.now < s.dev.asic.flt.faultLAt + 10 * usec → a.flt = { s.dev.asic.flt with releaseAsked := true }))) ∧
      (s.dev.keyFor m = true →
        (∀ v : Word, hasBit v.toNat 11 = false →
          (s.dev.asic.mode ≠ 7 ∨ sourceReserved (wordBits v 0 7) = true ∨ wordBits v 8 2 = 3 → Runs (.fltInject m v) s fun a =>
            a.get Reg.FLT_INJST.COUNT = s.dev.asic.get Reg.FLT_INJST.COUNT ∧ a.get Reg.FLT_INJST.ACTIVE = s.dev.asic.get Reg.FLT_INJST.ACTIVE) ∧
          (s.dev.asic.mode = 7 → sourceReserved (wordBits v 0 7) = false → wordBits v 8 2 ≠ 3 → wordBits v 8 2 ≠ 2 ∨ wordBits v 0 7 ≠ 15 → Runs (.fltInject m v) s fun a =>
            a.get Reg.FLT_INJST.COUNT = min 65535 (s.dev.asic.get Reg.FLT_INJST.COUNT + 1) ∧ a.get Reg.FLT_INJST.SOURCE = wordBits v 0 7 ∧
            (a.pair (wordBits v 0 7)).inject = (if wordBits v 8 2 = 0 then (s.dev.asic.pair (wordBits v 0 7)).inject else wordBits v 8 2 + 1) ∧
            (wordBits v 8 2 ≠ 0 → a.flag (Reg.FLT_SRCST.INJ (wordBits v 0 7)) = true ∧ a.flag Reg.FLT_INJST.ACTIVE = true) ∧
            (wordBits v 8 2 ≠ 2 → ∃ o ∈ a.flt.raised, o.src = wordBits v 0 7 ∧ o.injected = true))) ∧
        Runs (.fltInjectStop m) s fun a => a.flag Reg.FLT_INJST.ACTIVE = false ∧ ∀ src : Fin 128, (a.pair src.val).inject = 0)

/-- R456, R459, R463, R465, R472: the NVM commands of a master. The page buffer has one owner; a command of another, a wrong password
and a full queue are refused with their codes, one on a partition that is not open has no effect. A write fills the buffer
word by word; `COMMIT` and `SAVECFG` queue a commit; an unlock opens one access for one master, three mismatches lock the
partition for 10 s. The buffer, the unlocks and a lockout end in time.
It rests on the model's own choices of log entries 6, 70, 71. -/
def Obligations.NvmCommands : Prop :=
  ∀ s : State,
    (∀ m : Master, s.dev.freeFor m = true →
      (s.dev.asic.flag Reg.NVM_OWNER.HELD = true → s.dev.asic.bufOwner m.val = false → Runs (.nvmOpen m) s fun a => a.get Reg.NVM_STAT.CODE = 5 ∧
        a.nvc.loads = s.dev.asic.nvc.loads ∧ a.nvc.buffer = s.dev.asic.nvc.buffer) ∧
      (s.dev.asic.flag Reg.NVM_OWNER.HELD = false ∨ s.dev.asic.bufOwner m.val = true →
        (s.dev.nvmOpen m.val (partOf (s.dev.asic.get Reg.NVM_PAGE.PAGE)) 0 = true → Runs (.nvmOpen m) s fun a => a.bufOwner m.val = true ∧
          a.nvc.loads = s.dev.asic.nvc.loads ++ [(true, s.dev.asic.get Reg.NVM_PAGE.PAGE)] ∧ a.nvc.bufAt = s.dev.asic.clk.now) ∧
        (s.dev.nvmOpen m.val (partOf (s.dev.asic.get Reg.NVM_PAGE.PAGE)) 0 = false → Runs (.nvmOpen m) s fun a => a.nvc.loads = s.dev.asic.nvc.loads ∧
          a.flag Reg.NVM_OWNER.HELD = s.dev.asic.flag Reg.NVM_OWNER.HELD)) ∧
      (s.dev.asic.bufOwner m.val = false →
        (∀ c ∈ [Instr.nvmCommit m, .nvmClose m], Runs c s fun a => a.get Reg.NVM_STAT.CODE = 5 ∧ a.commits = s.dev.asic.commits ∧
          a.nvc.buffer = s.dev.asic.nvc.buffer ∧ a.flag Reg.NVM_OWNER.HELD = s.dev.asic.flag Reg.NVM_OWNER.HELD) ∧
        ∀ w : Word, Runs (.nvmBufferWrite m w) s fun a => a.get Reg.NVM_STAT.CODE = 5 ∧ a.nvc.buffer = s.dev.asic.nvc.buffer) ∧
      (s.dev.asic.bufOwner m.val = true →
        (s.dev.nvmOpen m.val (partOf (s.dev.asic.get Reg.NVM_PAGE.PAGE)) 1 = false ∨ (s.dev.asic.get Reg.NVM_PAGE.PAGE < 256 ∧ s.dev.asic.mode ≠ 7) →
          Runs (.nvmCommit m) s fun a => a.commits = s.dev.asic.commits) ∧
        (s.dev.nvmOpen m.val (partOf (s.dev.asic.get Reg.NVM_PAGE.PAGE)) 1 = true → 256 ≤ s.dev.asic.get Reg.NVM_PAGE.PAGE ∨ s.dev.asic.mode = 7 →
          (8 ≤ s.dev.asic.softCommits → Runs (.nvmCommit m) s fun a => a.get Reg.NVM_STAT.CODE = 1 ∧ a.commits = s.dev.asic.commits) ∧
          (s.dev.asic.softCommits < 8 → Runs (.nvmCommit m) s fun a => a.nvc.bufCommit = true ∧ a.commits = s.dev.asic.commits
            ++ [.page (s.dev.asic.get Reg.NVM_PAGE.PAGE) ((s.dev.asic.nvc.buffer ++ List.replicate 128 0).take 128)])) ∧
        (Runs (.nvmClose m) s fun a => a.flag Reg.NVM_OWNER.HELD = false ∧ a.nvc.buffer = [] ∧ a.commits = s.dev.asic.commits) ∧
        ∀ w : Word, Runs (.nvmBufferWrite m w) s fun a =>
          a.get Reg.NVM_BUFPTR.WORD = (s.dev.asic.get Reg.NVM_BUFPTR.WORD + 1) % 2 ^ Reg.NVM_BUFPTR.WORD.width ∧
          (a.nvc.buffer.drop (4 * s.dev.asic.get Reg.NVM_BUFPTR.WORD)).take 4 = leBytes 4 w.toNat ∧
          a.nvc.buffer.take (4 * s.dev.asic.get Reg.NVM_BUFPTR.WORD)
            = ((s.dev.asic.nvc.buffer ++ List.replicate 128 0).take 128).take (4 * s.dev.asic.get Reg.NVM_BUFPTR.WORD)) ∧
      (∀ part acc, part = s.dev.asic.get Reg.NVM_PART.PART → acc = s.dev.asic.get Reg.NVM_PART.ACC →
        (s.dev.asic.clk.now < s.dev.asic.nvc.lockedTo.get part → Runs (.nvmUnlock m) s fun a => a.get Reg.NVM_STAT.CODE = 2 ∧
          a.get Reg.NVM_UNLK.UNLK = s.dev.asic.get Reg.NVM_UNLK.UNLK) ∧
        (s.dev.asic.nvc.lockedTo.get part ≤ s.dev.asic.clk.now →
          (s.dev.nvm.password.get (2 * part + acc) = s.dev.asic.get Reg.NVM_PWLO.PW + 2 ^ 32 * s.dev.asic.get Reg.NVM_PWHI.PW → Runs (.nvmUnlock m) s fun a =>
            hasBit (a.get Reg.NVM_UNLK.UNLK) (8 * m.val + 2 * part + acc) = true ∧ a.nvc.fails.get part = 0) ∧
          (s.dev.nvm.password.get (2 * part + acc) ≠ s.dev.asic.get Reg.NVM_PWLO.PW + 2 ^ 32 * s.dev.asic.get Reg.NVM_PWHI.PW → Runs (.nvmUnlock m) s fun a =>
            a.get Reg.NVM_STAT.CODE = 2 ∧ a.get Reg.NVM_UNLK.UNLK = s.dev.asic.get Reg.NVM_UNLK.UNLK ∧
            (s.dev.asic.nvc.fails.get part < 2 → a.nvc.fails.get part = s.dev.asic.nvc.fails.get part + 1) ∧
            (2 ≤ s.dev.asic.nvc.fails.get part → a.nvc.fails.get part = 0 ∧ a.nvc.lockedTo.get part = s.dev.asic.clk.now + 10 * second)))) ∧
      (Runs (.nvmLock m) s fun a => ∀ k : Fin 32, hasBit (a.get Reg.NVM_UNLK.UNLK) k.val
        = (hasBit (s.dev.asic.get Reg.NVM_UNLK.UNLK) k.val && !(8 * m.val ≤ k.val && k.val < 8 * m.val + 8))) ∧
      (s.dev.nvmOpen m.val 1 1 = false → Runs (.nvmSavecfg m) s fun a => a.commits = s.dev.asic.commits) ∧
      (s.dev.nvmOpen m.val 1 1 = true → Runs (.nvmSavecfg m) s fun a => ∃ w, a.commits = s.dev.asic.commits ++ [.config w s.dev.asic.apl.active]) ∧
      (s.dev.nvmOpen m.val (partOf (s.dev.asic.get Reg.NVM_RPAGE.PAGE)) 0 = false → Runs (.nvmRead m) s fun a => a.nvc.loads = s.dev.asic.nvc.loads) ∧
      (s.dev.nvmOpen m.val (partOf (s.dev.asic.get Reg.NVM_RPAGE.PAGE)) 0 = true → Runs (.nvmRead m) s fun a => a.flag Reg.NVM_STAT.RBUSY = true ∧
        a.nvc.loads = s.dev.asic.nvc.loads ++ [(false, s.dev.asic.get Reg.NVM_RPAGE.PAGE)])) ∧
    (∀ m : Master, s.dev.keyFor m = true →
      (s.dev.nvmOpen m.val (s.dev.asic.get Reg.NVM_PART.PART) 1 = false → Runs (.nvmSetpw m) s fun a => a.commits = s.dev.asic.commits) ∧
      (s.dev.nvmOpen m.val (s.dev.asic.get Reg.NVM_PART.PART) 1 = true → Runs (.nvmSetpw m) s fun a => a.commits = s.dev.asic.commits
        ++ [.password (s.dev.asic.get Reg.NVM_PART.PART) (s.dev.asic.get Reg.NVM_PART.ACC) (s.dev.asic.get Reg.NVM_PWLO.PW + 2 ^ 32 * s.dev.asic.get Reg.NVM_PWHI.PW)]) ∧
      (s.dev.nvmOpen m.val 2 1 = false → Runs (.nvmLogclr m) s fun a => a.commits = s.dev.asic.commits ∧ a.nvc.log = s.dev.asic.nvc.log) ∧
      (s.dev.nvmOpen m.val 2 1 = true → Completes (.nvmLogclr m) s fun t => t.dev.nvm = { s.dev.nvm with logHead := 0, logWrap := false } ∧
        t.dev.asic.get Reg.NVM_LOGHEAD.HEAD = 0 ∧ t.dev.asic.get Reg.NVM_LOGHEAD.WRAP = 0 ∧ t.dev.asic.nvc.log = [] ∧ t.pending = s.pending)) ∧
    (s.dev.sup.shelf = false →
      (s.dev.asic.flag Reg.NVM_OWNER.HELD = false ∨ s.dev.asic.nvc.bufCommit = true ∨ s.dev.asic.clk.now < s.dev.asic.nvc.bufAt + second →
        Runs .nvmBufferTimeout s fun a => a = s.dev.asic) ∧
      (s.dev.asic.flag Reg.NVM_OWNER.HELD = true → s.dev.asic.nvc.bufCommit = false → s.dev.asic.nvc.bufAt + second ≤ s.dev.asic.clk.now →
        Runs .nvmBufferTimeout s fun a => a.flag Reg.NVM_OWNER.HELD = false ∧ a.nvc.buffer = []) ∧
      (∀ m : Master,
        (s.dev.asic.clk.now < s.dev.asic.nvc.access.get m.val + 60 * second → Runs (.nvmUnlockTimeout m) s fun a => a = s.dev.asic) ∧
        (s.dev.asic.nvc.access.get m.val + 60 * second ≤ s.dev.asic.clk.now → Runs (.nvmUnlockTimeout m) s fun a => ∀ k : Fin 32,
          hasBit (a.get Reg.NVM_UNLK.UNLK) k.val = (hasBit (s.dev.asic.get Reg.NVM_UNLK.UNLK) k.val && !(8 * m.val ≤ k.val && k.val < 8 * m.val + 8)))) ∧
      ∀ part : Fin 4,
        (s.dev.asic.clk.now < s.dev.asic.nvc.lockedTo.get part.val → Runs (.nvmUnlockLockoutEnd part) s fun a => a = s.dev.asic) ∧
        (s.dev.asic.nvc.lockedTo.get part.val ≤ s.dev.asic.clk.now → Runs (.nvmUnlockLockoutEnd part) s fun a => a.nvc.lockedTo.get part.val = 0))
/-- R457, R458, R460–R462, R465: commits. The next queued commit takes the least-programmed pool page, unless brace or a commit in
flight holds it; it lands when its time has run and its verify passed; a page whose verify fails retires, and the commit is
tried again or abandoned. A scrub rewrites a corrected page and marks a lost one; the log and the hour meter are
committed when due; a loaded page fills the buffer or the window.
It rests on the model's own choices of log entries 6, 72. -/
def Obligations.NvmCommits : Prop :=
  ∀ s : State,
    (s.dev.asic.commits = [] ∨ s.dev.sup.shelf = true ∨ s.dev.asic.brace = true ∨ s.dev.nvm.flight.isSome = true →
      Completes .nvmCommitStart s fun t => t = s) ∧
    (∀ c rest, s.dev.asic.commits = c :: rest → s.dev.sup.shelf = false → s.dev.asic.brace = false → s.dev.nvm.flight = none →
      (∀ p, s.dev.nvm.leastUsed = some p → Completes .nvmCommitStart s fun t => t.dev.asic.commits = rest ∧ t.dev.asic.flag Reg.NVM_STAT.BUSY = true ∧
        t.dev.nvm.pool = s.dev.nvm.pool.erase p ∧ t.dev.nvm.cycles = s.dev.nvm.cycles.set p (s.dev.nvm.cycles.get p + 1) ∧
        (∃ f, t.dev.nvm.flight = some f ∧ f.commit = c ∧ f.start = s.dev.asic.clk.now ∧ f.page = p) ∧ t.dev.kep = s.dev.kep ∧ t.pending = s.pending) ∧
      (s.dev.nvm.leastUsed = none → Runs .nvmCommitStart s fun a => a.commits = rest ∧ a.flag Reg.NVM_STAT.CMTFAIL = true ∧ a.get Reg.NVM_STAT.CODE = 4)) ∧
    (∀ verified : Bool,
      (s.dev.nvm.flight = none → Completes (.nvmCommitComplete verified) s fun t => t = s) ∧
      (∀ f, s.dev.nvm.flight = some f →
        (s.dev.asic.clk.now < f.start + (if verified then 2800 else 2000) * usec → Completes (.nvmCommitComplete verified) s fun t => t = s) ∧
        (verified = true → f.start + 2800 * usec ≤ s.dev.asic.clk.now → Completes (.nvmCommitComplete verified) s fun t => t.dev.nvm = s.dev.nvm.land f ∧
          t.dev.nvm.flight = none ∧ t.dev.kep = s.dev.kep ∧ t.pending = s.pending ∧ (s.dev.sup.shelf = true → t.dev.asic = s.dev.asic) ∧
          (∀ p data, f.commit = .page p data → t.dev.nvm.pages.get p = data) ∧ (f.commit = .placement → t.dev.nvm.placement = f.words) ∧
          (s.dev.sup.shelf = false → t.dev.asic.flag Reg.NVM_STAT.BUSY = false ∧
            (∀ p data, f.commit = .page p data → t.dev.asic.flag Reg.NVM_STAT.COMMITD = true ∧ t.dev.asic.flag Reg.NVM_OWNER.HELD = false) ∧
            (∀ w x, f.commit = .config w x → t.dev.asic.flag Reg.NVM_STAT.SAVED = true))) ∧
        (verified = false → f.start + 2000 * usec ≤ s.dev.asic.clk.now → Completes (.nvmCommitComplete verified) s fun t =>
          t.dev.nvm = { s.dev.nvm with retired := s.dev.nvm.retired ++ [f.page], flight := none } ∧ t.dev.kep = s.dev.kep ∧ t.pending = s.pending ∧
          (s.dev.sup.shelf = true → t.dev.asic = s.dev.asic) ∧
          (s.dev.sup.shelf = false → t.dev.asic.flag Reg.NVM_STAT.RETIRED = true ∧ t.dev.asic.flag Reg.NVM_STAT.BUSY = false ∧
            (f.tries < 2 → t.dev.asic.commits = f.commit :: s.dev.asic.commits ∧ t.dev.asic.nvc.retries = f.tries + 1) ∧
            (2 ≤ f.tries → t.dev.asic.commits = s.dev.asic.commits ∧ t.dev.asic.flag Reg.NVM_STAT.CMTFAIL = true ∧ t.dev.asic.get Reg.NVM_STAT.CODE = 3))))) ∧
    (∀ page : Fin 2048,
      (s.dev.sup.shelf = true ∨ s.dev.nvm.flight.isSome = true → ∀ ecc : Fin 3, Completes (.nvmScrub page ecc) s fun t => t = s) ∧
      (Completes (.nvmScrub page 0) s fun t => t = s) ∧
      (s.dev.sup.shelf = false → s.dev.nvm.flight = none →
        (Runs (.nvmScrub page 1) s fun a => a = s.dev.asic.askCommit (.rewrite page.val)) ∧
        Completes (.nvmScrub page 2) s fun t => t.dev.nvm = { s.dev.nvm with uncor := s.dev.nvm.uncor.set page.val true } ∧
          t.dev.asic.flag Reg.NVM_STAT.UNCORD = true ∧ t.dev.kep = s.dev.kep ∧ t.pending = s.pending)) ∧
    (s.dev.sup.shelf = false →
      (s.dev.asic.nvc.log = [] → Runs .logPageCommit s fun a => a = s.dev.asic) ∧
      (∀ room, room = 8 - (s.dev.asic.get Reg.NVM_LOGHEAD.HEAD + 4096 - s.dev.asic.nvc.log.length % 4096) % 4096 % 8 →
        (s.dev.asic.nvc.log.length < room → s.dev.asic.clk.now < s.dev.asic.nvc.logAt + 10 * second → Runs .logPageCommit s fun a => a = s.dev.asic) ∧
        (s.dev.asic.nvc.log ≠ [] → room ≤ s.dev.asic.nvc.log.length ∨ s.dev.asic.nvc.logAt + 10 * second ≤ s.dev.asic.clk.now → Runs .logPageCommit s fun a =>
          a.nvc.log = s.dev.asic.nvc.log.drop room ∧ a.commits = s.dev.asic.commits
            ++ [.log ((s.dev.asic.get Reg.NVM_LOGHEAD.HEAD + 4096 - s.dev.asic.nvc.log.length % 4096) % 4096) (s.dev.asic.nvc.log.take room)])) ∧
      (s.dev.asic.clk.now < s.dev.asic.nvc.hourAt + 3600 * second → Runs .hourMeterTick s fun a => a = s.dev.asic) ∧
      (s.dev.asic.nvc.hourAt + 3600 * second ≤ s.dev.asic.clk.now → Runs .hourMeterTick s fun a =>
        a.get Reg.NVM_HOURS.HOURS = (s.dev.asic.get Reg.NVM_HOURS.HOURS + 1) % 2 ^ 32 ∧ a.commits = s.dev.asic.commits ++ [.hours] ∧
        a.nvc.hourAt = s.dev.asic.nvc.hourAt + 3600 * second) ∧
      (s.dev.asic.nvc.loads = [] → Runs .nvmPageLoadComplete s fun a => a = s.dev.asic) ∧
      (∀ page rest, s.dev.asic.nvc.loads = (true, page) :: rest → Runs .nvmPageLoadComplete s fun a => a.nvc.loads = rest ∧ a.nvc.buffer = s.dev.nvm.bytes page) ∧
      (∀ page rest, s.dev.asic.nvc.loads = (false, page) :: rest → Runs .nvmPageLoadComplete s fun a => a.nvc.loads = rest ∧
        a.nvc.window = s.dev.nvm.bytes page ∧ a.nvc.winPage = page ∧ a.flag Reg.NVM_STAT.RBUSY = false ∧ a.flag Reg.NVM_STAT.UNCOR = s.dev.nvm.uncor.get page))
/-- R466–R470: calibration. `GO` makes the units of the named items due, `CAL_FRESET` drops the named field sets. A due unit in its gap
starts a step, one at a time; a result in time is accepted and moves the sets, or is rejected and moves nothing; a lost gap
abandons the step. A temperature sample shows Tj and the interpolation and drives the temperature sources; an elapsed
period counts what was skipped and starts a round.
It rests on the model's own choices of log entries 2, 6, 15, 73. -/
def Obligations.Calibration : Prop :=
  ∀ s : State,
    (∀ (m : Master) (items : BitVec 8),
      (s.dev.freeFor m = true → Runs (.calGo m items) s fun a => ∀ item ∈ [3, 4, 5, 6, 7], ∀ u, u < unitsOf item →
        a.cal.due.get (calKey item u) = (hasBit items.toNat item || s.dev.asic.cal.due.get (calKey item u))) ∧
      (s.dev.keyFor m = true → s.dev.asic.cal.step = none → Runs (.calFreset m items) s fun a => a.cal.step = none ∧
        (∀ item ∈ [1, 2, 3, 4, 5, 6, 7], ∀ u, u < 64 → ∀ set, set < 8 → ∀ e, e < 1024 → a.cal.fld.get (setKey item u set e)
          = if hasBit items.toNat item = true then 0 else s.dev.asic.cal.fld.get (setKey item u set e)) ∧
        (items ≠ 0 → Commit.calSets ∈ a.commits))) ∧
    (s.dev.sup.shelf = false →
      (∀ (item : Fin 8) (u : Fin 64),
        (s.dev.asic.gapOf item.val u.val = none ∨ s.dev.asic.cal.step.isSome = true ∨ s.dev.asic.cal.due.get (calKey item.val u.val) = false ∨ s.dev.asic.calAllowed = false →
          Runs (.fieldStepStart item u) s fun a => a = s.dev.asic) ∧
        (∀ g, s.dev.asic.gapOf item.val u.val = some g → s.dev.asic.cal.step = none → s.dev.asic.cal.due.get (calKey item.val u.val) = true → s.dev.asic.calAllowed = true →
          Runs (.fieldStepStart item u) s fun a => a.flag Reg.CAL_STAT.BUSY = true ∧ a.cal.due.get (calKey item.val u.val) = false ∧ ∃ x, a.cal.step = some x ∧
            x.item = item.val ∧ x.unit = u.val ∧ x.gap = g ∧ x.start = s.dev.asic.clk.now ∧ x.bad = !s.dev.asic.calOk)) ∧
      (s.dev.asic.cal.step = none → Runs .fieldStepAbandon s (fun a => a = s.dev.asic) ∧
        ∀ value : BitVec 32, Runs (.fieldStepResult value) s (fun a => a = s.dev.asic)) ∧
      (∀ x, s.dev.asic.cal.step = some x →
        ((s.dev.asic.gapOf x.item x.unit).isSome = true → Runs .fieldStepAbandon s fun a => a = s.dev.asic) ∧
        (s.dev.asic.gapOf x.item x.unit = none → Runs .fieldStepAbandon s fun a => a.cal.step = none ∧ a.flag Reg.CAL_STAT.ABNDD = true ∧
          a.flag Reg.CAL_STAT.BUSY = false ∧ a.get Reg.CAL_LAST.RESULT = 2 ∧ a.cal.fld = s.dev.asic.cal.fld) ∧
        ∀ value : BitVec 32,
          (s.dev.asic.clk.now < x.start + stepTime x.item → Runs (.fieldStepResult value) s fun a => a = s.dev.asic) ∧
          (x.start + stepTime x.item ≤ s.dev.asic.clk.now →
            Runs (.fieldStepResult value) s fun a => a.cal.step = none ∧ a.flag Reg.CAL_STAT.BUSY = false ∧
              (x.bad = true ∨ s.dev.asic.calOk = false ∨ plausible x.item < absRat ((value.toInt : Rat) - s.dev.asic.calV x.item x.unit 0) →
                a.cal = { s.dev.asic.cal with step := none } ∧ a.flag Reg.CAL_STAT.REJD = true ∧ a.get Reg.CAL_LAST.RESULT = 1 ∧
                a.get Reg.CAL_CNT.REJECT = min (2 ^ Reg.CAL_CNT.REJECT.width - 1) (s.dev.asic.get Reg.CAL_CNT.REJECT + 1)) ∧
              (x.bad = false → s.dev.asic.calOk = true → absRat ((value.toInt : Rat) - s.dev.asic.calV x.item x.unit 0) ≤ plausible x.item →
                (s.dev.asic.moveSets x.item x.unit 0 ((value.toInt : Rat) - s.dev.asic.calV x.item x.unit 0)).setsFar x.item x.unit = false →
                a.flag Reg.CAL_STAT.STEPD = true ∧ a.get Reg.CAL_LAST.RESULT = 0 ∧ Commit.calSets ∈ a.commits ∧
                a.cal.fld = (s.dev.asic.moveSets x.item x.unit 0 ((value.toInt : Rat) - s.dev.asic.calV x.item x.unit 0)).cal.fld))) ∧
      (∀ tj : BitVec 16, Runs (.tjSample tj) s fun a => a.get Reg.CAL_TJ.TJ = tj.toNat ∧ a.get Reg.CAL_INTERP.LO = (interpAt tj.toInt).1 ∧
        a.get Reg.CAL_INTERP.HI = (interpAt tj.toInt).2.1 ∧
        (140 * 16 ≤ tj.toInt → (a.pair 58).has 0 = true) ∧ (tj.toInt < 135 * 16 → (a.pair 58).has 0 = false) ∧
        (135 * 16 ≤ tj.toInt → tj.toInt < 140 * 16 → (a.pair 58).has 0 = (s.dev.asic.pair 58).has 0) ∧
        (150 * 16 ≤ tj.toInt → (a.pair 59).has 0 = true) ∧ (tj.toInt < 145 * 16 → (a.pair 59).has 0 = false)) ∧
      (s.dev.asic.flag Reg.CAL_CFG.EN = false ∨ s.dev.asic.clk.now < s.dev.asic.cal.roundAt + s.dev.asic.calPeriod →
        Runs .calPeriodElapsed s fun a => a = s.dev.asic) ∧
      (s.dev.asic.flag Reg.CAL_CFG.EN = true → s.dev.asic.cal.roundAt + s.dev.asic.calPeriod ≤ s.dev.asic.clk.now → Runs .calPeriodElapsed s fun a =>
        a.cal.roundAt = s.dev.asic.clk.now ∧
        a.get Reg.CAL_CNT.SKIPS = min (2 ^ Reg.CAL_CNT.SKIPS.width - 1) (s.dev.asic.get Reg.CAL_CNT.SKIPS + (s.dev.asic.cal.due.filter fun p => p.2).length) ∧
        ∀ item ∈ [3, 4, 5, 6, 7], ∀ u, u < unitsOf item → hasBit (s.dev.asic.get Reg.CAL_CFG.ITEMS) item = true → a.cal.due.get (calKey item u) = true))
end

