-- ==== Sys2Proof/Laws/State.lean ====
section
/-! SUPPORT. One lemma per field of the ASIC per named update: a field the update does not name stays, and so does every
register where no register is written. -/

namespace Sys2Proof.Machine

variable (a : Asic)

@[simp] theorem Asic.setMasked_clk (k : Nat) (m v : Word) : (a.setMasked k m v).clk = a.clk := rfl
@[simp] theorem Asic.setMasked_modes (k : Nat) (m v : Word) : (a.setMasked k m v).modes = a.modes := rfl
@[simp] theorem Asic.setMasked_fw (k : Nat) (m v : Word) : (a.setMasked k m v).fw = a.fw := rfl
@[simp] theorem Asic.setMasked_parity (k : Nat) (m v : Word) : (a.setMasked k m v).parity = a.parity := rfl
@[simp] theorem Asic.setMasked_deferred (k : Nat) (m v : Word) : (a.setMasked k m v).deferred = a.deferred := rfl
@[simp] theorem Asic.setMasked_ref (k : Nat) (m v : Word) : (a.setMasked k m v).ref = a.ref := rfl
@[simp] theorem Asic.setMasked_ump (k : Nat) (m v : Word) : (a.setMasked k m v).ump = a.ump := rfl
@[simp] theorem Asic.setMasked_ldg (k : Nat) (m v : Word) : (a.setMasked k m v).ldg = a.ldg := rfl
@[simp] theorem Asic.setMasked_dpl (k : Nat) (m v : Word) : (a.setMasked k m v).dpl = a.dpl := rfl
@[simp] theorem Asic.setMasked_ovn (k : Nat) (m v : Word) : (a.setMasked k m v).ovn = a.ovn := rfl
@[simp] theorem Asic.setMasked_cal (k : Nat) (m v : Word) : (a.setMasked k m v).cal = a.cal := rfl
@[simp] theorem Asic.setMasked_apl (k : Nat) (m v : Word) : (a.setMasked k m v).apl = a.apl := rfl
@[simp] theorem Asic.setMasked_out (k : Nat) (m v : Word) : (a.setMasked k m v).out = a.out := rfl
@[simp] theorem Asic.setMasked_tsc (k : Nat) (m v : Word) : (a.setMasked k m v).tsc = a.tsc := rfl
@[simp] theorem Asic.setMasked_evt (k : Nat) (m v : Word) : (a.setMasked k m v).evt = a.evt := rfl
@[simp] theorem Asic.setMasked_prt (k : Nat) (m v : Word) : (a.setMasked k m v).prt = a.prt := rfl
@[simp] theorem Asic.setMasked_rly (k : Nat) (m v : Word) : (a.setMasked k m v).rly = a.rly := rfl
@[simp] theorem Asic.setMasked_recs (k : Nat) (m v : Word) : (a.setMasked k m v).recs = a.recs := rfl
@[simp] theorem Asic.setMasked_dma (k : Nat) (m v : Word) : (a.setMasked k m v).dma = a.dma := rfl
@[simp] theorem Asic.setMasked_bus (k : Nat) (m v : Word) : (a.setMasked k m v).bus = a.bus := rfl
@[simp] theorem Asic.setMasked_can (k : Nat) (m v : Word) : (a.setMasked k m v).can = a.can := rfl
@[simp] theorem Asic.setMasked_flt (k : Nat) (m v : Word) : (a.setMasked k m v).flt = a.flt := rfl
@[simp] theorem Asic.setMasked_nvc (k : Nat) (m v : Word) : (a.setMasked k m v).nvc = a.nvc := rfl
@[simp] theorem Asic.setMasked_commits (k : Nat) (m v : Word) : (a.setMasked k m v).commits = a.commits := rfl
@[simp] theorem Asic.setMasked_fill (k : Nat) (m v : Word) : (a.setMasked k m v).fill = a.fill := rfl
@[simp] theorem Asic.setMasked_discards (k : Nat) (m v : Word) : (a.setMasked k m v).discards = a.discards := rfl
@[simp] theorem Asic.setMasked_tx (k : Nat) (m v : Word) : (a.setMasked k m v).tx = a.tx := rfl
@[simp] theorem Asic.put_clk (g : Fld) (n : Nat) : (a.put g n).clk = a.clk := rfl
@[simp] theorem Asic.put_modes (g : Fld) (n : Nat) : (a.put g n).modes = a.modes := rfl
@[simp] theorem Asic.put_fw (g : Fld) (n : Nat) : (a.put g n).fw = a.fw := rfl
@[simp] theorem Asic.put_parity (g : Fld) (n : Nat) : (a.put g n).parity = a.parity := rfl
@[simp] theorem Asic.put_deferred (g : Fld) (n : Nat) : (a.put g n).deferred = a.deferred := rfl
@[simp] theorem Asic.put_ref (g : Fld) (n : Nat) : (a.put g n).ref = a.ref := rfl
@[simp] theorem Asic.put_ump (g : Fld) (n : Nat) : (a.put g n).ump = a.ump := rfl
@[simp] theorem Asic.put_ldg (g : Fld) (n : Nat) : (a.put g n).ldg = a.ldg := rfl
@[simp] theorem Asic.put_dpl (g : Fld) (n : Nat) : (a.put g n).dpl = a.dpl := rfl
@[simp] theorem Asic.put_ovn (g : Fld) (n : Nat) : (a.put g n).ovn = a.ovn := rfl
@[simp] theorem Asic.put_cal (g : Fld) (n : Nat) : (a.put g n).cal = a.cal := rfl
@[simp] theorem Asic.put_apl (g : Fld) (n : Nat) : (a.put g n).apl = a.apl := rfl
@[simp] theorem Asic.put_out (g : Fld) (n : Nat) : (a.put g n).out = a.out := rfl
@[simp] theorem Asic.put_tsc (g : Fld) (n : Nat) : (a.put g n).tsc = a.tsc := rfl
@[simp] theorem Asic.put_evt (g : Fld) (n : Nat) : (a.put g n).evt = a.evt := rfl
@[simp] theorem Asic.put_prt (g : Fld) (n : Nat) : (a.put g n).prt = a.prt := rfl
@[simp] theorem Asic.put_rly (g : Fld) (n : Nat) : (a.put g n).rly = a.rly := rfl
@[simp] theorem Asic.put_recs (g : Fld) (n : Nat) : (a.put g n).recs = a.recs := rfl
@[simp] theorem Asic.put_dma (g : Fld) (n : Nat) : (a.put g n).dma = a.dma := rfl
@[simp] theorem Asic.put_bus (g : Fld) (n : Nat) : (a.put g n).bus = a.bus := rfl
@[simp] theorem Asic.put_can (g : Fld) (n : Nat) : (a.put g n).can = a.can := rfl
@[simp] theorem Asic.put_flt (g : Fld) (n : Nat) : (a.put g n).flt = a.flt := rfl
@[simp] theorem Asic.put_nvc (g : Fld) (n : Nat) : (a.put g n).nvc = a.nvc := rfl
@[simp] theorem Asic.put_commits (g : Fld) (n : Nat) : (a.put g n).commits = a.commits := rfl
@[simp] theorem Asic.put_fill (g : Fld) (n : Nat) : (a.put g n).fill = a.fill := rfl
@[simp] theorem Asic.put_discards (g : Fld) (n : Nat) : (a.put g n).discards = a.discards := rfl
@[simp] theorem Asic.put_tx (g : Fld) (n : Nat) : (a.put g n).tx = a.tx := rfl
@[simp] theorem Asic.putWord_clk (k n : Nat) : (a.putWord k n).clk = a.clk := rfl
@[simp] theorem Asic.putWord_modes (k n : Nat) : (a.putWord k n).modes = a.modes := rfl
@[simp] theorem Asic.putWord_fw (k n : Nat) : (a.putWord k n).fw = a.fw := rfl
@[simp] theorem Asic.putWord_parity (k n : Nat) : (a.putWord k n).parity = a.parity := rfl
@[simp] theorem Asic.putWord_deferred (k n : Nat) : (a.putWord k n).deferred = a.deferred := rfl
@[simp] theorem Asic.putWord_ref (k n : Nat) : (a.putWord k n).ref = a.ref := rfl
@[simp] theorem Asic.putWord_ump (k n : Nat) : (a.putWord k n).ump = a.ump := rfl
@[simp] theorem Asic.putWord_ldg (k n : Nat) : (a.putWord k n).ldg = a.ldg := rfl
@[simp] theorem Asic.putWord_dpl (k n : Nat) : (a.putWord k n).dpl = a.dpl := rfl
@[simp] theorem Asic.putWord_ovn (k n : Nat) : (a.putWord k n).ovn = a.ovn := rfl
@[simp] theorem Asic.putWord_cal (k n : Nat) : (a.putWord k n).cal = a.cal := rfl
@[simp] theorem Asic.putWord_apl (k n : Nat) : (a.putWord k n).apl = a.apl := rfl
@[simp] theorem Asic.putWord_out (k n : Nat) : (a.putWord k n).out = a.out := rfl
@[simp] theorem Asic.putWord_tsc (k n : Nat) : (a.putWord k n).tsc = a.tsc := rfl
@[simp] theorem Asic.putWord_evt (k n : Nat) : (a.putWord k n).evt = a.evt := rfl
@[simp] theorem Asic.putWord_prt (k n : Nat) : (a.putWord k n).prt = a.prt := rfl
@[simp] theorem Asic.putWord_rly (k n : Nat) : (a.putWord k n).rly = a.rly := rfl
@[simp] theorem Asic.putWord_recs (k n : Nat) : (a.putWord k n).recs = a.recs := rfl
@[simp] theorem Asic.putWord_dma (k n : Nat) : (a.putWord k n).dma = a.dma := rfl
@[simp] theorem Asic.putWord_bus (k n : Nat) : (a.putWord k n).bus = a.bus := rfl
@[simp] theorem Asic.putWord_can (k n : Nat) : (a.putWord k n).can = a.can := rfl
@[simp] theorem Asic.putWord_flt (k n : Nat) : (a.putWord k n).flt = a.flt := rfl
@[simp] theorem Asic.putWord_nvc (k n : Nat) : (a.putWord k n).nvc = a.nvc := rfl
@[simp] theorem Asic.putWord_commits (k n : Nat) : (a.putWord k n).commits = a.commits := rfl
@[simp] theorem Asic.putWord_fill (k n : Nat) : (a.putWord k n).fill = a.fill := rfl
@[simp] theorem Asic.putWord_discards (k n : Nat) : (a.putWord k n).discards = a.discards := rfl
@[simp] theorem Asic.putWord_tx (k n : Nat) : (a.putWord k n).tx = a.tx := rfl
@[simp] theorem Asic.putS_clk (g : Fld) (x : Int) : (a.putS g x).clk = a.clk := rfl
@[simp] theorem Asic.putS_modes (g : Fld) (x : Int) : (a.putS g x).modes = a.modes := rfl
@[simp] theorem Asic.putS_fw (g : Fld) (x : Int) : (a.putS g x).fw = a.fw := rfl
@[simp] theorem Asic.putS_parity (g : Fld) (x : Int) : (a.putS g x).parity = a.parity := rfl
@[simp] theorem Asic.putS_deferred (g : Fld) (x : Int) : (a.putS g x).deferred = a.deferred := rfl
@[simp] theorem Asic.putS_ref (g : Fld) (x : Int) : (a.putS g x).ref = a.ref := rfl
@[simp] theorem Asic.putS_ump (g : Fld) (x : Int) : (a.putS g x).ump = a.ump := rfl
@[simp] theorem Asic.putS_ldg (g : Fld) (x : Int) : (a.putS g x).ldg = a.ldg := rfl
@[simp] theorem Asic.putS_dpl (g : Fld) (x : Int) : (a.putS g x).dpl = a.dpl := rfl
@[simp] theorem Asic.putS_ovn (g : Fld) (x : Int) : (a.putS g x).ovn = a.ovn := rfl
@[simp] theorem Asic.putS_cal (g : Fld) (x : Int) : (a.putS g x).cal = a.cal := rfl
@[simp] theorem Asic.putS_apl (g : Fld) (x : Int) : (a.putS g x).apl = a.apl := rfl
@[simp] theorem Asic.putS_out (g : Fld) (x : Int) : (a.putS g x).out = a.out := rfl
@[simp] theorem Asic.putS_tsc (g : Fld) (x : Int) : (a.putS g x).tsc = a.tsc := rfl
@[simp] theorem Asic.putS_evt (g : Fld) (x : Int) : (a.putS g x).evt = a.evt := rfl
@[simp] theorem Asic.putS_prt (g : Fld) (x : Int) : (a.putS g x).prt = a.prt := rfl
@[simp] theorem Asic.putS_rly (g : Fld) (x : Int) : (a.putS g x).rly = a.rly := rfl
@[simp] theorem Asic.putS_recs (g : Fld) (x : Int) : (a.putS g x).recs = a.recs := rfl
@[simp] theorem Asic.putS_dma (g : Fld) (x : Int) : (a.putS g x).dma = a.dma := rfl
@[simp] theorem Asic.putS_bus (g : Fld) (x : Int) : (a.putS g x).bus = a.bus := rfl
@[simp] theorem Asic.putS_can (g : Fld) (x : Int) : (a.putS g x).can = a.can := rfl
@[simp] theorem Asic.putS_flt (g : Fld) (x : Int) : (a.putS g x).flt = a.flt := rfl
@[simp] theorem Asic.putS_nvc (g : Fld) (x : Int) : (a.putS g x).nvc = a.nvc := rfl
@[simp] theorem Asic.putS_commits (g : Fld) (x : Int) : (a.putS g x).commits = a.commits := rfl
@[simp] theorem Asic.putS_fill (g : Fld) (x : Int) : (a.putS g x).fill = a.fill := rfl
@[simp] theorem Asic.putS_discards (g : Fld) (x : Int) : (a.putS g x).discards = a.discards := rfl
@[simp] theorem Asic.putS_tx (g : Fld) (x : Int) : (a.putS g x).tx = a.tx := rfl
@[simp] theorem Asic.putB_clk (g : Fld) (b : Bool) : (a.putB g b).clk = a.clk := rfl
@[simp] theorem Asic.putB_modes (g : Fld) (b : Bool) : (a.putB g b).modes = a.modes := rfl
@[simp] theorem Asic.putB_fw (g : Fld) (b : Bool) : (a.putB g b).fw = a.fw := rfl
@[simp] theorem Asic.putB_parity (g : Fld) (b : Bool) : (a.putB g b).parity = a.parity := rfl
@[simp] theorem Asic.putB_deferred (g : Fld) (b : Bool) : (a.putB g b).deferred = a.deferred := rfl
@[simp] theorem Asic.putB_ref (g : Fld) (b : Bool) : (a.putB g b).ref = a.ref := rfl
@[simp] theorem Asic.putB_ump (g : Fld) (b : Bool) : (a.putB g b).ump = a.ump := rfl
@[simp] theorem Asic.putB_ldg (g : Fld) (b : Bool) : (a.putB g b).ldg = a.ldg := rfl
@[simp] theorem Asic.putB_dpl (g : Fld) (b : Bool) : (a.putB g b).dpl = a.dpl := rfl
@[simp] theorem Asic.putB_ovn (g : Fld) (b : Bool) : (a.putB g b).ovn = a.ovn := rfl
@[simp] theorem Asic.putB_cal (g : Fld) (b : Bool) : (a.putB g b).cal = a.cal := rfl
@[simp] theorem Asic.putB_apl (g : Fld) (b : Bool) : (a.putB g b).apl = a.apl := rfl
@[simp] theorem Asic.putB_out (g : Fld) (b : Bool) : (a.putB g b).out = a.out := rfl
@[simp] theorem Asic.putB_tsc (g : Fld) (b : Bool) : (a.putB g b).tsc = a.tsc := rfl
@[simp] theorem Asic.putB_evt (g : Fld) (b : Bool) : (a.putB g b).evt = a.evt := rfl
@[simp] theorem Asic.putB_prt (g : Fld) (b : Bool) : (a.putB g b).prt = a.prt := rfl
@[simp] theorem Asic.putB_rly (g : Fld) (b : Bool) : (a.putB g b).rly = a.rly := rfl
@[simp] theorem Asic.putB_recs (g : Fld) (b : Bool) : (a.putB g b).recs = a.recs := rfl
@[simp] theorem Asic.putB_dma (g : Fld) (b : Bool) : (a.putB g b).dma = a.dma := rfl
@[simp] theorem Asic.putB_bus (g : Fld) (b : Bool) : (a.putB g b).bus = a.bus := rfl
@[simp] theorem Asic.putB_can (g : Fld) (b : Bool) : (a.putB g b).can = a.can := rfl
@[simp] theorem Asic.putB_flt (g : Fld) (b : Bool) : (a.putB g b).flt = a.flt := rfl
@[simp] theorem Asic.putB_nvc (g : Fld) (b : Bool) : (a.putB g b).nvc = a.nvc := rfl
@[simp] theorem Asic.putB_commits (g : Fld) (b : Bool) : (a.putB g b).commits = a.commits := rfl
@[simp] theorem Asic.putB_fill (g : Fld) (b : Bool) : (a.putB g b).fill = a.fill := rfl
@[simp] theorem Asic.putB_discards (g : Fld) (b : Bool) : (a.putB g b).discards = a.discards := rfl
@[simp] theorem Asic.putB_tx (g : Fld) (b : Bool) : (a.putB g b).tx = a.tx := rfl
@[simp] theorem Asic.addWrap_clk (g : Fld) (n : Nat) : (a.addWrap g n).clk = a.clk := rfl
@[simp] theorem Asic.addWrap_modes (g : Fld) (n : Nat) : (a.addWrap g n).modes = a.modes := rfl
@[simp] theorem Asic.addWrap_fw (g : Fld) (n : Nat) : (a.addWrap g n).fw = a.fw := rfl
@[simp] theorem Asic.addWrap_parity (g : Fld) (n : Nat) : (a.addWrap g n).parity = a.parity := rfl
@[simp] theorem Asic.addWrap_deferred (g : Fld) (n : Nat) : (a.addWrap g n).deferred = a.deferred := rfl
@[simp] theorem Asic.addWrap_ref (g : Fld) (n : Nat) : (a.addWrap g n).ref = a.ref := rfl
@[simp] theorem Asic.addWrap_ump (g : Fld) (n : Nat) : (a.addWrap g n).ump = a.ump := rfl
@[simp] theorem Asic.addWrap_ldg (g : Fld) (n : Nat) : (a.addWrap g n).ldg = a.ldg := rfl
@[simp] theorem Asic.addWrap_dpl (g : Fld) (n : Nat) : (a.addWrap g n).dpl = a.dpl := rfl
@[simp] theorem Asic.addWrap_ovn (g : Fld) (n : Nat) : (a.addWrap g n).ovn = a.ovn := rfl
@[simp] theorem Asic.addWrap_cal (g : Fld) (n : Nat) : (a.addWrap g n).cal = a.cal := rfl
@[simp] theorem Asic.addWrap_apl (g : Fld) (n : Nat) : (a.addWrap g n).apl = a.apl := rfl
@[simp] theorem Asic.addWrap_out (g : Fld) (n : Nat) : (a.addWrap g n).out = a.out := rfl
@[simp] theorem Asic.addWrap_tsc (g : Fld) (n : Nat) : (a.addWrap g n).tsc = a.tsc := rfl
@[simp] theorem Asic.addWrap_evt (g : Fld) (n : Nat) : (a.addWrap g n).evt = a.evt := rfl
@[simp] theorem Asic.addWrap_prt (g : Fld) (n : Nat) : (a.addWrap g n).prt = a.prt := rfl
@[simp] theorem Asic.addWrap_rly (g : Fld) (n : Nat) : (a.addWrap g n).rly = a.rly := rfl
@[simp] theorem Asic.addWrap_recs (g : Fld) (n : Nat) : (a.addWrap g n).recs = a.recs := rfl
@[simp] theorem Asic.addWrap_dma (g : Fld) (n : Nat) : (a.addWrap g n).dma = a.dma := rfl
@[simp] theorem Asic.addWrap_bus (g : Fld) (n : Nat) : (a.addWrap g n).bus = a.bus := rfl
@[simp] theorem Asic.addWrap_can (g : Fld) (n : Nat) : (a.addWrap g n).can = a.can := rfl
@[simp] theorem Asic.addWrap_flt (g : Fld) (n : Nat) : (a.addWrap g n).flt = a.flt := rfl
@[simp] theorem Asic.addWrap_nvc (g : Fld) (n : Nat) : (a.addWrap g n).nvc = a.nvc := rfl
@[simp] theorem Asic.addWrap_commits (g : Fld) (n : Nat) : (a.addWrap g n).commits = a.commits := rfl
@[simp] theorem Asic.addWrap_fill (g : Fld) (n : Nat) : (a.addWrap g n).fill = a.fill := rfl
@[simp] theorem Asic.addWrap_discards (g : Fld) (n : Nat) : (a.addWrap g n).discards = a.discards := rfl
@[simp] theorem Asic.addWrap_tx (g : Fld) (n : Nat) : (a.addWrap g n).tx = a.tx := rfl
@[simp] theorem Asic.addSat_clk (g : Fld) (n : Nat) : (a.addSat g n).clk = a.clk := rfl
@[simp] theorem Asic.addSat_modes (g : Fld) (n : Nat) : (a.addSat g n).modes = a.modes := rfl
@[simp] theorem Asic.addSat_fw (g : Fld) (n : Nat) : (a.addSat g n).fw = a.fw := rfl
@[simp] theorem Asic.addSat_parity (g : Fld) (n : Nat) : (a.addSat g n).parity = a.parity := rfl
@[simp] theorem Asic.addSat_deferred (g : Fld) (n : Nat) : (a.addSat g n).deferred = a.deferred := rfl
@[simp] theorem Asic.addSat_ref (g : Fld) (n : Nat) : (a.addSat g n).ref = a.ref := rfl
@[simp] theorem Asic.addSat_ump (g : Fld) (n : Nat) : (a.addSat g n).ump = a.ump := rfl
@[simp] theorem Asic.addSat_ldg (g : Fld) (n : Nat) : (a.addSat g n).ldg = a.ldg := rfl
@[simp] theorem Asic.addSat_dpl (g : Fld) (n : Nat) : (a.addSat g n).dpl = a.dpl := rfl
@[simp] theorem Asic.addSat_ovn (g : Fld) (n : Nat) : (a.addSat g n).ovn = a.ovn := rfl
@[simp] theorem Asic.addSat_cal (g : Fld) (n : Nat) : (a.addSat g n).cal = a.cal := rfl
@[simp] theorem Asic.addSat_apl (g : Fld) (n : Nat) : (a.addSat g n).apl = a.apl := rfl
@[simp] theorem Asic.addSat_out (g : Fld) (n : Nat) : (a.addSat g n).out = a.out := rfl
@[simp] theorem Asic.addSat_tsc (g : Fld) (n : Nat) : (a.addSat g n).tsc = a.tsc := rfl
@[simp] theorem Asic.addSat_evt (g : Fld) (n : Nat) : (a.addSat g n).evt = a.evt := rfl
@[simp] theorem Asic.addSat_prt (g : Fld) (n : Nat) : (a.addSat g n).prt = a.prt := rfl
@[simp] theorem Asic.addSat_rly (g : Fld) (n : Nat) : (a.addSat g n).rly = a.rly := rfl
@[simp] theorem Asic.addSat_recs (g : Fld) (n : Nat) : (a.addSat g n).recs = a.recs := rfl
@[simp] theorem Asic.addSat_dma (g : Fld) (n : Nat) : (a.addSat g n).dma = a.dma := rfl
@[simp] theorem Asic.addSat_bus (g : Fld) (n : Nat) : (a.addSat g n).bus = a.bus := rfl
@[simp] theorem Asic.addSat_can (g : Fld) (n : Nat) : (a.addSat g n).can = a.can := rfl
@[simp] theorem Asic.addSat_flt (g : Fld) (n : Nat) : (a.addSat g n).flt = a.flt := rfl
@[simp] theorem Asic.addSat_nvc (g : Fld) (n : Nat) : (a.addSat g n).nvc = a.nvc := rfl
@[simp] theorem Asic.addSat_commits (g : Fld) (n : Nat) : (a.addSat g n).commits = a.commits := rfl
@[simp] theorem Asic.addSat_fill (g : Fld) (n : Nat) : (a.addSat g n).fill = a.fill := rfl
@[simp] theorem Asic.addSat_discards (g : Fld) (n : Nat) : (a.addSat g n).discards = a.discards := rfl
@[simp] theorem Asic.addSat_tx (g : Fld) (n : Nat) : (a.addSat g n).tx = a.tx := rfl
@[simp] theorem Asic.put2_clk (g h : Fld) (n : Nat) : (a.put2 g h n).clk = a.clk := rfl
@[simp] theorem Asic.put2_modes (g h : Fld) (n : Nat) : (a.put2 g h n).modes = a.modes := rfl
@[simp] theorem Asic.put2_fw (g h : Fld) (n : Nat) : (a.put2 g h n).fw = a.fw := rfl
@[simp] theorem Asic.put2_parity (g h : Fld) (n : Nat) : (a.put2 g h n).parity = a.parity := rfl
@[simp] theorem Asic.put2_deferred (g h : Fld) (n : Nat) : (a.put2 g h n).deferred = a.deferred := rfl
@[simp] theorem Asic.put2_ref (g h : Fld) (n : Nat) : (a.put2 g h n).ref = a.ref := rfl
@[simp] theorem Asic.put2_ump (g h : Fld) (n : Nat) : (a.put2 g h n).ump = a.ump := rfl
@[simp] theorem Asic.put2_ldg (g h : Fld) (n : Nat) : (a.put2 g h n).ldg = a.ldg := rfl
@[simp] theorem Asic.put2_dpl (g h : Fld) (n : Nat) : (a.put2 g h n).dpl = a.dpl := rfl
@[simp] theorem Asic.put2_ovn (g h : Fld) (n : Nat) : (a.put2 g h n).ovn = a.ovn := rfl
@[simp] theorem Asic.put2_cal (g h : Fld) (n : Nat) : (a.put2 g h n).cal = a.cal := rfl
@[simp] theorem Asic.put2_apl (g h : Fld) (n : Nat) : (a.put2 g h n).apl = a.apl := rfl
@[simp] theorem Asic.put2_out (g h : Fld) (n : Nat) : (a.put2 g h n).out = a.out := rfl
@[simp] theorem Asic.put2_tsc (g h : Fld) (n : Nat) : (a.put2 g h n).tsc = a.tsc := rfl
@[simp] theorem Asic.put2_evt (g h : Fld) (n : Nat) : (a.put2 g h n).evt = a.evt := rfl
@[simp] theorem Asic.put2_prt (g h : Fld) (n : Nat) : (a.put2 g h n).prt = a.prt := rfl
@[simp] theorem Asic.put2_rly (g h : Fld) (n : Nat) : (a.put2 g h n).rly = a.rly := rfl
@[simp] theorem Asic.put2_recs (g h : Fld) (n : Nat) : (a.put2 g h n).recs = a.recs := rfl
@[simp] theorem Asic.put2_dma (g h : Fld) (n : Nat) : (a.put2 g h n).dma = a.dma := rfl
@[simp] theorem Asic.put2_bus (g h : Fld) (n : Nat) : (a.put2 g h n).bus = a.bus := rfl
@[simp] theorem Asic.put2_can (g h : Fld) (n : Nat) : (a.put2 g h n).can = a.can := rfl
@[simp] theorem Asic.put2_flt (g h : Fld) (n : Nat) : (a.put2 g h n).flt = a.flt := rfl
@[simp] theorem Asic.put2_nvc (g h : Fld) (n : Nat) : (a.put2 g h n).nvc = a.nvc := rfl
@[simp] theorem Asic.put2_commits (g h : Fld) (n : Nat) : (a.put2 g h n).commits = a.commits := rfl
@[simp] theorem Asic.put2_fill (g h : Fld) (n : Nat) : (a.put2 g h n).fill = a.fill := rfl
@[simp] theorem Asic.put2_discards (g h : Fld) (n : Nat) : (a.put2 g h n).discards = a.discards := rfl
@[simp] theorem Asic.put2_tx (g h : Fld) (n : Nat) : (a.put2 g h n).tx = a.tx := rfl
@[simp] theorem Asic.put2S_clk (g h : Fld) (x : Int) : (a.put2S g h x).clk = a.clk := rfl
@[simp] theorem Asic.put2S_modes (g h : Fld) (x : Int) : (a.put2S g h x).modes = a.modes := rfl
@[simp] theorem Asic.put2S_fw (g h : Fld) (x : Int) : (a.put2S g h x).fw = a.fw := rfl
@[simp] theorem Asic.put2S_parity (g h : Fld) (x : Int) : (a.put2S g h x).parity = a.parity := rfl
@[simp] theorem Asic.put2S_deferred (g h : Fld) (x : Int) : (a.put2S g h x).deferred = a.deferred := rfl
@[simp] theorem Asic.put2S_ref (g h : Fld) (x : Int) : (a.put2S g h x).ref = a.ref := rfl
@[simp] theorem Asic.put2S_ump (g h : Fld) (x : Int) : (a.put2S g h x).ump = a.ump := rfl
@[simp] theorem Asic.put2S_ldg (g h : Fld) (x : Int) : (a.put2S g h x).ldg = a.ldg := rfl
@[simp] theorem Asic.put2S_dpl (g h : Fld) (x : Int) : (a.put2S g h x).dpl = a.dpl := rfl
@[simp] theorem Asic.put2S_ovn (g h : Fld) (x : Int) : (a.put2S g h x).ovn = a.ovn := rfl
@[simp] theorem Asic.put2S_cal (g h : Fld) (x : Int) : (a.put2S g h x).cal = a.cal := rfl
@[simp] theorem Asic.put2S_apl (g h : Fld) (x : Int) : (a.put2S g h x).apl = a.apl := rfl
@[simp] theorem Asic.put2S_out (g h : Fld) (x : Int) : (a.put2S g h x).out = a.out := rfl
@[simp] theorem Asic.put2S_tsc (g h : Fld) (x : Int) : (a.put2S g h x).tsc = a.tsc := rfl
@[simp] theorem Asic.put2S_evt (g h : Fld) (x : Int) : (a.put2S g h x).evt = a.evt := rfl
@[simp] theorem Asic.put2S_prt (g h : Fld) (x : Int) : (a.put2S g h x).prt = a.prt := rfl
@[simp] theorem Asic.put2S_rly (g h : Fld) (x : Int) : (a.put2S g h x).rly = a.rly := rfl
@[simp] theorem Asic.put2S_recs (g h : Fld) (x : Int) : (a.put2S g h x).recs = a.recs := rfl
@[simp] theorem Asic.put2S_dma (g h : Fld) (x : Int) : (a.put2S g h x).dma = a.dma := rfl
@[simp] theorem Asic.put2S_bus (g h : Fld) (x : Int) : (a.put2S g h x).bus = a.bus := rfl
@[simp] theorem Asic.put2S_can (g h : Fld) (x : Int) : (a.put2S g h x).can = a.can := rfl
@[simp] theorem Asic.put2S_flt (g h : Fld) (x : Int) : (a.put2S g h x).flt = a.flt := rfl
@[simp] theorem Asic.put2S_nvc (g h : Fld) (x : Int) : (a.put2S g h x).nvc = a.nvc := rfl
@[simp] theorem Asic.put2S_commits (g h : Fld) (x : Int) : (a.put2S g h x).commits = a.commits := rfl
@[simp] theorem Asic.put2S_fill (g h : Fld) (x : Int) : (a.put2S g h x).fill = a.fill := rfl
@[simp] theorem Asic.put2S_discards (g h : Fld) (x : Int) : (a.put2S g h x).discards = a.discards := rfl
@[simp] theorem Asic.put2S_tx (g h : Fld) (x : Int) : (a.put2S g h x).tx = a.tx := rfl
@[simp] theorem Asic.event_clk (g : Fld) : (a.event g).clk = a.clk := rfl
@[simp] theorem Asic.event_modes (g : Fld) : (a.event g).modes = a.modes := rfl
@[simp] theorem Asic.event_fw (g : Fld) : (a.event g).fw = a.fw := rfl
@[simp] theorem Asic.event_parity (g : Fld) : (a.event g).parity = a.parity := rfl
@[simp] theorem Asic.event_deferred (g : Fld) : (a.event g).deferred = a.deferred := rfl
@[simp] theorem Asic.event_ref (g : Fld) : (a.event g).ref = a.ref := rfl
@[simp] theorem Asic.event_ump (g : Fld) : (a.event g).ump = a.ump := rfl
@[simp] theorem Asic.event_ldg (g : Fld) : (a.event g).ldg = a.ldg := rfl
@[simp] theorem Asic.event_dpl (g : Fld) : (a.event g).dpl = a.dpl := rfl
@[simp] theorem Asic.event_ovn (g : Fld) : (a.event g).ovn = a.ovn := rfl
@[simp] theorem Asic.event_cal (g : Fld) : (a.event g).cal = a.cal := rfl
@[simp] theorem Asic.event_apl (g : Fld) : (a.event g).apl = a.apl := rfl
@[simp] theorem Asic.event_out (g : Fld) : (a.event g).out = a.out := rfl
@[simp] theorem Asic.event_tsc (g : Fld) : (a.event g).tsc = a.tsc := rfl
@[simp] theorem Asic.event_evt (g : Fld) : (a.event g).evt = a.evt := rfl
@[simp] theorem Asic.event_prt (g : Fld) : (a.event g).prt = a.prt := rfl
@[simp] theorem Asic.event_rly (g : Fld) : (a.event g).rly = a.rly := rfl
@[simp] theorem Asic.event_recs (g : Fld) : (a.event g).recs = a.recs := rfl
@[simp] theorem Asic.event_dma (g : Fld) : (a.event g).dma = a.dma := rfl
@[simp] theorem Asic.event_bus (g : Fld) : (a.event g).bus = a.bus := rfl
@[simp] theorem Asic.event_can (g : Fld) : (a.event g).can = a.can := rfl
@[simp] theorem Asic.event_flt (g : Fld) : (a.event g).flt = a.flt := rfl
@[simp] theorem Asic.event_nvc (g : Fld) : (a.event g).nvc = a.nvc := rfl
@[simp] theorem Asic.event_commits (g : Fld) : (a.event g).commits = a.commits := rfl
@[simp] theorem Asic.event_fill (g : Fld) : (a.event g).fill = a.fill := rfl
@[simp] theorem Asic.event_discards (g : Fld) : (a.event g).discards = a.discards := rfl
@[simp] theorem Asic.event_tx (g : Fld) : (a.event g).tx = a.tx := rfl
@[simp] theorem Asic.setScale_clk (k : Nat) (x : Scale) : (a.setScale k x).clk = a.clk := rfl
@[simp] theorem Asic.setScale_modes (k : Nat) (x : Scale) : (a.setScale k x).modes = a.modes := rfl
@[simp] theorem Asic.setScale_fw (k : Nat) (x : Scale) : (a.setScale k x).fw = a.fw := rfl
@[simp] theorem Asic.setScale_regs (k : Nat) (x : Scale) : (a.setScale k x).regs = a.regs := rfl
@[simp] theorem Asic.setScale_tv1 (k : Nat) (x : Scale) : (a.setScale k x).tv1 = a.tv1 := rfl
@[simp] theorem Asic.setScale_tv2 (k : Nat) (x : Scale) : (a.setScale k x).tv2 = a.tv2 := rfl
@[simp] theorem Asic.setScale_parity (k : Nat) (x : Scale) : (a.setScale k x).parity = a.parity := rfl
@[simp] theorem Asic.setScale_deferred (k : Nat) (x : Scale) : (a.setScale k x).deferred = a.deferred := rfl
@[simp] theorem Asic.setScale_ref (k : Nat) (x : Scale) : (a.setScale k x).ref = a.ref := rfl
@[simp] theorem Asic.setScale_ump (k : Nat) (x : Scale) : (a.setScale k x).ump = a.ump := rfl
@[simp] theorem Asic.setScale_ldg (k : Nat) (x : Scale) : (a.setScale k x).ldg = a.ldg := rfl
@[simp] theorem Asic.setScale_dpl (k : Nat) (x : Scale) : (a.setScale k x).dpl = a.dpl := rfl
@[simp] theorem Asic.setScale_ovn (k : Nat) (x : Scale) : (a.setScale k x).ovn = a.ovn := rfl
@[simp] theorem Asic.setScale_cal (k : Nat) (x : Scale) : (a.setScale k x).cal = a.cal := rfl
@[simp] theorem Asic.setScale_apl (k : Nat) (x : Scale) : (a.setScale k x).apl = a.apl := rfl
@[simp] theorem Asic.setScale_out (k : Nat) (x : Scale) : (a.setScale k x).out = a.out := rfl
@[simp] theorem Asic.setScale_evt (k : Nat) (x : Scale) : (a.setScale k x).evt = a.evt := rfl
@[simp] theorem Asic.setScale_prt (k : Nat) (x : Scale) : (a.setScale k x).prt = a.prt := rfl
@[simp] theorem Asic.setScale_rly (k : Nat) (x : Scale) : (a.setScale k x).rly = a.rly := rfl
@[simp] theorem Asic.setScale_recs (k : Nat) (x : Scale) : (a.setScale k x).recs = a.recs := rfl
@[simp] theorem Asic.setScale_dma (k : Nat) (x : Scale) : (a.setScale k x).dma = a.dma := rfl
@[simp] theorem Asic.setScale_bus (k : Nat) (x : Scale) : (a.setScale k x).bus = a.bus := rfl
@[simp] theorem Asic.setScale_can (k : Nat) (x : Scale) : (a.setScale k x).can = a.can := rfl
@[simp] theorem Asic.setScale_flt (k : Nat) (x : Scale) : (a.setScale k x).flt = a.flt := rfl
@[simp] theorem Asic.setScale_nvc (k : Nat) (x : Scale) : (a.setScale k x).nvc = a.nvc := rfl
@[simp] theorem Asic.setScale_commits (k : Nat) (x : Scale) : (a.setScale k x).commits = a.commits := rfl
@[simp] theorem Asic.setScale_fill (k : Nat) (x : Scale) : (a.setScale k x).fill = a.fill := rfl
@[simp] theorem Asic.setScale_discards (k : Nat) (x : Scale) : (a.setScale k x).discards = a.discards := rfl
@[simp] theorem Asic.setScale_tx (k : Nat) (x : Scale) : (a.setScale k x).tx = a.tx := rfl
@[simp] theorem Asic.setScale_get (k : Nat) (x : Scale) (f : Fld) : (a.setScale k x).get f = a.get f := rfl
@[simp] theorem Asic.setScale_word (k : Nat) (x : Scale) (w : Nat) : (a.setScale k x).word w = a.word w := rfl
@[simp] theorem Asic.setTrig_clk (k : Nat) (x : Trig) : (a.setTrig k x).clk = a.clk := rfl
@[simp] theorem Asic.setTrig_modes (k : Nat) (x : Trig) : (a.setTrig k x).modes = a.modes := rfl
@[simp] theorem Asic.setTrig_fw (k : Nat) (x : Trig) : (a.setTrig k x).fw = a.fw := rfl
@[simp] theorem Asic.setTrig_regs (k : Nat) (x : Trig) : (a.setTrig k x).regs = a.regs := rfl
@[simp] theorem Asic.setTrig_tv1 (k : Nat) (x : Trig) : (a.setTrig k x).tv1 = a.tv1 := rfl
@[simp] theorem Asic.setTrig_tv2 (k : Nat) (x : Trig) : (a.setTrig k x).tv2 = a.tv2 := rfl
@[simp] theorem Asic.setTrig_parity (k : Nat) (x : Trig) : (a.setTrig k x).parity = a.parity := rfl
@[simp] theorem Asic.setTrig_deferred (k : Nat) (x : Trig) : (a.setTrig k x).deferred = a.deferred := rfl
@[simp] theorem Asic.setTrig_ref (k : Nat) (x : Trig) : (a.setTrig k x).ref = a.ref := rfl
@[simp] theorem Asic.setTrig_ump (k : Nat) (x : Trig) : (a.setTrig k x).ump = a.ump := rfl
@[simp] theorem Asic.setTrig_ldg (k : Nat) (x : Trig) : (a.setTrig k x).ldg = a.ldg := rfl
@[simp] theorem Asic.setTrig_dpl (k : Nat) (x : Trig) : (a.setTrig k x).dpl = a.dpl := rfl
@[simp] theorem Asic.setTrig_ovn (k : Nat) (x : Trig) : (a.setTrig k x).ovn = a.ovn := rfl
@[simp] theorem Asic.setTrig_cal (k : Nat) (x : Trig) : (a.setTrig k x).cal = a.cal := rfl
@[simp] theorem Asic.setTrig_apl (k : Nat) (x : Trig) : (a.setTrig k x).apl = a.apl := rfl
@[simp] theorem Asic.setTrig_out (k : Nat) (x : Trig) : (a.setTrig k x).out = a.out := rfl
@[simp] theorem Asic.setTrig_evt (k : Nat) (x : Trig) : (a.setTrig k x).evt = a.evt := rfl
@[simp] theorem Asic.setTrig_prt (k : Nat) (x : Trig) : (a.setTrig k x).prt = a.prt := rfl
@[simp] theorem Asic.setTrig_rly (k : Nat) (x : Trig) : (a.setTrig k x).rly = a.rly := rfl
@[simp] theorem Asic.setTrig_recs (k : Nat) (x : Trig) : (a.setTrig k x).recs = a.recs := rfl
@[simp] theorem Asic.setTrig_dma (k : Nat) (x : Trig) : (a.setTrig k x).dma = a.dma := rfl
@[simp] theorem Asic.setTrig_bus (k : Nat) (x : Trig) : (a.setTrig k x).bus = a.bus := rfl
@[simp] theorem Asic.setTrig_can (k : Nat) (x : Trig) : (a.setTrig k x).can = a.can := rfl
@[simp] theorem Asic.setTrig_flt (k : Nat) (x : Trig) : (a.setTrig k x).flt = a.flt := rfl
@[simp] theorem Asic.setTrig_nvc (k : Nat) (x : Trig) : (a.setTrig k x).nvc = a.nvc := rfl
@[simp] theorem Asic.setTrig_commits (k : Nat) (x : Trig) : (a.setTrig k x).commits = a.commits := rfl
@[simp] theorem Asic.setTrig_fill (k : Nat) (x : Trig) : (a.setTrig k x).fill = a.fill := rfl
@[simp] theorem Asic.setTrig_discards (k : Nat) (x : Trig) : (a.setTrig k x).discards = a.discards := rfl
@[simp] theorem Asic.setTrig_tx (k : Nat) (x : Trig) : (a.setTrig k x).tx = a.tx := rfl
@[simp] theorem Asic.setTrig_get (k : Nat) (x : Trig) (f : Fld) : (a.setTrig k x).get f = a.get f := rfl
@[simp] theorem Asic.setTrig_word (k : Nat) (x : Trig) (w : Nat) : (a.setTrig k x).word w = a.word w := rfl
@[simp] theorem Asic.setPair_clk (k : Nat) (p : Pair) : (a.setPair k p).clk = a.clk := rfl
@[simp] theorem Asic.setPair_modes (k : Nat) (p : Pair) : (a.setPair k p).modes = a.modes := rfl
@[simp] theorem Asic.setPair_fw (k : Nat) (p : Pair) : (a.setPair k p).fw = a.fw := rfl
@[simp] theorem Asic.setPair_regs (k : Nat) (p : Pair) : (a.setPair k p).regs = a.regs := rfl
@[simp] theorem Asic.setPair_tv1 (k : Nat) (p : Pair) : (a.setPair k p).tv1 = a.tv1 := rfl
@[simp] theorem Asic.setPair_tv2 (k : Nat) (p : Pair) : (a.setPair k p).tv2 = a.tv2 := rfl
@[simp] theorem Asic.setPair_parity (k : Nat) (p : Pair) : (a.setPair k p).parity = a.parity := rfl
@[simp] theorem Asic.setPair_deferred (k : Nat) (p : Pair) : (a.setPair k p).deferred = a.deferred := rfl
@[simp] theorem Asic.setPair_ref (k : Nat) (p : Pair) : (a.setPair k p).ref = a.ref := rfl
@[simp] theorem Asic.setPair_ump (k : Nat) (p : Pair) : (a.setPair k p).ump = a.ump := rfl
@[simp] theorem Asic.setPair_ldg (k : Nat) (p : Pair) : (a.setPair k p).ldg = a.ldg := rfl
@[simp] theorem Asic.setPair_dpl (k : Nat) (p : Pair) : (a.setPair k p).dpl = a.dpl := rfl
@[simp] theorem Asic.setPair_ovn (k : Nat) (p : Pair) : (a.setPair k p).ovn = a.ovn := rfl
@[simp] theorem Asic.setPair_cal (k : Nat) (p : Pair) : (a.setPair k p).cal = a.cal := rfl
@[simp] theorem Asic.setPair_apl (k : Nat) (p : Pair) : (a.setPair k p).apl = a.apl := rfl
@[simp] theorem Asic.setPair_out (k : Nat) (p : Pair) : (a.setPair k p).out = a.out := rfl
@[simp] theorem Asic.setPair_tsc (k : Nat) (p : Pair) : (a.setPair k p).tsc = a.tsc := rfl
@[simp] theorem Asic.setPair_evt (k : Nat) (p : Pair) : (a.setPair k p).evt = a.evt := rfl
@[simp] theorem Asic.setPair_prt (k : Nat) (p : Pair) : (a.setPair k p).prt = a.prt := rfl
@[simp] theorem Asic.setPair_rly (k : Nat) (p : Pair) : (a.setPair k p).rly = a.rly := rfl
@[simp] theorem Asic.setPair_recs (k : Nat) (p : Pair) : (a.setPair k p).recs = a.recs := rfl
@[simp] theorem Asic.setPair_dma (k : Nat) (p : Pair) : (a.setPair k p).dma = a.dma := rfl
@[simp] theorem Asic.setPair_bus (k : Nat) (p : Pair) : (a.setPair k p).bus = a.bus := rfl
@[simp] theorem Asic.setPair_can (k : Nat) (p : Pair) : (a.setPair k p).can = a.can := rfl
@[simp] theorem Asic.setPair_nvc (k : Nat) (p : Pair) : (a.setPair k p).nvc = a.nvc := rfl
@[simp] theorem Asic.setPair_commits (k : Nat) (p : Pair) : (a.setPair k p).commits = a.commits := rfl
@[simp] theorem Asic.setPair_fill (k : Nat) (p : Pair) : (a.setPair k p).fill = a.fill := rfl
@[simp] theorem Asic.setPair_discards (k : Nat) (p : Pair) : (a.setPair k p).discards = a.discards := rfl
@[simp] theorem Asic.setPair_tx (k : Nat) (p : Pair) : (a.setPair k p).tx = a.tx := rfl
@[simp] theorem Asic.setPair_get (k : Nat) (p : Pair) (f : Fld) : (a.setPair k p).get f = a.get f := rfl
@[simp] theorem Asic.setPair_word (k : Nat) (p : Pair) (w : Nat) : (a.setPair k p).word w = a.word w := rfl
@[simp] theorem Asic.assertOcc_clk (o : Occ) : (a.assertOcc o).clk = a.clk := rfl
@[simp] theorem Asic.assertOcc_modes (o : Occ) : (a.assertOcc o).modes = a.modes := rfl
@[simp] theorem Asic.assertOcc_fw (o : Occ) : (a.assertOcc o).fw = a.fw := rfl
@[simp] theorem Asic.assertOcc_regs (o : Occ) : (a.assertOcc o).regs = a.regs := rfl
@[simp] theorem Asic.assertOcc_tv1 (o : Occ) : (a.assertOcc o).tv1 = a.tv1 := rfl
@[simp] theorem Asic.assertOcc_tv2 (o : Occ) : (a.assertOcc o).tv2 = a.tv2 := rfl
@[simp] theorem Asic.assertOcc_parity (o : Occ) : (a.assertOcc o).parity = a.parity := rfl
@[simp] theorem Asic.assertOcc_deferred (o : Occ) : (a.assertOcc o).deferred = a.deferred := rfl
@[simp] theorem Asic.assertOcc_ref (o : Occ) : (a.assertOcc o).ref = a.ref := rfl
@[simp] theorem Asic.assertOcc_ump (o : Occ) : (a.assertOcc o).ump = a.ump := rfl
@[simp] theorem Asic.assertOcc_ldg (o : Occ) : (a.assertOcc o).ldg = a.ldg := rfl
@[simp] theorem Asic.assertOcc_dpl (o : Occ) : (a.assertOcc o).dpl = a.dpl := rfl
@[simp] theorem Asic.assertOcc_ovn (o : Occ) : (a.assertOcc o).ovn = a.ovn := rfl
@[simp] theorem Asic.assertOcc_cal (o : Occ) : (a.assertOcc o).cal = a.cal := rfl
@[simp] theorem Asic.assertOcc_apl (o : Occ) : (a.assertOcc o).apl = a.apl := rfl
@[simp] theorem Asic.assertOcc_out (o : Occ) : (a.assertOcc o).out = a.out := rfl
@[simp] theorem Asic.assertOcc_tsc (o : Occ) : (a.assertOcc o).tsc = a.tsc := rfl
@[simp] theorem Asic.assertOcc_evt (o : Occ) : (a.assertOcc o).evt = a.evt := rfl
@[simp] theorem Asic.assertOcc_prt (o : Occ) : (a.assertOcc o).prt = a.prt := rfl
@[simp] theorem Asic.assertOcc_rly (o : Occ) : (a.assertOcc o).rly = a.rly := rfl
@[simp] theorem Asic.assertOcc_recs (o : Occ) : (a.assertOcc o).recs = a.recs := rfl
@[simp] theorem Asic.assertOcc_dma (o : Occ) : (a.assertOcc o).dma = a.dma := rfl
@[simp] theorem Asic.assertOcc_bus (o : Occ) : (a.assertOcc o).bus = a.bus := rfl
@[simp] theorem Asic.assertOcc_can (o : Occ) : (a.assertOcc o).can = a.can := rfl
@[simp] theorem Asic.assertOcc_nvc (o : Occ) : (a.assertOcc o).nvc = a.nvc := rfl
@[simp] theorem Asic.assertOcc_commits (o : Occ) : (a.assertOcc o).commits = a.commits := rfl
@[simp] theorem Asic.assertOcc_fill (o : Occ) : (a.assertOcc o).fill = a.fill := rfl
@[simp] theorem Asic.assertOcc_discards (o : Occ) : (a.assertOcc o).discards = a.discards := rfl
@[simp] theorem Asic.assertOcc_tx (o : Occ) : (a.assertOcc o).tx = a.tx := rfl
@[simp] theorem Asic.assertOcc_get (o : Occ) (f : Fld) : (a.assertOcc o).get f = a.get f := rfl
@[simp] theorem Asic.assertOcc_word (o : Occ) (w : Nat) : (a.assertOcc o).word w = a.word w := rfl
@[simp] theorem Asic.send_clk (x : Tx) : (a.send x).clk = a.clk := rfl
@[simp] theorem Asic.send_modes (x : Tx) : (a.send x).modes = a.modes := rfl
@[simp] theorem Asic.send_fw (x : Tx) : (a.send x).fw = a.fw := rfl
@[simp] theorem Asic.send_regs (x : Tx) : (a.send x).regs = a.regs := rfl
@[simp] theorem Asic.send_tv1 (x : Tx) : (a.send x).tv1 = a.tv1 := rfl
@[simp] theorem Asic.send_tv2 (x : Tx) : (a.send x).tv2 = a.tv2 := rfl
@[simp] theorem Asic.send_parity (x : Tx) : (a.send x).parity = a.parity := rfl
@[simp] theorem Asic.send_deferred (x : Tx) : (a.send x).deferred = a.deferred := rfl
@[simp] theorem Asic.send_ref (x : Tx) : (a.send x).ref = a.ref := rfl
@[simp] theorem Asic.send_ump (x : Tx) : (a.send x).ump = a.ump := rfl
@[simp] theorem Asic.send_ldg (x : Tx) : (a.send x).ldg = a.ldg := rfl
@[simp] theorem Asic.send_dpl (x : Tx) : (a.send x).dpl = a.dpl := rfl
@[simp] theorem Asic.send_ovn (x : Tx) : (a.send x).ovn = a.ovn := rfl
@[simp] theorem Asic.send_cal (x : Tx) : (a.send x).cal = a.cal := rfl
@[simp] theorem Asic.send_apl (x : Tx) : (a.send x).apl = a.apl := rfl
@[simp] theorem Asic.send_out (x : Tx) : (a.send x).out = a.out := rfl
@[simp] theorem Asic.send_tsc (x : Tx) : (a.send x).tsc = a.tsc := rfl
@[simp] theorem Asic.send_evt (x : Tx) : (a.send x).evt = a.evt := rfl
@[simp] theorem Asic.send_prt (x : Tx) : (a.send x).prt = a.prt := rfl
@[simp] theorem Asic.send_rly (x : Tx) : (a.send x).rly = a.rly := rfl
@[simp] theorem Asic.send_recs (x : Tx) : (a.send x).recs = a.recs := rfl
@[simp] theorem Asic.send_dma (x : Tx) : (a.send x).dma = a.dma := rfl
@[simp] theorem Asic.send_bus (x : Tx) : (a.send x).bus = a.bus := rfl
@[simp] theorem Asic.send_can (x : Tx) : (a.send x).can = a.can := rfl
@[simp] theorem Asic.send_flt (x : Tx) : (a.send x).flt = a.flt := rfl
@[simp] theorem Asic.send_nvc (x : Tx) : (a.send x).nvc = a.nvc := rfl
@[simp] theorem Asic.send_commits (x : Tx) : (a.send x).commits = a.commits := rfl
@[simp] theorem Asic.send_fill (x : Tx) : (a.send x).fill = a.fill := rfl
@[simp] theorem Asic.send_discards (x : Tx) : (a.send x).discards = a.discards := rfl
@[simp] theorem Asic.send_get (x : Tx) (f : Fld) : (a.send x).get f = a.get f := rfl
@[simp] theorem Asic.send_word (x : Tx) (w : Nat) : (a.send x).word w = a.word w := rfl
@[simp] theorem Asic.askCommit_clk (c : Commit) : (a.askCommit c).clk = a.clk := rfl
@[simp] theorem Asic.askCommit_modes (c : Commit) : (a.askCommit c).modes = a.modes := rfl
@[simp] theorem Asic.askCommit_fw (c : Commit) : (a.askCommit c).fw = a.fw := rfl
@[simp] theorem Asic.askCommit_regs (c : Commit) : (a.askCommit c).regs = a.regs := rfl
@[simp] theorem Asic.askCommit_tv1 (c : Commit) : (a.askCommit c).tv1 = a.tv1 := rfl
@[simp] theorem Asic.askCommit_tv2 (c : Commit) : (a.askCommit c).tv2 = a.tv2 := rfl
@[simp] theorem Asic.askCommit_parity (c : Commit) : (a.askCommit c).parity = a.parity := rfl
@[simp] theorem Asic.askCommit_deferred (c : Commit) : (a.askCommit c).deferred = a.deferred := rfl
@[simp] theorem Asic.askCommit_ref (c : Commit) : (a.askCommit c).ref = a.ref := rfl
@[simp] theorem Asic.askCommit_ump (c : Commit) : (a.askCommit c).ump = a.ump := rfl
@[simp] theorem Asic.askCommit_ldg (c : Commit) : (a.askCommit c).ldg = a.ldg := rfl
@[simp] theorem Asic.askCommit_dpl (c : Commit) : (a.askCommit c).dpl = a.dpl := rfl
@[simp] theorem Asic.askCommit_ovn (c : Commit) : (a.askCommit c).ovn = a.ovn := rfl
@[simp] theorem Asic.askCommit_cal (c : Commit) : (a.askCommit c).cal = a.cal := rfl
@[simp] theorem Asic.askCommit_apl (c : Commit) : (a.askCommit c).apl = a.apl := rfl
@[simp] theorem Asic.askCommit_out (c : Commit) : (a.askCommit c).out = a.out := rfl
@[simp] theorem Asic.askCommit_tsc (c : Commit) : (a.askCommit c).tsc = a.tsc := rfl
@[simp] theorem Asic.askCommit_evt (c : Commit) : (a.askCommit c).evt = a.evt := rfl
@[simp] theorem Asic.askCommit_prt (c : Commit) : (a.askCommit c).prt = a.prt := rfl
@[simp] theorem Asic.askCommit_rly (c : Commit) : (a.askCommit c).rly = a.rly := rfl
@[simp] theorem Asic.askCommit_recs (c : Commit) : (a.askCommit c).recs = a.recs := rfl
@[simp] theorem Asic.askCommit_dma (c : Commit) : (a.askCommit c).dma = a.dma := rfl
@[simp] theorem Asic.askCommit_bus (c : Commit) : (a.askCommit c).bus = a.bus := rfl
@[simp] theorem Asic.askCommit_can (c : Commit) : (a.askCommit c).can = a.can := rfl
@[simp] theorem Asic.askCommit_flt (c : Commit) : (a.askCommit c).flt = a.flt := rfl
@[simp] theorem Asic.askCommit_nvc (c : Commit) : (a.askCommit c).nvc = a.nvc := rfl
@[simp] theorem Asic.askCommit_fill (c : Commit) : (a.askCommit c).fill = a.fill := rfl
@[simp] theorem Asic.askCommit_discards (c : Commit) : (a.askCommit c).discards = a.discards := rfl
@[simp] theorem Asic.askCommit_tx (c : Commit) : (a.askCommit c).tx = a.tx := rfl
@[simp] theorem Asic.askCommit_get (c : Commit) (f : Fld) : (a.askCommit c).get f = a.get f := rfl
@[simp] theorem Asic.askCommit_word (c : Commit) (w : Nat) : (a.askCommit c).word w = a.word w := rfl
@[simp] theorem Asic.setInp_clk (i : Nat) (x : RefInp) : (a.setInp i x).clk = a.clk := rfl
@[simp] theorem Asic.setInp_modes (i : Nat) (x : RefInp) : (a.setInp i x).modes = a.modes := rfl
@[simp] theorem Asic.setInp_fw (i : Nat) (x : RefInp) : (a.setInp i x).fw = a.fw := rfl
@[simp] theorem Asic.setInp_regs (i : Nat) (x : RefInp) : (a.setInp i x).regs = a.regs := rfl
@[simp] theorem Asic.setInp_tv1 (i : Nat) (x : RefInp) : (a.setInp i x).tv1 = a.tv1 := rfl
@[simp] theorem Asic.setInp_tv2 (i : Nat) (x : RefInp) : (a.setInp i x).tv2 = a.tv2 := rfl
@[simp] theorem Asic.setInp_parity (i : Nat) (x : RefInp) : (a.setInp i x).parity = a.parity := rfl
@[simp] theorem Asic.setInp_deferred (i : Nat) (x : RefInp) : (a.setInp i x).deferred = a.deferred := rfl
@[simp] theorem Asic.setInp_ump (i : Nat) (x : RefInp) : (a.setInp i x).ump = a.ump := rfl
@[simp] theorem Asic.setInp_ldg (i : Nat) (x : RefInp) : (a.setInp i x).ldg = a.ldg := rfl
@[simp] theorem Asic.setInp_dpl (i : Nat) (x : RefInp) : (a.setInp i x).dpl = a.dpl := rfl
@[simp] theorem Asic.setInp_ovn (i : Nat) (x : RefInp) : (a.setInp i x).ovn = a.ovn := rfl
@[simp] theorem Asic.setInp_cal (i : Nat) (x : RefInp) : (a.setInp i x).cal = a.cal := rfl
@[simp] theorem Asic.setInp_apl (i : Nat) (x : RefInp) : (a.setInp i x).apl = a.apl := rfl
@[simp] theorem Asic.setInp_out (i : Nat) (x : RefInp) : (a.setInp i x).out = a.out := rfl
@[simp] theorem Asic.setInp_tsc (i : Nat) (x : RefInp) : (a.setInp i x).tsc = a.tsc := rfl
@[simp] theorem Asic.setInp_evt (i : Nat) (x : RefInp) : (a.setInp i x).evt = a.evt := rfl
@[simp] theorem Asic.setInp_prt (i : Nat) (x : RefInp) : (a.setInp i x).prt = a.prt := rfl
@[simp] theorem Asic.setInp_rly (i : Nat) (x : RefInp) : (a.setInp i x).rly = a.rly := rfl
@[simp] theorem Asic.setInp_recs (i : Nat) (x : RefInp) : (a.setInp i x).recs = a.recs := rfl
@[simp] theorem Asic.setInp_dma (i : Nat) (x : RefInp) : (a.setInp i x).dma = a.dma := rfl
@[simp] theorem Asic.setInp_bus (i : Nat) (x : RefInp) : (a.setInp i x).bus = a.bus := rfl
@[simp] theorem Asic.setInp_can (i : Nat) (x : RefInp) : (a.setInp i x).can = a.can := rfl
@[simp] theorem Asic.setInp_flt (i : Nat) (x : RefInp) : (a.setInp i x).flt = a.flt := rfl
@[simp] theorem Asic.setInp_nvc (i : Nat) (x : RefInp) : (a.setInp i x).nvc = a.nvc := rfl
@[simp] theorem Asic.setInp_commits (i : Nat) (x : RefInp) : (a.setInp i x).commits = a.commits := rfl
@[simp] theorem Asic.setInp_fill (i : Nat) (x : RefInp) : (a.setInp i x).fill = a.fill := rfl
@[simp] theorem Asic.setInp_discards (i : Nat) (x : RefInp) : (a.setInp i x).discards = a.discards := rfl
@[simp] theorem Asic.setInp_tx (i : Nat) (x : RefInp) : (a.setInp i x).tx = a.tx := rfl
@[simp] theorem Asic.setInp_get (i : Nat) (x : RefInp) (f : Fld) : (a.setInp i x).get f = a.get f := rfl
@[simp] theorem Asic.setInp_word (i : Nat) (x : RefInp) (w : Nat) : (a.setInp i x).word w = a.word w := rfl
@[simp] theorem Asic.modInp_clk (i : Nat) (u : RefInp → RefInp) : (a.modInp i u).clk = a.clk := rfl
@[simp] theorem Asic.modInp_modes (i : Nat) (u : RefInp → RefInp) : (a.modInp i u).modes = a.modes := rfl
@[simp] theorem Asic.modInp_fw (i : Nat) (u : RefInp → RefInp) : (a.modInp i u).fw = a.fw := rfl
@[simp] theorem Asic.modInp_regs (i : Nat) (u : RefInp → RefInp) : (a.modInp i u).regs = a.regs := rfl
@[simp] theorem Asic.modInp_tv1 (i : Nat) (u : RefInp → RefInp) : (a.modInp i u).tv1 = a.tv1 := rfl
@[simp] theorem Asic.modInp_tv2 (i : Nat) (u : RefInp → RefInp) : (a.modInp i u).tv2 = a.tv2 := rfl
@[simp] theorem Asic.modInp_parity (i : Nat) (u : RefInp → RefInp) : (a.modInp i u).parity = a.parity := rfl
@[simp] theorem Asic.modInp_deferred (i : Nat) (u : RefInp → RefInp) : (a.modInp i u).deferred = a.deferred := rfl
@[simp] theorem Asic.modInp_ump (i : Nat) (u : RefInp → RefInp) : (a.modInp i u).ump = a.ump := rfl
@[simp] theorem Asic.modInp_ldg (i : Nat) (u : RefInp → RefInp) : (a.modInp i u).ldg = a.ldg := rfl
@[simp] theorem Asic.modInp_dpl (i : Nat) (u : RefInp → RefInp) : (a.modInp i u).dpl = a.dpl := rfl
@[simp] theorem Asic.modInp_ovn (i : Nat) (u : RefInp → RefInp) : (a.modInp i u).ovn = a.ovn := rfl
@[simp] theorem Asic.modInp_cal (i : Nat) (u : RefInp → RefInp) : (a.modInp i u).cal = a.cal := rfl
@[simp] theorem Asic.modInp_apl (i : Nat) (u : RefInp → RefInp) : (a.modInp i u).apl = a.apl := rfl
@[simp] theorem Asic.modInp_out (i : Nat) (u : RefInp → RefInp) : (a.modInp i u).out = a.out := rfl
@[simp] theorem Asic.modInp_tsc (i : Nat) (u : RefInp → RefInp) : (a.modInp i u).tsc = a.tsc := rfl
@[simp] theorem Asic.modInp_evt (i : Nat) (u : RefInp → RefInp) : (a.modInp i u).evt = a.evt := rfl
@[simp] theorem Asic.modInp_prt (i : Nat) (u : RefInp → RefInp) : (a.modInp i u).prt = a.prt := rfl
@[simp] theorem Asic.modInp_rly (i : Nat) (u : RefInp → RefInp) : (a.modInp i u).rly = a.rly := rfl
@[simp] theorem Asic.modInp_recs (i : Nat) (u : RefInp → RefInp) : (a.modInp i u).recs = a.recs := rfl
@[simp] theorem Asic.modInp_dma (i : Nat) (u : RefInp → RefInp) : (a.modInp i u).dma = a.dma := rfl
@[simp] theorem Asic.modInp_bus (i : Nat) (u : RefInp → RefInp) : (a.modInp i u).bus = a.bus := rfl
@[simp] theorem Asic.modInp_can (i : Nat) (u : RefInp → RefInp) : (a.modInp i u).can = a.can := rfl
@[simp] theorem Asic.modInp_flt (i : Nat) (u : RefInp → RefInp) : (a.modInp i u).flt = a.flt := rfl
@[simp] theorem Asic.modInp_nvc (i : Nat) (u : RefInp → RefInp) : (a.modInp i u).nvc = a.nvc := rfl
@[simp] theorem Asic.modInp_commits (i : Nat) (u : RefInp → RefInp) : (a.modInp i u).commits = a.commits := rfl
@[simp] theorem Asic.modInp_fill (i : Nat) (u : RefInp → RefInp) : (a.modInp i u).fill = a.fill := rfl
@[simp] theorem Asic.modInp_discards (i : Nat) (u : RefInp → RefInp) : (a.modInp i u).discards = a.discards := rfl
@[simp] theorem Asic.modInp_tx (i : Nat) (u : RefInp → RefInp) : (a.modInp i u).tx = a.tx := rfl
@[simp] theorem Asic.modInp_get (i : Nat) (u : RefInp → RefInp) (f : Fld) : (a.modInp i u).get f = a.get f := rfl
@[simp] theorem Asic.modInp_word (i : Nat) (u : RefInp → RefInp) (w : Nat) : (a.modInp i u).word w = a.word w := rfl
@[simp] theorem Asic.modLane_clk (i : Nat) (u : Lane → Lane) : (a.modLane i u).clk = a.clk := rfl
@[simp] theorem Asic.modLane_modes (i : Nat) (u : Lane → Lane) : (a.modLane i u).modes = a.modes := rfl
@[simp] theorem Asic.modLane_fw (i : Nat) (u : Lane → Lane) : (a.modLane i u).fw = a.fw := rfl
@[simp] theorem Asic.modLane_regs (i : Nat) (u : Lane → Lane) : (a.modLane i u).regs = a.regs := rfl
@[simp] theorem Asic.modLane_tv1 (i : Nat) (u : Lane → Lane) : (a.modLane i u).tv1 = a.tv1 := rfl
@[simp] theorem Asic.modLane_tv2 (i : Nat) (u : Lane → Lane) : (a.modLane i u).tv2 = a.tv2 := rfl
@[simp] theorem Asic.modLane_parity (i : Nat) (u : Lane → Lane) : (a.modLane i u).parity = a.parity := rfl
@[simp] theorem Asic.modLane_deferred (i : Nat) (u : Lane → Lane) : (a.modLane i u).deferred = a.deferred := rfl
@[simp] theorem Asic.modLane_ump (i : Nat) (u : Lane → Lane) : (a.modLane i u).ump = a.ump := rfl
@[simp] theorem Asic.modLane_ldg (i : Nat) (u : Lane → Lane) : (a.modLane i u).ldg = a.ldg := rfl
@[simp] theorem Asic.modLane_dpl (i : Nat) (u : Lane → Lane) : (a.modLane i u).dpl = a.dpl := rfl
@[simp] theorem Asic.modLane_ovn (i : Nat) (u : Lane → Lane) : (a.modLane i u).ovn = a.ovn := rfl
@[simp] theorem Asic.modLane_cal (i : Nat) (u : Lane → Lane) : (a.modLane i u).cal = a.cal := rfl
@[simp] theorem Asic.modLane_apl (i : Nat) (u : Lane → Lane) : (a.modLane i u).apl = a.apl := rfl
@[simp] theorem Asic.modLane_out (i : Nat) (u : Lane → Lane) : (a.modLane i u).out = a.out := rfl
@[simp] theorem Asic.modLane_tsc (i : Nat) (u : Lane → Lane) : (a.modLane i u).tsc = a.tsc := rfl
@[simp] theorem Asic.modLane_evt (i : Nat) (u : Lane → Lane) : (a.modLane i u).evt = a.evt := rfl
@[simp] theorem Asic.modLane_prt (i : Nat) (u : Lane → Lane) : (a.modLane i u).prt = a.prt := rfl
@[simp] theorem Asic.modLane_rly (i : Nat) (u : Lane → Lane) : (a.modLane i u).rly = a.rly := rfl
@[simp] theorem Asic.modLane_recs (i : Nat) (u : Lane → Lane) : (a.modLane i u).recs = a.recs := rfl
@[simp] theorem Asic.modLane_dma (i : Nat) (u : Lane → Lane) : (a.modLane i u).dma = a.dma := rfl
@[simp] theorem Asic.modLane_bus (i : Nat) (u : Lane → Lane) : (a.modLane i u).bus = a.bus := rfl
@[simp] theorem Asic.modLane_can (i : Nat) (u : Lane → Lane) : (a.modLane i u).can = a.can := rfl
@[simp] theorem Asic.modLane_flt (i : Nat) (u : Lane → Lane) : (a.modLane i u).flt = a.flt := rfl
@[simp] theorem Asic.modLane_nvc (i : Nat) (u : Lane → Lane) : (a.modLane i u).nvc = a.nvc := rfl
@[simp] theorem Asic.modLane_commits (i : Nat) (u : Lane → Lane) : (a.modLane i u).commits = a.commits := rfl
@[simp] theorem Asic.modLane_fill (i : Nat) (u : Lane → Lane) : (a.modLane i u).fill = a.fill := rfl
@[simp] theorem Asic.modLane_discards (i : Nat) (u : Lane → Lane) : (a.modLane i u).discards = a.discards := rfl
@[simp] theorem Asic.modLane_tx (i : Nat) (u : Lane → Lane) : (a.modLane i u).tx = a.tx := rfl
@[simp] theorem Asic.modLane_get (i : Nat) (u : Lane → Lane) (f : Fld) : (a.modLane i u).get f = a.get f := rfl
@[simp] theorem Asic.modLane_word (i : Nat) (u : Lane → Lane) (w : Nat) : (a.modLane i u).word w = a.word w := rfl
@[simp] theorem Asic.modLdgIdx_clk (i : Nat) (u : LdgIdx → LdgIdx) : (a.modLdgIdx i u).clk = a.clk := rfl
@[simp] theorem Asic.modLdgIdx_modes (i : Nat) (u : LdgIdx → LdgIdx) : (a.modLdgIdx i u).modes = a.modes := rfl
@[simp] theorem Asic.modLdgIdx_fw (i : Nat) (u : LdgIdx → LdgIdx) : (a.modLdgIdx i u).fw = a.fw := rfl
@[simp] theorem Asic.modLdgIdx_regs (i : Nat) (u : LdgIdx → LdgIdx) : (a.modLdgIdx i u).regs = a.regs := rfl
@[simp] theorem Asic.modLdgIdx_tv1 (i : Nat) (u : LdgIdx → LdgIdx) : (a.modLdgIdx i u).tv1 = a.tv1 := rfl
@[simp] theorem Asic.modLdgIdx_tv2 (i : Nat) (u : LdgIdx → LdgIdx) : (a.modLdgIdx i u).tv2 = a.tv2 := rfl
@[simp] theorem Asic.modLdgIdx_parity (i : Nat) (u : LdgIdx → LdgIdx) : (a.modLdgIdx i u).parity = a.parity := rfl
@[simp] theorem Asic.modLdgIdx_deferred (i : Nat) (u : LdgIdx → LdgIdx) : (a.modLdgIdx i u).deferred = a.deferred := rfl
@[simp] theorem Asic.modLdgIdx_ref (i : Nat) (u : LdgIdx → LdgIdx) : (a.modLdgIdx i u).ref = a.ref := rfl
@[simp] theorem Asic.modLdgIdx_ump (i : Nat) (u : LdgIdx → LdgIdx) : (a.modLdgIdx i u).ump = a.ump := rfl
@[simp] theorem Asic.modLdgIdx_dpl (i : Nat) (u : LdgIdx → LdgIdx) : (a.modLdgIdx i u).dpl = a.dpl := rfl
@[simp] theorem Asic.modLdgIdx_ovn (i : Nat) (u : LdgIdx → LdgIdx) : (a.modLdgIdx i u).ovn = a.ovn := rfl
@[simp] theorem Asic.modLdgIdx_cal (i : Nat) (u : LdgIdx → LdgIdx) : (a.modLdgIdx i u).cal = a.cal := rfl
@[simp] theorem Asic.modLdgIdx_apl (i : Nat) (u : LdgIdx → LdgIdx) : (a.modLdgIdx i u).apl = a.apl := rfl
@[simp] theorem Asic.modLdgIdx_out (i : Nat) (u : LdgIdx → LdgIdx) : (a.modLdgIdx i u).out = a.out := rfl
@[simp] theorem Asic.modLdgIdx_tsc (i : Nat) (u : LdgIdx → LdgIdx) : (a.modLdgIdx i u).tsc = a.tsc := rfl
@[simp] theorem Asic.modLdgIdx_evt (i : Nat) (u : LdgIdx → LdgIdx) : (a.modLdgIdx i u).evt = a.evt := rfl
@[simp] theorem Asic.modLdgIdx_prt (i : Nat) (u : LdgIdx → LdgIdx) : (a.modLdgIdx i u).prt = a.prt := rfl
@[simp] theorem Asic.modLdgIdx_rly (i : Nat) (u : LdgIdx → LdgIdx) : (a.modLdgIdx i u).rly = a.rly := rfl
@[simp] theorem Asic.modLdgIdx_recs (i : Nat) (u : LdgIdx → LdgIdx) : (a.modLdgIdx i u).recs = a.recs := rfl
@[simp] theorem Asic.modLdgIdx_dma (i : Nat) (u : LdgIdx → LdgIdx) : (a.modLdgIdx i u).dma = a.dma := rfl
@[simp] theorem Asic.modLdgIdx_bus (i : Nat) (u : LdgIdx → LdgIdx) : (a.modLdgIdx i u).bus = a.bus := rfl
@[simp] theorem Asic.modLdgIdx_can (i : Nat) (u : LdgIdx → LdgIdx) : (a.modLdgIdx i u).can = a.can := rfl
@[simp] theorem Asic.modLdgIdx_flt (i : Nat) (u : LdgIdx → LdgIdx) : (a.modLdgIdx i u).flt = a.flt := rfl
@[simp] theorem Asic.modLdgIdx_nvc (i : Nat) (u : LdgIdx → LdgIdx) : (a.modLdgIdx i u).nvc = a.nvc := rfl
@[simp] theorem Asic.modLdgIdx_commits (i : Nat) (u : LdgIdx → LdgIdx) : (a.modLdgIdx i u).commits = a.commits := rfl
@[simp] theorem Asic.modLdgIdx_fill (i : Nat) (u : LdgIdx → LdgIdx) : (a.modLdgIdx i u).fill = a.fill := rfl
@[simp] theorem Asic.modLdgIdx_discards (i : Nat) (u : LdgIdx → LdgIdx) : (a.modLdgIdx i u).discards = a.discards := rfl
@[simp] theorem Asic.modLdgIdx_tx (i : Nat) (u : LdgIdx → LdgIdx) : (a.modLdgIdx i u).tx = a.tx := rfl
@[simp] theorem Asic.modLdgIdx_get (i : Nat) (u : LdgIdx → LdgIdx) (f : Fld) : (a.modLdgIdx i u).get f = a.get f := rfl
@[simp] theorem Asic.modLdgIdx_word (i : Nat) (u : LdgIdx → LdgIdx) (w : Nat) : (a.modLdgIdx i u).word w = a.word w := rfl
@[simp] theorem Asic.modUi_clk (i : Nat) (u : UmpIdx → UmpIdx) : (a.modUi i u).clk = a.clk := rfl
@[simp] theorem Asic.modUi_modes (i : Nat) (u : UmpIdx → UmpIdx) : (a.modUi i u).modes = a.modes := rfl
@[simp] theorem Asic.modUi_fw (i : Nat) (u : UmpIdx → UmpIdx) : (a.modUi i u).fw = a.fw := rfl
@[simp] theorem Asic.modUi_regs (i : Nat) (u : UmpIdx → UmpIdx) : (a.modUi i u).regs = a.regs := rfl
@[simp] theorem Asic.modUi_tv1 (i : Nat) (u : UmpIdx → UmpIdx) : (a.modUi i u).tv1 = a.tv1 := rfl
@[simp] theorem Asic.modUi_tv2 (i : Nat) (u : UmpIdx → UmpIdx) : (a.modUi i u).tv2 = a.tv2 := rfl
@[simp] theorem Asic.modUi_parity (i : Nat) (u : UmpIdx → UmpIdx) : (a.modUi i u).parity = a.parity := rfl
@[simp] theorem Asic.modUi_deferred (i : Nat) (u : UmpIdx → UmpIdx) : (a.modUi i u).deferred = a.deferred := rfl
@[simp] theorem Asic.modUi_ref (i : Nat) (u : UmpIdx → UmpIdx) : (a.modUi i u).ref = a.ref := rfl
@[simp] theorem Asic.modUi_ldg (i : Nat) (u : UmpIdx → UmpIdx) : (a.modUi i u).ldg = a.ldg := rfl
@[simp] theorem Asic.modUi_dpl (i : Nat) (u : UmpIdx → UmpIdx) : (a.modUi i u).dpl = a.dpl := rfl
@[simp] theorem Asic.modUi_ovn (i : Nat) (u : UmpIdx → UmpIdx) : (a.modUi i u).ovn = a.ovn := rfl
@[simp] theorem Asic.modUi_cal (i : Nat) (u : UmpIdx → UmpIdx) : (a.modUi i u).cal = a.cal := rfl
@[simp] theorem Asic.modUi_apl (i : Nat) (u : UmpIdx → UmpIdx) : (a.modUi i u).apl = a.apl := rfl
@[simp] theorem Asic.modUi_out (i : Nat) (u : UmpIdx → UmpIdx) : (a.modUi i u).out = a.out := rfl
@[simp] theorem Asic.modUi_tsc (i : Nat) (u : UmpIdx → UmpIdx) : (a.modUi i u).tsc = a.tsc := rfl
@[simp] theorem Asic.modUi_evt (i : Nat) (u : UmpIdx → UmpIdx) : (a.modUi i u).evt = a.evt := rfl
@[simp] theorem Asic.modUi_prt (i : Nat) (u : UmpIdx → UmpIdx) : (a.modUi i u).prt = a.prt := rfl
@[simp] theorem Asic.modUi_rly (i : Nat) (u : UmpIdx → UmpIdx) : (a.modUi i u).rly = a.rly := rfl
@[simp] theorem Asic.modUi_recs (i : Nat) (u : UmpIdx → UmpIdx) : (a.modUi i u).recs = a.recs := rfl
@[simp] theorem Asic.modUi_dma (i : Nat) (u : UmpIdx → UmpIdx) : (a.modUi i u).dma = a.dma := rfl
@[simp] theorem Asic.modUi_bus (i : Nat) (u : UmpIdx → UmpIdx) : (a.modUi i u).bus = a.bus := rfl
@[simp] theorem Asic.modUi_can (i : Nat) (u : UmpIdx → UmpIdx) : (a.modUi i u).can = a.can := rfl
@[simp] theorem Asic.modUi_flt (i : Nat) (u : UmpIdx → UmpIdx) : (a.modUi i u).flt = a.flt := rfl
@[simp] theorem Asic.modUi_nvc (i : Nat) (u : UmpIdx → UmpIdx) : (a.modUi i u).nvc = a.nvc := rfl
@[simp] theorem Asic.modUi_commits (i : Nat) (u : UmpIdx → UmpIdx) : (a.modUi i u).commits = a.commits := rfl
@[simp] theorem Asic.modUi_fill (i : Nat) (u : UmpIdx → UmpIdx) : (a.modUi i u).fill = a.fill := rfl
@[simp] theorem Asic.modUi_discards (i : Nat) (u : UmpIdx → UmpIdx) : (a.modUi i u).discards = a.discards := rfl
@[simp] theorem Asic.modUi_tx (i : Nat) (u : UmpIdx → UmpIdx) : (a.modUi i u).tx = a.tx := rfl
@[simp] theorem Asic.modUi_get (i : Nat) (u : UmpIdx → UmpIdx) (f : Fld) : (a.modUi i u).get f = a.get f := rfl
@[simp] theorem Asic.modUi_word (i : Nat) (u : UmpIdx → UmpIdx) (w : Nat) : (a.modUi i u).word w = a.word w := rfl
@[simp] theorem Asic.modUc_clk (i : Nat) (u : UmpCh → UmpCh) : (a.modUc i u).clk = a.clk := rfl
@[simp] theorem Asic.modUc_modes (i : Nat) (u : UmpCh → UmpCh) : (a.modUc i u).modes = a.modes := rfl
@[simp] theorem Asic.modUc_fw (i : Nat) (u : UmpCh → UmpCh) : (a.modUc i u).fw = a.fw := rfl
@[simp] theorem Asic.modUc_regs (i : Nat) (u : UmpCh → UmpCh) : (a.modUc i u).regs = a.regs := rfl
@[simp] theorem Asic.modUc_tv1 (i : Nat) (u : UmpCh → UmpCh) : (a.modUc i u).tv1 = a.tv1 := rfl
@[simp] theorem Asic.modUc_tv2 (i : Nat) (u : UmpCh → UmpCh) : (a.modUc i u).tv2 = a.tv2 := rfl
@[simp] theorem Asic.modUc_parity (i : Nat) (u : UmpCh → UmpCh) : (a.modUc i u).parity = a.parity := rfl
@[simp] theorem Asic.modUc_deferred (i : Nat) (u : UmpCh → UmpCh) : (a.modUc i u).deferred = a.deferred := rfl
@[simp] theorem Asic.modUc_ref (i : Nat) (u : UmpCh → UmpCh) : (a.modUc i u).ref = a.ref := rfl
@[simp] theorem Asic.modUc_ldg (i : Nat) (u : UmpCh → UmpCh) : (a.modUc i u).ldg = a.ldg := rfl
@[simp] theorem Asic.modUc_dpl (i : Nat) (u : UmpCh → UmpCh) : (a.modUc i u).dpl = a.dpl := rfl
@[simp] theorem Asic.modUc_ovn (i : Nat) (u : UmpCh → UmpCh) : (a.modUc i u).ovn = a.ovn := rfl
@[simp] theorem Asic.modUc_cal (i : Nat) (u : UmpCh → UmpCh) : (a.modUc i u).cal = a.cal := rfl
@[simp] theorem Asic.modUc_apl (i : Nat) (u : UmpCh → UmpCh) : (a.modUc i u).apl = a.apl := rfl
@[simp] theorem Asic.modUc_out (i : Nat) (u : UmpCh → UmpCh) : (a.modUc i u).out = a.out := rfl
@[simp] theorem Asic.modUc_tsc (i : Nat) (u : UmpCh → UmpCh) : (a.modUc i u).tsc = a.tsc := rfl
@[simp] theorem Asic.modUc_evt (i : Nat) (u : UmpCh → UmpCh) : (a.modUc i u).evt = a.evt := rfl
@[simp] theorem Asic.modUc_prt (i : Nat) (u : UmpCh → UmpCh) : (a.modUc i u).prt = a.prt := rfl
@[simp] theorem Asic.modUc_rly (i : Nat) (u : UmpCh → UmpCh) : (a.modUc i u).rly = a.rly := rfl
@[simp] theorem Asic.modUc_recs (i : Nat) (u : UmpCh → UmpCh) : (a.modUc i u).recs = a.recs := rfl
@[simp] theorem Asic.modUc_dma (i : Nat) (u : UmpCh → UmpCh) : (a.modUc i u).dma = a.dma := rfl
@[simp] theorem Asic.modUc_bus (i : Nat) (u : UmpCh → UmpCh) : (a.modUc i u).bus = a.bus := rfl
@[simp] theorem Asic.modUc_can (i : Nat) (u : UmpCh → UmpCh) : (a.modUc i u).can = a.can := rfl
@[simp] theorem Asic.modUc_flt (i : Nat) (u : UmpCh → UmpCh) : (a.modUc i u).flt = a.flt := rfl
@[simp] theorem Asic.modUc_nvc (i : Nat) (u : UmpCh → UmpCh) : (a.modUc i u).nvc = a.nvc := rfl
@[simp] theorem Asic.modUc_commits (i : Nat) (u : UmpCh → UmpCh) : (a.modUc i u).commits = a.commits := rfl
@[simp] theorem Asic.modUc_fill (i : Nat) (u : UmpCh → UmpCh) : (a.modUc i u).fill = a.fill := rfl
@[simp] theorem Asic.modUc_discards (i : Nat) (u : UmpCh → UmpCh) : (a.modUc i u).discards = a.discards := rfl
@[simp] theorem Asic.modUc_tx (i : Nat) (u : UmpCh → UmpCh) : (a.modUc i u).tx = a.tx := rfl
@[simp] theorem Asic.modUc_get (i : Nat) (u : UmpCh → UmpCh) (f : Fld) : (a.modUc i u).get f = a.get f := rfl
@[simp] theorem Asic.modUc_word (i : Nat) (u : UmpCh → UmpCh) (w : Nat) : (a.modUc i u).word w = a.word w := rfl
@[simp] theorem Asic.setChan_clk (c : Nat) (x : Dpl) : (a.setChan c x).clk = a.clk := rfl
@[simp] theorem Asic.setChan_modes (c : Nat) (x : Dpl) : (a.setChan c x).modes = a.modes := rfl
@[simp] theorem Asic.setChan_fw (c : Nat) (x : Dpl) : (a.setChan c x).fw = a.fw := rfl
@[simp] theorem Asic.setChan_regs (c : Nat) (x : Dpl) : (a.setChan c x).regs = a.regs := rfl
@[simp] theorem Asic.setChan_tv1 (c : Nat) (x : Dpl) : (a.setChan c x).tv1 = a.tv1 := rfl
@[simp] theorem Asic.setChan_tv2 (c : Nat) (x : Dpl) : (a.setChan c x).tv2 = a.tv2 := rfl
@[simp] theorem Asic.setChan_parity (c : Nat) (x : Dpl) : (a.setChan c x).parity = a.parity := rfl
@[simp] theorem Asic.setChan_deferred (c : Nat) (x : Dpl) : (a.setChan c x).deferred = a.deferred := rfl
@[simp] theorem Asic.setChan_ref (c : Nat) (x : Dpl) : (a.setChan c x).ref = a.ref := rfl
@[simp] theorem Asic.setChan_ump (c : Nat) (x : Dpl) : (a.setChan c x).ump = a.ump := rfl
@[simp] theorem Asic.setChan_ldg (c : Nat) (x : Dpl) : (a.setChan c x).ldg = a.ldg := rfl
@[simp] theorem Asic.setChan_ovn (c : Nat) (x : Dpl) : (a.setChan c x).ovn = a.ovn := rfl
@[simp] theorem Asic.setChan_cal (c : Nat) (x : Dpl) : (a.setChan c x).cal = a.cal := rfl
@[simp] theorem Asic.setChan_apl (c : Nat) (x : Dpl) : (a.setChan c x).apl = a.apl := rfl
@[simp] theorem Asic.setChan_out (c : Nat) (x : Dpl) : (a.setChan c x).out = a.out := rfl
@[simp] theorem Asic.setChan_tsc (c : Nat) (x : Dpl) : (a.setChan c x).tsc = a.tsc := rfl
@[simp] theorem Asic.setChan_evt (c : Nat) (x : Dpl) : (a.setChan c x).evt = a.evt := rfl
@[simp] theorem Asic.setChan_prt (c : Nat) (x : Dpl) : (a.setChan c x).prt = a.prt := rfl
@[simp] theorem Asic.setChan_rly (c : Nat) (x : Dpl) : (a.setChan c x).rly = a.rly := rfl
@[simp] theorem Asic.setChan_recs (c : Nat) (x : Dpl) : (a.setChan c x).recs = a.recs := rfl
@[simp] theorem Asic.setChan_dma (c : Nat) (x : Dpl) : (a.setChan c x).dma = a.dma := rfl
@[simp] theorem Asic.setChan_bus (c : Nat) (x : Dpl) : (a.setChan c x).bus = a.bus := rfl
@[simp] theorem Asic.setChan_can (c : Nat) (x : Dpl) : (a.setChan c x).can = a.can := rfl
@[simp] theorem Asic.setChan_flt (c : Nat) (x : Dpl) : (a.setChan c x).flt = a.flt := rfl
@[simp] theorem Asic.setChan_nvc (c : Nat) (x : Dpl) : (a.setChan c x).nvc = a.nvc := rfl
@[simp] theorem Asic.setChan_commits (c : Nat) (x : Dpl) : (a.setChan c x).commits = a.commits := rfl
@[simp] theorem Asic.setChan_fill (c : Nat) (x : Dpl) : (a.setChan c x).fill = a.fill := rfl
@[simp] theorem Asic.setChan_discards (c : Nat) (x : Dpl) : (a.setChan c x).discards = a.discards := rfl
@[simp] theorem Asic.setChan_tx (c : Nat) (x : Dpl) : (a.setChan c x).tx = a.tx := rfl
@[simp] theorem Asic.setChan_get (c : Nat) (x : Dpl) (f : Fld) : (a.setChan c x).get f = a.get f := rfl
@[simp] theorem Asic.setChan_word (c : Nat) (x : Dpl) (w : Nat) : (a.setChan c x).word w = a.word w := rfl
@[simp] theorem Asic.modChan_clk (c : Nat) (u : Dpl → Dpl) : (a.modChan c u).clk = a.clk := rfl
@[simp] theorem Asic.modChan_modes (c : Nat) (u : Dpl → Dpl) : (a.modChan c u).modes = a.modes := rfl
@[simp] theorem Asic.modChan_fw (c : Nat) (u : Dpl → Dpl) : (a.modChan c u).fw = a.fw := rfl
@[simp] theorem Asic.modChan_regs (c : Nat) (u : Dpl → Dpl) : (a.modChan c u).regs = a.regs := rfl
@[simp] theorem Asic.modChan_tv1 (c : Nat) (u : Dpl → Dpl) : (a.modChan c u).tv1 = a.tv1 := rfl
@[simp] theorem Asic.modChan_tv2 (c : Nat) (u : Dpl → Dpl) : (a.modChan c u).tv2 = a.tv2 := rfl
@[simp] theorem Asic.modChan_parity (c : Nat) (u : Dpl → Dpl) : (a.modChan c u).parity = a.parity := rfl
@[simp] theorem Asic.modChan_deferred (c : Nat) (u : Dpl → Dpl) : (a.modChan c u).deferred = a.deferred := rfl
@[simp] theorem Asic.modChan_ref (c : Nat) (u : Dpl → Dpl) : (a.modChan c u).ref = a.ref := rfl
@[simp] theorem Asic.modChan_ump (c : Nat) (u : Dpl → Dpl) : (a.modChan c u).ump = a.ump := rfl
@[simp] theorem Asic.modChan_ldg (c : Nat) (u : Dpl → Dpl) : (a.modChan c u).ldg = a.ldg := rfl
@[simp] theorem Asic.modChan_ovn (c : Nat) (u : Dpl → Dpl) : (a.modChan c u).ovn = a.ovn := rfl
@[simp] theorem Asic.modChan_cal (c : Nat) (u : Dpl → Dpl) : (a.modChan c u).cal = a.cal := rfl
@[simp] theorem Asic.modChan_apl (c : Nat) (u : Dpl → Dpl) : (a.modChan c u).apl = a.apl := rfl
@[simp] theorem Asic.modChan_out (c : Nat) (u : Dpl → Dpl) : (a.modChan c u).out = a.out := rfl
@[simp] theorem Asic.modChan_tsc (c : Nat) (u : Dpl → Dpl) : (a.modChan c u).tsc = a.tsc := rfl
@[simp] theorem Asic.modChan_evt (c : Nat) (u : Dpl → Dpl) : (a.modChan c u).evt = a.evt := rfl
@[simp] theorem Asic.modChan_prt (c : Nat) (u : Dpl → Dpl) : (a.modChan c u).prt = a.prt := rfl
@[simp] theorem Asic.modChan_rly (c : Nat) (u : Dpl → Dpl) : (a.modChan c u).rly = a.rly := rfl
@[simp] theorem Asic.modChan_recs (c : Nat) (u : Dpl → Dpl) : (a.modChan c u).recs = a.recs := rfl
@[simp] theorem Asic.modChan_dma (c : Nat) (u : Dpl → Dpl) : (a.modChan c u).dma = a.dma := rfl
@[simp] theorem Asic.modChan_bus (c : Nat) (u : Dpl → Dpl) : (a.modChan c u).bus = a.bus := rfl
@[simp] theorem Asic.modChan_can (c : Nat) (u : Dpl → Dpl) : (a.modChan c u).can = a.can := rfl
@[simp] theorem Asic.modChan_flt (c : Nat) (u : Dpl → Dpl) : (a.modChan c u).flt = a.flt := rfl
@[simp] theorem Asic.modChan_nvc (c : Nat) (u : Dpl → Dpl) : (a.modChan c u).nvc = a.nvc := rfl
@[simp] theorem Asic.modChan_commits (c : Nat) (u : Dpl → Dpl) : (a.modChan c u).commits = a.commits := rfl
@[simp] theorem Asic.modChan_fill (c : Nat) (u : Dpl → Dpl) : (a.modChan c u).fill = a.fill := rfl
@[simp] theorem Asic.modChan_discards (c : Nat) (u : Dpl → Dpl) : (a.modChan c u).discards = a.discards := rfl
@[simp] theorem Asic.modChan_tx (c : Nat) (u : Dpl → Dpl) : (a.modChan c u).tx = a.tx := rfl
@[simp] theorem Asic.modChan_get (c : Nat) (u : Dpl → Dpl) (f : Fld) : (a.modChan c u).get f = a.get f := rfl
@[simp] theorem Asic.modChan_word (c : Nat) (u : Dpl → Dpl) (w : Nat) : (a.modChan c u).word w = a.word w := rfl
@[simp] theorem Asic.modOven_clk (i : Nat) (u : Oven → Oven) : (a.modOven i u).clk = a.clk := rfl
@[simp] theorem Asic.modOven_modes (i : Nat) (u : Oven → Oven) : (a.modOven i u).modes = a.modes := rfl
@[simp] theorem Asic.modOven_fw (i : Nat) (u : Oven → Oven) : (a.modOven i u).fw = a.fw := rfl
@[simp] theorem Asic.modOven_regs (i : Nat) (u : Oven → Oven) : (a.modOven i u).regs = a.regs := rfl
@[simp] theorem Asic.modOven_tv1 (i : Nat) (u : Oven → Oven) : (a.modOven i u).tv1 = a.tv1 := rfl
@[simp] theorem Asic.modOven_tv2 (i : Nat) (u : Oven → Oven) : (a.modOven i u).tv2 = a.tv2 := rfl
@[simp] theorem Asic.modOven_parity (i : Nat) (u : Oven → Oven) : (a.modOven i u).parity = a.parity := rfl
@[simp] theorem Asic.modOven_deferred (i : Nat) (u : Oven → Oven) : (a.modOven i u).deferred = a.deferred := rfl
@[simp] theorem Asic.modOven_ref (i : Nat) (u : Oven → Oven) : (a.modOven i u).ref = a.ref := rfl
@[simp] theorem Asic.modOven_ump (i : Nat) (u : Oven → Oven) : (a.modOven i u).ump = a.ump := rfl
@[simp] theorem Asic.modOven_ldg (i : Nat) (u : Oven → Oven) : (a.modOven i u).ldg = a.ldg := rfl
@[simp] theorem Asic.modOven_dpl (i : Nat) (u : Oven → Oven) : (a.modOven i u).dpl = a.dpl := rfl
@[simp] theorem Asic.modOven_cal (i : Nat) (u : Oven → Oven) : (a.modOven i u).cal = a.cal := rfl
@[simp] theorem Asic.modOven_apl (i : Nat) (u : Oven → Oven) : (a.modOven i u).apl = a.apl := rfl
@[simp] theorem Asic.modOven_out (i : Nat) (u : Oven → Oven) : (a.modOven i u).out = a.out := rfl
@[simp] theorem Asic.modOven_tsc (i : Nat) (u : Oven → Oven) : (a.modOven i u).tsc = a.tsc := rfl
@[simp] theorem Asic.modOven_evt (i : Nat) (u : Oven → Oven) : (a.modOven i u).evt = a.evt := rfl
@[simp] theorem Asic.modOven_prt (i : Nat) (u : Oven → Oven) : (a.modOven i u).prt = a.prt := rfl
@[simp] theorem Asic.modOven_rly (i : Nat) (u : Oven → Oven) : (a.modOven i u).rly = a.rly := rfl
@[simp] theorem Asic.modOven_recs (i : Nat) (u : Oven → Oven) : (a.modOven i u).recs = a.recs := rfl
@[simp] theorem Asic.modOven_dma (i : Nat) (u : Oven → Oven) : (a.modOven i u).dma = a.dma := rfl
@[simp] theorem Asic.modOven_bus (i : Nat) (u : Oven → Oven) : (a.modOven i u).bus = a.bus := rfl
@[simp] theorem Asic.modOven_can (i : Nat) (u : Oven → Oven) : (a.modOven i u).can = a.can := rfl
@[simp] theorem Asic.modOven_flt (i : Nat) (u : Oven → Oven) : (a.modOven i u).flt = a.flt := rfl
@[simp] theorem Asic.modOven_nvc (i : Nat) (u : Oven → Oven) : (a.modOven i u).nvc = a.nvc := rfl
@[simp] theorem Asic.modOven_commits (i : Nat) (u : Oven → Oven) : (a.modOven i u).commits = a.commits := rfl
@[simp] theorem Asic.modOven_fill (i : Nat) (u : Oven → Oven) : (a.modOven i u).fill = a.fill := rfl
@[simp] theorem Asic.modOven_discards (i : Nat) (u : Oven → Oven) : (a.modOven i u).discards = a.discards := rfl
@[simp] theorem Asic.modOven_tx (i : Nat) (u : Oven → Oven) : (a.modOven i u).tx = a.tx := rfl
@[simp] theorem Asic.modOven_get (i : Nat) (u : Oven → Oven) (f : Fld) : (a.modOven i u).get f = a.get f := rfl
@[simp] theorem Asic.modOven_word (i : Nat) (u : Oven → Oven) (w : Nat) : (a.modOven i u).word w = a.word w := rfl
@[simp] theorem Asic.modAu_clk (i : Nat) (u : AplUnit → AplUnit) : (a.modAu i u).clk = a.clk := rfl
@[simp] theorem Asic.modAu_modes (i : Nat) (u : AplUnit → AplUnit) : (a.modAu i u).modes = a.modes := rfl
@[simp] theorem Asic.modAu_fw (i : Nat) (u : AplUnit → AplUnit) : (a.modAu i u).fw = a.fw := rfl
@[simp] theorem Asic.modAu_regs (i : Nat) (u : AplUnit → AplUnit) : (a.modAu i u).regs = a.regs := rfl
@[simp] theorem Asic.modAu_tv1 (i : Nat) (u : AplUnit → AplUnit) : (a.modAu i u).tv1 = a.tv1 := rfl
@[simp] theorem Asic.modAu_tv2 (i : Nat) (u : AplUnit → AplUnit) : (a.modAu i u).tv2 = a.tv2 := rfl
@[simp] theorem Asic.modAu_parity (i : Nat) (u : AplUnit → AplUnit) : (a.modAu i u).parity = a.parity := rfl
@[simp] theorem Asic.modAu_deferred (i : Nat) (u : AplUnit → AplUnit) : (a.modAu i u).deferred = a.deferred := rfl
@[simp] theorem Asic.modAu_ref (i : Nat) (u : AplUnit → AplUnit) : (a.modAu i u).ref = a.ref := rfl
@[simp] theorem Asic.modAu_ump (i : Nat) (u : AplUnit → AplUnit) : (a.modAu i u).ump = a.ump := rfl
@[simp] theorem Asic.modAu_ldg (i : Nat) (u : AplUnit → AplUnit) : (a.modAu i u).ldg = a.ldg := rfl
@[simp] theorem Asic.modAu_dpl (i : Nat) (u : AplUnit → AplUnit) : (a.modAu i u).dpl = a.dpl := rfl
@[simp] theorem Asic.modAu_ovn (i : Nat) (u : AplUnit → AplUnit) : (a.modAu i u).ovn = a.ovn := rfl
@[simp] theorem Asic.modAu_cal (i : Nat) (u : AplUnit → AplUnit) : (a.modAu i u).cal = a.cal := rfl
@[simp] theorem Asic.modAu_out (i : Nat) (u : AplUnit → AplUnit) : (a.modAu i u).out = a.out := rfl
@[simp] theorem Asic.modAu_tsc (i : Nat) (u : AplUnit → AplUnit) : (a.modAu i u).tsc = a.tsc := rfl
@[simp] theorem Asic.modAu_evt (i : Nat) (u : AplUnit → AplUnit) : (a.modAu i u).evt = a.evt := rfl
@[simp] theorem Asic.modAu_prt (i : Nat) (u : AplUnit → AplUnit) : (a.modAu i u).prt = a.prt := rfl
@[simp] theorem Asic.modAu_rly (i : Nat) (u : AplUnit → AplUnit) : (a.modAu i u).rly = a.rly := rfl
@[simp] theorem Asic.modAu_recs (i : Nat) (u : AplUnit → AplUnit) : (a.modAu i u).recs = a.recs := rfl
@[simp] theorem Asic.modAu_dma (i : Nat) (u : AplUnit → AplUnit) : (a.modAu i u).dma = a.dma := rfl
@[simp] theorem Asic.modAu_bus (i : Nat) (u : AplUnit → AplUnit) : (a.modAu i u).bus = a.bus := rfl
@[simp] theorem Asic.modAu_can (i : Nat) (u : AplUnit → AplUnit) : (a.modAu i u).can = a.can := rfl
@[simp] theorem Asic.modAu_flt (i : Nat) (u : AplUnit → AplUnit) : (a.modAu i u).flt = a.flt := rfl
@[simp] theorem Asic.modAu_nvc (i : Nat) (u : AplUnit → AplUnit) : (a.modAu i u).nvc = a.nvc := rfl
@[simp] theorem Asic.modAu_commits (i : Nat) (u : AplUnit → AplUnit) : (a.modAu i u).commits = a.commits := rfl
@[simp] theorem Asic.modAu_fill (i : Nat) (u : AplUnit → AplUnit) : (a.modAu i u).fill = a.fill := rfl
@[simp] theorem Asic.modAu_discards (i : Nat) (u : AplUnit → AplUnit) : (a.modAu i u).discards = a.discards := rfl
@[simp] theorem Asic.modAu_tx (i : Nat) (u : AplUnit → AplUnit) : (a.modAu i u).tx = a.tx := rfl
@[simp] theorem Asic.modAu_get (i : Nat) (u : AplUnit → AplUnit) (f : Fld) : (a.modAu i u).get f = a.get f := rfl
@[simp] theorem Asic.modAu_word (i : Nat) (u : AplUnit → AplUnit) (w : Nat) : (a.modAu i u).word w = a.word w := rfl
@[simp] theorem Asic.modO_clk (i : Nat) (u : Out → Out) : (a.modO i u).clk = a.clk := rfl
@[simp] theorem Asic.modO_modes (i : Nat) (u : Out → Out) : (a.modO i u).modes = a.modes := rfl
@[simp] theorem Asic.modO_fw (i : Nat) (u : Out → Out) : (a.modO i u).fw = a.fw := rfl
@[simp] theorem Asic.modO_regs (i : Nat) (u : Out → Out) : (a.modO i u).regs = a.regs := rfl
@[simp] theorem Asic.modO_tv1 (i : Nat) (u : Out → Out) : (a.modO i u).tv1 = a.tv1 := rfl
@[simp] theorem Asic.modO_tv2 (i : Nat) (u : Out → Out) : (a.modO i u).tv2 = a.tv2 := rfl
@[simp] theorem Asic.modO_parity (i : Nat) (u : Out → Out) : (a.modO i u).parity = a.parity := rfl
@[simp] theorem Asic.modO_deferred (i : Nat) (u : Out → Out) : (a.modO i u).deferred = a.deferred := rfl
@[simp] theorem Asic.modO_ref (i : Nat) (u : Out → Out) : (a.modO i u).ref = a.ref := rfl
@[simp] theorem Asic.modO_ump (i : Nat) (u : Out → Out) : (a.modO i u).ump = a.ump := rfl
@[simp] theorem Asic.modO_ldg (i : Nat) (u : Out → Out) : (a.modO i u).ldg = a.ldg := rfl
@[simp] theorem Asic.modO_dpl (i : Nat) (u : Out → Out) : (a.modO i u).dpl = a.dpl := rfl
@[simp] theorem Asic.modO_ovn (i : Nat) (u : Out → Out) : (a.modO i u).ovn = a.ovn := rfl
@[simp] theorem Asic.modO_cal (i : Nat) (u : Out → Out) : (a.modO i u).cal = a.cal := rfl
@[simp] theorem Asic.modO_apl (i : Nat) (u : Out → Out) : (a.modO i u).apl = a.apl := rfl
@[simp] theorem Asic.modO_tsc (i : Nat) (u : Out → Out) : (a.modO i u).tsc = a.tsc := rfl
@[simp] theorem Asic.modO_evt (i : Nat) (u : Out → Out) : (a.modO i u).evt = a.evt := rfl
@[simp] theorem Asic.modO_prt (i : Nat) (u : Out → Out) : (a.modO i u).prt = a.prt := rfl
@[simp] theorem Asic.modO_rly (i : Nat) (u : Out → Out) : (a.modO i u).rly = a.rly := rfl
@[simp] theorem Asic.modO_recs (i : Nat) (u : Out → Out) : (a.modO i u).recs = a.recs := rfl
@[simp] theorem Asic.modO_dma (i : Nat) (u : Out → Out) : (a.modO i u).dma = a.dma := rfl
@[simp] theorem Asic.modO_bus (i : Nat) (u : Out → Out) : (a.modO i u).bus = a.bus := rfl
@[simp] theorem Asic.modO_can (i : Nat) (u : Out → Out) : (a.modO i u).can = a.can := rfl
@[simp] theorem Asic.modO_flt (i : Nat) (u : Out → Out) : (a.modO i u).flt = a.flt := rfl
@[simp] theorem Asic.modO_nvc (i : Nat) (u : Out → Out) : (a.modO i u).nvc = a.nvc := rfl
@[simp] theorem Asic.modO_commits (i : Nat) (u : Out → Out) : (a.modO i u).commits = a.commits := rfl
@[simp] theorem Asic.modO_fill (i : Nat) (u : Out → Out) : (a.modO i u).fill = a.fill := rfl
@[simp] theorem Asic.modO_discards (i : Nat) (u : Out → Out) : (a.modO i u).discards = a.discards := rfl
@[simp] theorem Asic.modO_tx (i : Nat) (u : Out → Out) : (a.modO i u).tx = a.tx := rfl
@[simp] theorem Asic.modO_get (i : Nat) (u : Out → Out) (f : Fld) : (a.modO i u).get f = a.get f := rfl
@[simp] theorem Asic.modO_word (i : Nat) (u : Out → Out) (w : Nat) : (a.modO i u).word w = a.word w := rfl
@[simp] theorem Asic.modPls_clk (i : Nat) (u : Pls → Pls) : (a.modPls i u).clk = a.clk := rfl
@[simp] theorem Asic.modPls_modes (i : Nat) (u : Pls → Pls) : (a.modPls i u).modes = a.modes := rfl
@[simp] theorem Asic.modPls_fw (i : Nat) (u : Pls → Pls) : (a.modPls i u).fw = a.fw := rfl
@[simp] theorem Asic.modPls_regs (i : Nat) (u : Pls → Pls) : (a.modPls i u).regs = a.regs := rfl
@[simp] theorem Asic.modPls_tv1 (i : Nat) (u : Pls → Pls) : (a.modPls i u).tv1 = a.tv1 := rfl
@[simp] theorem Asic.modPls_tv2 (i : Nat) (u : Pls → Pls) : (a.modPls i u).tv2 = a.tv2 := rfl
@[simp] theorem Asic.modPls_parity (i : Nat) (u : Pls → Pls) : (a.modPls i u).parity = a.parity := rfl
@[simp] theorem Asic.modPls_deferred (i : Nat) (u : Pls → Pls) : (a.modPls i u).deferred = a.deferred := rfl
@[simp] theorem Asic.modPls_ref (i : Nat) (u : Pls → Pls) : (a.modPls i u).ref = a.ref := rfl
@[simp] theorem Asic.modPls_ump (i : Nat) (u : Pls → Pls) : (a.modPls i u).ump = a.ump := rfl
@[simp] theorem Asic.modPls_ldg (i : Nat) (u : Pls → Pls) : (a.modPls i u).ldg = a.ldg := rfl
@[simp] theorem Asic.modPls_dpl (i : Nat) (u : Pls → Pls) : (a.modPls i u).dpl = a.dpl := rfl
@[simp] theorem Asic.modPls_ovn (i : Nat) (u : Pls → Pls) : (a.modPls i u).ovn = a.ovn := rfl
@[simp] theorem Asic.modPls_cal (i : Nat) (u : Pls → Pls) : (a.modPls i u).cal = a.cal := rfl
@[simp] theorem Asic.modPls_apl (i : Nat) (u : Pls → Pls) : (a.modPls i u).apl = a.apl := rfl
@[simp] theorem Asic.modPls_tsc (i : Nat) (u : Pls → Pls) : (a.modPls i u).tsc = a.tsc := rfl
@[simp] theorem Asic.modPls_evt (i : Nat) (u : Pls → Pls) : (a.modPls i u).evt = a.evt := rfl
@[simp] theorem Asic.modPls_prt (i : Nat) (u : Pls → Pls) : (a.modPls i u).prt = a.prt := rfl
@[simp] theorem Asic.modPls_rly (i : Nat) (u : Pls → Pls) : (a.modPls i u).rly = a.rly := rfl
@[simp] theorem Asic.modPls_recs (i : Nat) (u : Pls → Pls) : (a.modPls i u).recs = a.recs := rfl
@[simp] theorem Asic.modPls_dma (i : Nat) (u : Pls → Pls) : (a.modPls i u).dma = a.dma := rfl
@[simp] theorem Asic.modPls_bus (i : Nat) (u : Pls → Pls) : (a.modPls i u).bus = a.bus := rfl
@[simp] theorem Asic.modPls_can (i : Nat) (u : Pls → Pls) : (a.modPls i u).can = a.can := rfl
@[simp] theorem Asic.modPls_flt (i : Nat) (u : Pls → Pls) : (a.modPls i u).flt = a.flt := rfl
@[simp] theorem Asic.modPls_nvc (i : Nat) (u : Pls → Pls) : (a.modPls i u).nvc = a.nvc := rfl
@[simp] theorem Asic.modPls_commits (i : Nat) (u : Pls → Pls) : (a.modPls i u).commits = a.commits := rfl
@[simp] theorem Asic.modPls_fill (i : Nat) (u : Pls → Pls) : (a.modPls i u).fill = a.fill := rfl
@[simp] theorem Asic.modPls_discards (i : Nat) (u : Pls → Pls) : (a.modPls i u).discards = a.discards := rfl
@[simp] theorem Asic.modPls_tx (i : Nat) (u : Pls → Pls) : (a.modPls i u).tx = a.tx := rfl
@[simp] theorem Asic.modPls_get (i : Nat) (u : Pls → Pls) (f : Fld) : (a.modPls i u).get f = a.get f := rfl
@[simp] theorem Asic.modPls_word (i : Nat) (u : Pls → Pls) (w : Nat) : (a.modPls i u).word w = a.word w := rfl
@[simp] theorem Asic.modEi_clk (i : Nat) (u : EvtInp → EvtInp) : (a.modEi i u).clk = a.clk := rfl
@[simp] theorem Asic.modEi_modes (i : Nat) (u : EvtInp → EvtInp) : (a.modEi i u).modes = a.modes := rfl
@[simp] theorem Asic.modEi_fw (i : Nat) (u : EvtInp → EvtInp) : (a.modEi i u).fw = a.fw := rfl
@[simp] theorem Asic.modEi_regs (i : Nat) (u : EvtInp → EvtInp) : (a.modEi i u).regs = a.regs := rfl
@[simp] theorem Asic.modEi_tv1 (i : Nat) (u : EvtInp → EvtInp) : (a.modEi i u).tv1 = a.tv1 := rfl
@[simp] theorem Asic.modEi_tv2 (i : Nat) (u : EvtInp → EvtInp) : (a.modEi i u).tv2 = a.tv2 := rfl
@[simp] theorem Asic.modEi_parity (i : Nat) (u : EvtInp → EvtInp) : (a.modEi i u).parity = a.parity := rfl
@[simp] theorem Asic.modEi_deferred (i : Nat) (u : EvtInp → EvtInp) : (a.modEi i u).deferred = a.deferred := rfl
@[simp] theorem Asic.modEi_ref (i : Nat) (u : EvtInp → EvtInp) : (a.modEi i u).ref = a.ref := rfl
@[simp] theorem Asic.modEi_ump (i : Nat) (u : EvtInp → EvtInp) : (a.modEi i u).ump = a.ump := rfl
@[simp] theorem Asic.modEi_ldg (i : Nat) (u : EvtInp → EvtInp) : (a.modEi i u).ldg = a.ldg := rfl
@[simp] theorem Asic.modEi_dpl (i : Nat) (u : EvtInp → EvtInp) : (a.modEi i u).dpl = a.dpl := rfl
@[simp] theorem Asic.modEi_ovn (i : Nat) (u : EvtInp → EvtInp) : (a.modEi i u).ovn = a.ovn := rfl
@[simp] theorem Asic.modEi_cal (i : Nat) (u : EvtInp → EvtInp) : (a.modEi i u).cal = a.cal := rfl
@[simp] theorem Asic.modEi_apl (i : Nat) (u : EvtInp → EvtInp) : (a.modEi i u).apl = a.apl := rfl
@[simp] theorem Asic.modEi_out (i : Nat) (u : EvtInp → EvtInp) : (a.modEi i u).out = a.out := rfl
@[simp] theorem Asic.modEi_tsc (i : Nat) (u : EvtInp → EvtInp) : (a.modEi i u).tsc = a.tsc := rfl
@[simp] theorem Asic.modEi_prt (i : Nat) (u : EvtInp → EvtInp) : (a.modEi i u).prt = a.prt := rfl
@[simp] theorem Asic.modEi_rly (i : Nat) (u : EvtInp → EvtInp) : (a.modEi i u).rly = a.rly := rfl
@[simp] theorem Asic.modEi_recs (i : Nat) (u : EvtInp → EvtInp) : (a.modEi i u).recs = a.recs := rfl
@[simp] theorem Asic.modEi_dma (i : Nat) (u : EvtInp → EvtInp) : (a.modEi i u).dma = a.dma := rfl
@[simp] theorem Asic.modEi_bus (i : Nat) (u : EvtInp → EvtInp) : (a.modEi i u).bus = a.bus := rfl
@[simp] theorem Asic.modEi_can (i : Nat) (u : EvtInp → EvtInp) : (a.modEi i u).can = a.can := rfl
@[simp] theorem Asic.modEi_flt (i : Nat) (u : EvtInp → EvtInp) : (a.modEi i u).flt = a.flt := rfl
@[simp] theorem Asic.modEi_nvc (i : Nat) (u : EvtInp → EvtInp) : (a.modEi i u).nvc = a.nvc := rfl
@[simp] theorem Asic.modEi_commits (i : Nat) (u : EvtInp → EvtInp) : (a.modEi i u).commits = a.commits := rfl
@[simp] theorem Asic.modEi_fill (i : Nat) (u : EvtInp → EvtInp) : (a.modEi i u).fill = a.fill := rfl
@[simp] theorem Asic.modEi_discards (i : Nat) (u : EvtInp → EvtInp) : (a.modEi i u).discards = a.discards := rfl
@[simp] theorem Asic.modEi_tx (i : Nat) (u : EvtInp → EvtInp) : (a.modEi i u).tx = a.tx := rfl
@[simp] theorem Asic.modEi_get (i : Nat) (u : EvtInp → EvtInp) (f : Fld) : (a.modEi i u).get f = a.get f := rfl
@[simp] theorem Asic.modEi_word (i : Nat) (u : EvtInp → EvtInp) (w : Nat) : (a.modEi i u).word w = a.word w := rfl
@[simp] theorem Asic.modEg_clk (i : Nat) (u : EvtGroup → EvtGroup) : (a.modEg i u).clk = a.clk := rfl
@[simp] theorem Asic.modEg_modes (i : Nat) (u : EvtGroup → EvtGroup) : (a.modEg i u).modes = a.modes := rfl
@[simp] theorem Asic.modEg_fw (i : Nat) (u : EvtGroup → EvtGroup) : (a.modEg i u).fw = a.fw := rfl
@[simp] theorem Asic.modEg_regs (i : Nat) (u : EvtGroup → EvtGroup) : (a.modEg i u).regs = a.regs := rfl
@[simp] theorem Asic.modEg_tv1 (i : Nat) (u : EvtGroup → EvtGroup) : (a.modEg i u).tv1 = a.tv1 := rfl
@[simp] theorem Asic.modEg_tv2 (i : Nat) (u : EvtGroup → EvtGroup) : (a.modEg i u).tv2 = a.tv2 := rfl
@[simp] theorem Asic.modEg_parity (i : Nat) (u : EvtGroup → EvtGroup) : (a.modEg i u).parity = a.parity := rfl
@[simp] theorem Asic.modEg_deferred (i : Nat) (u : EvtGroup → EvtGroup) : (a.modEg i u).deferred = a.deferred := rfl
@[simp] theorem Asic.modEg_ref (i : Nat) (u : EvtGroup → EvtGroup) : (a.modEg i u).ref = a.ref := rfl
@[simp] theorem Asic.modEg_ump (i : Nat) (u : EvtGroup → EvtGroup) : (a.modEg i u).ump = a.ump := rfl
@[simp] theorem Asic.modEg_ldg (i : Nat) (u : EvtGroup → EvtGroup) : (a.modEg i u).ldg = a.ldg := rfl
@[simp] theorem Asic.modEg_dpl (i : Nat) (u : EvtGroup → EvtGroup) : (a.modEg i u).dpl = a.dpl := rfl
@[simp] theorem Asic.modEg_ovn (i : Nat) (u : EvtGroup → EvtGroup) : (a.modEg i u).ovn = a.ovn := rfl
@[simp] theorem Asic.modEg_cal (i : Nat) (u : EvtGroup → EvtGroup) : (a.modEg i u).cal = a.cal := rfl
@[simp] theorem Asic.modEg_apl (i : Nat) (u : EvtGroup → EvtGroup) : (a.modEg i u).apl = a.apl := rfl
@[simp] theorem Asic.modEg_out (i : Nat) (u : EvtGroup → EvtGroup) : (a.modEg i u).out = a.out := rfl
@[simp] theorem Asic.modEg_tsc (i : Nat) (u : EvtGroup → EvtGroup) : (a.modEg i u).tsc = a.tsc := rfl
@[simp] theorem Asic.modEg_prt (i : Nat) (u : EvtGroup → EvtGroup) : (a.modEg i u).prt = a.prt := rfl
@[simp] theorem Asic.modEg_rly (i : Nat) (u : EvtGroup → EvtGroup) : (a.modEg i u).rly = a.rly := rfl
@[simp] theorem Asic.modEg_recs (i : Nat) (u : EvtGroup → EvtGroup) : (a.modEg i u).recs = a.recs := rfl
@[simp] theorem Asic.modEg_dma (i : Nat) (u : EvtGroup → EvtGroup) : (a.modEg i u).dma = a.dma := rfl
@[simp] theorem Asic.modEg_bus (i : Nat) (u : EvtGroup → EvtGroup) : (a.modEg i u).bus = a.bus := rfl
@[simp] theorem Asic.modEg_can (i : Nat) (u : EvtGroup → EvtGroup) : (a.modEg i u).can = a.can := rfl
@[simp] theorem Asic.modEg_flt (i : Nat) (u : EvtGroup → EvtGroup) : (a.modEg i u).flt = a.flt := rfl
@[simp] theorem Asic.modEg_nvc (i : Nat) (u : EvtGroup → EvtGroup) : (a.modEg i u).nvc = a.nvc := rfl
@[simp] theorem Asic.modEg_commits (i : Nat) (u : EvtGroup → EvtGroup) : (a.modEg i u).commits = a.commits := rfl
@[simp] theorem Asic.modEg_fill (i : Nat) (u : EvtGroup → EvtGroup) : (a.modEg i u).fill = a.fill := rfl
@[simp] theorem Asic.modEg_discards (i : Nat) (u : EvtGroup → EvtGroup) : (a.modEg i u).discards = a.discards := rfl
@[simp] theorem Asic.modEg_tx (i : Nat) (u : EvtGroup → EvtGroup) : (a.modEg i u).tx = a.tx := rfl
@[simp] theorem Asic.modEg_get (i : Nat) (u : EvtGroup → EvtGroup) (f : Fld) : (a.modEg i u).get f = a.get f := rfl
@[simp] theorem Asic.modEg_word (i : Nat) (u : EvtGroup → EvtGroup) (w : Nat) : (a.modEg i u).word w = a.word w := rfl
@[simp] theorem Asic.modTac_clk (i : Nat) (u : Tac → Tac) : (a.modTac i u).clk = a.clk := rfl
@[simp] theorem Asic.modTac_modes (i : Nat) (u : Tac → Tac) : (a.modTac i u).modes = a.modes := rfl
@[simp] theorem Asic.modTac_fw (i : Nat) (u : Tac → Tac) : (a.modTac i u).fw = a.fw := rfl
@[simp] theorem Asic.modTac_regs (i : Nat) (u : Tac → Tac) : (a.modTac i u).regs = a.regs := rfl
@[simp] theorem Asic.modTac_tv1 (i : Nat) (u : Tac → Tac) : (a.modTac i u).tv1 = a.tv1 := rfl
@[simp] theorem Asic.modTac_tv2 (i : Nat) (u : Tac → Tac) : (a.modTac i u).tv2 = a.tv2 := rfl
@[simp] theorem Asic.modTac_parity (i : Nat) (u : Tac → Tac) : (a.modTac i u).parity = a.parity := rfl
@[simp] theorem Asic.modTac_deferred (i : Nat) (u : Tac → Tac) : (a.modTac i u).deferred = a.deferred := rfl
@[simp] theorem Asic.modTac_ref (i : Nat) (u : Tac → Tac) : (a.modTac i u).ref = a.ref := rfl
@[simp] theorem Asic.modTac_ump (i : Nat) (u : Tac → Tac) : (a.modTac i u).ump = a.ump := rfl
@[simp] theorem Asic.modTac_ldg (i : Nat) (u : Tac → Tac) : (a.modTac i u).ldg = a.ldg := rfl
@[simp] theorem Asic.modTac_dpl (i : Nat) (u : Tac → Tac) : (a.modTac i u).dpl = a.dpl := rfl
@[simp] theorem Asic.modTac_ovn (i : Nat) (u : Tac → Tac) : (a.modTac i u).ovn = a.ovn := rfl
@[simp] theorem Asic.modTac_cal (i : Nat) (u : Tac → Tac) : (a.modTac i u).cal = a.cal := rfl
@[simp] theorem Asic.modTac_apl (i : Nat) (u : Tac → Tac) : (a.modTac i u).apl = a.apl := rfl
@[simp] theorem Asic.modTac_out (i : Nat) (u : Tac → Tac) : (a.modTac i u).out = a.out := rfl
@[simp] theorem Asic.modTac_tsc (i : Nat) (u : Tac → Tac) : (a.modTac i u).tsc = a.tsc := rfl
@[simp] theorem Asic.modTac_prt (i : Nat) (u : Tac → Tac) : (a.modTac i u).prt = a.prt := rfl
@[simp] theorem Asic.modTac_rly (i : Nat) (u : Tac → Tac) : (a.modTac i u).rly = a.rly := rfl
@[simp] theorem Asic.modTac_recs (i : Nat) (u : Tac → Tac) : (a.modTac i u).recs = a.recs := rfl
@[simp] theorem Asic.modTac_dma (i : Nat) (u : Tac → Tac) : (a.modTac i u).dma = a.dma := rfl
@[simp] theorem Asic.modTac_bus (i : Nat) (u : Tac → Tac) : (a.modTac i u).bus = a.bus := rfl
@[simp] theorem Asic.modTac_can (i : Nat) (u : Tac → Tac) : (a.modTac i u).can = a.can := rfl
@[simp] theorem Asic.modTac_flt (i : Nat) (u : Tac → Tac) : (a.modTac i u).flt = a.flt := rfl
@[simp] theorem Asic.modTac_nvc (i : Nat) (u : Tac → Tac) : (a.modTac i u).nvc = a.nvc := rfl
@[simp] theorem Asic.modTac_commits (i : Nat) (u : Tac → Tac) : (a.modTac i u).commits = a.commits := rfl
@[simp] theorem Asic.modTac_fill (i : Nat) (u : Tac → Tac) : (a.modTac i u).fill = a.fill := rfl
@[simp] theorem Asic.modTac_discards (i : Nat) (u : Tac → Tac) : (a.modTac i u).discards = a.discards := rfl
@[simp] theorem Asic.modTac_tx (i : Nat) (u : Tac → Tac) : (a.modTac i u).tx = a.tx := rfl
@[simp] theorem Asic.modTac_get (i : Nat) (u : Tac → Tac) (f : Fld) : (a.modTac i u).get f = a.get f := rfl
@[simp] theorem Asic.modTac_word (i : Nat) (u : Tac → Tac) (w : Nat) : (a.modTac i u).word w = a.word w := rfl
@[simp] theorem Asic.modPrt_clk (i : Nat) (u : Port → Port) : (a.modPrt i u).clk = a.clk := rfl
@[simp] theorem Asic.modPrt_modes (i : Nat) (u : Port → Port) : (a.modPrt i u).modes = a.modes := rfl
@[simp] theorem Asic.modPrt_fw (i : Nat) (u : Port → Port) : (a.modPrt i u).fw = a.fw := rfl
@[simp] theorem Asic.modPrt_regs (i : Nat) (u : Port → Port) : (a.modPrt i u).regs = a.regs := rfl
@[simp] theorem Asic.modPrt_tv1 (i : Nat) (u : Port → Port) : (a.modPrt i u).tv1 = a.tv1 := rfl
@[simp] theorem Asic.modPrt_tv2 (i : Nat) (u : Port → Port) : (a.modPrt i u).tv2 = a.tv2 := rfl
@[simp] theorem Asic.modPrt_parity (i : Nat) (u : Port → Port) : (a.modPrt i u).parity = a.parity := rfl
@[simp] theorem Asic.modPrt_deferred (i : Nat) (u : Port → Port) : (a.modPrt i u).deferred = a.deferred := rfl
@[simp] theorem Asic.modPrt_ref (i : Nat) (u : Port → Port) : (a.modPrt i u).ref = a.ref := rfl
@[simp] theorem Asic.modPrt_ump (i : Nat) (u : Port → Port) : (a.modPrt i u).ump = a.ump := rfl
@[simp] theorem Asic.modPrt_ldg (i : Nat) (u : Port → Port) : (a.modPrt i u).ldg = a.ldg := rfl
@[simp] theorem Asic.modPrt_dpl (i : Nat) (u : Port → Port) : (a.modPrt i u).dpl = a.dpl := rfl
@[simp] theorem Asic.modPrt_ovn (i : Nat) (u : Port → Port) : (a.modPrt i u).ovn = a.ovn := rfl
@[simp] theorem Asic.modPrt_cal (i : Nat) (u : Port → Port) : (a.modPrt i u).cal = a.cal := rfl
@[simp] theorem Asic.modPrt_apl (i : Nat) (u : Port → Port) : (a.modPrt i u).apl = a.apl := rfl
@[simp] theorem Asic.modPrt_out (i : Nat) (u : Port → Port) : (a.modPrt i u).out = a.out := rfl
@[simp] theorem Asic.modPrt_tsc (i : Nat) (u : Port → Port) : (a.modPrt i u).tsc = a.tsc := rfl
@[simp] theorem Asic.modPrt_evt (i : Nat) (u : Port → Port) : (a.modPrt i u).evt = a.evt := rfl
@[simp] theorem Asic.modPrt_rly (i : Nat) (u : Port → Port) : (a.modPrt i u).rly = a.rly := rfl
@[simp] theorem Asic.modPrt_recs (i : Nat) (u : Port → Port) : (a.modPrt i u).recs = a.recs := rfl
@[simp] theorem Asic.modPrt_dma (i : Nat) (u : Port → Port) : (a.modPrt i u).dma = a.dma := rfl
@[simp] theorem Asic.modPrt_bus (i : Nat) (u : Port → Port) : (a.modPrt i u).bus = a.bus := rfl
@[simp] theorem Asic.modPrt_can (i : Nat) (u : Port → Port) : (a.modPrt i u).can = a.can := rfl
@[simp] theorem Asic.modPrt_flt (i : Nat) (u : Port → Port) : (a.modPrt i u).flt = a.flt := rfl
@[simp] theorem Asic.modPrt_nvc (i : Nat) (u : Port → Port) : (a.modPrt i u).nvc = a.nvc := rfl
@[simp] theorem Asic.modPrt_commits (i : Nat) (u : Port → Port) : (a.modPrt i u).commits = a.commits := rfl
@[simp] theorem Asic.modPrt_fill (i : Nat) (u : Port → Port) : (a.modPrt i u).fill = a.fill := rfl
@[simp] theorem Asic.modPrt_discards (i : Nat) (u : Port → Port) : (a.modPrt i u).discards = a.discards := rfl
@[simp] theorem Asic.modPrt_tx (i : Nat) (u : Port → Port) : (a.modPrt i u).tx = a.tx := rfl
@[simp] theorem Asic.modPrt_get (i : Nat) (u : Port → Port) (f : Fld) : (a.modPrt i u).get f = a.get f := rfl
@[simp] theorem Asic.modPrt_word (i : Nat) (u : Port → Port) (w : Nat) : (a.modPrt i u).word w = a.word w := rfl
@[simp] theorem Asic.modImp_clk (i : Nat) (u : Impair → Impair) : (a.modImp i u).clk = a.clk := rfl
@[simp] theorem Asic.modImp_modes (i : Nat) (u : Impair → Impair) : (a.modImp i u).modes = a.modes := rfl
@[simp] theorem Asic.modImp_fw (i : Nat) (u : Impair → Impair) : (a.modImp i u).fw = a.fw := rfl
@[simp] theorem Asic.modImp_regs (i : Nat) (u : Impair → Impair) : (a.modImp i u).regs = a.regs := rfl
@[simp] theorem Asic.modImp_tv1 (i : Nat) (u : Impair → Impair) : (a.modImp i u).tv1 = a.tv1 := rfl
@[simp] theorem Asic.modImp_tv2 (i : Nat) (u : Impair → Impair) : (a.modImp i u).tv2 = a.tv2 := rfl
@[simp] theorem Asic.modImp_parity (i : Nat) (u : Impair → Impair) : (a.modImp i u).parity = a.parity := rfl
@[simp] theorem Asic.modImp_deferred (i : Nat) (u : Impair → Impair) : (a.modImp i u).deferred = a.deferred := rfl
@[simp] theorem Asic.modImp_ref (i : Nat) (u : Impair → Impair) : (a.modImp i u).ref = a.ref := rfl
@[simp] theorem Asic.modImp_ump (i : Nat) (u : Impair → Impair) : (a.modImp i u).ump = a.ump := rfl
@[simp] theorem Asic.modImp_ldg (i : Nat) (u : Impair → Impair) : (a.modImp i u).ldg = a.ldg := rfl
@[simp] theorem Asic.modImp_dpl (i : Nat) (u : Impair → Impair) : (a.modImp i u).dpl = a.dpl := rfl
@[simp] theorem Asic.modImp_ovn (i : Nat) (u : Impair → Impair) : (a.modImp i u).ovn = a.ovn := rfl
@[simp] theorem Asic.modImp_cal (i : Nat) (u : Impair → Impair) : (a.modImp i u).cal = a.cal := rfl
@[simp] theorem Asic.modImp_apl (i : Nat) (u : Impair → Impair) : (a.modImp i u).apl = a.apl := rfl
@[simp] theorem Asic.modImp_out (i : Nat) (u : Impair → Impair) : (a.modImp i u).out = a.out := rfl
@[simp] theorem Asic.modImp_tsc (i : Nat) (u : Impair → Impair) : (a.modImp i u).tsc = a.tsc := rfl
@[simp] theorem Asic.modImp_evt (i : Nat) (u : Impair → Impair) : (a.modImp i u).evt = a.evt := rfl
@[simp] theorem Asic.modImp_rly (i : Nat) (u : Impair → Impair) : (a.modImp i u).rly = a.rly := rfl
@[simp] theorem Asic.modImp_recs (i : Nat) (u : Impair → Impair) : (a.modImp i u).recs = a.recs := rfl
@[simp] theorem Asic.modImp_dma (i : Nat) (u : Impair → Impair) : (a.modImp i u).dma = a.dma := rfl
@[simp] theorem Asic.modImp_bus (i : Nat) (u : Impair → Impair) : (a.modImp i u).bus = a.bus := rfl
@[simp] theorem Asic.modImp_can (i : Nat) (u : Impair → Impair) : (a.modImp i u).can = a.can := rfl
@[simp] theorem Asic.modImp_flt (i : Nat) (u : Impair → Impair) : (a.modImp i u).flt = a.flt := rfl
@[simp] theorem Asic.modImp_nvc (i : Nat) (u : Impair → Impair) : (a.modImp i u).nvc = a.nvc := rfl
@[simp] theorem Asic.modImp_commits (i : Nat) (u : Impair → Impair) : (a.modImp i u).commits = a.commits := rfl
@[simp] theorem Asic.modImp_fill (i : Nat) (u : Impair → Impair) : (a.modImp i u).fill = a.fill := rfl
@[simp] theorem Asic.modImp_discards (i : Nat) (u : Impair → Impair) : (a.modImp i u).discards = a.discards := rfl
@[simp] theorem Asic.modImp_tx (i : Nat) (u : Impair → Impair) : (a.modImp i u).tx = a.tx := rfl
@[simp] theorem Asic.modImp_get (i : Nat) (u : Impair → Impair) (f : Fld) : (a.modImp i u).get f = a.get f := rfl
@[simp] theorem Asic.modImp_word (i : Nat) (u : Impair → Impair) (w : Nat) : (a.modImp i u).word w = a.word w := rfl
@[simp] theorem Asic.modRally_clk (i : Nat) (u : Rally → Rally) : (a.modRally i u).clk = a.clk := rfl
@[simp] theorem Asic.modRally_modes (i : Nat) (u : Rally → Rally) : (a.modRally i u).modes = a.modes := rfl
@[simp] theorem Asic.modRally_fw (i : Nat) (u : Rally → Rally) : (a.modRally i u).fw = a.fw := rfl
@[simp] theorem Asic.modRally_regs (i : Nat) (u : Rally → Rally) : (a.modRally i u).regs = a.regs := rfl
@[simp] theorem Asic.modRally_tv1 (i : Nat) (u : Rally → Rally) : (a.modRally i u).tv1 = a.tv1 := rfl
@[simp] theorem Asic.modRally_tv2 (i : Nat) (u : Rally → Rally) : (a.modRally i u).tv2 = a.tv2 := rfl
@[simp] theorem Asic.modRally_parity (i : Nat) (u : Rally → Rally) : (a.modRally i u).parity = a.parity := rfl
@[simp] theorem Asic.modRally_deferred (i : Nat) (u : Rally → Rally) : (a.modRally i u).deferred = a.deferred := rfl
@[simp] theorem Asic.modRally_ref (i : Nat) (u : Rally → Rally) : (a.modRally i u).ref = a.ref := rfl
@[simp] theorem Asic.modRally_ump (i : Nat) (u : Rally → Rally) : (a.modRally i u).ump = a.ump := rfl
@[simp] theorem Asic.modRally_ldg (i : Nat) (u : Rally → Rally) : (a.modRally i u).ldg = a.ldg := rfl
@[simp] theorem Asic.modRally_dpl (i : Nat) (u : Rally → Rally) : (a.modRally i u).dpl = a.dpl := rfl
@[simp] theorem Asic.modRally_ovn (i : Nat) (u : Rally → Rally) : (a.modRally i u).ovn = a.ovn := rfl
@[simp] theorem Asic.modRally_cal (i : Nat) (u : Rally → Rally) : (a.modRally i u).cal = a.cal := rfl
@[simp] theorem Asic.modRally_apl (i : Nat) (u : Rally → Rally) : (a.modRally i u).apl = a.apl := rfl
@[simp] theorem Asic.modRally_out (i : Nat) (u : Rally → Rally) : (a.modRally i u).out = a.out := rfl
@[simp] theorem Asic.modRally_tsc (i : Nat) (u : Rally → Rally) : (a.modRally i u).tsc = a.tsc := rfl
@[simp] theorem Asic.modRally_evt (i : Nat) (u : Rally → Rally) : (a.modRally i u).evt = a.evt := rfl
@[simp] theorem Asic.modRally_prt (i : Nat) (u : Rally → Rally) : (a.modRally i u).prt = a.prt := rfl
@[simp] theorem Asic.modRally_recs (i : Nat) (u : Rally → Rally) : (a.modRally i u).recs = a.recs := rfl
@[simp] theorem Asic.modRally_dma (i : Nat) (u : Rally → Rally) : (a.modRally i u).dma = a.dma := rfl
@[simp] theorem Asic.modRally_bus (i : Nat) (u : Rally → Rally) : (a.modRally i u).bus = a.bus := rfl
@[simp] theorem Asic.modRally_can (i : Nat) (u : Rally → Rally) : (a.modRally i u).can = a.can := rfl
@[simp] theorem Asic.modRally_flt (i : Nat) (u : Rally → Rally) : (a.modRally i u).flt = a.flt := rfl
@[simp] theorem Asic.modRally_nvc (i : Nat) (u : Rally → Rally) : (a.modRally i u).nvc = a.nvc := rfl
@[simp] theorem Asic.modRally_commits (i : Nat) (u : Rally → Rally) : (a.modRally i u).commits = a.commits := rfl
@[simp] theorem Asic.modRally_fill (i : Nat) (u : Rally → Rally) : (a.modRally i u).fill = a.fill := rfl
@[simp] theorem Asic.modRally_discards (i : Nat) (u : Rally → Rally) : (a.modRally i u).discards = a.discards := rfl
@[simp] theorem Asic.modRally_tx (i : Nat) (u : Rally → Rally) : (a.modRally i u).tx = a.tx := rfl
@[simp] theorem Asic.modRally_get (i : Nat) (u : Rally → Rally) (f : Fld) : (a.modRally i u).get f = a.get f := rfl
@[simp] theorem Asic.modRally_word (i : Nat) (u : Rally → Rally) (w : Nat) : (a.modRally i u).word w = a.word w := rfl
@[simp] theorem Asic.modMate_clk (u : Mate → Mate) : (a.modMate u).clk = a.clk := rfl
@[simp] theorem Asic.modMate_modes (u : Mate → Mate) : (a.modMate u).modes = a.modes := rfl
@[simp] theorem Asic.modMate_fw (u : Mate → Mate) : (a.modMate u).fw = a.fw := rfl
@[simp] theorem Asic.modMate_regs (u : Mate → Mate) : (a.modMate u).regs = a.regs := rfl
@[simp] theorem Asic.modMate_tv1 (u : Mate → Mate) : (a.modMate u).tv1 = a.tv1 := rfl
@[simp] theorem Asic.modMate_tv2 (u : Mate → Mate) : (a.modMate u).tv2 = a.tv2 := rfl
@[simp] theorem Asic.modMate_parity (u : Mate → Mate) : (a.modMate u).parity = a.parity := rfl
@[simp] theorem Asic.modMate_deferred (u : Mate → Mate) : (a.modMate u).deferred = a.deferred := rfl
@[simp] theorem Asic.modMate_ref (u : Mate → Mate) : (a.modMate u).ref = a.ref := rfl
@[simp] theorem Asic.modMate_ump (u : Mate → Mate) : (a.modMate u).ump = a.ump := rfl
@[simp] theorem Asic.modMate_ldg (u : Mate → Mate) : (a.modMate u).ldg = a.ldg := rfl
@[simp] theorem Asic.modMate_dpl (u : Mate → Mate) : (a.modMate u).dpl = a.dpl := rfl
@[simp] theorem Asic.modMate_ovn (u : Mate → Mate) : (a.modMate u).ovn = a.ovn := rfl
@[simp] theorem Asic.modMate_cal (u : Mate → Mate) : (a.modMate u).cal = a.cal := rfl
@[simp] theorem Asic.modMate_apl (u : Mate → Mate) : (a.modMate u).apl = a.apl := rfl
@[simp] theorem Asic.modMate_out (u : Mate → Mate) : (a.modMate u).out = a.out := rfl
@[simp] theorem Asic.modMate_tsc (u : Mate → Mate) : (a.modMate u).tsc = a.tsc := rfl
@[simp] theorem Asic.modMate_evt (u : Mate → Mate) : (a.modMate u).evt = a.evt := rfl
@[simp] theorem Asic.modMate_prt (u : Mate → Mate) : (a.modMate u).prt = a.prt := rfl
@[simp] theorem Asic.modMate_recs (u : Mate → Mate) : (a.modMate u).recs = a.recs := rfl
@[simp] theorem Asic.modMate_dma (u : Mate → Mate) : (a.modMate u).dma = a.dma := rfl
@[simp] theorem Asic.modMate_bus (u : Mate → Mate) : (a.modMate u).bus = a.bus := rfl
@[simp] theorem Asic.modMate_can (u : Mate → Mate) : (a.modMate u).can = a.can := rfl
@[simp] theorem Asic.modMate_flt (u : Mate → Mate) : (a.modMate u).flt = a.flt := rfl
@[simp] theorem Asic.modMate_nvc (u : Mate → Mate) : (a.modMate u).nvc = a.nvc := rfl
@[simp] theorem Asic.modMate_commits (u : Mate → Mate) : (a.modMate u).commits = a.commits := rfl
@[simp] theorem Asic.modMate_fill (u : Mate → Mate) : (a.modMate u).fill = a.fill := rfl
@[simp] theorem Asic.modMate_discards (u : Mate → Mate) : (a.modMate u).discards = a.discards := rfl
@[simp] theorem Asic.modMate_tx (u : Mate → Mate) : (a.modMate u).tx = a.tx := rfl
@[simp] theorem Asic.modMate_get (u : Mate → Mate) (f : Fld) : (a.modMate u).get f = a.get f := rfl
@[simp] theorem Asic.modMate_word (u : Mate → Mate) (w : Nat) : (a.modMate u).word w = a.word w := rfl
@[simp] theorem Asic.modDma_clk (i : Nat) (u : DmaCh → DmaCh) : (a.modDma i u).clk = a.clk := rfl
@[simp] theorem Asic.modDma_modes (i : Nat) (u : DmaCh → DmaCh) : (a.modDma i u).modes = a.modes := rfl
@[simp] theorem Asic.modDma_fw (i : Nat) (u : DmaCh → DmaCh) : (a.modDma i u).fw = a.fw := rfl
@[simp] theorem Asic.modDma_regs (i : Nat) (u : DmaCh → DmaCh) : (a.modDma i u).regs = a.regs := rfl
@[simp] theorem Asic.modDma_tv1 (i : Nat) (u : DmaCh → DmaCh) : (a.modDma i u).tv1 = a.tv1 := rfl
@[simp] theorem Asic.modDma_tv2 (i : Nat) (u : DmaCh → DmaCh) : (a.modDma i u).tv2 = a.tv2 := rfl
@[simp] theorem Asic.modDma_parity (i : Nat) (u : DmaCh → DmaCh) : (a.modDma i u).parity = a.parity := rfl
@[simp] theorem Asic.modDma_deferred (i : Nat) (u : DmaCh → DmaCh) : (a.modDma i u).deferred = a.deferred := rfl
@[simp] theorem Asic.modDma_ref (i : Nat) (u : DmaCh → DmaCh) : (a.modDma i u).ref = a.ref := rfl
@[simp] theorem Asic.modDma_ump (i : Nat) (u : DmaCh → DmaCh) : (a.modDma i u).ump = a.ump := rfl
@[simp] theorem Asic.modDma_ldg (i : Nat) (u : DmaCh → DmaCh) : (a.modDma i u).ldg = a.ldg := rfl
@[simp] theorem Asic.modDma_dpl (i : Nat) (u : DmaCh → DmaCh) : (a.modDma i u).dpl = a.dpl := rfl
@[simp] theorem Asic.modDma_ovn (i : Nat) (u : DmaCh → DmaCh) : (a.modDma i u).ovn = a.ovn := rfl
@[simp] theorem Asic.modDma_cal (i : Nat) (u : DmaCh → DmaCh) : (a.modDma i u).cal = a.cal := rfl
@[simp] theorem Asic.modDma_apl (i : Nat) (u : DmaCh → DmaCh) : (a.modDma i u).apl = a.apl := rfl
@[simp] theorem Asic.modDma_out (i : Nat) (u : DmaCh → DmaCh) : (a.modDma i u).out = a.out := rfl
@[simp] theorem Asic.modDma_tsc (i : Nat) (u : DmaCh → DmaCh) : (a.modDma i u).tsc = a.tsc := rfl
@[simp] theorem Asic.modDma_evt (i : Nat) (u : DmaCh → DmaCh) : (a.modDma i u).evt = a.evt := rfl
@[simp] theorem Asic.modDma_prt (i : Nat) (u : DmaCh → DmaCh) : (a.modDma i u).prt = a.prt := rfl
@[simp] theorem Asic.modDma_rly (i : Nat) (u : DmaCh → DmaCh) : (a.modDma i u).rly = a.rly := rfl
@[simp] theorem Asic.modDma_recs (i : Nat) (u : DmaCh → DmaCh) : (a.modDma i u).recs = a.recs := rfl
@[simp] theorem Asic.modDma_bus (i : Nat) (u : DmaCh → DmaCh) : (a.modDma i u).bus = a.bus := rfl
@[simp] theorem Asic.modDma_can (i : Nat) (u : DmaCh → DmaCh) : (a.modDma i u).can = a.can := rfl
@[simp] theorem Asic.modDma_flt (i : Nat) (u : DmaCh → DmaCh) : (a.modDma i u).flt = a.flt := rfl
@[simp] theorem Asic.modDma_nvc (i : Nat) (u : DmaCh → DmaCh) : (a.modDma i u).nvc = a.nvc := rfl
@[simp] theorem Asic.modDma_commits (i : Nat) (u : DmaCh → DmaCh) : (a.modDma i u).commits = a.commits := rfl
@[simp] theorem Asic.modDma_fill (i : Nat) (u : DmaCh → DmaCh) : (a.modDma i u).fill = a.fill := rfl
@[simp] theorem Asic.modDma_discards (i : Nat) (u : DmaCh → DmaCh) : (a.modDma i u).discards = a.discards := rfl
@[simp] theorem Asic.modDma_tx (i : Nat) (u : DmaCh → DmaCh) : (a.modDma i u).tx = a.tx := rfl
@[simp] theorem Asic.modDma_get (i : Nat) (u : DmaCh → DmaCh) (f : Fld) : (a.modDma i u).get f = a.get f := rfl
@[simp] theorem Asic.modDma_word (i : Nat) (u : DmaCh → DmaCh) (w : Nat) : (a.modDma i u).word w = a.word w := rfl
@[simp] theorem Asic.modTpdo_clk (i : Nat) (u : Tpdo → Tpdo) : (a.modTpdo i u).clk = a.clk := rfl
@[simp] theorem Asic.modTpdo_modes (i : Nat) (u : Tpdo → Tpdo) : (a.modTpdo i u).modes = a.modes := rfl
@[simp] theorem Asic.modTpdo_fw (i : Nat) (u : Tpdo → Tpdo) : (a.modTpdo i u).fw = a.fw := rfl
@[simp] theorem Asic.modTpdo_regs (i : Nat) (u : Tpdo → Tpdo) : (a.modTpdo i u).regs = a.regs := rfl
@[simp] theorem Asic.modTpdo_tv1 (i : Nat) (u : Tpdo → Tpdo) : (a.modTpdo i u).tv1 = a.tv1 := rfl
@[simp] theorem Asic.modTpdo_tv2 (i : Nat) (u : Tpdo → Tpdo) : (a.modTpdo i u).tv2 = a.tv2 := rfl
@[simp] theorem Asic.modTpdo_parity (i : Nat) (u : Tpdo → Tpdo) : (a.modTpdo i u).parity = a.parity := rfl
@[simp] theorem Asic.modTpdo_deferred (i : Nat) (u : Tpdo → Tpdo) : (a.modTpdo i u).deferred = a.deferred := rfl
@[simp] theorem Asic.modTpdo_ref (i : Nat) (u : Tpdo → Tpdo) : (a.modTpdo i u).ref = a.ref := rfl
@[simp] theorem Asic.modTpdo_ump (i : Nat) (u : Tpdo → Tpdo) : (a.modTpdo i u).ump = a.ump := rfl
@[simp] theorem Asic.modTpdo_ldg (i : Nat) (u : Tpdo → Tpdo) : (a.modTpdo i u).ldg = a.ldg := rfl
@[simp] theorem Asic.modTpdo_dpl (i : Nat) (u : Tpdo → Tpdo) : (a.modTpdo i u).dpl = a.dpl := rfl
@[simp] theorem Asic.modTpdo_ovn (i : Nat) (u : Tpdo → Tpdo) : (a.modTpdo i u).ovn = a.ovn := rfl
@[simp] theorem Asic.modTpdo_cal (i : Nat) (u : Tpdo → Tpdo) : (a.modTpdo i u).cal = a.cal := rfl
@[simp] theorem Asic.modTpdo_apl (i : Nat) (u : Tpdo → Tpdo) : (a.modTpdo i u).apl = a.apl := rfl
@[simp] theorem Asic.modTpdo_out (i : Nat) (u : Tpdo → Tpdo) : (a.modTpdo i u).out = a.out := rfl
@[simp] theorem Asic.modTpdo_tsc (i : Nat) (u : Tpdo → Tpdo) : (a.modTpdo i u).tsc = a.tsc := rfl
@[simp] theorem Asic.modTpdo_evt (i : Nat) (u : Tpdo → Tpdo) : (a.modTpdo i u).evt = a.evt := rfl
@[simp] theorem Asic.modTpdo_prt (i : Nat) (u : Tpdo → Tpdo) : (a.modTpdo i u).prt = a.prt := rfl
@[simp] theorem Asic.modTpdo_rly (i : Nat) (u : Tpdo → Tpdo) : (a.modTpdo i u).rly = a.rly := rfl
@[simp] theorem Asic.modTpdo_recs (i : Nat) (u : Tpdo → Tpdo) : (a.modTpdo i u).recs = a.recs := rfl
@[simp] theorem Asic.modTpdo_dma (i : Nat) (u : Tpdo → Tpdo) : (a.modTpdo i u).dma = a.dma := rfl
@[simp] theorem Asic.modTpdo_bus (i : Nat) (u : Tpdo → Tpdo) : (a.modTpdo i u).bus = a.bus := rfl
@[simp] theorem Asic.modTpdo_flt (i : Nat) (u : Tpdo → Tpdo) : (a.modTpdo i u).flt = a.flt := rfl
@[simp] theorem Asic.modTpdo_nvc (i : Nat) (u : Tpdo → Tpdo) : (a.modTpdo i u).nvc = a.nvc := rfl
@[simp] theorem Asic.modTpdo_commits (i : Nat) (u : Tpdo → Tpdo) : (a.modTpdo i u).commits = a.commits := rfl
@[simp] theorem Asic.modTpdo_fill (i : Nat) (u : Tpdo → Tpdo) : (a.modTpdo i u).fill = a.fill := rfl
@[simp] theorem Asic.modTpdo_discards (i : Nat) (u : Tpdo → Tpdo) : (a.modTpdo i u).discards = a.discards := rfl
@[simp] theorem Asic.modTpdo_tx (i : Nat) (u : Tpdo → Tpdo) : (a.modTpdo i u).tx = a.tx := rfl
@[simp] theorem Asic.modTpdo_get (i : Nat) (u : Tpdo → Tpdo) (f : Fld) : (a.modTpdo i u).get f = a.get f := rfl
@[simp] theorem Asic.modTpdo_word (i : Nat) (u : Tpdo → Tpdo) (w : Nat) : (a.modTpdo i u).word w = a.word w := rfl
@[simp] theorem Asic.modNvc_clk (u : Nvc → Nvc) : (a.modNvc u).clk = a.clk := rfl
@[simp] theorem Asic.modNvc_modes (u : Nvc → Nvc) : (a.modNvc u).modes = a.modes := rfl
@[simp] theorem Asic.modNvc_fw (u : Nvc → Nvc) : (a.modNvc u).fw = a.fw := rfl
@[simp] theorem Asic.modNvc_regs (u : Nvc → Nvc) : (a.modNvc u).regs = a.regs := rfl
@[simp] theorem Asic.modNvc_tv1 (u : Nvc → Nvc) : (a.modNvc u).tv1 = a.tv1 := rfl
@[simp] theorem Asic.modNvc_tv2 (u : Nvc → Nvc) : (a.modNvc u).tv2 = a.tv2 := rfl
@[simp] theorem Asic.modNvc_parity (u : Nvc → Nvc) : (a.modNvc u).parity = a.parity := rfl
@[simp] theorem Asic.modNvc_deferred (u : Nvc → Nvc) : (a.modNvc u).deferred = a.deferred := rfl
@[simp] theorem Asic.modNvc_ref (u : Nvc → Nvc) : (a.modNvc u).ref = a.ref := rfl
@[simp] theorem Asic.modNvc_ump (u : Nvc → Nvc) : (a.modNvc u).ump = a.ump := rfl
@[simp] theorem Asic.modNvc_ldg (u : Nvc → Nvc) : (a.modNvc u).ldg = a.ldg := rfl
@[simp] theorem Asic.modNvc_dpl (u : Nvc → Nvc) : (a.modNvc u).dpl = a.dpl := rfl
@[simp] theorem Asic.modNvc_ovn (u : Nvc → Nvc) : (a.modNvc u).ovn = a.ovn := rfl
@[simp] theorem Asic.modNvc_cal (u : Nvc → Nvc) : (a.modNvc u).cal = a.cal := rfl
@[simp] theorem Asic.modNvc_apl (u : Nvc → Nvc) : (a.modNvc u).apl = a.apl := rfl
@[simp] theorem Asic.modNvc_out (u : Nvc → Nvc) : (a.modNvc u).out = a.out := rfl
@[simp] theorem Asic.modNvc_tsc (u : Nvc → Nvc) : (a.modNvc u).tsc = a.tsc := rfl
@[simp] theorem Asic.modNvc_evt (u : Nvc → Nvc) : (a.modNvc u).evt = a.evt := rfl
@[simp] theorem Asic.modNvc_prt (u : Nvc → Nvc) : (a.modNvc u).prt = a.prt := rfl
@[simp] theorem Asic.modNvc_rly (u : Nvc → Nvc) : (a.modNvc u).rly = a.rly := rfl
@[simp] theorem Asic.modNvc_recs (u : Nvc → Nvc) : (a.modNvc u).recs = a.recs := rfl
@[simp] theorem Asic.modNvc_dma (u : Nvc → Nvc) : (a.modNvc u).dma = a.dma := rfl
@[simp] theorem Asic.modNvc_bus (u : Nvc → Nvc) : (a.modNvc u).bus = a.bus := rfl
@[simp] theorem Asic.modNvc_can (u : Nvc → Nvc) : (a.modNvc u).can = a.can := rfl
@[simp] theorem Asic.modNvc_flt (u : Nvc → Nvc) : (a.modNvc u).flt = a.flt := rfl
@[simp] theorem Asic.modNvc_commits (u : Nvc → Nvc) : (a.modNvc u).commits = a.commits := rfl
@[simp] theorem Asic.modNvc_fill (u : Nvc → Nvc) : (a.modNvc u).fill = a.fill := rfl
@[simp] theorem Asic.modNvc_discards (u : Nvc → Nvc) : (a.modNvc u).discards = a.discards := rfl
@[simp] theorem Asic.modNvc_tx (u : Nvc → Nvc) : (a.modNvc u).tx = a.tx := rfl
@[simp] theorem Asic.modNvc_get (u : Nvc → Nvc) (f : Fld) : (a.modNvc u).get f = a.get f := rfl
@[simp] theorem Asic.modNvc_word (u : Nvc → Nvc) (w : Nat) : (a.modNvc u).word w = a.word w := rfl
@[simp] theorem Asic.modPcie_clk (u : Pcie → Pcie) : (a.modPcie u).clk = a.clk := rfl
@[simp] theorem Asic.modPcie_modes (u : Pcie → Pcie) : (a.modPcie u).modes = a.modes := rfl
@[simp] theorem Asic.modPcie_fw (u : Pcie → Pcie) : (a.modPcie u).fw = a.fw := rfl
@[simp] theorem Asic.modPcie_regs (u : Pcie → Pcie) : (a.modPcie u).regs = a.regs := rfl
@[simp] theorem Asic.modPcie_tv1 (u : Pcie → Pcie) : (a.modPcie u).tv1 = a.tv1 := rfl
@[simp] theorem Asic.modPcie_tv2 (u : Pcie → Pcie) : (a.modPcie u).tv2 = a.tv2 := rfl
@[simp] theorem Asic.modPcie_parity (u : Pcie → Pcie) : (a.modPcie u).parity = a.parity := rfl
@[simp] theorem Asic.modPcie_deferred (u : Pcie → Pcie) : (a.modPcie u).deferred = a.deferred := rfl
@[simp] theorem Asic.modPcie_ref (u : Pcie → Pcie) : (a.modPcie u).ref = a.ref := rfl
@[simp] theorem Asic.modPcie_ump (u : Pcie → Pcie) : (a.modPcie u).ump = a.ump := rfl
@[simp] theorem Asic.modPcie_ldg (u : Pcie → Pcie) : (a.modPcie u).ldg = a.ldg := rfl
@[simp] theorem Asic.modPcie_dpl (u : Pcie → Pcie) : (a.modPcie u).dpl = a.dpl := rfl
@[simp] theorem Asic.modPcie_ovn (u : Pcie → Pcie) : (a.modPcie u).ovn = a.ovn := rfl
@[simp] theorem Asic.modPcie_cal (u : Pcie → Pcie) : (a.modPcie u).cal = a.cal := rfl
@[simp] theorem Asic.modPcie_apl (u : Pcie → Pcie) : (a.modPcie u).apl = a.apl := rfl
@[simp] theorem Asic.modPcie_out (u : Pcie → Pcie) : (a.modPcie u).out = a.out := rfl
@[simp] theorem Asic.modPcie_tsc (u : Pcie → Pcie) : (a.modPcie u).tsc = a.tsc := rfl
@[simp] theorem Asic.modPcie_evt (u : Pcie → Pcie) : (a.modPcie u).evt = a.evt := rfl
@[simp] theorem Asic.modPcie_prt (u : Pcie → Pcie) : (a.modPcie u).prt = a.prt := rfl
@[simp] theorem Asic.modPcie_rly (u : Pcie → Pcie) : (a.modPcie u).rly = a.rly := rfl
@[simp] theorem Asic.modPcie_recs (u : Pcie → Pcie) : (a.modPcie u).recs = a.recs := rfl
@[simp] theorem Asic.modPcie_dma (u : Pcie → Pcie) : (a.modPcie u).dma = a.dma := rfl
@[simp] theorem Asic.modPcie_can (u : Pcie → Pcie) : (a.modPcie u).can = a.can := rfl
@[simp] theorem Asic.modPcie_flt (u : Pcie → Pcie) : (a.modPcie u).flt = a.flt := rfl
@[simp] theorem Asic.modPcie_nvc (u : Pcie → Pcie) : (a.modPcie u).nvc = a.nvc := rfl
@[simp] theorem Asic.modPcie_commits (u : Pcie → Pcie) : (a.modPcie u).commits = a.commits := rfl
@[simp] theorem Asic.modPcie_fill (u : Pcie → Pcie) : (a.modPcie u).fill = a.fill := rfl
@[simp] theorem Asic.modPcie_discards (u : Pcie → Pcie) : (a.modPcie u).discards = a.discards := rfl
@[simp] theorem Asic.modPcie_tx (u : Pcie → Pcie) : (a.modPcie u).tx = a.tx := rfl
@[simp] theorem Asic.modPcie_get (u : Pcie → Pcie) (f : Fld) : (a.modPcie u).get f = a.get f := rfl
@[simp] theorem Asic.modPcie_word (u : Pcie → Pcie) (w : Nat) : (a.modPcie u).word w = a.word w := rfl
@[simp] theorem Asic.raiseOcc_clk (s : Nat) (o : Occ) : (a.raiseOcc s o).clk = a.clk := by unfold Asic.raiseOcc; split; rfl; split <;> rfl
@[simp] theorem Asic.raiseOcc_modes (s : Nat) (o : Occ) : (a.raiseOcc s o).modes = a.modes := by unfold Asic.raiseOcc; split; rfl; split <;> rfl
@[simp] theorem Asic.raiseOcc_fw (s : Nat) (o : Occ) : (a.raiseOcc s o).fw = a.fw := by unfold Asic.raiseOcc; split; rfl; split <;> rfl
@[simp] theorem Asic.raiseOcc_regs (s : Nat) (o : Occ) : (a.raiseOcc s o).regs = a.regs := by unfold Asic.raiseOcc; split; rfl; split <;> rfl
@[simp] theorem Asic.raiseOcc_tv1 (s : Nat) (o : Occ) : (a.raiseOcc s o).tv1 = a.tv1 := by unfold Asic.raiseOcc; split; rfl; split <;> rfl
@[simp] theorem Asic.raiseOcc_tv2 (s : Nat) (o : Occ) : (a.raiseOcc s o).tv2 = a.tv2 := by unfold Asic.raiseOcc; split; rfl; split <;> rfl
@[simp] theorem Asic.raiseOcc_parity (s : Nat) (o : Occ) : (a.raiseOcc s o).parity = a.parity := by unfold Asic.raiseOcc; split; rfl; split <;> rfl
@[simp] theorem Asic.raiseOcc_deferred (s : Nat) (o : Occ) : (a.raiseOcc s o).deferred = a.deferred := by unfold Asic.raiseOcc; split; rfl; split <;> rfl
@[simp] theorem Asic.raiseOcc_ref (s : Nat) (o : Occ) : (a.raiseOcc s o).ref = a.ref := by unfold Asic.raiseOcc; split; rfl; split <;> rfl
@[simp] theorem Asic.raiseOcc_ump (s : Nat) (o : Occ) : (a.raiseOcc s o).ump = a.ump := by unfold Asic.raiseOcc; split; rfl; split <;> rfl
@[simp] theorem Asic.raiseOcc_ldg (s : Nat) (o : Occ) : (a.raiseOcc s o).ldg = a.ldg := by unfold Asic.raiseOcc; split; rfl; split <;> rfl
@[simp] theorem Asic.raiseOcc_dpl (s : Nat) (o : Occ) : (a.raiseOcc s o).dpl = a.dpl := by unfold Asic.raiseOcc; split; rfl; split <;> rfl
@[simp] theorem Asic.raiseOcc_ovn (s : Nat) (o : Occ) : (a.raiseOcc s o).ovn = a.ovn := by unfold Asic.raiseOcc; split; rfl; split <;> rfl
@[simp] theorem Asic.raiseOcc_cal (s : Nat) (o : Occ) : (a.raiseOcc s o).cal = a.cal := by unfold Asic.raiseOcc; split; rfl; split <;> rfl
@[simp] theorem Asic.raiseOcc_apl (s : Nat) (o : Occ) : (a.raiseOcc s o).apl = a.apl := by unfold Asic.raiseOcc; split; rfl; split <;> rfl
@[simp] theorem Asic.raiseOcc_out (s : Nat) (o : Occ) : (a.raiseOcc s o).out = a.out := by unfold Asic.raiseOcc; split; rfl; split <;> rfl
@[simp] theorem Asic.raiseOcc_tsc (s : Nat) (o : Occ) : (a.raiseOcc s o).tsc = a.tsc := by unfold Asic.raiseOcc; split; rfl; split <;> rfl
@[simp] theorem Asic.raiseOcc_evt (s : Nat) (o : Occ) : (a.raiseOcc s o).evt = a.evt := by unfold Asic.raiseOcc; split; rfl; split <;> rfl
@[simp] theorem Asic.raiseOcc_prt (s : Nat) (o : Occ) : (a.raiseOcc s o).prt = a.prt := by unfold Asic.raiseOcc; split; rfl; split <;> rfl
@[simp] theorem Asic.raiseOcc_rly (s : Nat) (o : Occ) : (a.raiseOcc s o).rly = a.rly := by unfold Asic.raiseOcc; split; rfl; split <;> rfl
@[simp] theorem Asic.raiseOcc_recs (s : Nat) (o : Occ) : (a.raiseOcc s o).recs = a.recs := by unfold Asic.raiseOcc; split; rfl; split <;> rfl
@[simp] theorem Asic.raiseOcc_dma (s : Nat) (o : Occ) : (a.raiseOcc s o).dma = a.dma := by unfold Asic.raiseOcc; split; rfl; split <;> rfl
@[simp] theorem Asic.raiseOcc_bus (s : Nat) (o : Occ) : (a.raiseOcc s o).bus = a.bus := by unfold Asic.raiseOcc; split; rfl; split <;> rfl
@[simp] theorem Asic.raiseOcc_can (s : Nat) (o : Occ) : (a.raiseOcc s o).can = a.can := by unfold Asic.raiseOcc; split; rfl; split <;> rfl
@[simp] theorem Asic.raiseOcc_nvc (s : Nat) (o : Occ) : (a.raiseOcc s o).nvc = a.nvc := by unfold Asic.raiseOcc; split; rfl; split <;> rfl
@[simp] theorem Asic.raiseOcc_commits (s : Nat) (o : Occ) : (a.raiseOcc s o).commits = a.commits := by unfold Asic.raiseOcc; split; rfl; split <;> rfl
@[simp] theorem Asic.raiseOcc_fill (s : Nat) (o : Occ) : (a.raiseOcc s o).fill = a.fill := by unfold Asic.raiseOcc; split; rfl; split <;> rfl
@[simp] theorem Asic.raiseOcc_discards (s : Nat) (o : Occ) : (a.raiseOcc s o).discards = a.discards := by unfold Asic.raiseOcc; split; rfl; split <;> rfl
@[simp] theorem Asic.raiseOcc_tx (s : Nat) (o : Occ) : (a.raiseOcc s o).tx = a.tx := by unfold Asic.raiseOcc; split; rfl; split <;> rfl
@[simp] theorem Asic.raiseOcc_get (s : Nat) (o : Occ) (f : Fld) : (a.raiseOcc s o).get f = a.get f := by unfold Asic.raiseOcc; split; rfl; split <;> rfl
@[simp] theorem Asic.raiseOcc_word (s : Nat) (o : Occ) (f : Nat) : (a.raiseOcc s o).word f = a.word f := by unfold Asic.raiseOcc; split; rfl; split <;> rfl
@[simp] theorem Asic.raise_clk (s d : Nat) : (a.raise s d).clk = a.clk := Asic.raiseOcc_clk a s _
@[simp] theorem Asic.raise_modes (s d : Nat) : (a.raise s d).modes = a.modes := Asic.raiseOcc_modes a s _
@[simp] theorem Asic.raise_fw (s d : Nat) : (a.raise s d).fw = a.fw := Asic.raiseOcc_fw a s _
@[simp] theorem Asic.raise_regs (s d : Nat) : (a.raise s d).regs = a.regs := Asic.raiseOcc_regs a s _
@[simp] theorem Asic.raise_tv1 (s d : Nat) : (a.raise s d).tv1 = a.tv1 := Asic.raiseOcc_tv1 a s _
@[simp] theorem Asic.raise_tv2 (s d : Nat) : (a.raise s d).tv2 = a.tv2 := Asic.raiseOcc_tv2 a s _
@[simp] theorem Asic.raise_parity (s d : Nat) : (a.raise s d).parity = a.parity := Asic.raiseOcc_parity a s _
@[simp] theorem Asic.raise_deferred (s d : Nat) : (a.raise s d).deferred = a.deferred := Asic.raiseOcc_deferred a s _
@[simp] theorem Asic.raise_ref (s d : Nat) : (a.raise s d).ref = a.ref := Asic.raiseOcc_ref a s _
@[simp] theorem Asic.raise_ump (s d : Nat) : (a.raise s d).ump = a.ump := Asic.raiseOcc_ump a s _
@[simp] theorem Asic.raise_ldg (s d : Nat) : (a.raise s d).ldg = a.ldg := Asic.raiseOcc_ldg a s _
@[simp] theorem Asic.raise_dpl (s d : Nat) : (a.raise s d).dpl = a.dpl := Asic.raiseOcc_dpl a s _
@[simp] theorem Asic.raise_ovn (s d : Nat) : (a.raise s d).ovn = a.ovn := Asic.raiseOcc_ovn a s _
@[simp] theorem Asic.raise_cal (s d : Nat) : (a.raise s d).cal = a.cal := Asic.raiseOcc_cal a s _
@[simp] theorem Asic.raise_apl (s d : Nat) : (a.raise s d).apl = a.apl := Asic.raiseOcc_apl a s _
@[simp] theorem Asic.raise_out (s d : Nat) : (a.raise s d).out = a.out := Asic.raiseOcc_out a s _
@[simp] theorem Asic.raise_tsc (s d : Nat) : (a.raise s d).tsc = a.tsc := Asic.raiseOcc_tsc a s _
@[simp] theorem Asic.raise_evt (s d : Nat) : (a.raise s d).evt = a.evt := Asic.raiseOcc_evt a s _
@[simp] theorem Asic.raise_prt (s d : Nat) : (a.raise s d).prt = a.prt := Asic.raiseOcc_prt a s _
@[simp] theorem Asic.raise_rly (s d : Nat) : (a.raise s d).rly = a.rly := Asic.raiseOcc_rly a s _
@[simp] theorem Asic.raise_recs (s d : Nat) : (a.raise s d).recs = a.recs := Asic.raiseOcc_recs a s _
@[simp] theorem Asic.raise_dma (s d : Nat) : (a.raise s d).dma = a.dma := Asic.raiseOcc_dma a s _
@[simp] theorem Asic.raise_bus (s d : Nat) : (a.raise s d).bus = a.bus := Asic.raiseOcc_bus a s _
@[simp] theorem Asic.raise_can (s d : Nat) : (a.raise s d).can = a.can := Asic.raiseOcc_can a s _
@[simp] theorem Asic.raise_nvc (s d : Nat) : (a.raise s d).nvc = a.nvc := Asic.raiseOcc_nvc a s _
@[simp] theorem Asic.raise_commits (s d : Nat) : (a.raise s d).commits = a.commits := Asic.raiseOcc_commits a s _
@[simp] theorem Asic.raise_fill (s d : Nat) : (a.raise s d).fill = a.fill := Asic.raiseOcc_fill a s _
@[simp] theorem Asic.raise_discards (s d : Nat) : (a.raise s d).discards = a.discards := Asic.raiseOcc_discards a s _
@[simp] theorem Asic.raise_tx (s d : Nat) : (a.raise s d).tx = a.tx := Asic.raiseOcc_tx a s _
@[simp] theorem Asic.raise_get (s d : Nat) (f : Fld) : (a.raise s d).get f = a.get f := Asic.raiseOcc_get a s _ f
@[simp] theorem Asic.raise_word (s d : Nat) (f : Nat) : (a.raise s d).word f = a.word f := Asic.raiseOcc_word a s _ f
@[simp] theorem Asic.raiseAccess_clk (s : Nat) (x : Access) : (a.raiseAccess s x).clk = a.clk := Asic.raiseOcc_clk a s _
@[simp] theorem Asic.raiseAccess_modes (s : Nat) (x : Access) : (a.raiseAccess s x).modes = a.modes := Asic.raiseOcc_modes a s _
@[simp] theorem Asic.raiseAccess_fw (s : Nat) (x : Access) : (a.raiseAccess s x).fw = a.fw := Asic.raiseOcc_fw a s _
@[simp] theorem Asic.raiseAccess_regs (s : Nat) (x : Access) : (a.raiseAccess s x).regs = a.regs := Asic.raiseOcc_regs a s _
@[simp] theorem Asic.raiseAccess_tv1 (s : Nat) (x : Access) : (a.raiseAccess s x).tv1 = a.tv1 := Asic.raiseOcc_tv1 a s _
@[simp] theorem Asic.raiseAccess_tv2 (s : Nat) (x : Access) : (a.raiseAccess s x).tv2 = a.tv2 := Asic.raiseOcc_tv2 a s _
@[simp] theorem Asic.raiseAccess_parity (s : Nat) (x : Access) : (a.raiseAccess s x).parity = a.parity := Asic.raiseOcc_parity a s _
@[simp] theorem Asic.raiseAccess_deferred (s : Nat) (x : Access) : (a.raiseAccess s x).deferred = a.deferred := Asic.raiseOcc_deferred a s _
@[simp] theorem Asic.raiseAccess_ref (s : Nat) (x : Access) : (a.raiseAccess s x).ref = a.ref := Asic.raiseOcc_ref a s _
@[simp] theorem Asic.raiseAccess_ump (s : Nat) (x : Access) : (a.raiseAccess s x).ump = a.ump := Asic.raiseOcc_ump a s _
@[simp] theorem Asic.raiseAccess_ldg (s : Nat) (x : Access) : (a.raiseAccess s x).ldg = a.ldg := Asic.raiseOcc_ldg a s _
@[simp] theorem Asic.raiseAccess_dpl (s : Nat) (x : Access) : (a.raiseAccess s x).dpl = a.dpl := Asic.raiseOcc_dpl a s _
@[simp] theorem Asic.raiseAccess_ovn (s : Nat) (x : Access) : (a.raiseAccess s x).ovn = a.ovn := Asic.raiseOcc_ovn a s _
@[simp] theorem Asic.raiseAccess_cal (s : Nat) (x : Access) : (a.raiseAccess s x).cal = a.cal := Asic.raiseOcc_cal a s _
@[simp] theorem Asic.raiseAccess_apl (s : Nat) (x : Access) : (a.raiseAccess s x).apl = a.apl := Asic.raiseOcc_apl a s _
@[simp] theorem Asic.raiseAccess_out (s : Nat) (x : Access) : (a.raiseAccess s x).out = a.out := Asic.raiseOcc_out a s _
@[simp] theorem Asic.raiseAccess_tsc (s : Nat) (x : Access) : (a.raiseAccess s x).tsc = a.tsc := Asic.raiseOcc_tsc a s _
@[simp] theorem Asic.raiseAccess_evt (s : Nat) (x : Access) : (a.raiseAccess s x).evt = a.evt := Asic.raiseOcc_evt a s _
@[simp] theorem Asic.raiseAccess_prt (s : Nat) (x : Access) : (a.raiseAccess s x).prt = a.prt := Asic.raiseOcc_prt a s _
@[simp] theorem Asic.raiseAccess_rly (s : Nat) (x : Access) : (a.raiseAccess s x).rly = a.rly := Asic.raiseOcc_rly a s _
@[simp] theorem Asic.raiseAccess_recs (s : Nat) (x : Access) : (a.raiseAccess s x).recs = a.recs := Asic.raiseOcc_recs a s _
@[simp] theorem Asic.raiseAccess_dma (s : Nat) (x : Access) : (a.raiseAccess s x).dma = a.dma := Asic.raiseOcc_dma a s _
@[simp] theorem Asic.raiseAccess_bus (s : Nat) (x : Access) : (a.raiseAccess s x).bus = a.bus := Asic.raiseOcc_bus a s _
@[simp] theorem Asic.raiseAccess_can (s : Nat) (x : Access) : (a.raiseAccess s x).can = a.can := Asic.raiseOcc_can a s _
@[simp] theorem Asic.raiseAccess_nvc (s : Nat) (x : Access) : (a.raiseAccess s x).nvc = a.nvc := Asic.raiseOcc_nvc a s _
@[simp] theorem Asic.raiseAccess_commits (s : Nat) (x : Access) : (a.raiseAccess s x).commits = a.commits := Asic.raiseOcc_commits a s _
@[simp] theorem Asic.raiseAccess_fill (s : Nat) (x : Access) : (a.raiseAccess s x).fill = a.fill := Asic.raiseOcc_fill a s _
@[simp] theorem Asic.raiseAccess_discards (s : Nat) (x : Access) : (a.raiseAccess s x).discards = a.discards := Asic.raiseOcc_discards a s _
@[simp] theorem Asic.raiseAccess_tx (s : Nat) (x : Access) : (a.raiseAccess s x).tx = a.tx := Asic.raiseOcc_tx a s _
@[simp] theorem Asic.raiseAccess_get (s : Nat) (x : Access) (f : Fld) : (a.raiseAccess s x).get f = a.get f := Asic.raiseOcc_get a s _ f
@[simp] theorem Asic.raiseAccess_word (s : Nat) (x : Access) (f : Nat) : (a.raiseAccess s x).word f = a.word f := Asic.raiseOcc_word a s _ f
@[simp] theorem Asic.levelOn_clk (s u d : Nat) : (a.levelOn s u d).clk = a.clk := by unfold Asic.levelOn; split <;> rfl
@[simp] theorem Asic.levelOn_modes (s u d : Nat) : (a.levelOn s u d).modes = a.modes := by unfold Asic.levelOn; split <;> rfl
@[simp] theorem Asic.levelOn_fw (s u d : Nat) : (a.levelOn s u d).fw = a.fw := by unfold Asic.levelOn; split <;> rfl
@[simp] theorem Asic.levelOn_regs (s u d : Nat) : (a.levelOn s u d).regs = a.regs := by unfold Asic.levelOn; split <;> rfl
@[simp] theorem Asic.levelOn_tv1 (s u d : Nat) : (a.levelOn s u d).tv1 = a.tv1 := by unfold Asic.levelOn; split <;> rfl
@[simp] theorem Asic.levelOn_tv2 (s u d : Nat) : (a.levelOn s u d).tv2 = a.tv2 := by unfold Asic.levelOn; split <;> rfl
@[simp] theorem Asic.levelOn_parity (s u d : Nat) : (a.levelOn s u d).parity = a.parity := by unfold Asic.levelOn; split <;> rfl
@[simp] theorem Asic.levelOn_deferred (s u d : Nat) : (a.levelOn s u d).deferred = a.deferred := by unfold Asic.levelOn; split <;> rfl
@[simp] theorem Asic.levelOn_ref (s u d : Nat) : (a.levelOn s u d).ref = a.ref := by unfold Asic.levelOn; split <;> rfl
@[simp] theorem Asic.levelOn_ump (s u d : Nat) : (a.levelOn s u d).ump = a.ump := by unfold Asic.levelOn; split <;> rfl
@[simp] theorem Asic.levelOn_ldg (s u d : Nat) : (a.levelOn s u d).ldg = a.ldg := by unfold Asic.levelOn; split <;> rfl
@[simp] theorem Asic.levelOn_dpl (s u d : Nat) : (a.levelOn s u d).dpl = a.dpl := by unfold Asic.levelOn; split <;> rfl
@[simp] theorem Asic.levelOn_ovn (s u d : Nat) : (a.levelOn s u d).ovn = a.ovn := by unfold Asic.levelOn; split <;> rfl
@[simp] theorem Asic.levelOn_cal (s u d : Nat) : (a.levelOn s u d).cal = a.cal := by unfold Asic.levelOn; split <;> rfl
@[simp] theorem Asic.levelOn_apl (s u d : Nat) : (a.levelOn s u d).apl = a.apl := by unfold Asic.levelOn; split <;> rfl
@[simp] theorem Asic.levelOn_out (s u d : Nat) : (a.levelOn s u d).out = a.out := by unfold Asic.levelOn; split <;> rfl
@[simp] theorem Asic.levelOn_tsc (s u d : Nat) : (a.levelOn s u d).tsc = a.tsc := by unfold Asic.levelOn; split <;> rfl
@[simp] theorem Asic.levelOn_evt (s u d : Nat) : (a.levelOn s u d).evt = a.evt := by unfold Asic.levelOn; split <;> rfl
@[simp] theorem Asic.levelOn_prt (s u d : Nat) : (a.levelOn s u d).prt = a.prt := by unfold Asic.levelOn; split <;> rfl
@[simp] theorem Asic.levelOn_rly (s u d : Nat) : (a.levelOn s u d).rly = a.rly := by unfold Asic.levelOn; split <;> rfl
@[simp] theorem Asic.levelOn_recs (s u d : Nat) : (a.levelOn s u d).recs = a.recs := by unfold Asic.levelOn; split <;> rfl
@[simp] theorem Asic.levelOn_dma (s u d : Nat) : (a.levelOn s u d).dma = a.dma := by unfold Asic.levelOn; split <;> rfl
@[simp] theorem Asic.levelOn_bus (s u d : Nat) : (a.levelOn s u d).bus = a.bus := by unfold Asic.levelOn; split <;> rfl
@[simp] theorem Asic.levelOn_can (s u d : Nat) : (a.levelOn s u d).can = a.can := by unfold Asic.levelOn; split <;> rfl
@[simp] theorem Asic.levelOn_nvc (s u d : Nat) : (a.levelOn s u d).nvc = a.nvc := by unfold Asic.levelOn; split <;> rfl
@[simp] theorem Asic.levelOn_commits (s u d : Nat) : (a.levelOn s u d).commits = a.commits := by unfold Asic.levelOn; split <;> rfl
@[simp] theorem Asic.levelOn_fill (s u d : Nat) : (a.levelOn s u d).fill = a.fill := by unfold Asic.levelOn; split <;> rfl
@[simp] theorem Asic.levelOn_discards (s u d : Nat) : (a.levelOn s u d).discards = a.discards := by unfold Asic.levelOn; split <;> rfl
@[simp] theorem Asic.levelOn_tx (s u d : Nat) : (a.levelOn s u d).tx = a.tx := by unfold Asic.levelOn; split <;> rfl
@[simp] theorem Asic.levelOn_get (s u d : Nat) (f : Fld) : (a.levelOn s u d).get f = a.get f := by unfold Asic.levelOn; split <;> rfl
@[simp] theorem Asic.levelOn_word (s u d : Nat) (f : Nat) : (a.levelOn s u d).word f = a.word f := by unfold Asic.levelOn; split <;> rfl
@[simp] theorem Asic.levelOff_clk (s u : Nat) : (a.levelOff s u).clk = a.clk := by unfold Asic.levelOff; split <;> rfl
@[simp] theorem Asic.levelOff_modes (s u : Nat) : (a.levelOff s u).modes = a.modes := by unfold Asic.levelOff; split <;> rfl
@[simp] theorem Asic.levelOff_fw (s u : Nat) : (a.levelOff s u).fw = a.fw := by unfold Asic.levelOff; split <;> rfl
@[simp] theorem Asic.levelOff_regs (s u : Nat) : (a.levelOff s u).regs = a.regs := by unfold Asic.levelOff; split <;> rfl
@[simp] theorem Asic.levelOff_tv1 (s u : Nat) : (a.levelOff s u).tv1 = a.tv1 := by unfold Asic.levelOff; split <;> rfl
@[simp] theorem Asic.levelOff_tv2 (s u : Nat) : (a.levelOff s u).tv2 = a.tv2 := by unfold Asic.levelOff; split <;> rfl
@[simp] theorem Asic.levelOff_parity (s u : Nat) : (a.levelOff s u).parity = a.parity := by unfold Asic.levelOff; split <;> rfl
@[simp] theorem Asic.levelOff_deferred (s u : Nat) : (a.levelOff s u).deferred = a.deferred := by unfold Asic.levelOff; split <;> rfl
@[simp] theorem Asic.levelOff_ref (s u : Nat) : (a.levelOff s u).ref = a.ref := by unfold Asic.levelOff; split <;> rfl
@[simp] theorem Asic.levelOff_ump (s u : Nat) : (a.levelOff s u).ump = a.ump := by unfold Asic.levelOff; split <;> rfl
@[simp] theorem Asic.levelOff_ldg (s u : Nat) : (a.levelOff s u).ldg = a.ldg := by unfold Asic.levelOff; split <;> rfl
@[simp] theorem Asic.levelOff_dpl (s u : Nat) : (a.levelOff s u).dpl = a.dpl := by unfold Asic.levelOff; split <;> rfl
@[simp] theorem Asic.levelOff_ovn (s u : Nat) : (a.levelOff s u).ovn = a.ovn := by unfold Asic.levelOff; split <;> rfl
@[simp] theorem Asic.levelOff_cal (s u : Nat) : (a.levelOff s u).cal = a.cal := by unfold Asic.levelOff; split <;> rfl
@[simp] theorem Asic.levelOff_apl (s u : Nat) : (a.levelOff s u).apl = a.apl := by unfold Asic.levelOff; split <;> rfl
@[simp] theorem Asic.levelOff_out (s u : Nat) : (a.levelOff s u).out = a.out := by unfold Asic.levelOff; split <;> rfl
@[simp] theorem Asic.levelOff_tsc (s u : Nat) : (a.levelOff s u).tsc = a.tsc := by unfold Asic.levelOff; split <;> rfl
@[simp] theorem Asic.levelOff_evt (s u : Nat) : (a.levelOff s u).evt = a.evt := by unfold Asic.levelOff; split <;> rfl
@[simp] theorem Asic.levelOff_prt (s u : Nat) : (a.levelOff s u).prt = a.prt := by unfold Asic.levelOff; split <;> rfl
@[simp] theorem Asic.levelOff_rly (s u : Nat) : (a.levelOff s u).rly = a.rly := by unfold Asic.levelOff; split <;> rfl
@[simp] theorem Asic.levelOff_recs (s u : Nat) : (a.levelOff s u).recs = a.recs := by unfold Asic.levelOff; split <;> rfl
@[simp] theorem Asic.levelOff_dma (s u : Nat) : (a.levelOff s u).dma = a.dma := by unfold Asic.levelOff; split <;> rfl
@[simp] theorem Asic.levelOff_bus (s u : Nat) : (a.levelOff s u).bus = a.bus := by unfold Asic.levelOff; split <;> rfl
@[simp] theorem Asic.levelOff_can (s u : Nat) : (a.levelOff s u).can = a.can := by unfold Asic.levelOff; split <;> rfl
@[simp] theorem Asic.levelOff_nvc (s u : Nat) : (a.levelOff s u).nvc = a.nvc := by unfold Asic.levelOff; split <;> rfl
@[simp] theorem Asic.levelOff_commits (s u : Nat) : (a.levelOff s u).commits = a.commits := by unfold Asic.levelOff; split <;> rfl
@[simp] theorem Asic.levelOff_fill (s u : Nat) : (a.levelOff s u).fill = a.fill := by unfold Asic.levelOff; split <;> rfl
@[simp] theorem Asic.levelOff_discards (s u : Nat) : (a.levelOff s u).discards = a.discards := by unfold Asic.levelOff; split <;> rfl
@[simp] theorem Asic.levelOff_tx (s u : Nat) : (a.levelOff s u).tx = a.tx := by unfold Asic.levelOff; split <;> rfl
@[simp] theorem Asic.levelOff_get (s u : Nat) (f : Fld) : (a.levelOff s u).get f = a.get f := by unfold Asic.levelOff; split <;> rfl
@[simp] theorem Asic.levelOff_word (s u : Nat) (f : Nat) : (a.levelOff s u).word f = a.word f := by unfold Asic.levelOff; split <;> rfl
@[simp] theorem Asic.level_clk (s u d : Nat) (b : Bool) : (a.level s u d b).clk = a.clk := by cases b <;> simp [Asic.level]
@[simp] theorem Asic.level_modes (s u d : Nat) (b : Bool) : (a.level s u d b).modes = a.modes := by cases b <;> simp [Asic.level]
@[simp] theorem Asic.level_fw (s u d : Nat) (b : Bool) : (a.level s u d b).fw = a.fw := by cases b <;> simp [Asic.level]
@[simp] theorem Asic.level_regs (s u d : Nat) (b : Bool) : (a.level s u d b).regs = a.regs := by cases b <;> simp [Asic.level]
@[simp] theorem Asic.level_tv1 (s u d : Nat) (b : Bool) : (a.level s u d b).tv1 = a.tv1 := by cases b <;> simp [Asic.level]
@[simp] theorem Asic.level_tv2 (s u d : Nat) (b : Bool) : (a.level s u d b).tv2 = a.tv2 := by cases b <;> simp [Asic.level]
@[simp] theorem Asic.level_parity (s u d : Nat) (b : Bool) : (a.level s u d b).parity = a.parity := by cases b <;> simp [Asic.level]
@[simp] theorem Asic.level_deferred (s u d : Nat) (b : Bool) : (a.level s u d b).deferred = a.deferred := by cases b <;> simp [Asic.level]
@[simp] theorem Asic.level_ref (s u d : Nat) (b : Bool) : (a.level s u d b).ref = a.ref := by cases b <;> simp [Asic.level]
@[simp] theorem Asic.level_ump (s u d : Nat) (b : Bool) : (a.level s u d b).ump = a.ump := by cases b <;> simp [Asic.level]
@[simp] theorem Asic.level_ldg (s u d : Nat) (b : Bool) : (a.level s u d b).ldg = a.ldg := by cases b <;> simp [Asic.level]
@[simp] theorem Asic.level_dpl (s u d : Nat) (b : Bool) : (a.level s u d b).dpl = a.dpl := by cases b <;> simp [Asic.level]
@[simp] theorem Asic.level_ovn (s u d : Nat) (b : Bool) : (a.level s u d b).ovn = a.ovn := by cases b <;> simp [Asic.level]
@[simp] theorem Asic.level_cal (s u d : Nat) (b : Bool) : (a.level s u d b).cal = a.cal := by cases b <;> simp [Asic.level]
@[simp] theorem Asic.level_apl (s u d : Nat) (b : Bool) : (a.level s u d b).apl = a.apl := by cases b <;> simp [Asic.level]
@[simp] theorem Asic.level_out (s u d : Nat) (b : Bool) : (a.level s u d b).out = a.out := by cases b <;> simp [Asic.level]
@[simp] theorem Asic.level_tsc (s u d : Nat) (b : Bool) : (a.level s u d b).tsc = a.tsc := by cases b <;> simp [Asic.level]
@[simp] theorem Asic.level_evt (s u d : Nat) (b : Bool) : (a.level s u d b).evt = a.evt := by cases b <;> simp [Asic.level]
@[simp] theorem Asic.level_prt (s u d : Nat) (b : Bool) : (a.level s u d b).prt = a.prt := by cases b <;> simp [Asic.level]
@[simp] theorem Asic.level_rly (s u d : Nat) (b : Bool) : (a.level s u d b).rly = a.rly := by cases b <;> simp [Asic.level]
@[simp] theorem Asic.level_recs (s u d : Nat) (b : Bool) : (a.level s u d b).recs = a.recs := by cases b <;> simp [Asic.level]
@[simp] theorem Asic.level_dma (s u d : Nat) (b : Bool) : (a.level s u d b).dma = a.dma := by cases b <;> simp [Asic.level]
@[simp] theorem Asic.level_bus (s u d : Nat) (b : Bool) : (a.level s u d b).bus = a.bus := by cases b <;> simp [Asic.level]
@[simp] theorem Asic.level_can (s u d : Nat) (b : Bool) : (a.level s u d b).can = a.can := by cases b <;> simp [Asic.level]
@[simp] theorem Asic.level_nvc (s u d : Nat) (b : Bool) : (a.level s u d b).nvc = a.nvc := by cases b <;> simp [Asic.level]
@[simp] theorem Asic.level_commits (s u d : Nat) (b : Bool) : (a.level s u d b).commits = a.commits := by cases b <;> simp [Asic.level]
@[simp] theorem Asic.level_fill (s u d : Nat) (b : Bool) : (a.level s u d b).fill = a.fill := by cases b <;> simp [Asic.level]
@[simp] theorem Asic.level_discards (s u d : Nat) (b : Bool) : (a.level s u d b).discards = a.discards := by cases b <;> simp [Asic.level]
@[simp] theorem Asic.level_tx (s u d : Nat) (b : Bool) : (a.level s u d b).tx = a.tx := by cases b <;> simp [Asic.level]
@[simp] theorem Asic.level_get (s u d : Nat) (b : Bool) (f : Fld) : (a.level s u d b).get f = a.get f := by cases b <;> simp [Asic.level]
@[simp] theorem Asic.level_word (s u d : Nat) (b : Bool) (f : Nat) : (a.level s u d b).word f = a.word f := by cases b <;> simp [Asic.level]

/-! ### Running a command -/

@[simp] theorem Dev.onAsic_asic (d : Dev) (f : Asic → Asic) : (d.onAsic f).asic = f d.asic := rfl
@[simp] theorem Dev.onAsic_kep (d : Dev) (f : Asic → Asic) : (d.onAsic f).kep = d.kep := rfl
@[simp] theorem Dev.onAsic_nvm (d : Dev) (f : Asic → Asic) : (d.onAsic f).nvm = d.nvm := rfl
@[simp] theorem Dev.onAsic_sup (d : Dev) (f : Asic → Asic) : (d.onAsic f).sup = d.sup := rfl
@[simp] theorem Dev.onNvm_asic (d : Dev) (f : Nvm → Nvm) : (d.onNvm f).asic = d.asic := rfl
@[simp] theorem Dev.onNvm_kep (d : Dev) (f : Nvm → Nvm) : (d.onNvm f).kep = d.kep := rfl
@[simp] theorem Dev.onNvm_nvm (d : Dev) (f : Nvm → Nvm) : (d.onNvm f).nvm = f d.nvm := rfl
@[simp] theorem Dev.onNvm_sup (d : Dev) (f : Nvm → Nvm) : (d.onNvm f).sup = d.sup := rfl

/-- What a command of the ASIC can do: nothing in SHELF; else its effect, after which `KEP_OVSEL` names the active oven. -/
theorem Dev.run_cases (d : Dev) (f : Asic → Asic) :
    (d.sup.shelf = true ∧ d.run f = d) ∨
      (d.sup.shelf = false ∧ (d.run f).asic = f d.asic ∧ (d.run f).nvm = d.nvm ∧ (d.run f).sup = d.sup ∧
        (d.run f).kep = if (f d.asic).activeOven = d.asic.activeOven then d.kep else { d.kep with ovenSel := (f d.asic).activeOven }) := by
  unfold Dev.run
  cases h : d.sup.shelf <;> simp

theorem Dev.run_shelf (d : Dev) (f : Asic → Asic) (h : d.sup.shelf = true) : d.run f = d := by
  simp [Dev.run, h]
theorem Dev.run_asic (d : Dev) (f : Asic → Asic) (h : d.sup.shelf = false) : (d.run f).asic = f d.asic := by
  simp [Dev.run, h]
@[simp] theorem Dev.run_nvm (d : Dev) (f : Asic → Asic) : (d.run f).nvm = d.nvm := by
  unfold Dev.run; split <;> rfl
@[simp] theorem Dev.run_sup (d : Dev) (f : Asic → Asic) : (d.run f).sup = d.sup := by
  unfold Dev.run; split <;> rfl
theorem Dev.run_kep (d : Dev) (f : Asic → Asic) (h : (f d.asic).activeOven = d.asic.activeOven) : (d.run f).kep = d.kep := by
  unfold Dev.run
  split
  · rfl
  · simp [h]

/-- A command of the ASIC, its effect given as a change that keeps the active oven. -/
theorem State.run_eq (s : State) (f : Asic → Asic) (h : s.dev.sup.shelf = false) (ho : (f s.dev.asic).activeOven = s.dev.asic.activeOven) :
    s.run f = .next { s with dev := { s.dev with asic := f s.dev.asic } } := by
  simp [State.run, State.act, Dev.run, h, ho]

end Sys2Proof.Machine
end

