-- ==== Sys2Proof/Laws/Table.lean ====
section
/-! SUPPORT. Laws of sparse tables: read after write, and the canonical form every write keeps. -/

namespace Sys2Proof.Machine

theorem Tab.getF_del_same {α : Type} (d : Nat → α) (m : Tab α) (k : Nat) : (m.del k).getF d k = d k := by
  induction m with
  | nil => rfl
  | cons p t ih =>
    obtain ⟨j, w⟩ := p
    by_cases h : j = k
    · simpa [Tab.del, h] using ih
    · simpa [Tab.del, Tab.getF, h] using ih

theorem Tab.getF_del_ne {α : Type} (d : Nat → α) (m : Tab α) {k i : Nat} (hi : i ≠ k) : (m.del k).getF d i = m.getF d i := by
  induction m with
  | nil => rfl
  | cons p t ih =>
    obtain ⟨j, w⟩ := p
    by_cases h : j = k
    · have hj : j ≠ i := fun e => hi (e.symm.trans h)
      simpa [Tab.del, Tab.getF, h, hi.symm] using ih
    · by_cases hj : j = i
      · simp [Tab.del, Tab.getF, hj, hi]
      · simpa [Tab.del, Tab.getF, h, hj] using ih

theorem Tab.getF_ins_same {α : Type} (d : Nat → α) (m : Tab α) (k : Nat) (v : α) (h : ∀ p ∈ m, p.1 ≠ k) :
    (Tab.ins k v m).getF d k = v := by
  induction m with
  | nil => simp [Tab.ins, Tab.getF]
  | cons p t ih =>
    obtain ⟨j, w⟩ := p
    have hj : j ≠ k := h (j, w) (by simp)
    by_cases hk : k ≤ j
    · simp [Tab.ins, hk, Tab.getF]
    · simp [Tab.ins, hk, Tab.getF, hj, ih fun p hp => h p (by simp [hp])]

theorem Tab.getF_ins_ne {α : Type} (d : Nat → α) (m : Tab α) {k i : Nat} (v : α) (hi : i ≠ k) :
    (Tab.ins k v m).getF d i = m.getF d i := by
  induction m with
  | nil => simp [Tab.ins, Tab.getF, hi.symm]
  | cons p t ih =>
    obtain ⟨j, w⟩ := p
    by_cases hk : k ≤ j
    · simp [Tab.ins, hk, Tab.getF, hi.symm]
    · simp [Tab.ins, hk, Tab.getF, ih]

theorem Tab.del_keys {α : Type} (m : Tab α) (k : Nat) : ∀ p ∈ m.del k, p.1 ≠ k := by
  intro p hp
  simpa using (List.mem_filter.mp hp).2

/-- A read after a write to the same key gives the value written. -/
@[simp] theorem Tab.getF_setF_same {α : Type} [DecidableEq α] (d : Nat → α) (m : Tab α) (k : Nat) (v : α) :
    (m.setF d k v).getF d k = v := by
  unfold Tab.setF
  split
  · rename_i h
    rw [Tab.getF_del_same, h]
  · exact Tab.getF_ins_same d _ k v (Tab.del_keys m k)

/-- A write leaves every other key alone. -/
theorem Tab.getF_setF_ne {α : Type} [DecidableEq α] (d : Nat → α) (m : Tab α) {k i : Nat} (v : α) (hi : i ≠ k) :
    (m.setF d k v).getF d i = m.getF d i := by
  unfold Tab.setF
  split
  · exact Tab.getF_del_ne d m hi
  · rw [Tab.getF_ins_ne d _ v hi, Tab.getF_del_ne d m hi]

@[simp] theorem Tab.get_set_same {α : Type} [Inhabited α] [DecidableEq α] (m : Tab α) (k : Nat) (v : α) : (m.set k v).get k = v :=
  Tab.getF_setF_same _ m k v

theorem Tab.get_set_ne {α : Type} [Inhabited α] [DecidableEq α] (m : Tab α) {k i : Nat} (v : α) (hi : i ≠ k) :
    (m.set k v).get i = m.get i := Tab.getF_setF_ne _ m v hi

@[simp] theorem Tab.get_mod_same {α : Type} [Inhabited α] [DecidableEq α] (m : Tab α) (k : Nat) (f : α → α) :
    (m.mod k f).get k = f (m.get k) := Tab.get_set_same m k _

theorem Tab.get_mod_ne {α : Type} [Inhabited α] [DecidableEq α] (m : Tab α) {k i : Nat} (f : α → α) (hi : i ≠ k) :
    (m.mod k f).get i = m.get i := Tab.get_set_ne m _ hi

/-! ### The canonical form -/

/-- Every key of the table is above `b`, keys rise, and no entry holds its default. -/
def Tab.above {α : Type} (d : Nat → α) : Int → Tab α → Prop
  | _, [] => True
  | b, (k, v) :: t => b < k ∧ v ≠ d k ∧ Tab.above d k t

theorem Tab.wfF_iff {α : Type} [DecidableEq α] (d : Nat → α) (m : Tab α) : m.wfF d = true ↔ m.above d (-1) := by
  suffices h : ∀ (t : Tab α) (k : Nat) (v : α), Tab.wfF d ((k, v) :: t) = true ↔ v ≠ d k ∧ t.above d k by
    cases m with
    | nil => simp [Tab.wfF, Tab.above]
    | cons p t =>
      rw [show (p :: t : Tab α) = (p.1, p.2) :: t from rfl, h]
      simp [Tab.above]; omega
  intro t
  induction t with
  | nil => intro k v; simp [Tab.wfF, Tab.above]
  | cons p t ih =>
    intro k v
    obtain ⟨j, w⟩ := p
    simp only [Tab.wfF, Bool.and_eq_true, decide_eq_true_eq, ih, Tab.above]
    constructor
    · rintro ⟨⟨h1, h2⟩, h3⟩
      exact ⟨h1, by omega, h3⟩
    · rintro ⟨h1, h2, h3⟩
      exact ⟨⟨h1, by omega⟩, h3⟩

theorem Tab.above_mono {α : Type} (d : Nat → α) {m : Tab α} {b c : Int} (h : m.above d b) (hc : c ≤ b) : m.above d c := by
  cases m with
  | nil => trivial
  | cons p t => exact ⟨by have := h.1; omega, h.2⟩

theorem Tab.above_del {α : Type} (d : Nat → α) (m : Tab α) (k : Nat) (b : Int) (h : m.above d b) : (m.del k).above d b := by
  induction m generalizing b with
  | nil => trivial
  | cons p t ih =>
    obtain ⟨j, w⟩ := p
    obtain ⟨h1, h2, h3⟩ := h
    by_cases hj : j = k
    · have := Tab.above_mono d (ih j h3) (Int.le_of_lt h1)
      simpa [Tab.del, hj] using this
    · have : (j, w) :: Tab.del k t = Tab.del k ((j, w) :: t) := by simp [Tab.del, hj]
      rw [← this]
      exact ⟨h1, h2, ih j h3⟩

theorem Tab.above_ins {α : Type} (d : Nat → α) (m : Tab α) (k : Nat) (v : α) (b : Int) (hb : b < k) (hv : v ≠ d k)
    (hk : ∀ p ∈ m, p.1 ≠ k) (h : m.above d b) : (Tab.ins k v m).above d b := by
  induction m generalizing b with
  | nil => exact ⟨hb, hv, trivial⟩
  | cons p t ih =>
    obtain ⟨j, w⟩ := p
    obtain ⟨h1, h2, h3⟩ := h
    have hj : j ≠ k := hk (j, w) (by simp)
    by_cases hkj : k ≤ j
    · simp only [Tab.ins, hkj, if_true]
      exact ⟨hb, hv, by omega, h2, h3⟩
    · simp only [Tab.ins, hkj, if_false]
      exact ⟨h1, h2, ih j (by omega) (fun p hp => hk p (by simp [hp])) h3⟩

/-- A write keeps the canonical form. -/
theorem Tab.wfF_setF {α : Type} [DecidableEq α] (d : Nat → α) (m : Tab α) (k : Nat) (v : α) (h : m.wfF d = true) :
    (m.setF d k v).wfF d = true := by
  rw [Tab.wfF_iff] at *
  unfold Tab.setF
  split
  · exact Tab.above_del d m k _ h
  · exact Tab.above_ins d _ k v _ (by omega) ‹_› (Tab.del_keys m k) (Tab.above_del d m k _ h)

theorem Tab.wf_set {α : Type} [Inhabited α] [DecidableEq α] (m : Tab α) (k : Nat) (v : α) (h : m.wf = true) : (m.set k v).wf = true :=
  Tab.wfF_setF _ m k v h

end Sys2Proof.Machine
end

