-- ==== Sys2Proof/Laws/Access.lean ====
section
/-! SUPPORT. What the named updates do to the table they name, and which table each accessor reads. -/

namespace Sys2Proof.Machine

variable (a : Asic)

@[simp] theorem Asic.modAu_apl (u : Nat) (f : AplUnit → AplUnit) : (a.modAu u f).apl = { a.apl with unit := a.apl.unit.set u (f (a.au u)) } := rfl
@[simp] theorem Asic.setChan_dpl (c : Nat) (x : Dpl) : (a.setChan c x).dpl = { a.dpl with ch := a.dpl.ch.set c x } := rfl
@[simp] theorem Asic.modChan_dpl (c : Nat) (f : Dpl → Dpl) : (a.modChan c f).dpl = { a.dpl with ch := a.dpl.ch.set c (f (a.chan c)) } := rfl
@[simp] theorem Asic.modEi_evt (n : Nat) (f : EvtInp → EvtInp) : (a.modEi n f).evt = { a.evt with inp := a.evt.inp.set n (f (a.ei n)) } := rfl
@[simp] theorem Asic.modEg_evt (g : Nat) (f : EvtGroup → EvtGroup) : (a.modEg g f).evt = { a.evt with group := a.evt.group.set g (f (a.eg g)) } := rfl
@[simp] theorem Asic.modTac_evt (t : Nat) (f : Tac → Tac) : (a.modTac t f).evt = { a.evt with tac := a.evt.tac.set t (f (a.tac t)) } := rfl
@[simp] theorem Asic.setInp_ref (i : Nat) (x : RefInp) : (a.setInp i x).ref = { a.ref with inp := a.ref.inp.set i x } := rfl
@[simp] theorem Asic.modInp_ref (i : Nat) (f : RefInp → RefInp) : (a.modInp i f).ref = { a.ref with inp := a.ref.inp.set i (f (a.inp i)) } := rfl
@[simp] theorem Asic.modLane_ref (n : Nat) (f : Lane → Lane) : (a.modLane n f).ref = { a.ref with lane := a.ref.lane.set n (f (a.lane n)) } := rfl
@[simp] theorem Asic.modLdgIdx_ldg (i : Nat) (f : LdgIdx → LdgIdx) : (a.modLdgIdx i f).ldg = { a.ldg with idx := a.ldg.idx.set i (f (a.ldg.idx.get i)) } := rfl
@[simp] theorem Asic.setScale_tsc (k : Nat) (x : Scale) : (a.setScale k x).tsc = { a.tsc with scale := a.tsc.scale.set k x } := rfl
@[simp] theorem Asic.setTrig_tsc (n : Nat) (x : Trig) : (a.setTrig n x).tsc = { a.tsc with trig := a.tsc.trig.set n x } := rfl
@[simp] theorem Asic.setPair_flt (s : Nat) (p : Pair) : (a.setPair s p).flt = { a.flt with pairs := a.flt.pairs.set s p } := rfl
@[simp] theorem Asic.modO_out (o : Nat) (f : Out → Out) : (a.modO o f).out = { a.out with out := a.out.out.set o (f (a.o o)) } := rfl
@[simp] theorem Asic.modPls_out (p : Nat) (f : Pls → Pls) : (a.modPls p f).out = { a.out with pls := a.out.pls.set p (f (a.pls p)) } := rfl
@[simp] theorem Asic.modOven_ovn (o : Nat) (f : Oven → Oven) : (a.modOven o f).ovn = { a.ovn with oven := a.ovn.oven.set o (f (a.oven o)) } := rfl
@[simp] theorem Asic.modPrt_prt (p : Nat) (f : Port → Port) : (a.modPrt p f).prt = { a.prt with port := a.prt.port.set p (f (a.port p)) } := rfl
@[simp] theorem Asic.modImp_prt (p : Nat) (f : Impair → Impair) : (a.modImp p f).prt = { a.prt with imp := a.prt.imp.set p (f (a.impair p)) } := rfl
@[simp] theorem Asic.modRally_rly (i : Nat) (f : Rally → Rally) : (a.modRally i f).rly = { a.rly with inst := a.rly.inst.set i (f (a.rally i)) } := rfl
@[simp] theorem Asic.modDma_dma (c : Nat) (f : DmaCh → DmaCh) : (a.modDma c f).dma = { a.dma with ch := a.dma.ch.set c (f (a.dmaCh c)) } := rfl
@[simp] theorem Asic.modUi_ump (i : Nat) (f : UmpIdx → UmpIdx) : (a.modUi i f).ump = { a.ump with idx := a.ump.idx.set i (f (a.ui i)) } := rfl
@[simp] theorem Asic.modUc_ump (c : Nat) (f : UmpCh → UmpCh) : (a.modUc c f).ump = { a.ump with ch := a.ump.ch.set c (f (a.uc c)) } := rfl
@[simp] theorem Asic.modTpdo_can (t : Nat) (f : Tpdo → Tpdo) : (a.modTpdo t f).can = { a.can with tpdo := a.can.tpdo.mod t f } := rfl
@[simp] theorem Asic.modMate_rly (f : Mate → Mate) : (a.modMate f).rly = { a.rly with mate := f a.rly.mate } := rfl
@[simp] theorem Asic.modNvc_nvc (f : Nvc → Nvc) : (a.modNvc f).nvc = f a.nvc := rfl
@[simp] theorem Asic.modPcie_bus (f : Pcie → Pcie) : (a.modPcie f).bus = { a.bus with pcie := f a.bus.pcie } := rfl
@[simp] theorem Asic.send_tx (x : Tx) : (a.send x).tx = a.tx ++ [x] := rfl
@[simp] theorem Asic.askCommit_commits (c : Commit) : (a.askCommit c).commits = a.commits ++ [c] := rfl

theorem Asic.inp_def (i : Nat) : a.inp i = a.ref.inp.get i := rfl
theorem Asic.lane_def (n : Nat) : a.lane n = a.ref.lane.get n := rfl
theorem Asic.ui_def (i : Nat) : a.ui i = a.ump.idx.get i := rfl
theorem Asic.uc_def (c : Nat) : a.uc c = a.ump.ch.get c := rfl
theorem Asic.chan_def (c : Nat) : a.chan c = a.dpl.ch.get c := rfl
theorem Asic.oven_def (o : Nat) : a.oven o = a.ovn.oven.get o := rfl
theorem Asic.au_def (u : Nat) : a.au u = a.apl.unit.get u := rfl
theorem Asic.o_def (n : Nat) : a.o n = a.out.out.get n := rfl
theorem Asic.pls_def (p : Nat) : a.pls p = a.out.pls.get p := rfl
theorem Asic.scale_def (k : Nat) : a.scale k = a.tsc.scale.get k := rfl
theorem Asic.trig_def (n : Nat) : a.trig n = a.tsc.trig.get n := rfl
theorem Asic.ei_def (n : Nat) : a.ei n = a.evt.inp.get n := rfl
theorem Asic.eg_def (g : Nat) : a.eg g = a.evt.group.get g := rfl
theorem Asic.tac_def (t : Nat) : a.tac t = a.evt.tac.get t := rfl
theorem Asic.port_def (p : Nat) : a.port p = a.prt.port.get p := rfl
theorem Asic.impair_def (p : Nat) : a.impair p = a.prt.imp.get p := rfl
theorem Asic.rally_def (i : Nat) : a.rally i = a.rly.inst.get i := rfl
theorem Asic.dmaCh_def (c : Nat) : a.dmaCh c = a.dma.ch.get c := rfl
theorem Asic.pair_def (s : Nat) : a.pair s = a.flt.pairs.get s := rfl
theorem Asic.tpdo_def (t : Nat) : a.tpdo t = a.can.tpdo.get t := rfl

end Sys2Proof.Machine
end

