-- ==== Sys2Proof/Laws/Registers.lean ====
section
/-! SUPPORT. Laws of the register operations: a field reads back what was put into it, and every other field stays. -/

namespace Sys2Proof.Machine

theorem maskAt_bit (lsb n i : Nat) (hi : i < 32) : (maskAt lsb n).getLsbD i = decide (lsb ≤ i ∧ i < lsb + n) := by
  simp only [maskAt, BitVec.getLsbD_ofNat, hi, decide_true, Bool.true_and, Nat.testBit_shiftLeft, Nat.testBit_two_pow_sub_one]
  by_cases h : lsb ≤ i
  · simp [h]; omega
  · simp [h]

theorem wordBits_bit (w : Word) (lsb n i : Nat) : (wordBits w lsb n).testBit i = (decide (i < n) && w.getLsbD (lsb + i)) := by
  simp [wordBits, Nat.testBit_mod_two_pow, Nat.testBit_shiftRight, BitVec.getLsbD]

/-- Words that agree on a field's bits show the same field. -/
theorem wordBits_congr {w v : Word} {lsb n : Nat} (h : ∀ i, lsb ≤ i → i < lsb + n → w.getLsbD i = v.getLsbD i) :
    wordBits w lsb n = wordBits v lsb n := by
  apply Nat.eq_of_testBit_eq
  intro i
  rw [wordBits_bit, wordBits_bit]
  by_cases hi : i < n
  · rw [h (lsb + i) (by omega) (by omega)]
  · simp [hi]

/-- Reading a field from a word that holds a shifted number there. -/
theorem wordBits_ofNat {n lsb k : Nat} (hk : lsb + k ≤ 32) : wordBits (BitVec.ofNat 32 ((n % 2 ^ k) <<< lsb)) lsb k = n % 2 ^ k := by
  apply Nat.eq_of_testBit_eq
  intro i
  rw [wordBits_bit]
  simp only [BitVec.getLsbD_ofNat, Nat.testBit_shiftLeft, Nat.testBit_mod_two_pow]
  by_cases hi : i < k
  · have : lsb + i < 32 := by omega
    simp [hi, this]
  · simp [hi]

theorem wordBits_lt (w : Word) (lsb n : Nat) : wordBits w lsb n < 2 ^ n := Nat.mod_lt _ (Nat.two_pow_pos n)

theorem Asic.get_lt (a : Asic) (f : Fld) : a.get f < 2 ^ f.width := wordBits_lt _ _ _

/-- Two fields share no bit. -/
def Fld.Apart (f g : Fld) : Prop := f.addr ≠ g.addr ∨ f.lsb + f.width ≤ g.lsb ∨ g.lsb + g.width ≤ f.lsb

theorem Asic.word_setMasked_ne (a : Asic) {addr b : Nat} (m v : Word) (h : b ≠ addr) : (a.setMasked addr m v).word b = a.word b := by
  simp [Asic.word, Asic.stored, Asic.setMasked, Tab.getF_setF_ne _ _ _ h, Tab.get_set_ne _ _ h]

theorem Asic.word_setMasked_same (a : Asic) (addr : Nat) (m v : Word) :
    (a.setMasked addr m v).word addr = (a.word addr &&& ~~~m) ||| (v &&& m) := by
  simp only [Asic.word, Asic.stored, Asic.setMasked, Tab.getF_setF_same, Tab.get_set_same]
  apply BitVec.eq_of_getLsbD_eq
  intro i hi
  simp only [BitVec.getLsbD_xor, BitVec.getLsbD_or, BitVec.getLsbD_and, BitVec.getLsbD_not, hi, decide_true, Bool.true_and]
  cases m.getLsbD i <;> simp

/-- A field outside the mask of a write stays. -/
theorem Asic.get_setMasked_ne (a : Asic) {addr : Nat} (m v : Word) (g : Fld)
    (h : g.addr ≠ addr ∨ ∀ i, g.lsb ≤ i → i < g.lsb + g.width → m.getLsbD i = false) : (a.setMasked addr m v).get g = a.get g := by
  by_cases ha : g.addr = addr
  · rcases h with h | h
    · exact absurd ha h
    · subst ha
      rw [Asic.get, Asic.get, Asic.word_setMasked_same]
      apply wordBits_congr
      intro i h1 h2
      have := h i h1 h2
      by_cases hi : i < 32
      · simp only [BitVec.getLsbD_or, BitVec.getLsbD_and, BitVec.getLsbD_not, hi, this, decide_true, Bool.not_false, Bool.and_true,
          Bool.and_false, Bool.or_false]
      · rw [BitVec.getLsbD_of_ge _ i (by omega), BitVec.getLsbD_of_ge _ i (by omega)]
  · rw [Asic.get, Asic.get, Asic.word_setMasked_ne a m v ha]

theorem Asic.get_put_same (a : Asic) (f : Fld) (n : Nat) (hf : f.lsb + f.width ≤ 32) : (a.put f n).get f = n % 2 ^ f.width := by
  rw [Asic.get, Asic.put, Asic.word_setMasked_same]
  refine Eq.trans (wordBits_congr ?_) (wordBits_ofNat (n := n) hf)
  intro i h1 h2
  have hi : i < 32 := by omega
  have hm : (maskAt f.lsb f.width).getLsbD i = true := by rw [maskAt_bit _ _ _ hi]; simp [h1, h2]
  simp only [BitVec.getLsbD_or, BitVec.getLsbD_and, BitVec.getLsbD_not, hi, hm, decide_true, Bool.not_true, Bool.and_false,
    Bool.and_true, Bool.false_or]

theorem Asic.get_put_ne (a : Asic) (f g : Fld) (n : Nat) (h : f.Apart g) : (a.put f n).get g = a.get g := by
  apply Asic.get_setMasked_ne
  rcases h with h | h
  · exact .inl (Ne.symm h)
  · right
    intro i h1 h2
    by_cases hi : i < 32
    · rw [maskAt_bit _ _ _ hi]
      simp
      omega
    · exact BitVec.getLsbD_of_ge _ i (by omega)

theorem Asic.get_event_same (a : Asic) (f : Fld) (h1 : 8 ≤ f.lsb) (h2 : f.lsb + f.width ≤ 32) (h3 : 0 < f.width) : (a.event f).get f = 1 := by
  rw [Asic.event, Asic.addWrap, Asic.get_put_ne, Asic.get_put_same _ _ _ h2]
  · exact Nat.mod_eq_of_lt (Nat.one_lt_two_pow (by omega))
  · exact .inr (.inl h1)

theorem Asic.get_event_ne (a : Asic) (f g : Fld) (h : f.Apart g) (h' : Fld.Apart ⟨f.addr, 0, 8⟩ g) : (a.event f).get g = a.get g := by
  rw [Asic.event, Asic.addWrap, Asic.get_put_ne _ _ _ _ h', Asic.get_put_ne _ _ _ _ h]

/-- `SEQ` counts every event of its register modulo 256 (R405). -/
theorem Asic.get_event_seq (a : Asic) (f : Fld) (h : 8 ≤ f.lsb) : (a.event f).get ⟨f.addr, 0, 8⟩ = (a.get ⟨f.addr, 0, 8⟩ + 1) % 256 := by
  rw [Asic.event, Asic.addWrap, Asic.get_put_same _ _ _ (Nat.le_of_ble_eq_true rfl), Asic.get_put_ne a f _ _ (by right; right; exact h)]
  rfl

theorem Asic.get_addSat_same (a : Asic) (f : Fld) (n : Nat) (h : f.lsb + f.width ≤ 32) :
    (a.addSat f n).get f = min (2 ^ f.width - 1) (a.get f + n) := by
  rw [Asic.addSat, Asic.get_put_same _ _ _ h]
  apply Nat.mod_eq_of_lt
  have := Nat.two_pow_pos f.width
  omega

theorem Asic.get_addSat_ne (a : Asic) (f g : Fld) (n : Nat) (h : f.Apart g) : (a.addSat f n).get g = a.get g := Asic.get_put_ne _ _ _ _ h
theorem Asic.get_putB_ne (a : Asic) (f g : Fld) (b : Bool) (h : f.Apart g) : (a.putB f b).get g = a.get g := Asic.get_put_ne _ _ _ _ h
theorem Asic.get_putS_ne (a : Asic) (f g : Fld) (x : Int) (h : f.Apart g) : (a.putS f x).get g = a.get g := Asic.get_put_ne _ _ _ _ h
theorem Asic.get_putB_same (a : Asic) (f : Fld) (b : Bool) (h : f.lsb + f.width ≤ 32) (h' : 0 < f.width) : (a.putB f b).get f = bit b := by
  rw [Asic.putB, Asic.get_put_same _ _ _ h]
  apply Nat.mod_eq_of_lt
  have : 2 ≤ 2 ^ f.width := Nat.one_lt_two_pow (by omega)
  cases b <;> simp [bit] <;> omega

/-- A field read from the three copies of the register file: `Asic.get` without the rest of the block. -/
def regGet (r : Tab Word) (t1 t2 : Tab Word) (f : Fld) : Nat :=
  wordBits (r.getF resetWord f.addr ^^^ (t1.get f.addr &&& t2.get f.addr)) f.lsb f.width

/-- Only the register file decides a field, so a change elsewhere in the block leaves it. -/
theorem Asic.get_def (a : Asic) (f : Fld) : a.get f = regGet a.regs a.tv1 a.tv2 f := rfl

end Sys2Proof.Machine
end

