-- ==== Sys2Proof/Laws/Bus.lean ====
section
/-! SUPPORT. What a 32-bit write does to a plain register word: no window, no pair, no write-once word, outside `KEP`,
the staged bank and `NVM`. -/

namespace Sys2Proof.Machine

/-- The word at `addr` is plain, has the masks `k`, and is instance `i` of the register at `base`. -/
def plainWord (addr : Nat) (k : Masks) (base i : Nat) : Bool :=
  decide (addr < 0x100000) && decide (addr % 4 = 0 ∧ addr ≠ 0x14) && !stagedBank addr && !silentWindow addr && decide (addr / 65536 ≠ 14)
    && !(decide (0x030000 ≤ addr) && decide (addr < 0x034800)) && !(decide (0x049000 ≤ addr) && decide (addr < 0x04A000))
    && !(decide (0x058000 ≤ addr) && decide (addr < 0x05C800)) && !heldLow addr && !heldHigh addr
    && decide (masksAt addr = k) && decide (k.w1 = 0) && decide ((regRow addr).map (fun r => (r.1.addr, r.2)) = some (base, i))

/-- What the module holds when the fields of an accepted write have been stored and the lock has re-armed. -/
def Dev.afterStore (d : Dev) (addr : Nat) (v : Word) : Dev :=
  (if d.guarded addr v then d.onAsic Asic.rearm else d).onAsic fun a =>
    a.setMasked addr (BitVec.ofNat 32 (without ((masksAt addr).rw ||| (masksAt addr).wk ||| (masksAt addr).rv) (masksAt addr).wo ||| keptWo addr)) v

theorem byteMask_word (addr : Nat) (h : addr % 4 = 0) : byteMask addr 2 = BitVec.allOnes 32 := by
  rw [byteMask, h]; decide

theorem Dev.guarded_of_wk (d : Dev) (addr : Nat) (v : Word) (h : (masksAt addr).wk = 0) : d.guarded addr v = false := by
  simp [Dev.guarded, Dev.changes, h, without]

/-- A write of a plain word: rejected with its fields put back, or the effect of its register. -/
theorem Dev.write_plain (d : Dev) (m : Master) (addr n base i : Nat) (k : Masks) (hp : plainWord addr k base i = true)
    (hruns : d.busRuns = true) (hm : m.val ≠ 3) (hlock : d.asic.get Reg.GLB_LOCK.BLOCKS = 0)
    (hkey : d.guarded addr (BitVec.ofNat 32 n) = true → d.asic.keyOpen m.val = true)
    (hsq : (BitVec.ofNat 32 n &&& BitVec.ofNat 32 k.sq) &&& (0xFFFFFF00 : Word) = 0) (r : Dev)
    (heff : d.effect (d.afterStore addr (BitVec.ofNat 32 n)) m.val addr base i (BitVec.ofNat 32 n).toNat true = (r, false)) :
    d.write m addr n = if d.changes addr k.rv (BitVec.ofNat 32 n) then
        r.onAsic fun a => a.reservedWrite { addr := addr, master := m.val, write := true, size := 2, aliased := false }
      else r := by
  simp only [plainWord, Bool.and_eq_true, decide_eq_true_eq, Bool.not_eq_true', Bool.and_eq_false_iff, decide_eq_false_iff_not] at hp
  obtain ⟨⟨⟨⟨⟨⟨⟨⟨⟨⟨⟨⟨h1, h2, h14⟩, h3⟩, h4⟩, h5⟩, h6⟩, h7⟩, h8⟩, h9⟩, h10⟩, h11⟩, h12⟩, h13⟩ := hp
  subst h11
  have hw : addr / 4 * 4 = addr := by omega
  obtain ⟨row, hrow, hbase⟩ : ∃ row, regRow addr = some (row, i) ∧ row.addr = base := by
    cases hr : regRow addr with
    | none => simp [hr] at h13
    | some row =>
      obtain ⟨row, j⟩ := row
      simp only [hr, Option.map_some, Option.some.injEq, Prod.mk.injEq] at h13
      exact ⟨row, by rw [h13.2], h13.1⟩
  have ht : targetOf addr = .reg addr := by simp [targetOf, hw]; omega
  have htouch : (d.onAsic fun a => a.touch m.val addr) = d := by simp [Dev.onAsic, Asic.touch, h5]
  have hwhole : (d.stored addr &&& ~~~(byteMask addr 2)) ||| ((BitVec.ofNat 32 n <<< (8 * (addr % 4))) &&& byteMask addr 2)
      = BitVec.ofNat 32 n := by
    rw [byteMask_word addr h2, h2]
    apply BitVec.eq_of_getLsbD_eq
    intro j hj
    simp only [BitVec.getLsbD_or, BitVec.getLsbD_and, BitVec.getLsbD_not, BitVec.getLsbD_allOnes, hj, decide_true, Bool.not_true,
      Bool.and_false, Bool.false_or, Bool.and_true, Nat.mul_zero, BitVec.shiftLeft_zero]
  have hal : aligned addr 2 true = true := by simp [aligned, h2]
  have hbar : d.asic.barredWindow m.val addr = false := by
    simp [Asic.barredWindow, h3]
    omega
  have hsilent : silentWindow addr = false := h4
  rw [Dev.write, if_pos hruns, Dev.busWrite]
  simp only [hal, Bool.not_true, Bool.false_eq_true, if_false, ht, htouch, hwhole, Nat.lt_irrefl, false_and]
  have hw' : d.writeWord m.val m.val { addr := addr, master := m.val, write := true, size := 2, aliased := false } addr
      (BitVec.ofNat 32 n) (byteMask addr 2) =
      (if d.changes addr (masksAt addr).rv (BitVec.ofNat 32 n) then
        r.onAsic fun a => a.reservedWrite { addr := addr, master := m.val, write := true, size := 2, aliased := false } else r, false) := by
    have hword : ∀ b, b ≠ 0x14 → (if d.guarded addr (BitVec.ofNat 32 n) = true then d.onAsic Asic.rearm else d).asic.word b = d.asic.word b := by
      intro b hb
      split
      · exact Asic.word_setMasked_ne _ _ _ hb
      · rfl
    have hstored : (if d.guarded addr (BitVec.ofNat 32 n) = true then d.onAsic Asic.rearm else d).stored addr = d.stored addr := by
      have : ¬0x100000 ≤ addr := by omega
      simp only [Dev.stored, this, if_false, h3, Bool.false_eq_true, hword addr h14]
    have hlock' : (if d.guarded addr (BitVec.ofNat 32 n) = true then d.onAsic Asic.rearm else d).asic.blockLocked addr = false := by
      have : (if d.guarded addr (BitVec.ofNat 32 n) = true then d.onAsic Asic.rearm else d).asic.get Reg.GLB_LOCK.BLOCKS = 0 := by
        rw [Asic.get, hword _ (by decide)]; exact hlock
      simp [Asic.blockLocked, this, hasBit]
    have hbar' : (if d.guarded addr (BitVec.ofNat 32 n) = true then d.onAsic Asic.rearm else d).asic.barredWindow m.val addr = false := by
      simp [Asic.barredWindow, h3]
      omega
    have hstore : ((if d.guarded addr (BitVec.ofNat 32 n) = true then d.onAsic Asic.rearm else d).storeWrite m.val addr (BitVec.ofNat 32 n)).clearEvents
        addr (BitVec.ofNat 32 n) (byteMask addr 2) = d.afterStore addr (BitVec.ofNat 32 n) := by
      have h100 : ¬0x100000 ≤ addr := by omega
      have hev : BitVec.ofNat 32 n &&& BitVec.allOnes 32 &&& BitVec.ofNat 32 (masksAt addr).sq &&& (0xFFFFFF00 : Word) = 0 := by
        rw [BitVec.and_allOnes]; exact hsq
      simp only [Dev.storeWrite, h10, Bool.false_eq_true, if_false, h12, ne_eq, not_true, false_and, Dev.clearEvents, byteMask_word addr h2, hev,
        or_true, if_true, Dev.store, h100, h3, Dev.afterStore]
    have hlow : (if d.guarded addr (BitVec.ofNat 32 n) = true then d.onAsic Asic.rearm else d).lowChanges m.val addr (fun l => l.rv) = false := by
      simp [Dev.lowChanges, h10]
    have hopen : ¬(d.guarded addr (BitVec.ofNat 32 n) = true ∧ d.asic.keyOpen m.val = false) := by
      rintro ⟨g, o⟩
      rw [hkey g] at o
      cases o
    have hch : (if d.guarded addr (BitVec.ofNat 32 n) = true then d.onAsic Asic.rearm else d).changes addr (masksAt addr).rv (BitVec.ofNat 32 n)
        = d.changes addr (masksAt addr).rv (BitVec.ofNat 32 n) := by
      simp only [Dev.changes, hstored]
    simp only [Dev.writeWord, hsilent, Bool.false_eq_true, if_false, hm, false_and, hbar', h9, hlock', Bool.false_and, hlow, hstore, hrow, hbase, heff, hch,
      Bool.or_false, false_or, Bool.not_eq_true', hopen, beq_self_eq_true]
  rw [hw']
  simp only [Bool.false_eq_true, if_false]

/-! What an accepted write leaves of the state before its register's effect. -/

@[simp] theorem Dev.afterStore_kep (d : Dev) (addr : Nat) (v : Word) : (d.afterStore addr v).kep = d.kep := by
  unfold Dev.afterStore; split <;> rfl
@[simp] theorem Dev.afterStore_nvm (d : Dev) (addr : Nat) (v : Word) : (d.afterStore addr v).nvm = d.nvm := by
  unfold Dev.afterStore; split <;> rfl
@[simp] theorem Dev.afterStore_sup (d : Dev) (addr : Nat) (v : Word) : (d.afterStore addr v).sup = d.sup := by
  unfold Dev.afterStore; split <;> rfl

theorem Dev.afterStore_word (d : Dev) (addr b : Nat) (v : Word) (h : b ≠ addr) (hb : b ≠ 0x14) : (d.afterStore addr v).asic.word b = d.asic.word b := by
  rw [Dev.afterStore, Dev.onAsic, Asic.word_setMasked_ne _ _ _ h]
  split
  · exact Asic.word_setMasked_ne _ _ _ hb
  · rfl

/-- Fields of other words stay, but for the lock state a guarded write re-arms. -/
theorem Dev.afterStore_get (d : Dev) (addr : Nat) (v : Word) (g : Fld) (h : g.addr ≠ addr) (hb : g.addr ≠ 0x14) :
    (d.afterStore addr v).asic.get g = d.asic.get g := by
  rw [Asic.get, Asic.get, Dev.afterStore_word _ _ _ _ h hb]

/-- An unguarded write leaves the lock state. -/
theorem Dev.afterStore_get_free (d : Dev) (addr : Nat) (v : Word) (g : Fld) (h : g.addr ≠ addr) (hg : d.guarded addr v = false) :
    (d.afterStore addr v).asic.get g = d.asic.get g := by
  rw [Asic.get, Asic.get, Dev.afterStore, Dev.onAsic, Asic.word_setMasked_ne _ _ _ h, hg]
  rfl

/-- The written word: the bits of the mask are as written, the others as they were. -/
theorem Dev.afterStore_word_same (d : Dev) (addr : Nat) (v : Word) (hb : addr ≠ 0x14) :
    (d.afterStore addr v).asic.word addr =
      (d.asic.word addr &&& ~~~(BitVec.ofNat 32 (without ((masksAt addr).rw ||| (masksAt addr).wk ||| (masksAt addr).rv) (masksAt addr).wo ||| keptWo addr)))
        ||| (v &&& BitVec.ofNat 32 (without ((masksAt addr).rw ||| (masksAt addr).wk ||| (masksAt addr).rv) (masksAt addr).wo ||| keptWo addr)) := by
  rw [Dev.afterStore, Dev.onAsic, Asic.word_setMasked_same]
  congr 2
  split
  · exact Asic.word_setMasked_ne _ _ _ hb
  · rfl

/-! ### Command fields -/

/-- The word a command row writes: its field over the stored bits, no event bit as 1. -/
def Dev.commandWord (d : Dev) (f : Fld) (n : Nat) : Word := withField (d.stored f.addr &&& ~~~(BitVec.ofNat 32 (masksAt f.addr).sq)) f n
/-- Field `f` is a self-clearing command field of a word with masks `k`: it holds no event, no reserved and no stored bit. -/
def commandField (k : Masks) (f : Fld) : Bool :=
  decide (f.lsb + f.width ≤ 32) && decide (BitVec.ofNat 32 k.sq &&& BitVec.ofNat 32 (k.rv ||| k.rw ||| k.wk) = 0)
    && decide (maskAt f.lsb f.width &&& BitVec.ofNat 32 (k.sq ||| k.rv ||| without (k.rw ||| k.wk ||| k.rv) k.wo ||| keptWo f.addr) = 0)
    && decide (BitVec.ofNat 32 k.sq &&& BitVec.ofNat 32 (without (k.rw ||| k.wk ||| k.rv) k.wo ||| keptWo f.addr) = 0)
    && decide (BitVec.ofNat 32 k.wo &&& BitVec.ofNat 32 (without (k.rw ||| k.wk ||| k.rv) k.wo ||| keptWo f.addr) = 0)

theorem Dev.commandWord_bit (d : Dev) (f : Fld) (n i : Nat) (hi : i < 32) :
    (d.commandWord f n).getLsbD i = if f.lsb ≤ i ∧ i < f.lsb + f.width then (BitVec.ofNat 32 ((n % 2 ^ f.width) <<< f.lsb)).getLsbD i
      else (d.stored f.addr).getLsbD i && !(BitVec.ofNat 32 (masksAt f.addr).sq).getLsbD i := by
  simp only [Dev.commandWord, withField, BitVec.getLsbD_or, BitVec.getLsbD_and, BitVec.getLsbD_not, hi, decide_true, Bool.true_and, maskAt_bit _ _ _ hi]
  by_cases h : f.lsb ≤ i ∧ i < f.lsb + f.width
  · rw [if_pos h]; simp [h]
  · rw [if_neg h]
    have : (BitVec.ofNat 32 ((n % 2 ^ f.width) <<< f.lsb)).getLsbD i = false := by
      simp only [BitVec.getLsbD_ofNat, hi, decide_true, Bool.true_and, Nat.testBit_shiftLeft, Nat.testBit_mod_two_pow]
      by_cases h1 : f.lsb ≤ i
      · have h2 : ¬i - f.lsb < f.width := by omega
        simp [h2]
      · simp [h1]
    simp [h, this]

theorem and_zero_bit {a b : Word} (h : a &&& b = 0) (i : Nat) (ha : a.getLsbD i = true) : b.getLsbD i = false := by
  have := congrArg (fun x => x.getLsbD i) h
  simpa [ha] using this

/-- A command row on a plain word: the effect of its register, on a state whose registers but for the key lock read as before. -/
theorem Dev.command_plain (d : Dev) (m : Master) (f : Fld) (n base i : Nat) (k : Masks) (hp : plainWord f.addr k base i = true)
    (hf : commandField k f = true) (hruns : d.busRuns = true) (hm : m.val ≠ 3) (hlock : d.asic.get Reg.GLB_LOCK.BLOCKS = 0)
    (hkey : k.wk ≠ 0 → d.asic.keyOpen m.val = true) (r : Dev)
    (heff : d.effect (d.afterStore f.addr (d.commandWord f n)) m.val f.addr base i (d.commandWord f n).toNat true = (r, false)) :
    d.command m f n = r := by
  have hk : masksAt f.addr = k := by
    simp only [plainWord, Bool.and_eq_true, decide_eq_true_eq] at hp
    exact hp.1.1.2
  simp only [commandField, Bool.and_eq_true, decide_eq_true_eq] at hf
  obtain ⟨⟨⟨⟨hw, h1⟩, h2⟩, h3⟩, h4⟩ := hf
  have hword : BitVec.ofNat 32 (d.commandWord f n).toNat = d.commandWord f n := BitVec.ofNat_toNat _ _ ▸ by simp
  have hq : ∀ j, j < 32 → (BitVec.ofNat 32 k.sq).getLsbD j = true → (d.commandWord f n).getLsbD j = false := by
    intro j hj hs
    rw [Dev.commandWord_bit _ _ _ _ hj, hk]
    by_cases h : f.lsb ≤ j ∧ j < f.lsb + f.width
    · have := and_zero_bit h2 j (by rw [maskAt_bit _ _ _ hj]; simpa using h)
      simp only [BitVec.ofNat_or, BitVec.getLsbD_or, hs, Bool.true_or, Bool.true_eq_false] at this
    · rw [if_neg h, hs]; simp
  have hrv : d.changes f.addr k.rv (d.commandWord f n) = false := by
    simp only [Dev.changes, bne_eq_false_iff_eq]
    apply BitVec.eq_of_getLsbD_eq
    intro j hj
    simp only [BitVec.getLsbD_and, BitVec.getLsbD_xor, BitVec.ofNat_eq_ofNat, BitVec.getLsbD_zero, Bool.and_eq_false_iff]
    cases hv : (BitVec.ofNat 32 k.rv).getLsbD j
    · exact .inr rfl
    · left
      have hs : (BitVec.ofNat 32 k.sq).getLsbD j = false := by
        by_cases hs : (BitVec.ofNat 32 k.sq).getLsbD j = true
        · have := and_zero_bit h1 j hs
          simp only [BitVec.ofNat_or, BitVec.getLsbD_or, hv, Bool.true_or, Bool.true_eq_false] at this
        · simpa using hs
      rw [Dev.commandWord_bit _ _ _ _ hj, hk, hs]
      by_cases h : f.lsb ≤ j ∧ j < f.lsb + f.width
      · have := and_zero_bit h2 j (by rw [maskAt_bit _ _ _ hj]; simpa using h)
        simp only [BitVec.ofNat_or, BitVec.getLsbD_or, hv, Bool.or_true, Bool.true_or, Bool.true_eq_false] at this
      · rw [if_neg h]; simp
  have hg : d.guarded f.addr (d.commandWord f n) = true → d.asic.keyOpen m.val = true := by
    intro g
    apply hkey
    intro h0
    rw [Dev.guarded_of_wk _ _ _ (by rw [hk]; exact h0)] at g
    cases g
  have := d.write_plain m f.addr (d.commandWord f n).toNat base i k hp hruns hm hlock (by rw [hword]; exact hg) (by
    rw [hword]
    apply BitVec.eq_of_getLsbD_eq
    intro j hj
    cases hs : (BitVec.ofNat 32 k.sq).getLsbD j
    · simp [hs]
    · simp [hq j hj hs]) r (by rw [hword]; exact heff)
  rw [hword, hrv] at this
  exact this

/-- The registers the effect of a command row finds: all as before, but for the key lock state. -/
theorem Dev.afterCommand_get (d : Dev) (f : Fld) (n : Nat) (k : Masks) (g : Fld) (hk : masksAt f.addr = k) (hf : commandField k f = true)
    (hw : f.addr < 0x100000 ∧ stagedBank f.addr = false) (hg : g.addr ≠ 0x14) (hb : f.addr ≠ 0x14) :
    (d.afterStore f.addr (d.commandWord f n)).asic.get g = d.asic.get g := by
  by_cases h : g.addr = f.addr
  · rw [Asic.get, Asic.get, h, Dev.afterStore_word_same _ _ _ hb]
    congr 1
    apply BitVec.eq_of_getLsbD_eq
    intro j hj
    simp only [commandField, Bool.and_eq_true, decide_eq_true_eq] at hf
    obtain ⟨⟨⟨⟨_, h1⟩, h2⟩, h3⟩, h4⟩ := hf
    rw [hk]
    simp only [BitVec.getLsbD_or, BitVec.getLsbD_and, BitVec.getLsbD_not, hj, decide_true, Bool.true_and]
    cases hm : (BitVec.ofNat 32 (without (k.rw ||| k.wk ||| k.rv) k.wo ||| keptWo f.addr)).getLsbD j
    · simp
    · have hs : (BitVec.ofNat 32 k.sq).getLsbD j = false := by
        by_cases hs : (BitVec.ofNat 32 k.sq).getLsbD j = true
        · rw [and_zero_bit h3 j hs] at hm; cases hm
        · simpa using hs
      have hwo : (BitVec.ofNat 32 k.wo).getLsbD j = false := by
        by_cases hs : (BitVec.ofNat 32 k.wo).getLsbD j = true
        · rw [and_zero_bit h4 j hs] at hm; cases hm
        · simpa using hs
      have hn : ¬(f.lsb ≤ j ∧ j < f.lsb + f.width) := by
        intro hin
        have := and_zero_bit h2 j (by rw [maskAt_bit _ _ _ hj]; simpa using hin)
        rw [show (k.sq ||| k.rv ||| without (k.rw ||| k.wk ||| k.rv) k.wo ||| keptWo f.addr)
          = (k.sq ||| k.rv) ||| (without (k.rw ||| k.wk ||| k.rv) k.wo ||| keptWo f.addr) by rw [Nat.or_assoc], BitVec.ofNat_or, BitVec.getLsbD_or, hm, Bool.or_true] at this
        cases this
      have hst : (d.stored f.addr).getLsbD j = (d.asic.word f.addr).getLsbD j := by
        have : ¬0x100000 ≤ f.addr := by omega
        rw [Dev.stored, if_neg this, hw.2, if_neg (by simp), hk]
        simp only [BitVec.getLsbD_and, BitVec.getLsbD_not, hj, decide_true, hwo, Bool.not_false, Bool.and_true]
      rw [Dev.commandWord_bit _ _ _ _ hj, if_neg hn, hk, hs, hst]
      simp
  · exact Dev.afterStore_get _ _ _ _ h hg

end Sys2Proof.Machine
end

