-- ==== Sys2Proof/Laws/Completes.lean ====
section
/-! SUPPORT. How a completion is shown: what a command of each kind leaves outside the block it acts on. -/

namespace Sys2Proof.Machine

/-- A command of the ASIC, awake: the ASIC takes the effect; NVM, the supply and the queue stay, and the keep-alive block
stays unless the active oven changes. -/
theorem Completes.run {c : Instr} {s : State} {f : Asic → Asic} {P : State → Prop} (he : exec c s = s.run f) (hs : s.dev.sup.shelf = false)
    (h : ∀ d : Dev, d.asic = f s.dev.asic → d.nvm = s.dev.nvm → d.sup = s.dev.sup →
      ((f s.dev.asic).activeOven = s.dev.asic.activeOven → d.kep = s.dev.kep) → P { s with dev := d }) : Completes c s P :=
  ⟨_, he, h _ (Dev.run_asic _ _ hs) (Dev.run_nvm _ _) (Dev.run_sup _ _) (Dev.run_kep _ _)⟩
/-- A command of the module that acts only when awake. -/
theorem Completes.awake {c : Instr} {s : State} {f : Dev → Dev} {P : State → Prop} (he : exec c s = s.awake f) (hs : s.dev.sup.shelf = false)
    (h : P { s with dev := f s.dev }) : Completes c s P := by
  refine ⟨_, he, ?_⟩
  simp only [hs]
  exact h
/-- A command of the module. -/
theorem Completes.act {c : Instr} {s : State} {f : Dev → Dev} {P : State → Prop} (he : exec c s = s.act f)
    (h : P { s with dev := f s.dev }) : Completes c s P := ⟨_, he, h⟩

/-- What `freeFor` says. -/
theorem Dev.freeFor_cases {d : Dev} {m : Master} (h : d.freeFor m = true) :
    d.busRuns = true ∧ d.asic.get Reg.GLB_LOCK.BLOCKS = 0 ∧ m.val ≠ 3 := by
  simpa [Dev.freeFor, and_assoc] using h
theorem Dev.keyFor_cases {d : Dev} {m : Master} (h : d.keyFor m = true) : d.freeFor m = true ∧ d.asic.keyOpen m.val = true := by
  simpa [Dev.keyFor] using h

/-- The ASIC as the effect of a command row finds it: the registers read as before, the key lock state aside where the word
holds guarded fields; everything else is as before. -/
structure Asic.Finds (a : Asic) (k : Masks) (b : Asic) : Prop where
  get : ∀ q : Fld, q.addr ≠ 0x14 → b.get q = a.get q
  free : k.wk = 0 → ∀ q : Fld, b.get q = a.get q
  rest : ∀ r t1 t2 : Tab Word, { b with regs := r, tv1 := t1, tv2 := t2 } = { a with regs := r, tv1 := t1, tv2 := t2 }
theorem Asic.Finds.clk {a b : Asic} {k : Masks} (h : a.Finds k b) : b.clk = a.clk := by
  have := congrArg Asic.clk (h.rest [] [] []); exact this
theorem Asic.Finds.modes {a b : Asic} {k : Masks} (h : a.Finds k b) : b.modes = a.modes := by
  have := congrArg Asic.modes (h.rest [] [] []); exact this
theorem Asic.Finds.fw {a b : Asic} {k : Masks} (h : a.Finds k b) : b.fw = a.fw := by
  have := congrArg Asic.fw (h.rest [] [] []); exact this
theorem Asic.Finds.parity {a b : Asic} {k : Masks} (h : a.Finds k b) : b.parity = a.parity := by
  have := congrArg Asic.parity (h.rest [] [] []); exact this
theorem Asic.Finds.deferred {a b : Asic} {k : Masks} (h : a.Finds k b) : b.deferred = a.deferred := by
  have := congrArg Asic.deferred (h.rest [] [] []); exact this
theorem Asic.Finds.ref {a b : Asic} {k : Masks} (h : a.Finds k b) : b.ref = a.ref := by
  have := congrArg Asic.ref (h.rest [] [] []); exact this
theorem Asic.Finds.ump {a b : Asic} {k : Masks} (h : a.Finds k b) : b.ump = a.ump := by
  have := congrArg Asic.ump (h.rest [] [] []); exact this
theorem Asic.Finds.ldg {a b : Asic} {k : Masks} (h : a.Finds k b) : b.ldg = a.ldg := by
  have := congrArg Asic.ldg (h.rest [] [] []); exact this
theorem Asic.Finds.dpl {a b : Asic} {k : Masks} (h : a.Finds k b) : b.dpl = a.dpl := by
  have := congrArg Asic.dpl (h.rest [] [] []); exact this
theorem Asic.Finds.ovn {a b : Asic} {k : Masks} (h : a.Finds k b) : b.ovn = a.ovn := by
  have := congrArg Asic.ovn (h.rest [] [] []); exact this
theorem Asic.Finds.cal {a b : Asic} {k : Masks} (h : a.Finds k b) : b.cal = a.cal := by
  have := congrArg Asic.cal (h.rest [] [] []); exact this
theorem Asic.Finds.apl {a b : Asic} {k : Masks} (h : a.Finds k b) : b.apl = a.apl := by
  have := congrArg Asic.apl (h.rest [] [] []); exact this
theorem Asic.Finds.out {a b : Asic} {k : Masks} (h : a.Finds k b) : b.out = a.out := by
  have := congrArg Asic.out (h.rest [] [] []); exact this
theorem Asic.Finds.tsc {a b : Asic} {k : Masks} (h : a.Finds k b) : b.tsc = a.tsc := by
  have := congrArg Asic.tsc (h.rest [] [] []); exact this
theorem Asic.Finds.evt {a b : Asic} {k : Masks} (h : a.Finds k b) : b.evt = a.evt := by
  have := congrArg Asic.evt (h.rest [] [] []); exact this
theorem Asic.Finds.prt {a b : Asic} {k : Masks} (h : a.Finds k b) : b.prt = a.prt := by
  have := congrArg Asic.prt (h.rest [] [] []); exact this
theorem Asic.Finds.rly {a b : Asic} {k : Masks} (h : a.Finds k b) : b.rly = a.rly := by
  have := congrArg Asic.rly (h.rest [] [] []); exact this
theorem Asic.Finds.recs {a b : Asic} {k : Masks} (h : a.Finds k b) : b.recs = a.recs := by
  have := congrArg Asic.recs (h.rest [] [] []); exact this
theorem Asic.Finds.dma {a b : Asic} {k : Masks} (h : a.Finds k b) : b.dma = a.dma := by
  have := congrArg Asic.dma (h.rest [] [] []); exact this
theorem Asic.Finds.bus {a b : Asic} {k : Masks} (h : a.Finds k b) : b.bus = a.bus := by
  have := congrArg Asic.bus (h.rest [] [] []); exact this
theorem Asic.Finds.can {a b : Asic} {k : Masks} (h : a.Finds k b) : b.can = a.can := by
  have := congrArg Asic.can (h.rest [] [] []); exact this
theorem Asic.Finds.flt {a b : Asic} {k : Masks} (h : a.Finds k b) : b.flt = a.flt := by
  have := congrArg Asic.flt (h.rest [] [] []); exact this
theorem Asic.Finds.nvc {a b : Asic} {k : Masks} (h : a.Finds k b) : b.nvc = a.nvc := by
  have := congrArg Asic.nvc (h.rest [] [] []); exact this
theorem Asic.Finds.commits {a b : Asic} {k : Masks} (h : a.Finds k b) : b.commits = a.commits := by
  have := congrArg Asic.commits (h.rest [] [] []); exact this
theorem Asic.Finds.fill {a b : Asic} {k : Masks} (h : a.Finds k b) : b.fill = a.fill := by
  have := congrArg Asic.fill (h.rest [] [] []); exact this
theorem Asic.Finds.discards {a b : Asic} {k : Masks} (h : a.Finds k b) : b.discards = a.discards := by
  have := congrArg Asic.discards (h.rest [] [] []); exact this
theorem Asic.Finds.tx {a b : Asic} {k : Masks} (h : a.Finds k b) : b.tx = a.tx := by
  have := congrArg Asic.tx (h.rest [] [] []); exact this

/-- A command row on a plain word whose effect is a change of the ASIC that no rule rejects. -/
theorem Completes.command {c : Instr} {s : State} {P : State → Prop} (m : Master) (f : Fld) (n base i : Nat) (k : Masks)
    (he : exec c s = s.act fun d => d.command m f n) (hp : plainWord f.addr k base i = true) (hf : commandField k f = true)
    (hfree : s.dev.freeFor m = true) (hkey : k.wk ≠ 0 → s.dev.asic.keyOpen m.val = true)
    (h : ∀ a : Asic, s.dev.asic.Finds k a → ∃ b, s.dev.effect { s.dev with asic := a } m.val f.addr base i (s.dev.commandWord f n).toNat true
      = ({ s.dev with asic := b }, false) ∧ P { s with dev := { s.dev with asic := b } }) : Completes c s P := by
  refine ⟨_, he, ?_⟩
  obtain ⟨h1, h2, h3⟩ := Dev.freeFor_cases hfree
  have hk : masksAt f.addr = k := by
    simp only [plainWord, Bool.and_eq_true, decide_eq_true_eq] at hp
    exact hp.1.1.2
  have ha : f.addr < 0x100000 ∧ stagedBank f.addr = false ∧ f.addr ≠ 0x14 := by
    simp only [plainWord, Bool.and_eq_true, decide_eq_true_eq, Bool.not_eq_true'] at hp
    simp_all
  have e : s.dev.afterStore f.addr (s.dev.commandWord f n) = { s.dev with asic := (s.dev.afterStore f.addr (s.dev.commandWord f n)).asic } := by
    unfold Dev.afterStore; split <;> rfl
  have hF : s.dev.asic.Finds k (s.dev.afterStore f.addr (s.dev.commandWord f n)).asic := by
    refine ⟨fun q hq => s.dev.afterCommand_get f n k q hk hf ⟨ha.1, ha.2.1⟩ hq ha.2.2, ?_, ?_⟩
    · intro hw q
      by_cases hq : q.addr = 0x14
      · rw [Dev.afterStore_get_free _ _ _ _ (by rw [hq]; exact Ne.symm ha.2.2) (s.dev.guarded_of_wk _ _ (by rw [hk]; exact hw))]
      · exact s.dev.afterCommand_get f n k q hk hf ⟨ha.1, ha.2.1⟩ hq ha.2.2
    · intro r t1 t2
      unfold Dev.afterStore; split <;> rfl
  obtain ⟨b, hb, hP⟩ := h _ hF
  rw [← e] at hb
  simp only [Dev.command_plain s.dev m f n base i k hp hf h1 h3 h2 hkey _ hb]
  exact hP

/-- A bit of the word a command row writes: set in its own field as the number has it. -/
theorem Dev.commandWord_has (d : Dev) (f : Fld) (n j : Nat) (hj : j < f.width) (hw : f.lsb + f.width ≤ 32) :
    hasBit (d.commandWord f n).toNat (f.lsb + j) = n.testBit j := by
  have := d.commandWord_bit f n (f.lsb + j) (by omega)
  rw [hasBit, ← BitVec.getLsbD, this, if_pos ⟨by omega, by omega⟩]
  have h1 : f.lsb + j < 32 := by omega
  rw [BitVec.getLsbD_ofNat, Nat.testBit_shiftLeft, Nat.testBit_mod_two_pow]
  simp [h1, hj]

/-- The command field of the word a command row writes. -/
theorem Dev.commandWord_value (d : Dev) (f : Fld) (n : Nat) (hw : f.lsb + f.width ≤ 32) :
    wordBits (d.commandWord f n) f.lsb f.width = n % 2 ^ f.width := by
  rw [show wordBits (d.commandWord f n) f.lsb f.width = wordBits (BitVec.ofNat 32 ((n % 2 ^ f.width) <<< f.lsb)) f.lsb f.width from
    wordBits_congr fun j h1 h2 => by rw [d.commandWord_bit f n j (by omega), if_pos ⟨h1, h2⟩]]
  exact wordBits_ofNat hw

/-- Another command bit of the word a command row writes is 0: command bits hold nothing. -/
theorem Dev.commandWord_off (d : Dev) (f : Fld) (n j : Nat) (k : Masks) (hk : masksAt f.addr = k) (hb : f.addr < 0x100000) (hs : stagedBank f.addr = false)
    (hj : j < 32) (hw : (BitVec.ofNat 32 k.wo).getLsbD j = true) (ho : ¬(f.lsb ≤ j ∧ j < f.lsb + f.width)) :
    hasBit (d.commandWord f n).toNat j = false := by
  have h0 : ¬0x100000 ≤ f.addr := by omega
  rw [hasBit, ← BitVec.getLsbD, d.commandWord_bit f n j hj, if_neg ho, Dev.stored, if_neg h0, hs, if_neg (by simp), hk]
  simp only [BitVec.getLsbD_and, BitVec.getLsbD_not, hw, hj, decide_true, Bool.not_true, Bool.and_false, Bool.false_and]

/-- A command of the ASIC, awake. -/
theorem Runs.run {c : Instr} {s : State} {f : Asic → Asic} {P : Asic → Prop} (he : exec c s = s.run f) (hs : s.dev.sup.shelf = false)
    (h : P (f s.dev.asic)) : Runs c s P := by
  have hk : ∀ d : Dev, d.sup.shelf = false → { (d.run f).kep with ovenSel := d.kep.ovenSel } = d.kep := by
    intro d hd
    simp only [Dev.run, hd, Bool.false_eq_true, if_false]
    split <;> rfl
  exact ⟨_, he, (Dev.run_asic s.dev f hs).symm ▸ h, hk _ hs, Dev.run_nvm _ _, Dev.run_sup _ _, rfl⟩
/-- A command of the module that acts only when awake and changes the ASIC alone. -/
theorem Runs.awake {c : Instr} {s : State} {f : Dev → Dev} {P : Asic → Prop} (b : Asic) (he : exec c s = s.awake f) (hs : s.dev.sup.shelf = false)
    (hb : f s.dev = { s.dev with asic := b }) (h : P b) : Runs c s P := by
  refine Completes.awake he hs ?_
  rw [hb]
  exact ⟨h, rfl, rfl, rfl, rfl⟩
/-- A command of the module that changes the ASIC alone. -/
theorem Runs.act {c : Instr} {s : State} {f : Dev → Dev} {P : Asic → Prop} (b : Asic) (he : exec c s = s.act f)
    (hb : f s.dev = { s.dev with asic := b }) (h : P b) : Runs c s P := by
  refine Completes.act he ?_
  rw [hb]
  exact ⟨h, rfl, rfl, rfl, rfl⟩
/-- A command row on a plain word whose effect is a change of the ASIC that no rule rejects. -/
theorem Runs.command {c : Instr} {s : State} {P : Asic → Prop} (m : Master) (f : Fld) (n base i : Nat) (k : Masks)
    (he : exec c s = s.act fun d => d.command m f n) (hp : plainWord f.addr k base i = true) (hf : commandField k f = true)
    (hfree : s.dev.freeFor m = true) (hkey : k.wk ≠ 0 → s.dev.asic.keyOpen m.val = true)
    (h : ∀ a : Asic, s.dev.asic.Finds k a → ∃ b, s.dev.effect { s.dev with asic := a } m.val f.addr base i (s.dev.commandWord f n).toNat true
      = ({ s.dev with asic := b }, false) ∧ P b) : Runs c s P :=
  Completes.command m f n base i k he hp hf hfree hkey fun a ha => (h a ha).imp fun _ hb => ⟨hb.1, hb.2, rfl, rfl, rfl, rfl⟩

/-- The bits of the word at `addr` that a write stores. -/
def storedMask (addr : Nat) (k : Masks) : Word := BitVec.ofNat 32 (without (k.rw ||| k.wk ||| k.rv) k.wo ||| keptWo addr)
/-- The ASIC as the effect of a word write finds it: the stored bits as written, all else as before, the key lock aside. -/
structure Asic.Wrote (a : Asic) (addr : Nat) (k : Masks) (v : Word) (b : Asic) : Prop where
  get : ∀ q : Fld, q.addr ≠ addr → q.addr ≠ 0x14 → b.get q = a.get q
  field : ∀ q : Fld, q.addr = addr → q.lsb + q.width ≤ 32 → maskAt q.lsb q.width &&& ~~~(storedMask addr k) = 0 →
    b.get q = wordBits v q.lsb q.width
  keeps : ∀ q : Fld, q.addr = addr → maskAt q.lsb q.width &&& storedMask addr k = 0 → q.lsb + q.width ≤ 32 → b.get q = a.get q
  rest : ∀ r t1 t2 : Tab Word, { b with regs := r, tv1 := t1, tv2 := t2 } = { a with regs := r, tv1 := t1, tv2 := t2 }
/-- A write of a plain word whose effect is a change of the ASIC that no rule rejects. -/
theorem Runs.write {c : Instr} {s : State} {P : Asic → Prop} (m : Master) (addr n base i : Nat) (k : Masks)
    (he : exec c s = s.act fun d => d.write m addr n) (hp : plainWord addr k base i = true)
    (hfree : s.dev.freeFor m = true) (hkey : k.wk ≠ 0 → s.dev.asic.keyOpen m.val = true)
    (hsq : (BitVec.ofNat 32 n &&& BitVec.ofNat 32 k.sq) &&& (0xFFFFFF00 : Word) = 0)
    (h : ∀ a : Asic, s.dev.asic.Wrote addr k (BitVec.ofNat 32 n) a → ∃ b, s.dev.effect { s.dev with asic := a } m.val addr base i (BitVec.ofNat 32 n).toNat true
      = ({ s.dev with asic := b }, false) ∧ P b ∧ ∀ x, P (b.reservedWrite x)) : Runs c s P := by
  obtain ⟨h1, h2, h3⟩ := Dev.freeFor_cases hfree
  have hk : masksAt addr = k := by
    simp only [plainWord, Bool.and_eq_true, decide_eq_true_eq] at hp
    exact hp.1.1.2
  have h14 : addr ≠ 0x14 := by
    simp only [plainWord, Bool.and_eq_true, decide_eq_true_eq, Bool.not_eq_true'] at hp
    exact hp.1.1.1.1.1.1.1.1.1.1.1.2.2
  have e : s.dev.afterStore addr (BitVec.ofNat 32 n) = { s.dev with asic := (s.dev.afterStore addr (BitVec.ofNat 32 n)).asic } := by
    unfold Dev.afterStore; split <;> rfl
  have hw := s.dev.afterStore_word_same addr (BitVec.ofNat 32 n) h14
  rw [hk] at hw
  have hF : s.dev.asic.Wrote addr k (BitVec.ofNat 32 n) (s.dev.afterStore addr (BitVec.ofNat 32 n)).asic := by
    refine ⟨fun q hq h => Dev.afterStore_get _ _ _ _ hq h, fun q hq hl hm => ?_, fun q hq hm hl => ?_, fun r t1 t2 => ?_⟩
    · rw [Asic.get, hq, hw]
      refine wordBits_congr fun j h1 h2 => ?_
      have hj : j < 32 := by omega
      have hin : (storedMask addr k).getLsbD j = true := by
        have := and_zero_bit hm j (by rw [maskAt_bit _ _ _ hj]; simp [h1, h2])
        simpa [hj] using this
      unfold storedMask at hin
      simp only [BitVec.getLsbD_or, BitVec.getLsbD_and, BitVec.getLsbD_not, hj, hin, decide_true, Bool.not_true, Bool.and_false, Bool.false_or, Bool.and_true]
    · rw [Asic.get, Asic.get, hq, hw]
      refine wordBits_congr fun j h1 h2 => ?_
      have hj : j < 32 := by omega
      have hin : (storedMask addr k).getLsbD j = false := and_zero_bit hm j (by rw [maskAt_bit _ _ _ hj]; simp [h1, h2])
      unfold storedMask at hin
      simp only [BitVec.getLsbD_or, BitVec.getLsbD_and, BitVec.getLsbD_not, hj, hin, decide_true, Bool.not_false, Bool.and_false, Bool.or_false, Bool.and_true]
    · unfold Dev.afterStore; split <;> rfl
  obtain ⟨b, hb, hP, hr⟩ := h _ hF
  rw [← e] at hb
  refine ⟨_, he, ?_⟩
  dsimp only
  rw [Dev.write_plain s.dev m addr n base i k hp h1 h3 h2 (fun g => hkey fun h0 => by
    rw [Dev.guarded_of_wk _ _ _ (by rw [hk]; exact h0)] at g; cases g) hsq _ hb]
  split
  · exact ⟨hr _, rfl, rfl, rfl, rfl⟩
  · exact ⟨hP, rfl, rfl, rfl, rfl⟩

end Sys2Proof.Machine
end

