-- ==== Sys2Proof/Laws/Frames.lean ====
section
/-! SUPPORT. Register frames: which range of registers an operation leaves as it was. -/

namespace Sys2Proof.Machine

/-- Only the register file of a block decides a field. -/
theorem Asic.get_mk (clk modes fw regs tv1 tv2 parity deferred ref ump ldg dpl ovn cal apl out tsc evt prt rly recs dma bus can flt nvc commits fill discards tx) (g : Fld) :
    Asic.get ⟨clk, modes, fw, regs, tv1, tv2, parity, deferred, ref, ump, ldg, dpl, ovn, cal, apl, out, tsc, evt, prt, rly, recs, dma, bus, can, flt, nvc, commits, fill, discards, tx⟩ g = regGet regs tv1 tv2 g := rfl
theorem Asic.get_of_regs (a : Asic) (g : Fld) : regGet a.regs a.tv1 a.tv2 g = a.get g := rfl

/-- Every register field at an address from `lo` below `hi` reads as before. -/
def Asic.Same (lo hi : Nat) (a b : Asic) : Prop := ∀ g : Fld, lo ≤ g.addr → g.addr < hi → b.get g = a.get g

variable {lo hi : Nat} {a b x : Asic}

theorem Asic.Same.refl (a : Asic) : a.Same lo hi a := fun _ _ _ => rfl
theorem Asic.Same.trans {c : Asic} (h : a.Same lo hi b) (h' : b.Same lo hi c) : a.Same lo hi c := fun g h1 h2 => (h' g h1 h2).trans (h g h1 h2)
/-- Only the register file decides what a field reads. -/
theorem Asic.Same.regs (t : a.Same lo hi x) (h1 : b.regs = x.regs) (h2 : b.tv1 = x.tv1) (h3 : b.tv2 = x.tv2) : a.Same lo hi b := by
  intro g g1 g2
  rw [← t g g1 g2, Asic.get_def, Asic.get_def, h1, h2, h3]
theorem Asic.Same.put {f : Fld} {n : Nat} (t : a.Same lo hi x) (h : f.addr < lo ∨ hi ≤ f.addr) : a.Same lo hi (x.put f n) := by
  intro g g1 g2
  rw [Asic.get_put_ne _ _ _ _ (.inl (by omega)), t g g1 g2]
theorem Asic.Same.putB {f : Fld} {c : Bool} (t : a.Same lo hi x) (h : f.addr < lo ∨ hi ≤ f.addr) : a.Same lo hi (x.putB f c) := t.put h
theorem Asic.Same.putS {f : Fld} {c : Int} (t : a.Same lo hi x) (h : f.addr < lo ∨ hi ≤ f.addr) : a.Same lo hi (x.putS f c) := t.put h
theorem Asic.Same.addSat {f : Fld} {n : Nat} (t : a.Same lo hi x) (h : f.addr < lo ∨ hi ≤ f.addr) : a.Same lo hi (x.addSat f n) := t.put h
theorem Asic.Same.addWrap {f : Fld} {n : Nat} (t : a.Same lo hi x) (h : f.addr < lo ∨ hi ≤ f.addr) : a.Same lo hi (x.addWrap f n) := t.put h
theorem Asic.Same.event {f : Fld} (t : a.Same lo hi x) (h : f.addr < lo ∨ hi ≤ f.addr) : a.Same lo hi (x.event f) := (t.put h).addWrap h
theorem Asic.Same.put2 {f f' : Fld} {n : Nat} (t : a.Same lo hi x) (h : f.addr < lo ∨ hi ≤ f.addr) (h' : f'.addr < lo ∨ hi ≤ f'.addr) :
    a.Same lo hi (x.put2 f f' n) := (t.put h).put h'
theorem Asic.Same.raise {s d : Nat} (t : a.Same lo hi x) : a.Same lo hi (x.raise s d) := t.regs (by simp) (by simp) (by simp)
theorem Asic.Same.raiseAccess {s : Nat} {y : Access} (t : a.Same lo hi x) : a.Same lo hi (x.raiseAccess s y) := t.regs (by simp) (by simp) (by simp)
theorem Asic.Same.levelOn {s u d : Nat} (t : a.Same lo hi x) : a.Same lo hi (x.levelOn s u d) := t.regs (by simp) (by simp) (by simp)
theorem Asic.Same.levelOff {s u : Nat} (t : a.Same lo hi x) : a.Same lo hi (x.levelOff s u) := t.regs (by simp) (by simp) (by simp)
theorem Asic.Same.level {s u d : Nat} {c : Bool} (t : a.Same lo hi x) : a.Same lo hi (x.level s u d c) := t.regs (by simp) (by simp) (by simp)
theorem Asic.Same.setScale {k : Nat} {z : Scale} (t : a.Same lo hi x) : a.Same lo hi (x.setScale k z) := t.regs (by simp) (by simp) (by simp)
theorem Asic.Same.setTrig {k : Nat} {z : Trig} (t : a.Same lo hi x) : a.Same lo hi (x.setTrig k z) := t.regs (by simp) (by simp) (by simp)
theorem Asic.Same.setPair {k : Nat} {p : Pair} (t : a.Same lo hi x) : a.Same lo hi (x.setPair k p) := t.regs (by simp) (by simp) (by simp)
theorem Asic.Same.assertOcc {o : Occ} (t : a.Same lo hi x) : a.Same lo hi (x.assertOcc o) := t.regs (by simp) (by simp) (by simp)
theorem Asic.Same.send {z : Tx} (t : a.Same lo hi x) : a.Same lo hi (x.send z) := t.regs (by simp) (by simp) (by simp)
theorem Asic.Same.askCommit {c : Commit} (t : a.Same lo hi x) : a.Same lo hi (x.askCommit c) := t.regs (by simp) (by simp) (by simp)
theorem Asic.Same.setInp {i : Nat} {z : RefInp} (t : a.Same lo hi x) : a.Same lo hi (x.setInp i z) := t.regs (by simp) (by simp) (by simp)
theorem Asic.Same.modInp {i : Nat} {u : RefInp → RefInp} (t : a.Same lo hi x) : a.Same lo hi (x.modInp i u) := t.regs (by simp) (by simp) (by simp)
theorem Asic.Same.modLane {i : Nat} {u : Lane → Lane} (t : a.Same lo hi x) : a.Same lo hi (x.modLane i u) := t.regs (by simp) (by simp) (by simp)
theorem Asic.Same.modLdgIdx {i : Nat} {u : LdgIdx → LdgIdx} (t : a.Same lo hi x) : a.Same lo hi (x.modLdgIdx i u) := t.regs (by simp) (by simp) (by simp)
theorem Asic.Same.modUi {i : Nat} {u : UmpIdx → UmpIdx} (t : a.Same lo hi x) : a.Same lo hi (x.modUi i u) := t.regs (by simp) (by simp) (by simp)
theorem Asic.Same.modUc {i : Nat} {u : UmpCh → UmpCh} (t : a.Same lo hi x) : a.Same lo hi (x.modUc i u) := t.regs (by simp) (by simp) (by simp)
theorem Asic.Same.setChan {c : Nat} {z : Dpl} (t : a.Same lo hi x) : a.Same lo hi (x.setChan c z) := t.regs (by simp) (by simp) (by simp)
theorem Asic.Same.modChan {c : Nat} {u : Dpl → Dpl} (t : a.Same lo hi x) : a.Same lo hi (x.modChan c u) := t.regs (by simp) (by simp) (by simp)
theorem Asic.Same.modOven {i : Nat} {u : Oven → Oven} (t : a.Same lo hi x) : a.Same lo hi (x.modOven i u) := t.regs (by simp) (by simp) (by simp)
theorem Asic.Same.modAu {i : Nat} {u : AplUnit → AplUnit} (t : a.Same lo hi x) : a.Same lo hi (x.modAu i u) := t.regs (by simp) (by simp) (by simp)
theorem Asic.Same.modO {i : Nat} {u : Out → Out} (t : a.Same lo hi x) : a.Same lo hi (x.modO i u) := t.regs (by simp) (by simp) (by simp)
theorem Asic.Same.modPls {i : Nat} {u : Pls → Pls} (t : a.Same lo hi x) : a.Same lo hi (x.modPls i u) := t.regs (by simp) (by simp) (by simp)
theorem Asic.Same.modEi {i : Nat} {u : EvtInp → EvtInp} (t : a.Same lo hi x) : a.Same lo hi (x.modEi i u) := t.regs (by simp) (by simp) (by simp)
theorem Asic.Same.modEg {i : Nat} {u : EvtGroup → EvtGroup} (t : a.Same lo hi x) : a.Same lo hi (x.modEg i u) := t.regs (by simp) (by simp) (by simp)
theorem Asic.Same.modTac {i : Nat} {u : Tac → Tac} (t : a.Same lo hi x) : a.Same lo hi (x.modTac i u) := t.regs (by simp) (by simp) (by simp)
theorem Asic.Same.modPrt {i : Nat} {u : Port → Port} (t : a.Same lo hi x) : a.Same lo hi (x.modPrt i u) := t.regs (by simp) (by simp) (by simp)
theorem Asic.Same.modImp {i : Nat} {u : Impair → Impair} (t : a.Same lo hi x) : a.Same lo hi (x.modImp i u) := t.regs (by simp) (by simp) (by simp)
theorem Asic.Same.modRally {i : Nat} {u : Rally → Rally} (t : a.Same lo hi x) : a.Same lo hi (x.modRally i u) := t.regs (by simp) (by simp) (by simp)
theorem Asic.Same.modMate {u : Mate → Mate} (t : a.Same lo hi x) : a.Same lo hi (x.modMate u) := t.regs (by simp) (by simp) (by simp)
theorem Asic.Same.modDma {i : Nat} {u : DmaCh → DmaCh} (t : a.Same lo hi x) : a.Same lo hi (x.modDma i u) := t.regs (by simp) (by simp) (by simp)
theorem Asic.Same.modTpdo {i : Nat} {u : Tpdo → Tpdo} (t : a.Same lo hi x) : a.Same lo hi (x.modTpdo i u) := t.regs (by simp) (by simp) (by simp)
theorem Asic.Same.modNvc {u : Nvc → Nvc} (t : a.Same lo hi x) : a.Same lo hi (x.modNvc u) := t.regs (by simp) (by simp) (by simp)
theorem Asic.Same.modPcie {u : Pcie → Pcie} (t : a.Same lo hi x) : a.Same lo hi (x.modPcie u) := t.regs (by simp) (by simp) (by simp)
theorem Asic.Same.raiseOcc {s : Nat} {o : Occ} (t : a.Same lo hi x) : a.Same lo hi (x.raiseOcc s o) := t.regs (by simp) (by simp) (by simp)
theorem Asic.Same.ite {c : Prop} [Decidable c] {y z : Asic} (t : a.Same lo hi y) (t' : a.Same lo hi z) : a.Same lo hi (if c then y else z) := by
  split
  · exact t
  · exact t'
theorem Asic.Same.each {l : List Nat} {f : Asic → Nat → Asic} (t : a.Same lo hi x) (h : ∀ y i, i ∈ l → Asic.Same lo hi y (f y i)) :
    a.Same lo hi (x.each l f) := by
  induction l generalizing x with
  | nil => exact t
  | cons i l ih => exact ih (Asic.Same.trans t (h x i (by simp))) fun y j hj => h y j (by simp [hj])

end Sys2Proof.Machine
end

