-- ==== Sys2Proof/Laws/FrameCanNmt.lean ====
section
/-! SUPPORT. Operations that leave `can.nmt` alone. -/

set_option linter.unusedSimpArgs false
set_option linter.unusedSectionVars false

namespace Sys2Proof.Machine

theorem Asic.each_can_nmt (a : Asic) (l : List Nat) (f : Asic → Nat → Asic) (h : ∀ x i, (f x i).can.nmt = x.can.nmt) : (a.each l f).can.nmt = a.can.nmt := by
  induction l generalizing a with
  | nil => rfl
  | cons i l ih => exact (ih (f a i)).trans (h a i)
theorem Asic.onlyIf_can_nmt (a : Asic) (c : Bool) (f : Asic → Asic) (h : ∀ x, (f x).can.nmt = x.can.nmt) : (a.onlyIf c f).can.nmt = a.can.nmt := by
  unfold Asic.onlyIf
  split
  · exact h a
  · rfl
theorem Asic.ite_can_nmt (c : Prop) [Decidable c] (x y : Asic) : (if c then x else y).can.nmt = if c then x.can.nmt else y.can.nmt := apply_ite (fun z : Asic => z.can.nmt) _ _ _
theorem Asic.foldl_can_nmt {α : Type} (a : Asic) (l : List α) (f : Asic → α → Asic) (h : ∀ x i, (f x i).can.nmt = x.can.nmt) : (l.foldl f a).can.nmt = a.can.nmt := by
  induction l generalizing a with
  | nil => rfl
  | cons i l ih => exact (ih (f a i)).trans (h a i)

theorem Asic.logEntry_can_nmt (a : Asic) (code' : Nat) (item : Nat) (data : Nat) : (Asic.logEntry a code' item data).can.nmt = a.can.nmt := by
  unfold Asic.logEntry
  simp -implicitDefEqProofs [Asic.onlyIf_can_nmt, Asic.ite_can_nmt]

theorem Asic.transition_can_nmt (a : Asic) (m : Nat) (cause : Nat) : (Asic.transition a m cause).can.nmt = a.can.nmt := by
  unfold Asic.transition
  simp -implicitDefEqProofs []

theorem Asic.applySkew_can_nmt (a : Asic) (o : Nat) : (Asic.applySkew a o).can.nmt = a.can.nmt := by
  unfold Asic.applySkew
  simp -implicitDefEqProofs []

theorem Asic.skimDone_can_nmt (a : Asic) (o : Nat) : (Asic.skimDone a o).can.nmt = a.can.nmt := by
  unfold Asic.skimDone
  simp -implicitDefEqProofs []

theorem Asic.squelchOut_can_nmt (a : Asic) (o : Nat) (forced : Bool) : (Asic.squelchOut a o forced).can.nmt = a.can.nmt := by
  unfold Asic.squelchOut
  simp -implicitDefEqProofs [Asic.applySkew_can_nmt, Asic.skimDone_can_nmt, Asic.ite_can_nmt]

theorem Asic.squelchAll_can_nmt (a : Asic) (l : List Nat) (forced : Bool) : (Asic.squelchAll a l forced).can.nmt = a.can.nmt := by
  unfold Asic.squelchAll
  simp -implicitDefEqProofs [Asic.squelchOut_can_nmt, Asic.each_can_nmt]

theorem Asic.squelchPls_can_nmt (a : Asic) : (Asic.squelchPls a).can.nmt = a.can.nmt := by
  unfold Asic.squelchPls
  simp -implicitDefEqProofs [Asic.each_can_nmt]

theorem Asic.squelchForced_can_nmt (a : Asic) : (Asic.squelchForced a).can.nmt = a.can.nmt := by
  unfold Asic.squelchForced
  simp -implicitDefEqProofs [Asic.squelchAll_can_nmt, Asic.squelchPls_can_nmt]

theorem Asic.muteOuts_can_nmt (a : Asic) : (Asic.muteOuts a).can.nmt = a.can.nmt := by
  unfold Asic.muteOuts
  simp -implicitDefEqProofs [Asic.squelchAll_can_nmt, Asic.squelchPls_can_nmt]

theorem Asic.requestSync_can_nmt (a : Asic) (t : Nat) (o : Nat) : (Asic.requestSync a t o).can.nmt = a.can.nmt := by
  unfold Asic.requestSync
  simp -implicitDefEqProofs []

theorem Asic.resumeOuts_can_nmt (a : Asic) : (Asic.resumeOuts a).can.nmt = a.can.nmt := by
  unfold Asic.resumeOuts
  simp -implicitDefEqProofs [Asic.requestSync_can_nmt, Asic.each_can_nmt]

theorem Asic.moveMode_can_nmt (a : Asic) (m : Nat) (cause : Nat) : (Asic.moveMode a m cause).can.nmt = a.can.nmt := by
  unfold Asic.moveMode
  simp -implicitDefEqProofs [Asic.transition_can_nmt, Asic.squelchForced_can_nmt, Asic.muteOuts_can_nmt, Asic.resumeOuts_can_nmt, Asic.ite_can_nmt]

theorem Asic.setRallyState_can_nmt (a : Asic) (i : Nat) (s : Nat) : (Asic.setRallyState a i s).can.nmt = a.can.nmt := by
  unfold Asic.setRallyState
  simp -implicitDefEqProofs [Asic.ite_can_nmt]

theorem Asic.rallyRefresh_can_nmt (a : Asic) (i : Nat) : (Asic.rallyRefresh a i).can.nmt = a.can.nmt := by
  unfold Asic.rallyRefresh
  simp -implicitDefEqProofs [Asic.setRallyState_can_nmt, Asic.ite_can_nmt]

theorem Asic.mateInstance_can_nmt (a : Asic) : (Asic.mateInstance a).can.nmt = a.can.nmt := by
  unfold Asic.mateInstance
  simp -implicitDefEqProofs [Asic.rallyRefresh_can_nmt]

theorem Asic.setRole_can_nmt (a : Asic) (r : Nat) : (Asic.setRole a r).can.nmt = a.can.nmt := by
  unfold Asic.setRole
  simp -implicitDefEqProofs [Asic.mateInstance_can_nmt, Asic.ite_can_nmt]

theorem Asic.rebase_can_nmt (a : Asic) (k : Nat) : (Asic.rebase a k).can.nmt = a.can.nmt := by
  unfold Asic.rebase
  simp -implicitDefEqProofs []

theorem Asic.refreshRate_can_nmt (a : Asic) (k : Nat) : (Asic.refreshRate a k).can.nmt = a.can.nmt := by
  unfold Asic.refreshRate
  simp -implicitDefEqProofs [Asic.rebase_can_nmt, Asic.ite_can_nmt]

theorem Asic.servoRest_can_nmt (a : Asic) (k : Nat) (st : Nat) : (Asic.servoRest a k st).can.nmt = a.can.nmt := by
  unfold Asic.servoRest
  simp -implicitDefEqProofs [Asic.refreshRate_can_nmt]

theorem Asic.servoRefresh_can_nmt (a : Asic) (k : Nat) : (Asic.servoRefresh a k).can.nmt = a.can.nmt := by
  unfold Asic.servoRefresh
  simp -implicitDefEqProofs [Asic.servoRest_can_nmt, Asic.ite_can_nmt]

theorem Asic.followSlave_can_nmt (a : Asic) (p : Nat) : (Asic.followSlave a p).can.nmt = a.can.nmt := by
  unfold Asic.followSlave
  simp -implicitDefEqProofs [Asic.servoRefresh_can_nmt, Asic.ite_can_nmt]

theorem Asic.setPtpState_can_nmt (a : Asic) (p : Nat) (s : Nat) : (Asic.setPtpState a p s).can.nmt = a.can.nmt := by
  unfold Asic.setPtpState
  simp -implicitDefEqProofs [Asic.followSlave_can_nmt, Asic.ite_can_nmt]

theorem Asic.holdMasters_can_nmt (a : Asic) : (Asic.holdMasters a).can.nmt = a.can.nmt := by
  unfold Asic.holdMasters
  simp -implicitDefEqProofs [Asic.setPtpState_can_nmt, Asic.each_can_nmt, Asic.ite_can_nmt]

theorem Asic.takeStandby_can_nmt (a : Asic) : (Asic.takeStandby a).can.nmt = a.can.nmt := by
  unfold Asic.takeStandby
  simp -implicitDefEqProofs [Asic.moveMode_can_nmt, Asic.holdMasters_can_nmt, Asic.setRole_can_nmt, Asic.ite_can_nmt]

theorem Asic.releaseMasters_can_nmt (a : Asic) : (Asic.releaseMasters a).can.nmt = a.can.nmt := by
  unfold Asic.releaseMasters
  simp -implicitDefEqProofs [Asic.setPtpState_can_nmt, Asic.each_can_nmt, Asic.ite_can_nmt]

theorem Asic.leaveStandby_can_nmt (a : Asic) (t : Nat) : (Asic.leaveStandby a t).can.nmt = a.can.nmt := by
  unfold Asic.leaveStandby
  simp -implicitDefEqProofs [Asic.requestSync_can_nmt, Asic.moveMode_can_nmt, Asic.releaseMasters_can_nmt, Asic.each_can_nmt, Asic.ite_can_nmt]

theorem Asic.takeOver_can_nmt (a : Asic) (t : Nat) : (Asic.takeOver a t).can.nmt = a.can.nmt := by
  unfold Asic.takeOver
  simp -implicitDefEqProofs [Asic.setRole_can_nmt, Asic.leaveStandby_can_nmt, Asic.ite_can_nmt]

theorem Asic.resolveRole_can_nmt (a : Asic) (h : Heartbeat) : (Asic.resolveRole a h).can.nmt = a.can.nmt := by
  unfold Asic.resolveRole
  (repeat' split) <;> simp -implicitDefEqProofs [Asic.setRole_can_nmt, Asic.takeStandby_can_nmt, Asic.takeOver_can_nmt, Asic.ite_can_nmt]

theorem Asic.mateRefresh_can_nmt (a : Asic) : (Asic.mateRefresh a).can.nmt = a.can.nmt := by
  unfold Asic.mateRefresh
  dsimp only
  (repeat' split) <;> simp -implicitDefEqProofs [Asic.setRole_can_nmt, Asic.takeStandby_can_nmt, Asic.leaveStandby_can_nmt, Asic.resolveRole_can_nmt, Asic.ite_can_nmt]

end Sys2Proof.Machine
end

