-- ==== Sys2Proof/Laws/FrameClk.lean ====
section
/-! SUPPORT. Operations that leave `clk` alone. -/

set_option linter.unusedSimpArgs false
set_option linter.unusedSectionVars false

namespace Sys2Proof.Machine

theorem Asic.each_clk (a : Asic) (l : List Nat) (f : Asic → Nat → Asic) (h : ∀ x i, (f x i).clk = x.clk) : (a.each l f).clk = a.clk := by
  induction l generalizing a with
  | nil => rfl
  | cons i l ih => exact (ih (f a i)).trans (h a i)
theorem Asic.onlyIf_clk (a : Asic) (c : Bool) (f : Asic → Asic) (h : ∀ x, (f x).clk = x.clk) : (a.onlyIf c f).clk = a.clk := by
  unfold Asic.onlyIf
  split
  · exact h a
  · rfl
theorem Asic.entries_clk (a : Asic) (l : List Nat) (f : Asic → Nat → Asic × Bool) (h : ∀ x i, (f x i).1.clk = x.clk) : (a.entries l f).1.clk = a.clk := by
  have e : ∀ (l : List Nat) (p : Asic × Nat), (l.foldl (fun (p : Asic × Nat) k =>
      let (a, w) := f p.1 k
      (a, if w then p.2 + 2 ^ k else p.2)) p).1.clk = p.1.clk := by
    intro l
    induction l with
    | nil => intro p; rfl
    | cons i l ih => intro p; exact (ih _).trans (h p.1 i)
  exact e l (a, 0)
theorem Asic.ite_clk (c : Prop) [Decidable c] (x y : Asic) : (if c then x else y).clk = if c then x.clk else y.clk := apply_ite (fun z : Asic => z.clk) _ _ _
theorem Asic.foldl_clk {α : Type} (a : Asic) (l : List α) (f : Asic → α → Asic) (h : ∀ x i, (f x i).clk = x.clk) : (l.foldl f a).clk = a.clk := by
  induction l generalizing a with
  | nil => rfl
  | cons i l ih => exact (ih (f a i)).trans (h a i)

theorem Asic.startScales_clk (a : Asic) (sec : Nat) : (Asic.startScales a sec).clk = a.clk := by
  unfold Asic.startScales
  with_reducible rfl

theorem Asic.rebase_clk (a : Asic) (k : Nat) : (Asic.rebase a k).clk = a.clk := by
  unfold Asic.rebase
  simp -implicitDefEqProofs []

theorem Asic.refreshRate_clk (a : Asic) (k : Nat) : (Asic.refreshRate a k).clk = a.clk := by
  unfold Asic.refreshRate
  simp -implicitDefEqProofs [Asic.rebase_clk, Asic.ite_clk]

theorem Asic.refreshRates_clk (a : Asic) : (Asic.refreshRates a).clk = a.clk := by
  unfold Asic.refreshRates
  simp -implicitDefEqProofs [Asic.refreshRate_clk, Asic.each_clk]

theorem Asic.reloadCredits_clk (a : Asic) : (Asic.reloadCredits a).clk = a.clk := by
  unfold Asic.reloadCredits
  with_reducible rfl

theorem Asic.bootNode_clk (a : Asic) (objects : Tab (Option Nat)) : (Asic.bootNode a objects).clk = a.clk := by
  unfold Asic.bootNode
  simp -implicitDefEqProofs []

theorem Asic.logEntry_clk (a : Asic) (code' : Nat) (item : Nat) (data : Nat) : (Asic.logEntry a code' item data).clk = a.clk := by
  unfold Asic.logEntry
  simp -implicitDefEqProofs [Asic.onlyIf_clk, Asic.ite_clk]

theorem Asic.transition_clk (a : Asic) (m : Nat) (cause : Nat) : (Asic.transition a m cause).clk = a.clk := by
  unfold Asic.transition
  simp -implicitDefEqProofs []

theorem Asic.applySkew_clk (a : Asic) (o : Nat) : (Asic.applySkew a o).clk = a.clk := by
  unfold Asic.applySkew
  simp -implicitDefEqProofs []

theorem Asic.skimDone_clk (a : Asic) (o : Nat) : (Asic.skimDone a o).clk = a.clk := by
  unfold Asic.skimDone
  simp -implicitDefEqProofs []

theorem Asic.squelchOut_clk (a : Asic) (o : Nat) (forced : Bool) : (Asic.squelchOut a o forced).clk = a.clk := by
  unfold Asic.squelchOut
  simp -implicitDefEqProofs [Asic.applySkew_clk, Asic.skimDone_clk, Asic.ite_clk]

theorem Asic.squelchAll_clk (a : Asic) (l : List Nat) (forced : Bool) : (Asic.squelchAll a l forced).clk = a.clk := by
  unfold Asic.squelchAll
  simp -implicitDefEqProofs [Asic.squelchOut_clk, Asic.each_clk]

theorem Asic.squelchPls_clk (a : Asic) : (Asic.squelchPls a).clk = a.clk := by
  unfold Asic.squelchPls
  simp -implicitDefEqProofs [Asic.each_clk]

theorem Asic.squelchForced_clk (a : Asic) : (Asic.squelchForced a).clk = a.clk := by
  unfold Asic.squelchForced
  simp -implicitDefEqProofs [Asic.squelchAll_clk, Asic.squelchPls_clk]

theorem Asic.muteOuts_clk (a : Asic) : (Asic.muteOuts a).clk = a.clk := by
  unfold Asic.muteOuts
  simp -implicitDefEqProofs [Asic.squelchAll_clk, Asic.squelchPls_clk]

theorem Asic.requestSync_clk (a : Asic) (t : Nat) (o : Nat) : (Asic.requestSync a t o).clk = a.clk := by
  unfold Asic.requestSync
  simp -implicitDefEqProofs []

theorem Asic.resumeOuts_clk (a : Asic) : (Asic.resumeOuts a).clk = a.clk := by
  unfold Asic.resumeOuts
  simp -implicitDefEqProofs [Asic.requestSync_clk, Asic.each_clk]

theorem Asic.moveMode_clk (a : Asic) (m : Nat) (cause : Nat) : (Asic.moveMode a m cause).clk = a.clk := by
  unfold Asic.moveMode
  simp -implicitDefEqProofs [Asic.transition_clk, Asic.squelchForced_clk, Asic.muteOuts_clk, Asic.resumeOuts_clk, Asic.ite_clk]

theorem Asic.setRallyState_clk (a : Asic) (i : Nat) (s : Nat) : (Asic.setRallyState a i s).clk = a.clk := by
  unfold Asic.setRallyState
  simp -implicitDefEqProofs [Asic.ite_clk]

theorem Asic.rallyRefresh_clk (a : Asic) (i : Nat) : (Asic.rallyRefresh a i).clk = a.clk := by
  unfold Asic.rallyRefresh
  simp -implicitDefEqProofs [Asic.setRallyState_clk, Asic.ite_clk]

theorem Asic.mateInstance_clk (a : Asic) : (Asic.mateInstance a).clk = a.clk := by
  unfold Asic.mateInstance
  simp -implicitDefEqProofs [Asic.rallyRefresh_clk]

theorem Asic.setRole_clk (a : Asic) (r : Nat) : (Asic.setRole a r).clk = a.clk := by
  unfold Asic.setRole
  simp -implicitDefEqProofs [Asic.mateInstance_clk, Asic.ite_clk]

theorem Asic.servoRest_clk (a : Asic) (k : Nat) (st : Nat) : (Asic.servoRest a k st).clk = a.clk := by
  unfold Asic.servoRest
  simp -implicitDefEqProofs [Asic.refreshRate_clk]

theorem Asic.servoRefresh_clk (a : Asic) (k : Nat) : (Asic.servoRefresh a k).clk = a.clk := by
  unfold Asic.servoRefresh
  simp -implicitDefEqProofs [Asic.servoRest_clk, Asic.ite_clk]

theorem Asic.followSlave_clk (a : Asic) (p : Nat) : (Asic.followSlave a p).clk = a.clk := by
  unfold Asic.followSlave
  simp -implicitDefEqProofs [Asic.servoRefresh_clk, Asic.ite_clk]

theorem Asic.setPtpState_clk (a : Asic) (p : Nat) (s : Nat) : (Asic.setPtpState a p s).clk = a.clk := by
  unfold Asic.setPtpState
  simp -implicitDefEqProofs [Asic.followSlave_clk, Asic.ite_clk]

theorem Asic.holdMasters_clk (a : Asic) : (Asic.holdMasters a).clk = a.clk := by
  unfold Asic.holdMasters
  simp -implicitDefEqProofs [Asic.setPtpState_clk, Asic.each_clk, Asic.ite_clk]

theorem Asic.takeStandby_clk (a : Asic) : (Asic.takeStandby a).clk = a.clk := by
  unfold Asic.takeStandby
  simp -implicitDefEqProofs [Asic.moveMode_clk, Asic.holdMasters_clk, Asic.setRole_clk, Asic.ite_clk]

theorem Asic.releaseMasters_clk (a : Asic) : (Asic.releaseMasters a).clk = a.clk := by
  unfold Asic.releaseMasters
  simp -implicitDefEqProofs [Asic.setPtpState_clk, Asic.each_clk, Asic.ite_clk]

theorem Asic.leaveStandby_clk (a : Asic) (t : Nat) : (Asic.leaveStandby a t).clk = a.clk := by
  unfold Asic.leaveStandby
  simp -implicitDefEqProofs [Asic.requestSync_clk, Asic.moveMode_clk, Asic.releaseMasters_clk, Asic.each_clk, Asic.ite_clk]

theorem Asic.takeOver_clk (a : Asic) (t : Nat) : (Asic.takeOver a t).clk = a.clk := by
  unfold Asic.takeOver
  simp -implicitDefEqProofs [Asic.setRole_clk, Asic.leaveStandby_clk, Asic.ite_clk]

theorem Asic.resolveRole_clk (a : Asic) (h : Heartbeat) : (Asic.resolveRole a h).clk = a.clk := by
  unfold Asic.resolveRole
  (repeat' split) <;> simp -implicitDefEqProofs [Asic.setRole_clk, Asic.takeStandby_clk, Asic.takeOver_clk, Asic.ite_clk]

theorem Asic.mateRefresh_clk (a : Asic) : (Asic.mateRefresh a).clk = a.clk := by
  unfold Asic.mateRefresh
  dsimp only
  (repeat' split) <;> simp -implicitDefEqProofs [Asic.setRole_clk, Asic.takeStandby_clk, Asic.leaveStandby_clk, Asic.resolveRole_clk, Asic.ite_clk]

theorem Asic.invalidateLanes_clk (a : Asic) : (Asic.invalidateLanes a).clk = a.clk := by
  unfold Asic.invalidateLanes
  simp -implicitDefEqProofs [Asic.each_clk]

theorem Asic.settleChan_clk (a : Asic) (c : Nat) : (Asic.settleChan a c).clk = a.clk := by
  unfold Asic.settleChan
  simp -implicitDefEqProofs []

theorem Asic.freezeChannels_clk (a : Asic) : (Asic.freezeChannels a).clk = a.clk := by
  unfold Asic.freezeChannels
  simp -implicitDefEqProofs [Asic.settleChan_clk, Asic.each_clk, Asic.ite_clk]

theorem Asic.abortSwitch_clk (a : Asic) (c : Nat) : (Asic.abortSwitch a c).clk = a.clk := by
  unfold Asic.abortSwitch
  simp -implicitDefEqProofs []

theorem Asic.rallyRefreshAll_clk (a : Asic) : (Asic.rallyRefreshAll a).clk = a.clk := by
  unfold Asic.rallyRefreshAll
  simp -implicitDefEqProofs [Asic.rallyRefresh_clk, Asic.each_clk]

theorem Asic.endStep_clk (a : Asic) (s : CalStep) (result : Nat) (change : Int) : (Asic.endStep a s result change).clk = a.clk := by
  unfold Asic.endStep
  simp -implicitDefEqProofs []

theorem Asic.dropStep_clk (a : Asic) : (Asic.dropStep a).clk = a.clk := by
  unfold Asic.dropStep
  (repeat' split) <;> simp -implicitDefEqProofs [Asic.endStep_clk]

theorem Asic.thawChannels_clk (a : Asic) : (Asic.thawChannels a).clk = a.clk := by
  unfold Asic.thawChannels
  simp -implicitDefEqProofs [Asic.each_clk]

theorem Asic.enterQual_clk (a : Asic) (i : Nat) (st : Nat) : (Asic.enterQual a i st).clk = a.clk := by
  unfold Asic.enterQual
  simp -implicitDefEqProofs [Asic.ite_clk]

theorem Asic.addCause_clk (a : Asic) (i : Nat) (k : Nat) : (Asic.addCause a i k).clk = a.clk := by
  unfold Asic.addCause
  simp -implicitDefEqProofs []

theorem Asic.suspectFor_clk (a : Asic) (i : Nat) (k : Nat) : (Asic.suspectFor a i k).clk = a.clk := by
  unfold Asic.suspectFor
  simp -implicitDefEqProofs [Asic.enterQual_clk, Asic.addCause_clk, Asic.ite_clk]

theorem Asic.toAbsent_clk (a : Asic) (i : Nat) : (Asic.toAbsent a i).clk = a.clk := by
  unfold Asic.toAbsent
  simp -implicitDefEqProofs [Asic.enterQual_clk, Asic.ite_clk]

theorem Asic.toSoak_clk (a : Asic) (i : Nat) : (Asic.toSoak a i).clk = a.clk := by
  unfold Asic.toSoak
  simp -implicitDefEqProofs [Asic.enterQual_clk]

theorem Asic.refreshAnchor_clk (a : Asic) : (Asic.refreshAnchor a).clk = a.clk := by
  unfold Asic.refreshAnchor
  simp -implicitDefEqProofs [Asic.each_clk, Asic.ite_clk]

theorem Asic.setY_clk (a : Asic) (c : Nat) (y : Int) : (Asic.setY a c y).clk = a.clk := by
  unfold Asic.setY
  simp -implicitDefEqProofs [Asic.refreshRates_clk, Asic.settleChan_clk]

theorem Asic.noteClamp_clk (a : Asic) (c : Nat) (clamped : Bool) : (Asic.noteClamp a c clamped).clk = a.clk := by
  unfold Asic.noteClamp
  simp -implicitDefEqProofs [Asic.ite_clk]

theorem Asic.takeWord_clk (a : Asic) (c : Nat) (w : Int) : (Asic.takeWord a c w).clk = a.clk := by
  unfold Asic.takeWord
  simp -implicitDefEqProofs [Asic.setY_clk, Asic.noteClamp_clk]

theorem Asic.emit_clk (a : Asic) (q : Nat) (r : Record) : (Asic.emit a q r).clk = a.clk := by
  unfold Asic.emit
  simp -implicitDefEqProofs [Asic.ite_clk]

theorem Asic.telemetry_clk (a : Asic) (c : Nat) (event : Bool) (short : Bool) : (Asic.telemetry a c event short).clk = a.clk := by
  unfold Asic.telemetry
  simp -implicitDefEqProofs [Asic.emit_clk, Asic.settleChan_clk, Asic.ite_clk]

theorem Asic.moveChan_clk (a : Asic) (c : Nat) (s : Nat) : (Asic.moveChan a c s).clk = a.clk := by
  unfold Asic.moveChan
  simp -implicitDefEqProofs [Asic.refreshAnchor_clk, Asic.telemetry_clk, Asic.ite_clk]

theorem Asic.toFreerun_clk (a : Asic) (c : Nat) : (Asic.toFreerun a c).clk = a.clk := by
  unfold Asic.toFreerun
  simp -implicitDefEqProofs [Asic.takeWord_clk, Asic.moveChan_clk, Asic.ite_clk]

theorem Asic.toAcquire_clk (a : Asic) (c : Nat) : (Asic.toAcquire a c).clk = a.clk := by
  unfold Asic.toAcquire
  simp -implicitDefEqProofs [Asic.moveChan_clk, Asic.onlyIf_clk, Asic.ite_clk]

theorem Asic.takeHoWord_clk (a : Asic) (c : Nat) : (Asic.takeHoWord a c).clk = a.clk := by
  unfold Asic.takeHoWord
  simp -implicitDefEqProofs [Asic.takeWord_clk]

theorem Asic.toHoldoverWith_clk (a : Asic) (c : Nat) (qual : Nat) (avg : Int) (tc : Nat) : (Asic.toHoldoverWith a c qual avg tc).clk = a.clk := by
  unfold Asic.toHoldoverWith
  simp -implicitDefEqProofs [Asic.moveChan_clk, Asic.takeHoWord_clk]

theorem Asic.toHoldover_clk (a : Asic) (c : Nat) : (Asic.toHoldover a c).clk = a.clk := by
  unfold Asic.toHoldover
  simp -implicitDefEqProofs [Asic.toHoldoverWith_clk]

theorem Asic.selectionChanged_clk (a : Asic) (c : Nat) : (Asic.selectionChanged a c).clk = a.clk := by
  unfold Asic.selectionChanged
  simp -implicitDefEqProofs [Asic.refreshAnchor_clk, Asic.toFreerun_clk, Asic.toAcquire_clk, Asic.toHoldover_clk, Asic.ite_clk]

theorem Asic.startSwitch_clk (a : Asic) (c : Nat) (o : Nat) (n : Nat) (reason : Nat) : (Asic.startSwitch a c o n reason).clk = a.clk := by
  unfold Asic.startSwitch
  simp -implicitDefEqProofs []

theorem Asic.selectOn_clk (a : Asic) (written : Bool) (c : Nat) : (Asic.selectOn a written c).clk = a.clk := by
  unfold Asic.selectOn
  dsimp only
  (repeat' split) <;> simp -implicitDefEqProofs [Asic.selectionChanged_clk, Asic.startSwitch_clk, Asic.abortSwitch_clk, Asic.ite_clk]

theorem Asic.selectAll_clk (a : Asic) : (Asic.selectAll a).clk = a.clk := by
  unfold Asic.selectAll
  simp -implicitDefEqProofs [Asic.refreshAnchor_clk, Asic.selectOn_clk, Asic.each_clk]

theorem Asic.umpCatchUp_clk (a : Asic) : (Asic.umpCatchUp a).clk = a.clk := by
  unfold Asic.umpCatchUp
  simp -implicitDefEqProofs [Asic.suspectFor_clk, Asic.toAbsent_clk, Asic.toSoak_clk, Asic.selectAll_clk, Asic.each_clk, Asic.ite_clk]

theorem Asic.trigDone_clk (a : Asic) (n : Nat) : (Asic.trigDone a n).clk = a.clk := by
  unfold Asic.trigDone
  simp -implicitDefEqProofs []

theorem Asic.trigEvaluate_clk (a : Asic) (n : Nat) : (Asic.trigEvaluate a n).clk = a.clk := by
  unfold Asic.trigEvaluate
  simp -implicitDefEqProofs [Asic.trigDone_clk, Asic.ite_clk]

theorem Asic.trigsOf_clk (a : Asic) (k : Nat) : (Asic.trigsOf a k).clk = a.clk := by
  unfold Asic.trigsOf
  simp -implicitDefEqProofs [Asic.trigEvaluate_clk, Asic.each_clk, Asic.ite_clk]

theorem Asic.requestMigration_clk (a : Asic) (c : Nat) (u : Nat) : (Asic.requestMigration a c u).clk = a.clk := by
  unfold Asic.requestMigration
  simp -implicitDefEqProofs [Asic.ite_clk]

theorem Asic.resumeMigration_clk (a : Asic) : (Asic.resumeMigration a).clk = a.clk := by
  unfold Asic.resumeMigration
  (repeat' split) <;> simp -implicitDefEqProofs [Asic.requestMigration_clk, Asic.ite_clk]

theorem Asic.requestOvenHo_clk (a : Asic) : (Asic.requestOvenHo a).clk = a.clk := by
  unfold Asic.requestOvenHo
  simp -implicitDefEqProofs [Asic.ite_clk]

theorem Asic.resumeOvenHo_clk (a : Asic) : (Asic.resumeOvenHo a).clk = a.clk := by
  unfold Asic.resumeOvenHo
  simp -implicitDefEqProofs [Asic.requestOvenHo_clk, Asic.ite_clk]

theorem Asic.captureError_clk (a : Asic) (o : Occ) (count : Nat) : (Asic.captureError a o count).1.clk = a.clk := by
  unfold Asic.captureError
  (repeat' split) <;> simp -implicitDefEqProofs [Asic.ite_clk, ok, rej]

theorem Asic.msix_clk (a : Asic) (v : Nat) : (Asic.msix a v).clk = a.clk := by
  unfold Asic.msix
  simp -implicitDefEqProofs [Asic.ite_clk]

theorem Asic.pendSource_clk (a : Asic) (s : Nat) : (Asic.pendSource a s).clk = a.clk := by
  unfold Asic.pendSource
  simp -implicitDefEqProofs [Asic.msix_clk]

theorem Asic.pulseFaultL_clk (a : Asic) : (Asic.pulseFaultL a).clk = a.clk := by
  unfold Asic.pulseFaultL
  simp -implicitDefEqProofs [Asic.ite_clk]

theorem Asic.startLaneHo_clk (a : Asic) (i : Nat) (lane : Nat) (ovl : Nat) (soft : Bool) : (Asic.startLaneHo a i lane ovl soft).clk = a.clk := by
  unfold Asic.startLaneHo
  simp -implicitDefEqProofs [Asic.ite_clk]

theorem Asic.laneSubstitute_clk (a : Asic) (failed : Nat) : (Asic.laneSubstitute a failed).clk = a.clk := by
  unfold Asic.laneSubstitute
  (repeat' split) <;> simp -implicitDefEqProofs [Asic.startLaneHo_clk, Asic.ite_clk]

theorem Asic.ovenAutoHo_clk (a : Asic) : (Asic.ovenAutoHo a).clk = a.clk := by
  unfold Asic.ovenAutoHo
  simp -implicitDefEqProofs [Asic.requestOvenHo_clk, Asic.ite_clk]

theorem Asic.startTacHo_clk (a : Asic) (pos : Nat) (tac : Nat) (soft : Bool) : (Asic.startTacHo a pos tac soft).clk = a.clk := by
  unfold Asic.startTacHo
  simp -implicitDefEqProofs [Asic.ite_clk]

theorem Asic.tacSubstitute_clk (a : Asic) (t : Nat) : (Asic.tacSubstitute a t).clk = a.clk := by
  unfold Asic.tacSubstitute
  (repeat' split) <;> simp -implicitDefEqProofs [Asic.startTacHo_clk, Asic.ite_clk]

theorem Asic.slotReset_clk (a : Asic) (q : Nat) : (Asic.slotReset a q).clk = a.clk := by
  unfold Asic.slotReset
  simp -implicitDefEqProofs [Asic.ite_clk]

theorem Asic.blockAction_clk (a : Asic) (o : Occ) : (Asic.blockAction a o).clk = a.clk := by
  unfold Asic.blockAction
  (repeat' split) <;> simp -implicitDefEqProofs [Asic.laneSubstitute_clk, Asic.ovenAutoHo_clk, Asic.tacSubstitute_clk, Asic.slotReset_clk, Asic.ite_clk]

theorem Asic.impEnd_clk (a : Asic) (p : Nat) : (Asic.impEnd a p).clk = a.clk := by
  unfold Asic.impEnd
  simp -implicitDefEqProofs [Asic.ite_clk]

theorem Asic.enterSafe_clk (a : Asic) (o : Occ) : (Asic.enterSafe a o).clk = a.clk := by
  unfold Asic.enterSafe
  simp -implicitDefEqProofs [Asic.moveMode_clk, Asic.impEnd_clk, Asic.mateRefresh_clk, Asic.logEntry_clk, Asic.each_clk, Asic.ite_clk]

theorem Asic.react_clk (a : Asic) (o : Occ) (sel : Nat) (fresh : Nat) : (Asic.react a o sel fresh).clk = a.clk := by
  unfold Asic.react
  simp -implicitDefEqProofs [Asic.pendSource_clk, Asic.pulseFaultL_clk, Asic.blockAction_clk, Asic.enterSafe_clk, Asic.ite_clk]

theorem Asic.takeOcc_clk (a : Asic) (o : Occ) (count : Nat) : (Asic.takeOcc a o count).clk = a.clk := by
  unfold Asic.takeOcc
  dsimp only
  (repeat' split) <;> simp -implicitDefEqProofs [Asic.captureError_clk, Asic.react_clk, Asic.ite_clk]

theorem Asic.sendEmcy_clk (a : Asic) : (Asic.sendEmcy a).clk = a.clk := by
  unfold Asic.sendEmcy
  (repeat' split) <;> simp -implicitDefEqProofs [Asic.ite_clk]

theorem Asic.queueEmcy_clk (a : Asic) (bytes : List Byte) : (Asic.queueEmcy a bytes).clk = a.clk := by
  unfold Asic.queueEmcy
  simp -implicitDefEqProofs [Asic.sendEmcy_clk, Asic.ite_clk]

theorem Asic.withdrawEmcy_clk (a : Asic) (s : Nat) : (Asic.withdrawEmcy a s).clk = a.clk := by
  unfold Asic.withdrawEmcy
  (repeat' split) <;> simp -implicitDefEqProofs [Asic.queueEmcy_clk]

theorem Asic.leaveSafe_clk (a : Asic) (cause : Nat) : (Asic.leaveSafe a cause).clk = a.clk := by
  unfold Asic.leaveSafe
  simp -implicitDefEqProofs [Asic.moveMode_clk, Asic.mateRefresh_clk, Asic.takeOcc_clk, Asic.withdrawEmcy_clk, Asic.each_clk, Asic.ite_clk]

theorem Asic.dropLatches_clk (a : Asic) (owner : Nat) : (Asic.dropLatches a owner).clk = a.clk := by
  unfold Asic.dropLatches
  with_reducible rfl

theorem Asic.nvmLock_clk (a : Asic) (m : Nat) : (Asic.nvmLock a m).clk = a.clk := by
  unfold Asic.nvmLock
  simp -implicitDefEqProofs [Asic.foldl_clk]

theorem Asic.releaseBuffer_clk (a : Asic) : (Asic.releaseBuffer a).clk = a.clk := by
  unfold Asic.releaseBuffer
  simp -implicitDefEqProofs []

theorem Asic.nvmReset_clk (a : Asic) (m : Nat) : (Asic.nvmReset a m).clk = a.clk := by
  unfold Asic.nvmReset
  simp -implicitDefEqProofs [Asic.nvmLock_clk, Asic.releaseBuffer_clk, Asic.ite_clk]

theorem Asic.rearm_clk (a : Asic) : (Asic.rearm a).clk = a.clk := by
  unfold Asic.rearm
  simp -implicitDefEqProofs []

theorem Asic.copyPlans_clk (a : Asic) : (Asic.copyPlans a).clk = a.clk := by
  unfold Asic.copyPlans
  with_reducible rfl

theorem Asic.txnFree_clk (a : Asic) : (Asic.txnFree a).clk = a.clk := by
  unfold Asic.txnFree
  simp -implicitDefEqProofs [Asic.copyPlans_clk]

theorem Asic.masterReset_clk (a : Asic) (m : Nat) : (Asic.masterReset a m).clk = a.clk := by
  unfold Asic.masterReset
  simp -implicitDefEqProofs [Asic.nvmReset_clk, Asic.rearm_clk, Asic.txnFree_clk, Asic.dropLatches_clk, Asic.ite_clk]

theorem Asic.closeWindow'_clk (a : Asic) : (Asic.closeWindow' a).clk = a.clk := by
  unfold Asic.closeWindow'
  with_reducible rfl

theorem Asic.hkcReset_clk (a : Asic) : (Asic.hkcReset a).clk = a.clk := by
  unfold Asic.hkcReset
  simp -implicitDefEqProofs [Asic.dropLatches_clk, Asic.masterReset_clk, Asic.closeWindow'_clk]

theorem Asic.umpAlarm_clk (a : Asic) (i : Nat) (k : Nat) : (Asic.umpAlarm a i k).clk = a.clk := by
  unfold Asic.umpAlarm
  simp -implicitDefEqProofs [Asic.suspectFor_clk, Asic.selectAll_clk, Asic.ite_clk]

theorem Asic.phaseMonitor_clk (a : Asic) (i : Nat) (last : Option Sample) (s : Sample) : (Asic.phaseMonitor a i last s).clk = a.clk := by
  unfold Asic.phaseMonitor
  (repeat' split) <;> simp -implicitDefEqProofs [Asic.umpAlarm_clk, Asic.ite_clk]

theorem Asic.takeSample_clk (a : Asic) (i : Nat) (sec : Nat) (s : Sample) : (Asic.takeSample a i sec s).clk = a.clk := by
  unfold Asic.takeSample
  simp -implicitDefEqProofs [Asic.phaseMonitor_clk, Asic.ite_clk]

theorem Asic.overrideWritten_clk (a : Asic) (c : Nat) : (Asic.overrideWritten a c).clk = a.clk := by
  unfold Asic.overrideWritten
  simp -implicitDefEqProofs [Asic.refreshAnchor_clk, Asic.selectOn_clk]

theorem Asic.wipeCell_clk (a : Asic) (i : Nat) (j : Nat) : (Asic.wipeCell a i j).clk = a.clk := by
  unfold Asic.wipeCell
  simp -implicitDefEqProofs [Asic.foldl_clk]

theorem Asic.restartIndex_clk (a : Asic) (i : Nat) : (Asic.restartIndex a i).clk = a.clk := by
  unfold Asic.restartIndex
  simp -implicitDefEqProofs [Asic.wipeCell_clk, Asic.each_clk]

theorem Asic.stopEngine_clk (a : Asic) : (Asic.stopEngine a).clk = a.clk := by
  unfold Asic.stopEngine
  simp -implicitDefEqProofs [Asic.restartIndex_clk, Asic.each_clk, Asic.ite_clk]

theorem Asic.countGap_clk (a : Asic) (i : Nat) (n : Nat) : (Asic.countGap a i n).clk = a.clk := by
  unfold Asic.countGap
  simp -implicitDefEqProofs [Asic.ite_clk]

theorem Asic.keepValue_clk (a : Asic) (i : Nat) (n : Nat) : (Asic.keepValue a i n).clk = a.clk := by
  unfold Asic.keepValue
  (repeat' split) <;> simp -implicitDefEqProofs [Asic.ite_clk]

theorem Asic.dropSeconds_clk (a : Asic) (i : Nat) (n : Nat) : (Asic.dropSeconds a i n).clk = a.clk := by
  unfold Asic.dropSeconds
  simp -implicitDefEqProofs []

theorem Asic.setEntry_clk (a : Asic) (i : Nat) (j : Nat) (k : Nat) (w : Option Word) : (Asic.setEntry a i j k w).clk = a.clk := by
  unfold Asic.setEntry
  with_reducible rfl

theorem Asic.setValue_clk (a : Asic) (i : Nat) (j : Nat) (k : Nat) (w : Word × Bool) : (Asic.setValue a i j k w).clk = a.clk := by
  unfold Asic.setValue
  simp -implicitDefEqProofs [Asic.setEntry_clk, Asic.onlyIf_clk]

theorem Asic.setRat_clk (a : Asic) (i : Nat) (j : Nat) (k : Nat) (v : Option Rat) : (Asic.setRat a i j k v).clk = a.clk := by
  unfold Asic.setRat
  (repeat' split) <;> simp -implicitDefEqProofs [Asic.setEntry_clk, Asic.setValue_clk]

theorem Asic.writeDiagonal_clk (a : Asic) (i : Nat) (n : Nat) : (Asic.writeDiagonal a i n).clk = a.clk := by
  unfold Asic.writeDiagonal
  simp -implicitDefEqProofs [Asic.setRat_clk]

theorem Asic.halfRecord_clk (a : Asic) (i : Nat) (j : Nat) (half : Nat) (written : Nat) (pass : Nat) (degraded : Bool) : (Asic.halfRecord a i j half written pass degraded).clk = a.clk := by
  unfold Asic.halfRecord
  simp -implicitDefEqProofs [Asic.emit_clk, Asic.ite_clk, Asic.foldl_clk]

theorem Asic.cellRecords_clk (a : Asic) (i : Nat) (j : Nat) (written : Nat) (pass : Nat) (degraded : Bool) : (Asic.cellRecords a i j written pass degraded).clk = a.clk := by
  unfold Asic.cellRecords
  simp -implicitDefEqProofs [Asic.halfRecord_clk]

theorem Asic.averaged_clk (a : Asic) (i : Nat) (j : Nat) (k : Nat) (t : Option Rat) : (Asic.averaged a i j k t).1.clk = a.clk := by
  unfold Asic.averaged
  dsimp only
  (repeat' split) <;> simp -implicitDefEqProofs [Asic.setEntry_clk, Asic.setValue_clk, Asic.ite_clk, ok, rej]

theorem Asic.adevEntries_clk (a : Asic) (i : Nat) (n : Nat) : (Asic.adevEntries a i n).1.clk = a.clk := by
  unfold Asic.adevEntries
  simp -implicitDefEqProofs [Asic.averaged_clk, Asic.entries_clk, ok, rej]

theorem Asic.tdevEntries_clk (a : Asic) (i : Nat) (j : Nat) (n : Nat) : (Asic.tdevEntries a i j n).1.clk = a.clk := by
  unfold Asic.tdevEntries
  simp -implicitDefEqProofs [Asic.averaged_clk, Asic.entries_clk, ok, rej]

theorem Asic.mtieEntry_clk (a : Asic) (i : Nat) (j : Nat) (k : Nat) (s : Nat) (t : Option Int) : (Asic.mtieEntry a i j k s t).1.clk = a.clk := by
  unfold Asic.mtieEntry
  dsimp only
  (repeat' split) <;> simp -implicitDefEqProofs [Asic.setEntry_clk, Asic.setValue_clk, Asic.ite_clk, Asic.foldl_clk, ok, rej]

theorem Asic.mtieEntries_clk (a : Asic) (i : Nat) (j : Nat) (n : Nat) : (Asic.mtieEntries a i j n).1.clk = a.clk := by
  unfold Asic.mtieEntries
  simp -implicitDefEqProofs [Asic.mtieEntry_clk, Asic.entries_clk, ok, rej]

theorem Asic.checkSegments_clk (a : Asic) : (Asic.checkSegments a).clk = a.clk := by
  unfold Asic.checkSegments
  simp -implicitDefEqProofs [Asic.ite_clk, Asic.foldl_clk]

theorem Asic.restartDiagonal_clk (a : Asic) (i : Nat) (n : Nat) : (Asic.restartDiagonal a i n).clk = a.clk := by
  unfold Asic.restartDiagonal
  simp -implicitDefEqProofs [Asic.wipeCell_clk]

theorem Asic.passRestarts_clk (a : Asic) (s : Nat) : (Asic.passRestarts a s).clk = a.clk := by
  unfold Asic.passRestarts
  simp -implicitDefEqProofs [Asic.restartIndex_clk, Asic.restartDiagonal_clk, Asic.each_clk, Asic.ite_clk]

theorem Asic.snapshotFlip_clk (a : Asic) : (Asic.snapshotFlip a).clk = a.clk := by
  unfold Asic.snapshotFlip
  simp -implicitDefEqProofs [Asic.ite_clk]

theorem Asic.runPass_clk (a : Asic) (s : Nat) : (Asic.runPass a s).clk = a.clk := by
  unfold Asic.runPass
  dsimp only
  have e1 : ∀ (L : List Nat) (g : List Nat) (p : Nat) (x : Asic), (x.each indices fun a i =>
      ((if L.contains i then a.adevEntries i (a.formed i s) else (a, 0)).1.cellRecords i i (7 + (if L.contains i then a.adevEntries i (a.formed i s) else (a, 0)).2) p (g.contains i))).clk = x.clk := by
    intro L g p x
    refine Asic.each_clk _ _ _ fun y i => ?_
    rw [Asic.cellRecords_clk]
    split
    · exact Asic.adevEntries_clk _ _ _
    · rfl
  have e2 : ∀ (L : List Nat) (g : List Nat) (p : Nat) (x : Asic) (l : List (Nat × Nat)) (h : Asic → Nat × Nat → Asic × Nat) (_ : ∀ x q, (h x q).1.clk = x.clk), (l.foldl (fun a q =>
      if (L.contains q.1 && L.contains q.2) = true then (h a q).1.cellRecords q.1 q.2 (h a q).2 p (g.contains q.1 || g.contains q.2) else a) x).clk = x.clk := by
    intro L g p x l h hh
    refine Asic.foldl_clk _ _ _ fun y q => ?_
    split
    · rw [Asic.cellRecords_clk, hh]
    · rfl
  simp -implicitDefEqProofs only [Asic.snapshotFlip_clk, Asic.put_clk, e1]
  rw [e2 _ _ _ _ _ (fun a q => a.mtieEntries q.1 q.2 (min (a.formed q.1 s) (a.formed q.2 s))) (fun x q => Asic.mtieEntries_clk _ _ _ _),
    e2 _ _ _ _ _ (fun a q => a.tdevEntries q.1 q.2 (min (a.formed q.1 s) (a.formed q.2 s))) (fun x q => Asic.tdevEntries_clk _ _ _ _), e1]
  simp -implicitDefEqProofs only [Asic.writeDiagonal_clk, Asic.checkSegments_clk, Asic.keepValue_clk, Asic.dropSeconds_clk, Asic.passRestarts_clk, Asic.countGap_clk, Asic.each_clk, Asic.ite_clk, ite_self, implies_true]

theorem Asic.ledgerPass_clk (a : Asic) : (Asic.ledgerPass a).clk = a.clk := by
  unfold Asic.ledgerPass
  simp -implicitDefEqProofs [Asic.stopEngine_clk, Asic.runPass_clk, Asic.ite_clk]

theorem Asic.switchTake_clk (a : Asic) (c : Nat) : (Asic.switchTake a c).clk = a.clk := by
  unfold Asic.switchTake
  (repeat' split) <;> simp -implicitDefEqProofs [Asic.selectionChanged_clk, Asic.abortSwitch_clk, Asic.selectOn_clk, Asic.ite_clk]

theorem Asic.changeEpoch_clk (a : Asic) (q : Nat) (kind : Nat) (fn : Nat) (old : Nat) (new : Nat) (cause : Nat) (extra : Nat) : (Asic.changeEpoch a q kind fn old new cause extra).clk = a.clk := by
  unfold Asic.changeEpoch
  simp -implicitDefEqProofs [Asic.emit_clk]

theorem Asic.adjustWords_clk (a : Asic) (y : Int) : (Asic.adjustWords a y).clk = a.clk := by
  unfold Asic.adjustWords
  simp -implicitDefEqProofs [Asic.refreshRate_clk, Asic.settleChan_clk, Asic.setY_clk, Asic.each_clk, Asic.ite_clk]

theorem Asic.admitByWarm_clk (a : Asic) : (Asic.admitByWarm a).clk = a.clk := by
  unfold Asic.admitByWarm
  simp -implicitDefEqProofs [Asic.ite_clk]

theorem Asic.noOvenRefresh_clk (a : Asic) : (Asic.noOvenRefresh a).clk = a.clk := by
  unfold Asic.noOvenRefresh
  simp -implicitDefEqProofs []

end Sys2Proof.Machine
end

