-- ==== Sys2Proof/Laws/FrameClkBkat.lean ====
section
/-! SUPPORT. Operations that leave `clk.bkAt` alone. -/

set_option linter.unusedSimpArgs false
set_option linter.unusedSectionVars false

namespace Sys2Proof.Machine

theorem Asic.each_clk_bkAt (a : Asic) (l : List Nat) (f : Asic → Nat → Asic) (h : ∀ x i, (f x i).clk.bkAt = x.clk.bkAt) : (a.each l f).clk.bkAt = a.clk.bkAt := by
  induction l generalizing a with
  | nil => rfl
  | cons i l ih => exact (ih (f a i)).trans (h a i)
theorem Asic.onlyIf_clk_bkAt (a : Asic) (c : Bool) (f : Asic → Asic) (h : ∀ x, (f x).clk.bkAt = x.clk.bkAt) : (a.onlyIf c f).clk.bkAt = a.clk.bkAt := by
  unfold Asic.onlyIf
  split
  · exact h a
  · rfl
theorem Asic.ite_clk_bkAt (c : Prop) [Decidable c] (x y : Asic) : (if c then x else y).clk.bkAt = if c then x.clk.bkAt else y.clk.bkAt := apply_ite (fun z : Asic => z.clk.bkAt) _ _ _
theorem Asic.foldl_clk_bkAt {α : Type} (a : Asic) (l : List α) (f : Asic → α → Asic) (h : ∀ x i, (f x i).clk.bkAt = x.clk.bkAt) : (l.foldl f a).clk.bkAt = a.clk.bkAt := by
  induction l generalizing a with
  | nil => rfl
  | cons i l ih => exact (ih (f a i)).trans (h a i)

theorem Asic.noOvenRefresh_clk_bkAt (a : Asic) : (Asic.noOvenRefresh a).clk.bkAt = a.clk.bkAt := by
  unfold Asic.noOvenRefresh
  simp -implicitDefEqProofs []

theorem Asic.invalidateLanes_clk_bkAt (a : Asic) : (Asic.invalidateLanes a).clk.bkAt = a.clk.bkAt := by
  unfold Asic.invalidateLanes
  simp -implicitDefEqProofs [Asic.each_clk_bkAt]

theorem Asic.activeOscLost_clk_bkAt (a : Asic) : (Asic.activeOscLost a).clk.bkAt = a.clk.bkAt := by
  unfold Asic.activeOscLost
  simp -implicitDefEqProofs [Asic.invalidateLanes_clk_bkAt]

theorem Asic.ovenFaultNow_clk_bkAt (a : Asic) (o : Nat) (cause : Nat) : (Asic.ovenFaultNow a o cause).clk.bkAt = a.clk.bkAt := by
  unfold Asic.ovenFaultNow
  simp -implicitDefEqProofs [Asic.noOvenRefresh_clk_bkAt, Asic.activeOscLost_clk_bkAt, Asic.ite_clk_bkAt]

end Sys2Proof.Machine
end

