-- ==== Sys2Proof/Laws/FrameClkBklocked.lean ====
section
/-! SUPPORT. Operations that leave `clk.bkLocked` alone. -/

set_option linter.unusedSimpArgs false
set_option linter.unusedSectionVars false

namespace Sys2Proof.Machine

theorem Asic.each_clk_bkLocked (a : Asic) (l : List Nat) (f : Asic → Nat → Asic) (h : ∀ x i, (f x i).clk.bkLocked = x.clk.bkLocked) : (a.each l f).clk.bkLocked = a.clk.bkLocked := by
  induction l generalizing a with
  | nil => rfl
  | cons i l ih => exact (ih (f a i)).trans (h a i)
theorem Asic.onlyIf_clk_bkLocked (a : Asic) (c : Bool) (f : Asic → Asic) (h : ∀ x, (f x).clk.bkLocked = x.clk.bkLocked) : (a.onlyIf c f).clk.bkLocked = a.clk.bkLocked := by
  unfold Asic.onlyIf
  split
  · exact h a
  · rfl
theorem Asic.ite_clk_bkLocked (c : Prop) [Decidable c] (x y : Asic) : (if c then x else y).clk.bkLocked = if c then x.clk.bkLocked else y.clk.bkLocked := apply_ite (fun z : Asic => z.clk.bkLocked) _ _ _
theorem Asic.foldl_clk_bkLocked {α : Type} (a : Asic) (l : List α) (f : Asic → α → Asic) (h : ∀ x i, (f x i).clk.bkLocked = x.clk.bkLocked) : (l.foldl f a).clk.bkLocked = a.clk.bkLocked := by
  induction l generalizing a with
  | nil => rfl
  | cons i l ih => exact (ih (f a i)).trans (h a i)

theorem Asic.noOvenRefresh_clk_bkLocked (a : Asic) : (Asic.noOvenRefresh a).clk.bkLocked = a.clk.bkLocked := by
  unfold Asic.noOvenRefresh
  simp -implicitDefEqProofs []

theorem Asic.invalidateLanes_clk_bkLocked (a : Asic) : (Asic.invalidateLanes a).clk.bkLocked = a.clk.bkLocked := by
  unfold Asic.invalidateLanes
  simp -implicitDefEqProofs [Asic.each_clk_bkLocked]

theorem Asic.activeOscLost_clk_bkLocked (a : Asic) : (Asic.activeOscLost a).clk.bkLocked = a.clk.bkLocked := by
  unfold Asic.activeOscLost
  simp -implicitDefEqProofs [Asic.invalidateLanes_clk_bkLocked]

theorem Asic.ovenFaultNow_clk_bkLocked (a : Asic) (o : Nat) (cause : Nat) : (Asic.ovenFaultNow a o cause).clk.bkLocked = a.clk.bkLocked := by
  unfold Asic.ovenFaultNow
  simp -implicitDefEqProofs [Asic.noOvenRefresh_clk_bkLocked, Asic.activeOscLost_clk_bkLocked, Asic.ite_clk_bkLocked]

end Sys2Proof.Machine
end

