-- ==== Sys2Proof/Laws/FrameGlb.lean ====
section
/-! SUPPORT. Register fields at 0x0 to 0x10000 that operations leave alone. -/

set_option linter.unusedSimpArgs false
set_option linter.unusedSectionVars false

namespace Sys2Proof.Machine

variable (g : Fld) (h1 : 0x0 ≤ g.addr) (h2 : g.addr < 0x10000)
include h1 h2
theorem Asic.put_glb (a : Asic) (f : Fld) (n : Nat) (h : f.addr < 0x0 ∨ 0x10000 ≤ f.addr) : (a.put f n).get g = a.get g := Asic.get_put_ne _ _ _ _ (.inl (by omega))
theorem Asic.putS_glb (a : Asic) (f : Fld) (n : Int) (h : f.addr < 0x0 ∨ 0x10000 ≤ f.addr) : (a.putS f n).get g = a.get g := Asic.get_put_ne _ _ _ _ (.inl (by omega))
theorem Asic.putB_glb (a : Asic) (f : Fld) (n : Bool) (h : f.addr < 0x0 ∨ 0x10000 ≤ f.addr) : (a.putB f n).get g = a.get g := Asic.get_put_ne _ _ _ _ (.inl (by omega))
theorem Asic.addSat_glb (a : Asic) (f : Fld) (n : Nat) (h : f.addr < 0x0 ∨ 0x10000 ≤ f.addr) : (a.addSat f n).get g = a.get g := Asic.get_put_ne _ _ _ _ (.inl (by omega))
theorem Asic.addWrap_glb (a : Asic) (f : Fld) (n : Nat) (h : f.addr < 0x0 ∨ 0x10000 ≤ f.addr) : (a.addWrap f n).get g = a.get g := Asic.get_put_ne _ _ _ _ (.inl (by omega))
theorem Asic.event_glb (a : Asic) (f : Fld) (h : f.addr < 0x0 ∨ 0x10000 ≤ f.addr) : (a.event f).get g = a.get g := Asic.get_event_ne _ _ _ (.inl (by omega)) (.inl (by dsimp only; omega))
theorem Asic.put2_glb (a : Asic) (f f' : Fld) (n : Nat) (h : f.addr < 0x0 ∨ 0x10000 ≤ f.addr) (h' : f'.addr < 0x0 ∨ 0x10000 ≤ f'.addr) : (a.put2 f f' n).get g = a.get g := by
  rw [Asic.put2, Asic.get_put_ne _ _ _ _ (.inl (by omega)), Asic.get_put_ne _ _ _ _ (.inl (by omega))]
theorem Asic.put2S_glb (a : Asic) (f f' : Fld) (n : Int) (h : f.addr < 0x0 ∨ 0x10000 ≤ f.addr) (h' : f'.addr < 0x0 ∨ 0x10000 ≤ f'.addr) : (a.put2S f f' n).get g = a.get g := by
  rw [Asic.put2S, Asic.put2, Asic.get_put_ne _ _ _ _ (.inl (by omega)), Asic.get_put_ne _ _ _ _ (.inl (by omega))]
omit h1 h2
theorem Asic.each_glb (a : Asic) (l : List Nat) (f : Asic → Nat → Asic) (h : ∀ x i, (f x i).get g = x.get g) : (a.each l f).get g = a.get g := by
  induction l generalizing a with
  | nil => rfl
  | cons i l ih => exact (ih (f a i)).trans (h a i)
theorem Asic.onlyIf_glb (a : Asic) (c : Bool) (f : Asic → Asic) (h : ∀ x, (f x).get g = x.get g) : (a.onlyIf c f).get g = a.get g := by
  unfold Asic.onlyIf
  split
  · exact h a
  · rfl
theorem Asic.ite_glb (c : Prop) [Decidable c] (x y : Asic) : (if c then x else y).get g = if c then x.get g else y.get g := apply_ite (fun z => Asic.get z g) _ _ _
theorem Asic.foldl_glb {α : Type} (a : Asic) (l : List α) (f : Asic → α → Asic) (h : ∀ x i, (f x i).get g = x.get g) : (l.foldl f a).get g = a.get g := by
  induction l generalizing a with
  | nil => rfl
  | cons i l ih => exact (ih (f a i)).trans (h a i)
include h1 h2


theorem Asic.noOvenRefresh_glb (a : Asic) : (Asic.noOvenRefresh a).get g = a.get g := by
  unfold Asic.noOvenRefresh
  simp +arith -implicitDefEqProofs [Asic.get_mk, Asic.get_of_regs]

theorem Asic.invalidateLanes_glb (a : Asic) : (Asic.invalidateLanes a).get g = a.get g := by
  unfold Asic.invalidateLanes
  simp +arith -implicitDefEqProofs [Asic.put_glb g h1 h2, Asic.get_mk, Asic.get_of_regs, Asic.each_glb]

theorem Asic.activeOscLost_glb (a : Asic) : (Asic.activeOscLost a).get g = a.get g := by
  unfold Asic.activeOscLost
  simp +arith -implicitDefEqProofs [Asic.invalidateLanes_glb g h1 h2, Asic.get_mk, Asic.get_of_regs]

theorem Asic.ovenFaultNow_glb (a : Asic) (o : Nat) (cause : Nat) : (Asic.ovenFaultNow a o cause).get g = a.get g := by
  unfold Asic.ovenFaultNow
  simp +arith -implicitDefEqProofs [Asic.noOvenRefresh_glb g h1 h2, Asic.activeOscLost_glb g h1 h2, Asic.put_glb g h1 h2, Asic.get_mk, Asic.get_of_regs, Asic.ite_glb]

theorem Asic.sysfbRuns_glb (a : Asic) : (Asic.sysfbRuns a).get g = a.get g := by
  unfold Asic.sysfbRuns
  simp +arith -implicitDefEqProofs [Asic.ovenFaultNow_glb g h1 h2, Asic.get_mk, Asic.get_of_regs, Asic.each_glb]

theorem Asic.logEntry_glb (a : Asic) (code' : Nat) (item : Nat) (data : Nat) : (Asic.logEntry a code' item data).get g = a.get g := by
  unfold Asic.logEntry
  simp +arith -implicitDefEqProofs [Asic.put_glb g h1 h2, Asic.get_mk, Asic.get_of_regs, Asic.onlyIf_glb, Asic.ite_glb]

theorem Asic.setRallyState_glb (a : Asic) (i : Nat) (s : Nat) : (Asic.setRallyState a i s).get g = a.get g := by
  unfold Asic.setRallyState
  simp +arith -implicitDefEqProofs [Asic.put_glb g h1 h2, Asic.event_glb g h1 h2, Asic.get_mk, Asic.get_of_regs, Asic.ite_glb]

theorem Asic.rallyRefresh_glb (a : Asic) (i : Nat) : (Asic.rallyRefresh a i).get g = a.get g := by
  unfold Asic.rallyRefresh
  simp +arith -implicitDefEqProofs [Asic.setRallyState_glb g h1 h2, Asic.put_glb g h1 h2, Asic.putB_glb g h1 h2, Asic.get_mk, Asic.get_of_regs, Asic.ite_glb]

theorem Asic.mateInstance_glb (a : Asic) : (Asic.mateInstance a).get g = a.get g := by
  unfold Asic.mateInstance
  simp +arith -implicitDefEqProofs [Asic.rallyRefresh_glb g h1 h2, Asic.putB_glb g h1 h2, Asic.get_mk, Asic.get_of_regs]

theorem Asic.setRole_glb (a : Asic) (r : Nat) : (Asic.setRole a r).get g = a.get g := by
  unfold Asic.setRole
  simp +arith -implicitDefEqProofs [Asic.mateInstance_glb g h1 h2, Asic.put_glb g h1 h2, Asic.get_mk, Asic.get_of_regs, Asic.ite_glb]

theorem Asic.startScales_glb (a : Asic) (sec : Nat) : (Asic.startScales a sec).get g = a.get g := by
  unfold Asic.startScales
  simp +arith -implicitDefEqProofs [Asic.get_mk, Asic.get_of_regs]

theorem Asic.rebase_glb (a : Asic) (k : Nat) : (Asic.rebase a k).get g = a.get g := by
  unfold Asic.rebase
  simp +arith -implicitDefEqProofs [Asic.get_mk, Asic.get_of_regs]

theorem Asic.refreshRate_glb (a : Asic) (k : Nat) : (Asic.refreshRate a k).get g = a.get g := by
  unfold Asic.refreshRate
  simp +arith -implicitDefEqProofs [Asic.rebase_glb g h1 h2, Asic.putB_glb g h1 h2, Asic.get_mk, Asic.get_of_regs, Asic.ite_glb]

theorem Asic.refreshRates_glb (a : Asic) : (Asic.refreshRates a).get g = a.get g := by
  unfold Asic.refreshRates
  simp +arith -implicitDefEqProofs [Asic.refreshRate_glb g h1 h2, Asic.get_mk, Asic.get_of_regs, Asic.each_glb]

theorem Asic.reloadCredits_glb (a : Asic) : (Asic.reloadCredits a).get g = a.get g := by
  unfold Asic.reloadCredits
  simp +arith -implicitDefEqProofs [Asic.get_mk, Asic.get_of_regs, Asic.foldl_glb]

theorem Asic.bootNode_glb (a : Asic) (objects : Tab (Option Nat)) : (Asic.bootNode a objects).get g = a.get g := by
  unfold Asic.bootNode
  simp +arith -implicitDefEqProofs [Asic.get_mk, Asic.get_of_regs]

theorem Asic.endStep_glb (a : Asic) (s : CalStep) (result : Nat) (change : Int) : (Asic.endStep a s result change).get g = a.get g := by
  unfold Asic.endStep
  simp +arith -implicitDefEqProofs [Asic.put_glb g h1 h2, Asic.putS_glb g h1 h2, Asic.get_mk, Asic.get_of_regs]

theorem Asic.dropStep_glb (a : Asic) : (Asic.dropStep a).get g = a.get g := by
  unfold Asic.dropStep
  (repeat' split) <;> simp +arith -implicitDefEqProofs [Asic.endStep_glb g h1 h2, Asic.event_glb g h1 h2, Asic.get_mk, Asic.get_of_regs]

theorem Asic.rallyRefreshAll_glb (a : Asic) : (Asic.rallyRefreshAll a).get g = a.get g := by
  unfold Asic.rallyRefreshAll
  simp +arith -implicitDefEqProofs [Asic.rallyRefresh_glb g h1 h2, Asic.get_mk, Asic.get_of_regs, Asic.each_glb]

theorem Asic.sendEmcy_glb (a : Asic) : (Asic.sendEmcy a).get g = a.get g := by
  unfold Asic.sendEmcy
  (repeat' split) <;> simp +arith -implicitDefEqProofs [Asic.get_mk, Asic.get_of_regs, Asic.ite_glb]

theorem Asic.queueEmcy_glb (a : Asic) (bytes : List Byte) : (Asic.queueEmcy a bytes).get g = a.get g := by
  unfold Asic.queueEmcy
  simp +arith -implicitDefEqProofs [Asic.sendEmcy_glb g h1 h2, Asic.get_mk, Asic.get_of_regs, Asic.ite_glb]

theorem Asic.withdrawEmcy_glb (a : Asic) (s : Nat) : (Asic.withdrawEmcy a s).get g = a.get g := by
  unfold Asic.withdrawEmcy
  (repeat' split) <;> simp +arith -implicitDefEqProofs [Asic.queueEmcy_glb g h1 h2, Asic.get_mk, Asic.get_of_regs]

theorem Asic.deactivate_glb (a : Asic) (s : Nat) : (Asic.deactivate a s).get g = a.get g := by
  unfold Asic.deactivate
  simp +arith -implicitDefEqProofs [Asic.withdrawEmcy_glb g h1 h2, Asic.put_glb g h1 h2, Asic.get_mk, Asic.get_of_regs, Asic.ite_glb]

theorem Asic.showInject_glb (a : Asic) : (Asic.showInject a).get g = a.get g := by
  unfold Asic.showInject
  simp +arith -implicitDefEqProofs [Asic.putB_glb g h1 h2, Asic.get_mk, Asic.get_of_regs]

theorem Asic.releaseInjections_glb (a : Asic) : (Asic.releaseInjections a).get g = a.get g := by
  unfold Asic.releaseInjections
  simp +arith -implicitDefEqProofs [Asic.deactivate_glb g h1 h2, Asic.showInject_glb g h1 h2, Asic.put_glb g h1 h2, Asic.get_mk, Asic.get_of_regs, Asic.each_glb, Asic.ite_glb]

end Sys2Proof.Machine
end

