-- ==== Sys2Proof/Laws/FrameMaten.lean ====
section
/-! SUPPORT. Operations that leave the field `Reg.RLY_MATECFG.EN` alone. -/

set_option linter.unusedSimpArgs false
set_option linter.unusedSectionVars false

namespace Sys2Proof.Machine

theorem Asic.put_maten (a : Asic) (f : Fld) (n : Nat) (h : f.addr ≠ Reg.RLY_MATECFG.EN.addr ∨ f.lsb + f.width ≤ Reg.RLY_MATECFG.EN.lsb ∨ Reg.RLY_MATECFG.EN.lsb + Reg.RLY_MATECFG.EN.width ≤ f.lsb) : (a.put f n).get Reg.RLY_MATECFG.EN = a.get Reg.RLY_MATECFG.EN := Asic.get_put_ne _ _ _ _ h
theorem Asic.putS_maten (a : Asic) (f : Fld) (n : Int) (h : f.addr ≠ Reg.RLY_MATECFG.EN.addr ∨ f.lsb + f.width ≤ Reg.RLY_MATECFG.EN.lsb ∨ Reg.RLY_MATECFG.EN.lsb + Reg.RLY_MATECFG.EN.width ≤ f.lsb) : (a.putS f n).get Reg.RLY_MATECFG.EN = a.get Reg.RLY_MATECFG.EN := Asic.get_put_ne _ _ _ _ h
theorem Asic.putB_maten (a : Asic) (f : Fld) (n : Bool) (h : f.addr ≠ Reg.RLY_MATECFG.EN.addr ∨ f.lsb + f.width ≤ Reg.RLY_MATECFG.EN.lsb ∨ Reg.RLY_MATECFG.EN.lsb + Reg.RLY_MATECFG.EN.width ≤ f.lsb) : (a.putB f n).get Reg.RLY_MATECFG.EN = a.get Reg.RLY_MATECFG.EN := Asic.get_put_ne _ _ _ _ h
theorem Asic.addSat_maten (a : Asic) (f : Fld) (n : Nat) (h : f.addr ≠ Reg.RLY_MATECFG.EN.addr ∨ f.lsb + f.width ≤ Reg.RLY_MATECFG.EN.lsb ∨ Reg.RLY_MATECFG.EN.lsb + Reg.RLY_MATECFG.EN.width ≤ f.lsb) : (a.addSat f n).get Reg.RLY_MATECFG.EN = a.get Reg.RLY_MATECFG.EN := Asic.get_put_ne _ _ _ _ h
theorem Asic.addWrap_maten (a : Asic) (f : Fld) (n : Nat) (h : f.addr ≠ Reg.RLY_MATECFG.EN.addr ∨ f.lsb + f.width ≤ Reg.RLY_MATECFG.EN.lsb ∨ Reg.RLY_MATECFG.EN.lsb + Reg.RLY_MATECFG.EN.width ≤ f.lsb) : (a.addWrap f n).get Reg.RLY_MATECFG.EN = a.get Reg.RLY_MATECFG.EN := Asic.get_put_ne _ _ _ _ h
theorem Asic.event_maten (a : Asic) (f : Fld) (h : f.addr ≠ Reg.RLY_MATECFG.EN.addr ∨ f.lsb + f.width ≤ Reg.RLY_MATECFG.EN.lsb ∨ Reg.RLY_MATECFG.EN.lsb + Reg.RLY_MATECFG.EN.width ≤ f.lsb) (h' : f.addr ≠ Reg.RLY_MATECFG.EN.addr ∨ 8 ≤ Reg.RLY_MATECFG.EN.lsb) : (a.event f).get Reg.RLY_MATECFG.EN = a.get Reg.RLY_MATECFG.EN := Asic.get_event_ne _ _ _ h (h'.imp id .inl)
theorem Asic.put2_maten (a : Asic) (f f' : Fld) (n : Nat) (h : f.addr ≠ Reg.RLY_MATECFG.EN.addr ∨ f.lsb + f.width ≤ Reg.RLY_MATECFG.EN.lsb ∨ Reg.RLY_MATECFG.EN.lsb + Reg.RLY_MATECFG.EN.width ≤ f.lsb) (h' : f'.addr ≠ Reg.RLY_MATECFG.EN.addr ∨ f'.lsb + f'.width ≤ Reg.RLY_MATECFG.EN.lsb ∨ Reg.RLY_MATECFG.EN.lsb + Reg.RLY_MATECFG.EN.width ≤ f'.lsb) : (a.put2 f f' n).get Reg.RLY_MATECFG.EN = a.get Reg.RLY_MATECFG.EN := by
  unfold Asic.put2
  rw [Asic.get_put_ne _ _ _ _ h', Asic.get_put_ne _ _ _ _ h]
theorem Asic.put2S_maten (a : Asic) (f f' : Fld) (n : Int) (h : f.addr ≠ Reg.RLY_MATECFG.EN.addr ∨ f.lsb + f.width ≤ Reg.RLY_MATECFG.EN.lsb ∨ Reg.RLY_MATECFG.EN.lsb + Reg.RLY_MATECFG.EN.width ≤ f.lsb) (h' : f'.addr ≠ Reg.RLY_MATECFG.EN.addr ∨ f'.lsb + f'.width ≤ Reg.RLY_MATECFG.EN.lsb ∨ Reg.RLY_MATECFG.EN.lsb + Reg.RLY_MATECFG.EN.width ≤ f'.lsb) : (a.put2S f f' n).get Reg.RLY_MATECFG.EN = a.get Reg.RLY_MATECFG.EN := by
  unfold Asic.put2S Asic.put2
  rw [Asic.get_put_ne _ _ _ _ h', Asic.get_put_ne _ _ _ _ h]
theorem Asic.each_maten (a : Asic) (l : List Nat) (f : Asic → Nat → Asic) (h : ∀ x i, (f x i).get Reg.RLY_MATECFG.EN = x.get Reg.RLY_MATECFG.EN) : (a.each l f).get Reg.RLY_MATECFG.EN = a.get Reg.RLY_MATECFG.EN := by
  induction l generalizing a with
  | nil => rfl
  | cons i l ih => exact (ih (f a i)).trans (h a i)
theorem Asic.onlyIf_maten (a : Asic) (c : Bool) (f : Asic → Asic) (h : ∀ x, (f x).get Reg.RLY_MATECFG.EN = x.get Reg.RLY_MATECFG.EN) : (a.onlyIf c f).get Reg.RLY_MATECFG.EN = a.get Reg.RLY_MATECFG.EN := by
  unfold Asic.onlyIf
  split
  · exact h a
  · rfl
theorem Asic.ite_maten (c : Prop) [Decidable c] (x y : Asic) : (if c then x else y).get Reg.RLY_MATECFG.EN = if c then x.get Reg.RLY_MATECFG.EN else y.get Reg.RLY_MATECFG.EN := apply_ite (fun z => Asic.get z Reg.RLY_MATECFG.EN) _ _ _
theorem Asic.foldl_maten {α : Type} (a : Asic) (l : List α) (f : Asic → α → Asic) (h : ∀ x i, (f x i).get Reg.RLY_MATECFG.EN = x.get Reg.RLY_MATECFG.EN) : (l.foldl f a).get Reg.RLY_MATECFG.EN = a.get Reg.RLY_MATECFG.EN := by
  induction l generalizing a with
  | nil => rfl
  | cons i l ih => exact (ih (f a i)).trans (h a i)


theorem Asic.startScales_maten (a : Asic) (sec : Nat) : (Asic.startScales a sec).get Reg.RLY_MATECFG.EN = a.get Reg.RLY_MATECFG.EN := by
  unfold Asic.startScales
  simp +arith -implicitDefEqProofs [Asic.get_mk, Asic.get_of_regs]

theorem Asic.rebase_maten (a : Asic) (k : Nat) : (Asic.rebase a k).get Reg.RLY_MATECFG.EN = a.get Reg.RLY_MATECFG.EN := by
  unfold Asic.rebase
  simp +arith -implicitDefEqProofs [Asic.get_mk, Asic.get_of_regs]

theorem Asic.refreshRate_maten (a : Asic) (k : Nat) : (Asic.refreshRate a k).get Reg.RLY_MATECFG.EN = a.get Reg.RLY_MATECFG.EN := by
  unfold Asic.refreshRate
  simp +arith -implicitDefEqProofs [Asic.rebase_maten, Asic.putB_maten, Asic.get_mk, Asic.get_of_regs, Asic.ite_maten]

theorem Asic.refreshRates_maten (a : Asic) : (Asic.refreshRates a).get Reg.RLY_MATECFG.EN = a.get Reg.RLY_MATECFG.EN := by
  unfold Asic.refreshRates
  simp +arith -implicitDefEqProofs [Asic.refreshRate_maten, Asic.get_mk, Asic.get_of_regs, Asic.each_maten]

theorem Asic.reloadCredits_maten (a : Asic) : (Asic.reloadCredits a).get Reg.RLY_MATECFG.EN = a.get Reg.RLY_MATECFG.EN := by
  unfold Asic.reloadCredits
  simp +arith -implicitDefEqProofs [Asic.get_mk, Asic.get_of_regs, Asic.foldl_maten]

theorem Asic.bootNode_maten (a : Asic) (objects : Tab (Option Nat)) : (Asic.bootNode a objects).get Reg.RLY_MATECFG.EN = a.get Reg.RLY_MATECFG.EN := by
  unfold Asic.bootNode
  simp +arith -implicitDefEqProofs [Asic.get_mk, Asic.get_of_regs]

theorem Asic.logEntry_maten (a : Asic) (code' : Nat) (item : Nat) (data : Nat) : (Asic.logEntry a code' item data).get Reg.RLY_MATECFG.EN = a.get Reg.RLY_MATECFG.EN := by
  unfold Asic.logEntry
  simp +arith -implicitDefEqProofs [Asic.put_maten, Asic.get_mk, Asic.get_of_regs, Asic.onlyIf_maten, Asic.ite_maten]

end Sys2Proof.Machine
end

