-- ==== Sys2Proof/Laws/FrameModes.lean ====
section
/-! SUPPORT. Operations that leave `modes` alone. -/

set_option linter.unusedSimpArgs false
set_option linter.unusedSectionVars false

namespace Sys2Proof.Machine

theorem Asic.each_modes (a : Asic) (l : List Nat) (f : Asic → Nat → Asic) (h : ∀ x i, (f x i).modes = x.modes) : (a.each l f).modes = a.modes := by
  induction l generalizing a with
  | nil => rfl
  | cons i l ih => exact (ih (f a i)).trans (h a i)
theorem Asic.onlyIf_modes (a : Asic) (c : Bool) (f : Asic → Asic) (h : ∀ x, (f x).modes = x.modes) : (a.onlyIf c f).modes = a.modes := by
  unfold Asic.onlyIf
  split
  · exact h a
  · rfl
theorem Asic.ite_modes (c : Prop) [Decidable c] (x y : Asic) : (if c then x else y).modes = if c then x.modes else y.modes := apply_ite (fun z : Asic => z.modes) _ _ _
theorem Asic.foldl_modes {α : Type} (a : Asic) (l : List α) (f : Asic → α → Asic) (h : ∀ x i, (f x i).modes = x.modes) : (l.foldl f a).modes = a.modes := by
  induction l generalizing a with
  | nil => rfl
  | cons i l ih => exact (ih (f a i)).trans (h a i)

theorem Asic.setRallyState_modes (a : Asic) (i : Nat) (s : Nat) : (Asic.setRallyState a i s).modes = a.modes := by
  unfold Asic.setRallyState
  simp -implicitDefEqProofs [Asic.ite_modes]

theorem Asic.rallyRefresh_modes (a : Asic) (i : Nat) : (Asic.rallyRefresh a i).modes = a.modes := by
  unfold Asic.rallyRefresh
  simp -implicitDefEqProofs [Asic.setRallyState_modes, Asic.ite_modes]

theorem Asic.mateInstance_modes (a : Asic) : (Asic.mateInstance a).modes = a.modes := by
  unfold Asic.mateInstance
  simp -implicitDefEqProofs [Asic.rallyRefresh_modes]

theorem Asic.setRole_modes (a : Asic) (r : Nat) : (Asic.setRole a r).modes = a.modes := by
  unfold Asic.setRole
  simp -implicitDefEqProofs [Asic.mateInstance_modes, Asic.ite_modes]

theorem Asic.transition_modes (a : Asic) (m : Nat) (cause : Nat) : (Asic.transition a m cause).modes = a.modes := by
  unfold Asic.transition
  simp -implicitDefEqProofs []

theorem Asic.applySkew_modes (a : Asic) (o : Nat) : (Asic.applySkew a o).modes = a.modes := by
  unfold Asic.applySkew
  simp -implicitDefEqProofs []

theorem Asic.skimDone_modes (a : Asic) (o : Nat) : (Asic.skimDone a o).modes = a.modes := by
  unfold Asic.skimDone
  simp -implicitDefEqProofs []

theorem Asic.squelchOut_modes (a : Asic) (o : Nat) (forced : Bool) : (Asic.squelchOut a o forced).modes = a.modes := by
  unfold Asic.squelchOut
  simp -implicitDefEqProofs [Asic.applySkew_modes, Asic.skimDone_modes, Asic.ite_modes]

theorem Asic.squelchAll_modes (a : Asic) (l : List Nat) (forced : Bool) : (Asic.squelchAll a l forced).modes = a.modes := by
  unfold Asic.squelchAll
  simp -implicitDefEqProofs [Asic.squelchOut_modes, Asic.each_modes]

theorem Asic.squelchPls_modes (a : Asic) : (Asic.squelchPls a).modes = a.modes := by
  unfold Asic.squelchPls
  simp -implicitDefEqProofs [Asic.each_modes]

theorem Asic.squelchForced_modes (a : Asic) : (Asic.squelchForced a).modes = a.modes := by
  unfold Asic.squelchForced
  simp -implicitDefEqProofs [Asic.squelchAll_modes, Asic.squelchPls_modes]

theorem Asic.muteOuts_modes (a : Asic) : (Asic.muteOuts a).modes = a.modes := by
  unfold Asic.muteOuts
  simp -implicitDefEqProofs [Asic.squelchAll_modes, Asic.squelchPls_modes]

theorem Asic.requestSync_modes (a : Asic) (t : Nat) (o : Nat) : (Asic.requestSync a t o).modes = a.modes := by
  unfold Asic.requestSync
  simp -implicitDefEqProofs []

theorem Asic.resumeOuts_modes (a : Asic) : (Asic.resumeOuts a).modes = a.modes := by
  unfold Asic.resumeOuts
  simp -implicitDefEqProofs [Asic.requestSync_modes, Asic.each_modes]

theorem Asic.moveMode_modes (a : Asic) (m : Nat) (cause : Nat) : (Asic.moveMode a m cause).modes = a.modes := by
  unfold Asic.moveMode
  simp -implicitDefEqProofs [Asic.transition_modes, Asic.squelchForced_modes, Asic.muteOuts_modes, Asic.resumeOuts_modes, Asic.ite_modes]

theorem Asic.rebase_modes (a : Asic) (k : Nat) : (Asic.rebase a k).modes = a.modes := by
  unfold Asic.rebase
  simp -implicitDefEqProofs []

theorem Asic.refreshRate_modes (a : Asic) (k : Nat) : (Asic.refreshRate a k).modes = a.modes := by
  unfold Asic.refreshRate
  simp -implicitDefEqProofs [Asic.rebase_modes, Asic.ite_modes]

theorem Asic.servoRest_modes (a : Asic) (k : Nat) (st : Nat) : (Asic.servoRest a k st).modes = a.modes := by
  unfold Asic.servoRest
  simp -implicitDefEqProofs [Asic.refreshRate_modes]

theorem Asic.servoRefresh_modes (a : Asic) (k : Nat) : (Asic.servoRefresh a k).modes = a.modes := by
  unfold Asic.servoRefresh
  simp -implicitDefEqProofs [Asic.servoRest_modes, Asic.ite_modes]

theorem Asic.followSlave_modes (a : Asic) (p : Nat) : (Asic.followSlave a p).modes = a.modes := by
  unfold Asic.followSlave
  simp -implicitDefEqProofs [Asic.servoRefresh_modes, Asic.ite_modes]

theorem Asic.setPtpState_modes (a : Asic) (p : Nat) (s : Nat) : (Asic.setPtpState a p s).modes = a.modes := by
  unfold Asic.setPtpState
  simp -implicitDefEqProofs [Asic.followSlave_modes, Asic.ite_modes]

theorem Asic.holdMasters_modes (a : Asic) : (Asic.holdMasters a).modes = a.modes := by
  unfold Asic.holdMasters
  simp -implicitDefEqProofs [Asic.setPtpState_modes, Asic.each_modes, Asic.ite_modes]

theorem Asic.takeStandby_modes (a : Asic) : (Asic.takeStandby a).modes = a.modes := by
  unfold Asic.takeStandby
  simp -implicitDefEqProofs [Asic.moveMode_modes, Asic.holdMasters_modes, Asic.setRole_modes, Asic.ite_modes]

theorem Asic.releaseMasters_modes (a : Asic) : (Asic.releaseMasters a).modes = a.modes := by
  unfold Asic.releaseMasters
  simp -implicitDefEqProofs [Asic.setPtpState_modes, Asic.each_modes, Asic.ite_modes]

theorem Asic.leaveStandby_modes (a : Asic) (t : Nat) : (Asic.leaveStandby a t).modes = a.modes := by
  unfold Asic.leaveStandby
  simp -implicitDefEqProofs [Asic.requestSync_modes, Asic.moveMode_modes, Asic.releaseMasters_modes, Asic.each_modes, Asic.ite_modes]

theorem Asic.takeOver_modes (a : Asic) (t : Nat) : (Asic.takeOver a t).modes = a.modes := by
  unfold Asic.takeOver
  simp -implicitDefEqProofs [Asic.setRole_modes, Asic.leaveStandby_modes, Asic.ite_modes]

theorem Asic.resolveRole_modes (a : Asic) (h : Heartbeat) : (Asic.resolveRole a h).modes = a.modes := by
  unfold Asic.resolveRole
  (repeat' split) <;> simp -implicitDefEqProofs [Asic.setRole_modes, Asic.takeStandby_modes, Asic.takeOver_modes, Asic.ite_modes]

theorem Asic.mateRefresh_modes (a : Asic) : (Asic.mateRefresh a).modes = a.modes := by
  unfold Asic.mateRefresh
  dsimp only
  (repeat' split) <;> simp -implicitDefEqProofs [Asic.setRole_modes, Asic.takeStandby_modes, Asic.leaveStandby_modes, Asic.resolveRole_modes, Asic.ite_modes]

theorem Asic.bootNode_modes (a : Asic) (objects : Tab (Option Nat)) : (Asic.bootNode a objects).modes = a.modes := by
  unfold Asic.bootNode
  simp -implicitDefEqProofs []

theorem Asic.showUnit_modes (a : Asic) (u : Nat) : (Asic.showUnit a u).modes = a.modes := by
  unfold Asic.showUnit
  simp -implicitDefEqProofs [Asic.each_modes, Asic.ite_modes]

theorem Asic.setAligned_modes (a : Asic) (u : Nat) (b : Bool) : (Asic.setAligned a u b).modes = a.modes := by
  unfold Asic.setAligned
  simp -implicitDefEqProofs [Asic.each_modes]

theorem Asic.startBand_modes (a : Asic) (u : Nat) (force : Bool) (phase : Nat) (wait : Nat) : (Asic.startBand a u force phase wait).modes = a.modes := by
  unfold Asic.startBand
  simp -implicitDefEqProofs [Asic.showUnit_modes, Asic.setAligned_modes, Asic.each_modes, Asic.ite_modes]

theorem Asic.tryBand_modes (a : Asic) (u : Nat) : (Asic.tryBand a u).modes = a.modes := by
  unfold Asic.tryBand
  dsimp only
  (repeat' split) <;> simp -implicitDefEqProofs [Asic.startBand_modes]

theorem Asic.setHopEntry_modes (a : Asic) (k : Nat) (w : Word) : (Asic.setHopEntry a k w).modes = a.modes := by
  unfold Asic.setHopEntry
  with_reducible rfl

theorem Asic.dropEntry_modes (a : Asic) (k : Nat) : (Asic.dropEntry a k).modes = a.modes := by
  unfold Asic.dropEntry
  simp -implicitDefEqProofs [Asic.setHopEntry_modes]

theorem Asic.follow_modes (a : Asic) (f : Option Nat) : (Asic.follow a f).modes = a.modes := by
  unfold Asic.follow
  simp -implicitDefEqProofs [Asic.dropEntry_modes, Asic.each_modes, Asic.ite_modes]

theorem Asic.stopUnit_modes (a : Asic) (u : Nat) : (Asic.stopUnit a u).modes = a.modes := by
  unfold Asic.stopUnit
  simp -implicitDefEqProofs [Asic.showUnit_modes, Asic.setAligned_modes, Asic.each_modes]

theorem Asic.refreshShadow_modes (a : Asic) : (Asic.refreshShadow a).modes = a.modes := by
  unfold Asic.refreshShadow
  simp -implicitDefEqProofs [Asic.showUnit_modes, Asic.follow_modes, Asic.tryBand_modes, Asic.stopUnit_modes, Asic.ite_modes]

theorem Asic.startApll_modes (a : Asic) : (Asic.startApll a).modes = a.modes := by
  unfold Asic.startApll
  simp -implicitDefEqProofs [Asic.tryBand_modes, Asic.refreshShadow_modes, Asic.each_modes, Asic.ite_modes]

theorem Asic.rallyRefreshAll_modes (a : Asic) : (Asic.rallyRefreshAll a).modes = a.modes := by
  unfold Asic.rallyRefreshAll
  simp -implicitDefEqProofs [Asic.rallyRefresh_modes, Asic.each_modes]

theorem Asic.setEgState_modes (a : Asic) (g : Nat) (n : Nat) : (Asic.setEgState a g n).modes = a.modes := by
  unfold Asic.setEgState
  simp -implicitDefEqProofs []

theorem Asic.egIdle_modes (a : Asic) (g : Nat) : (Asic.egIdle a g).modes = a.modes := by
  unfold Asic.egIdle
  simp -implicitDefEqProofs [Asic.setEgState_modes]

theorem Asic.emit_modes (a : Asic) (q : Nat) (r : Record) : (Asic.emit a q r).modes = a.modes := by
  unfold Asic.emit
  simp -implicitDefEqProofs [Asic.ite_modes]

theorem Asic.endMeasurement_modes (a : Asic) (g : Nat) (e : MeasEnd) : (Asic.endMeasurement a g e).modes = a.modes := by
  unfold Asic.endMeasurement
  simp -implicitDefEqProofs [Asic.emit_modes, Asic.setEgState_modes, Asic.egIdle_modes, Asic.ite_modes, Asic.foldl_modes]

theorem Asic.egAbort_modes (a : Asic) (g : Nat) : (Asic.egAbort a g).modes = a.modes := by
  unfold Asic.egAbort
  simp -implicitDefEqProofs [Asic.endMeasurement_modes, Asic.ite_modes]

theorem Asic.egDisarm_modes (a : Asic) (g : Nat) : (Asic.egDisarm a g).modes = a.modes := by
  unfold Asic.egDisarm
  simp -implicitDefEqProofs [Asic.egIdle_modes, Asic.egAbort_modes]

theorem Asic.egRefresh_modes (a : Asic) (g : Nat) : (Asic.egRefresh a g).modes = a.modes := by
  unfold Asic.egRefresh
  simp -implicitDefEqProofs [Asic.egDisarm_modes, Asic.ite_modes]

theorem Asic.egRefreshAll_modes (a : Asic) : (Asic.egRefreshAll a).modes = a.modes := by
  unfold Asic.egRefreshAll
  simp -implicitDefEqProofs [Asic.egRefresh_modes, Asic.each_modes]

theorem Asic.servosRefresh_modes (a : Asic) : (Asic.servosRefresh a).modes = a.modes := by
  unfold Asic.servosRefresh
  simp -implicitDefEqProofs [Asic.servoRefresh_modes, Asic.each_modes]

theorem Asic.startScales_modes (a : Asic) (sec : Nat) : (Asic.startScales a sec).modes = a.modes := by
  unfold Asic.startScales
  with_reducible rfl

theorem Asic.refreshRates_modes (a : Asic) : (Asic.refreshRates a).modes = a.modes := by
  unfold Asic.refreshRates
  simp -implicitDefEqProofs [Asic.refreshRate_modes, Asic.each_modes]

theorem Asic.reloadCredits_modes (a : Asic) : (Asic.reloadCredits a).modes = a.modes := by
  unfold Asic.reloadCredits
  with_reducible rfl

theorem Asic.logEntry_modes (a : Asic) (code' : Nat) (item : Nat) (data : Nat) : (Asic.logEntry a code' item data).modes = a.modes := by
  unfold Asic.logEntry
  simp -implicitDefEqProofs [Asic.onlyIf_modes, Asic.ite_modes]

theorem Asic.loadRally_modes (a : Asic) (l : Tab (Word × Word × Word)) : (Asic.loadRally a l).modes = a.modes := by
  unfold Asic.loadRally
  simp -implicitDefEqProofs [Asic.foldl_modes]

theorem Asic.loadPlan_modes (a : Asic) (bank : Tab Word) (hopTable : Tab Word) (plan : Nat) : (Asic.loadPlan a bank hopTable plan).modes = a.modes := by
  unfold Asic.loadPlan
  simp -implicitDefEqProofs [Asic.foldl_modes]

end Sys2Proof.Machine
end

