-- ==== Sys2Proof/Laws/FrameTarget.lean ====
section
/-! SUPPORT. Operations that leave the field `Reg.GLB_MODE.TARGET` alone. -/

set_option linter.unusedSimpArgs false
set_option linter.unusedSectionVars false

namespace Sys2Proof.Machine

theorem Asic.put_target (a : Asic) (f : Fld) (n : Nat) (h : f.addr ≠ Reg.GLB_MODE.TARGET.addr ∨ f.lsb + f.width ≤ Reg.GLB_MODE.TARGET.lsb ∨ Reg.GLB_MODE.TARGET.lsb + Reg.GLB_MODE.TARGET.width ≤ f.lsb) : (a.put f n).get Reg.GLB_MODE.TARGET = a.get Reg.GLB_MODE.TARGET := Asic.get_put_ne _ _ _ _ h
theorem Asic.putS_target (a : Asic) (f : Fld) (n : Int) (h : f.addr ≠ Reg.GLB_MODE.TARGET.addr ∨ f.lsb + f.width ≤ Reg.GLB_MODE.TARGET.lsb ∨ Reg.GLB_MODE.TARGET.lsb + Reg.GLB_MODE.TARGET.width ≤ f.lsb) : (a.putS f n).get Reg.GLB_MODE.TARGET = a.get Reg.GLB_MODE.TARGET := Asic.get_put_ne _ _ _ _ h
theorem Asic.putB_target (a : Asic) (f : Fld) (n : Bool) (h : f.addr ≠ Reg.GLB_MODE.TARGET.addr ∨ f.lsb + f.width ≤ Reg.GLB_MODE.TARGET.lsb ∨ Reg.GLB_MODE.TARGET.lsb + Reg.GLB_MODE.TARGET.width ≤ f.lsb) : (a.putB f n).get Reg.GLB_MODE.TARGET = a.get Reg.GLB_MODE.TARGET := Asic.get_put_ne _ _ _ _ h
theorem Asic.addSat_target (a : Asic) (f : Fld) (n : Nat) (h : f.addr ≠ Reg.GLB_MODE.TARGET.addr ∨ f.lsb + f.width ≤ Reg.GLB_MODE.TARGET.lsb ∨ Reg.GLB_MODE.TARGET.lsb + Reg.GLB_MODE.TARGET.width ≤ f.lsb) : (a.addSat f n).get Reg.GLB_MODE.TARGET = a.get Reg.GLB_MODE.TARGET := Asic.get_put_ne _ _ _ _ h
theorem Asic.addWrap_target (a : Asic) (f : Fld) (n : Nat) (h : f.addr ≠ Reg.GLB_MODE.TARGET.addr ∨ f.lsb + f.width ≤ Reg.GLB_MODE.TARGET.lsb ∨ Reg.GLB_MODE.TARGET.lsb + Reg.GLB_MODE.TARGET.width ≤ f.lsb) : (a.addWrap f n).get Reg.GLB_MODE.TARGET = a.get Reg.GLB_MODE.TARGET := Asic.get_put_ne _ _ _ _ h
theorem Asic.event_target (a : Asic) (f : Fld) (h : f.addr ≠ Reg.GLB_MODE.TARGET.addr ∨ f.lsb + f.width ≤ Reg.GLB_MODE.TARGET.lsb ∨ Reg.GLB_MODE.TARGET.lsb + Reg.GLB_MODE.TARGET.width ≤ f.lsb) (h' : f.addr ≠ Reg.GLB_MODE.TARGET.addr ∨ 8 ≤ Reg.GLB_MODE.TARGET.lsb) : (a.event f).get Reg.GLB_MODE.TARGET = a.get Reg.GLB_MODE.TARGET := Asic.get_event_ne _ _ _ h (h'.imp id .inl)
theorem Asic.put2_target (a : Asic) (f f' : Fld) (n : Nat) (h : f.addr ≠ Reg.GLB_MODE.TARGET.addr ∨ f.lsb + f.width ≤ Reg.GLB_MODE.TARGET.lsb ∨ Reg.GLB_MODE.TARGET.lsb + Reg.GLB_MODE.TARGET.width ≤ f.lsb) (h' : f'.addr ≠ Reg.GLB_MODE.TARGET.addr ∨ f'.lsb + f'.width ≤ Reg.GLB_MODE.TARGET.lsb ∨ Reg.GLB_MODE.TARGET.lsb + Reg.GLB_MODE.TARGET.width ≤ f'.lsb) : (a.put2 f f' n).get Reg.GLB_MODE.TARGET = a.get Reg.GLB_MODE.TARGET := by
  unfold Asic.put2
  rw [Asic.get_put_ne _ _ _ _ h', Asic.get_put_ne _ _ _ _ h]
theorem Asic.put2S_target (a : Asic) (f f' : Fld) (n : Int) (h : f.addr ≠ Reg.GLB_MODE.TARGET.addr ∨ f.lsb + f.width ≤ Reg.GLB_MODE.TARGET.lsb ∨ Reg.GLB_MODE.TARGET.lsb + Reg.GLB_MODE.TARGET.width ≤ f.lsb) (h' : f'.addr ≠ Reg.GLB_MODE.TARGET.addr ∨ f'.lsb + f'.width ≤ Reg.GLB_MODE.TARGET.lsb ∨ Reg.GLB_MODE.TARGET.lsb + Reg.GLB_MODE.TARGET.width ≤ f'.lsb) : (a.put2S f f' n).get Reg.GLB_MODE.TARGET = a.get Reg.GLB_MODE.TARGET := by
  unfold Asic.put2S Asic.put2
  rw [Asic.get_put_ne _ _ _ _ h', Asic.get_put_ne _ _ _ _ h]
theorem Asic.each_target (a : Asic) (l : List Nat) (f : Asic → Nat → Asic) (h : ∀ x i, (f x i).get Reg.GLB_MODE.TARGET = x.get Reg.GLB_MODE.TARGET) : (a.each l f).get Reg.GLB_MODE.TARGET = a.get Reg.GLB_MODE.TARGET := by
  induction l generalizing a with
  | nil => rfl
  | cons i l ih => exact (ih (f a i)).trans (h a i)
theorem Asic.onlyIf_target (a : Asic) (c : Bool) (f : Asic → Asic) (h : ∀ x, (f x).get Reg.GLB_MODE.TARGET = x.get Reg.GLB_MODE.TARGET) : (a.onlyIf c f).get Reg.GLB_MODE.TARGET = a.get Reg.GLB_MODE.TARGET := by
  unfold Asic.onlyIf
  split
  · exact h a
  · rfl
theorem Asic.ite_target (c : Prop) [Decidable c] (x y : Asic) : (if c then x else y).get Reg.GLB_MODE.TARGET = if c then x.get Reg.GLB_MODE.TARGET else y.get Reg.GLB_MODE.TARGET := apply_ite (fun z => Asic.get z Reg.GLB_MODE.TARGET) _ _ _
theorem Asic.foldl_target {α : Type} (a : Asic) (l : List α) (f : Asic → α → Asic) (h : ∀ x i, (f x i).get Reg.GLB_MODE.TARGET = x.get Reg.GLB_MODE.TARGET) : (l.foldl f a).get Reg.GLB_MODE.TARGET = a.get Reg.GLB_MODE.TARGET := by
  induction l generalizing a with
  | nil => rfl
  | cons i l ih => exact (ih (f a i)).trans (h a i)


theorem Asic.bootNode_target (a : Asic) (objects : Tab (Option Nat)) : (Asic.bootNode a objects).get Reg.GLB_MODE.TARGET = a.get Reg.GLB_MODE.TARGET := by
  unfold Asic.bootNode
  simp +arith -implicitDefEqProofs [Asic.get_mk, Asic.get_of_regs]

theorem Asic.logEntry_target (a : Asic) (code' : Nat) (item : Nat) (data : Nat) : (Asic.logEntry a code' item data).get Reg.GLB_MODE.TARGET = a.get Reg.GLB_MODE.TARGET := by
  unfold Asic.logEntry
  simp +arith -implicitDefEqProofs [Asic.put_target, Asic.get_mk, Asic.get_of_regs, Asic.onlyIf_target, Asic.ite_target]

theorem Asic.transition_target (a : Asic) (m : Nat) (cause : Nat) : (Asic.transition a m cause).get Reg.GLB_MODE.TARGET = a.get Reg.GLB_MODE.TARGET := by
  unfold Asic.transition
  simp +arith -implicitDefEqProofs [Asic.put_target, Asic.addWrap_target, Asic.get_mk, Asic.get_of_regs]

theorem Asic.applySkew_target (a : Asic) (o : Nat) : (Asic.applySkew a o).get Reg.GLB_MODE.TARGET = a.get Reg.GLB_MODE.TARGET := by
  unfold Asic.applySkew
  simp +arith -implicitDefEqProofs [Asic.put_target, Asic.putS_target, Asic.get_mk, Asic.get_of_regs]

theorem Asic.skimDone_target (a : Asic) (o : Nat) : (Asic.skimDone a o).get Reg.GLB_MODE.TARGET = a.get Reg.GLB_MODE.TARGET := by
  unfold Asic.skimDone
  simp +arith -implicitDefEqProofs [Asic.putS_target, Asic.event_target, Asic.get_mk, Asic.get_of_regs]

theorem Asic.squelchOut_target (a : Asic) (o : Nat) (forced : Bool) : (Asic.squelchOut a o forced).get Reg.GLB_MODE.TARGET = a.get Reg.GLB_MODE.TARGET := by
  unfold Asic.squelchOut
  simp +arith -implicitDefEqProofs [Asic.applySkew_target, Asic.skimDone_target, Asic.put_target, Asic.putB_target, Asic.event_target, Asic.get_mk, Asic.get_of_regs, Asic.ite_target]

theorem Asic.squelchAll_target (a : Asic) (l : List Nat) (forced : Bool) : (Asic.squelchAll a l forced).get Reg.GLB_MODE.TARGET = a.get Reg.GLB_MODE.TARGET := by
  unfold Asic.squelchAll
  simp +arith -implicitDefEqProofs [Asic.squelchOut_target, Asic.get_mk, Asic.get_of_regs, Asic.each_target]

theorem Asic.squelchPls_target (a : Asic) : (Asic.squelchPls a).get Reg.GLB_MODE.TARGET = a.get Reg.GLB_MODE.TARGET := by
  unfold Asic.squelchPls
  exact Asic.each_target _ _ _ fun x i => Asic.modPls_get _ _ _ _

theorem Asic.squelchForced_target (a : Asic) : (Asic.squelchForced a).get Reg.GLB_MODE.TARGET = a.get Reg.GLB_MODE.TARGET := by
  unfold Asic.squelchForced
  simp +arith -implicitDefEqProofs [Asic.squelchAll_target, Asic.squelchPls_target, Asic.get_mk, Asic.get_of_regs]

theorem Asic.muteOuts_target (a : Asic) : (Asic.muteOuts a).get Reg.GLB_MODE.TARGET = a.get Reg.GLB_MODE.TARGET := by
  unfold Asic.muteOuts
  simp +arith -implicitDefEqProofs [Asic.squelchAll_target, Asic.squelchPls_target, Asic.get_mk, Asic.get_of_regs]

theorem Asic.requestSync_target (a : Asic) (t : Nat) (o : Nat) : (Asic.requestSync a t o).get Reg.GLB_MODE.TARGET = a.get Reg.GLB_MODE.TARGET := by
  unfold Asic.requestSync
  simp +arith -implicitDefEqProofs [Asic.get_mk, Asic.get_of_regs]

theorem Asic.resumeOuts_target (a : Asic) : (Asic.resumeOuts a).get Reg.GLB_MODE.TARGET = a.get Reg.GLB_MODE.TARGET := by
  unfold Asic.resumeOuts
  simp +arith -implicitDefEqProofs [Asic.requestSync_target, Asic.get_mk, Asic.get_of_regs, Asic.each_target]

theorem Asic.moveMode_target (a : Asic) (m : Nat) (cause : Nat) : (Asic.moveMode a m cause).get Reg.GLB_MODE.TARGET = a.get Reg.GLB_MODE.TARGET := by
  unfold Asic.moveMode
  simp +arith -implicitDefEqProofs [Asic.transition_target, Asic.squelchForced_target, Asic.muteOuts_target, Asic.resumeOuts_target, Asic.get_mk, Asic.get_of_regs, Asic.ite_target]

theorem Asic.setRallyState_target (a : Asic) (i : Nat) (s : Nat) : (Asic.setRallyState a i s).get Reg.GLB_MODE.TARGET = a.get Reg.GLB_MODE.TARGET := by
  unfold Asic.setRallyState
  simp +arith -implicitDefEqProofs [Asic.put_target, Asic.event_target, Asic.get_mk, Asic.get_of_regs, Asic.ite_target]

theorem Asic.rallyRefresh_target (a : Asic) (i : Nat) : (Asic.rallyRefresh a i).get Reg.GLB_MODE.TARGET = a.get Reg.GLB_MODE.TARGET := by
  unfold Asic.rallyRefresh
  simp +arith -implicitDefEqProofs [Asic.setRallyState_target, Asic.put_target, Asic.putB_target, Asic.get_mk, Asic.get_of_regs, Asic.ite_target]

theorem Asic.mateInstance_target (a : Asic) : (Asic.mateInstance a).get Reg.GLB_MODE.TARGET = a.get Reg.GLB_MODE.TARGET := by
  unfold Asic.mateInstance
  simp +arith -implicitDefEqProofs [Asic.rallyRefresh_target, Asic.putB_target, Asic.get_mk, Asic.get_of_regs]

theorem Asic.setRole_target (a : Asic) (r : Nat) : (Asic.setRole a r).get Reg.GLB_MODE.TARGET = a.get Reg.GLB_MODE.TARGET := by
  unfold Asic.setRole
  simp +arith -implicitDefEqProofs [Asic.mateInstance_target, Asic.put_target, Asic.get_mk, Asic.get_of_regs, Asic.ite_target]

theorem Asic.rebase_target (a : Asic) (k : Nat) : (Asic.rebase a k).get Reg.GLB_MODE.TARGET = a.get Reg.GLB_MODE.TARGET := by
  unfold Asic.rebase
  simp +arith -implicitDefEqProofs [Asic.get_mk, Asic.get_of_regs]

theorem Asic.refreshRate_target (a : Asic) (k : Nat) : (Asic.refreshRate a k).get Reg.GLB_MODE.TARGET = a.get Reg.GLB_MODE.TARGET := by
  unfold Asic.refreshRate
  simp +arith -implicitDefEqProofs [Asic.rebase_target, Asic.putB_target, Asic.get_mk, Asic.get_of_regs, Asic.ite_target]

theorem Asic.servoRest_target (a : Asic) (k : Nat) (st : Nat) : (Asic.servoRest a k st).get Reg.GLB_MODE.TARGET = a.get Reg.GLB_MODE.TARGET := by
  unfold Asic.servoRest
  simp +arith -implicitDefEqProofs [Asic.refreshRate_target, Asic.put_target, Asic.get_mk, Asic.get_of_regs]

theorem Asic.servoRefresh_target (a : Asic) (k : Nat) : (Asic.servoRefresh a k).get Reg.GLB_MODE.TARGET = a.get Reg.GLB_MODE.TARGET := by
  unfold Asic.servoRefresh
  simp +arith -implicitDefEqProofs [Asic.servoRest_target, Asic.putB_target, Asic.get_mk, Asic.get_of_regs, Asic.ite_target]

theorem Asic.followSlave_target (a : Asic) (p : Nat) : (Asic.followSlave a p).get Reg.GLB_MODE.TARGET = a.get Reg.GLB_MODE.TARGET := by
  unfold Asic.followSlave
  simp +arith -implicitDefEqProofs [Asic.servoRefresh_target, Asic.put_target, Asic.get_mk, Asic.get_of_regs, Asic.ite_target]

theorem Asic.setPtpState_target (a : Asic) (p : Nat) (s : Nat) : (Asic.setPtpState a p s).get Reg.GLB_MODE.TARGET = a.get Reg.GLB_MODE.TARGET := by
  unfold Asic.setPtpState
  simp +arith -implicitDefEqProofs [Asic.followSlave_target, Asic.put_target, Asic.event_target, Asic.get_mk, Asic.get_of_regs, Asic.ite_target]

theorem Asic.holdMasters_target (a : Asic) : (Asic.holdMasters a).get Reg.GLB_MODE.TARGET = a.get Reg.GLB_MODE.TARGET := by
  unfold Asic.holdMasters
  simp +arith -implicitDefEqProofs [Asic.setPtpState_target, Asic.get_mk, Asic.get_of_regs, Asic.each_target, Asic.ite_target]

theorem Asic.takeStandby_target (a : Asic) : (Asic.takeStandby a).get Reg.GLB_MODE.TARGET = a.get Reg.GLB_MODE.TARGET := by
  unfold Asic.takeStandby
  simp +arith -implicitDefEqProofs [Asic.moveMode_target, Asic.holdMasters_target, Asic.setRole_target, Asic.get_mk, Asic.get_of_regs, Asic.ite_target]

theorem Asic.releaseMasters_target (a : Asic) : (Asic.releaseMasters a).get Reg.GLB_MODE.TARGET = a.get Reg.GLB_MODE.TARGET := by
  unfold Asic.releaseMasters
  simp +arith -implicitDefEqProofs [Asic.setPtpState_target, Asic.get_mk, Asic.get_of_regs, Asic.each_target, Asic.ite_target]

theorem Asic.leaveStandby_target (a : Asic) (t : Nat) : (Asic.leaveStandby a t).get Reg.GLB_MODE.TARGET = a.get Reg.GLB_MODE.TARGET := by
  unfold Asic.leaveStandby
  simp +arith -implicitDefEqProofs [Asic.requestSync_target, Asic.moveMode_target, Asic.releaseMasters_target, Asic.get_mk, Asic.get_of_regs, Asic.each_target, Asic.ite_target]

theorem Asic.takeOver_target (a : Asic) (t : Nat) : (Asic.takeOver a t).get Reg.GLB_MODE.TARGET = a.get Reg.GLB_MODE.TARGET := by
  unfold Asic.takeOver
  simp +arith -implicitDefEqProofs [Asic.setRole_target, Asic.leaveStandby_target, Asic.putS_target, Asic.addSat_target, Asic.event_target, Asic.get_mk, Asic.get_of_regs, Asic.ite_target]

theorem Asic.resolveRole_target (a : Asic) (h : Heartbeat) : (Asic.resolveRole a h).get Reg.GLB_MODE.TARGET = a.get Reg.GLB_MODE.TARGET := by
  unfold Asic.resolveRole
  (repeat' split) <;> simp +arith -implicitDefEqProofs [Asic.setRole_target, Asic.takeStandby_target, Asic.takeOver_target, Asic.event_target, Asic.get_mk, Asic.get_of_regs, Asic.ite_target]

theorem Asic.mateRefresh_target (a : Asic) : (Asic.mateRefresh a).get Reg.GLB_MODE.TARGET = a.get Reg.GLB_MODE.TARGET := by
  unfold Asic.mateRefresh
  dsimp only
  (repeat' split) <;> simp +arith -implicitDefEqProofs [Asic.setRole_target, Asic.takeStandby_target, Asic.leaveStandby_target, Asic.resolveRole_target, Asic.get_mk, Asic.get_of_regs, Asic.ite_target]

end Sys2Proof.Machine
end

