-- ==== Sys2Proof/Laws/FrameTsc.lean ====
section
/-! SUPPORT. Operations that leave `tsc` alone. -/

set_option linter.unusedSimpArgs false
set_option linter.unusedSectionVars false

namespace Sys2Proof.Machine

theorem Asic.each_tsc (a : Asic) (l : List Nat) (f : Asic → Nat → Asic) (h : ∀ x i, (f x i).tsc = x.tsc) : (a.each l f).tsc = a.tsc := by
  induction l generalizing a with
  | nil => rfl
  | cons i l ih => exact (ih (f a i)).trans (h a i)
theorem Asic.onlyIf_tsc (a : Asic) (c : Bool) (f : Asic → Asic) (h : ∀ x, (f x).tsc = x.tsc) : (a.onlyIf c f).tsc = a.tsc := by
  unfold Asic.onlyIf
  split
  · exact h a
  · rfl
theorem Asic.entries_tsc (a : Asic) (l : List Nat) (f : Asic → Nat → Asic × Bool) (h : ∀ x i, (f x i).1.tsc = x.tsc) : (a.entries l f).1.tsc = a.tsc := by
  have e : ∀ (l : List Nat) (p : Asic × Nat), (l.foldl (fun (p : Asic × Nat) k =>
      let (a, w) := f p.1 k
      (a, if w then p.2 + 2 ^ k else p.2)) p).1.tsc = p.1.tsc := by
    intro l
    induction l with
    | nil => intro p; rfl
    | cons i l ih => intro p; exact (ih _).trans (h p.1 i)
  exact e l (a, 0)
theorem Asic.ite_tsc (c : Prop) [Decidable c] (x y : Asic) : (if c then x else y).tsc = if c then x.tsc else y.tsc := apply_ite (fun z : Asic => z.tsc) _ _ _
theorem Asic.foldl_tsc {α : Type} (a : Asic) (l : List α) (f : Asic → α → Asic) (h : ∀ x i, (f x i).tsc = x.tsc) : (l.foldl f a).tsc = a.tsc := by
  induction l generalizing a with
  | nil => rfl
  | cons i l ih => exact (ih (f a i)).trans (h a i)

theorem Asic.setRallyState_tsc (a : Asic) (i : Nat) (s : Nat) : (Asic.setRallyState a i s).tsc = a.tsc := by
  unfold Asic.setRallyState
  simp -implicitDefEqProofs [Asic.ite_tsc]

theorem Asic.rallyRefresh_tsc (a : Asic) (i : Nat) : (Asic.rallyRefresh a i).tsc = a.tsc := by
  unfold Asic.rallyRefresh
  simp -implicitDefEqProofs [Asic.setRallyState_tsc, Asic.ite_tsc]

theorem Asic.mateInstance_tsc (a : Asic) : (Asic.mateInstance a).tsc = a.tsc := by
  unfold Asic.mateInstance
  simp -implicitDefEqProofs [Asic.rallyRefresh_tsc]

theorem Asic.setRole_tsc (a : Asic) (r : Nat) : (Asic.setRole a r).tsc = a.tsc := by
  unfold Asic.setRole
  simp -implicitDefEqProofs [Asic.mateInstance_tsc, Asic.ite_tsc]

theorem Asic.transition_tsc (a : Asic) (m : Nat) (cause : Nat) : (Asic.transition a m cause).tsc = a.tsc := by
  unfold Asic.transition
  simp -implicitDefEqProofs []

theorem Asic.applySkew_tsc (a : Asic) (o : Nat) : (Asic.applySkew a o).tsc = a.tsc := by
  unfold Asic.applySkew
  simp -implicitDefEqProofs []

theorem Asic.skimDone_tsc (a : Asic) (o : Nat) : (Asic.skimDone a o).tsc = a.tsc := by
  unfold Asic.skimDone
  simp -implicitDefEqProofs []

theorem Asic.squelchOut_tsc (a : Asic) (o : Nat) (forced : Bool) : (Asic.squelchOut a o forced).tsc = a.tsc := by
  unfold Asic.squelchOut
  simp -implicitDefEqProofs [Asic.applySkew_tsc, Asic.skimDone_tsc, Asic.ite_tsc]

theorem Asic.squelchAll_tsc (a : Asic) (l : List Nat) (forced : Bool) : (Asic.squelchAll a l forced).tsc = a.tsc := by
  unfold Asic.squelchAll
  simp -implicitDefEqProofs [Asic.squelchOut_tsc, Asic.each_tsc]

theorem Asic.squelchPls_tsc (a : Asic) : (Asic.squelchPls a).tsc = a.tsc := by
  unfold Asic.squelchPls
  simp -implicitDefEqProofs [Asic.each_tsc]

theorem Asic.squelchForced_tsc (a : Asic) : (Asic.squelchForced a).tsc = a.tsc := by
  unfold Asic.squelchForced
  simp -implicitDefEqProofs [Asic.squelchAll_tsc, Asic.squelchPls_tsc]

theorem Asic.muteOuts_tsc (a : Asic) : (Asic.muteOuts a).tsc = a.tsc := by
  unfold Asic.muteOuts
  simp -implicitDefEqProofs [Asic.squelchAll_tsc, Asic.squelchPls_tsc]

theorem Asic.requestSync_tsc (a : Asic) (t : Nat) (o : Nat) : (Asic.requestSync a t o).tsc = a.tsc := by
  unfold Asic.requestSync
  simp -implicitDefEqProofs []

theorem Asic.resumeOuts_tsc (a : Asic) : (Asic.resumeOuts a).tsc = a.tsc := by
  unfold Asic.resumeOuts
  simp -implicitDefEqProofs [Asic.requestSync_tsc, Asic.each_tsc]

theorem Asic.moveMode_tsc (a : Asic) (m : Nat) (cause : Nat) : (Asic.moveMode a m cause).tsc = a.tsc := by
  unfold Asic.moveMode
  simp -implicitDefEqProofs [Asic.transition_tsc, Asic.squelchForced_tsc, Asic.muteOuts_tsc, Asic.resumeOuts_tsc, Asic.ite_tsc]

theorem Asic.logEntry_tsc (a : Asic) (code' : Nat) (item : Nat) (data : Nat) : (Asic.logEntry a code' item data).tsc = a.tsc := by
  unfold Asic.logEntry
  simp -implicitDefEqProofs [Asic.onlyIf_tsc, Asic.ite_tsc]

theorem Asic.bootNode_tsc (a : Asic) (objects : Tab (Option Nat)) : (Asic.bootNode a objects).tsc = a.tsc := by
  unfold Asic.bootNode
  simp -implicitDefEqProofs []

theorem Asic.reloadCredits_tsc (a : Asic) : (Asic.reloadCredits a).tsc = a.tsc := by
  unfold Asic.reloadCredits
  with_reducible rfl

theorem Asic.wipeCell_tsc (a : Asic) (i : Nat) (j : Nat) : (Asic.wipeCell a i j).tsc = a.tsc := by
  unfold Asic.wipeCell
  simp -implicitDefEqProofs [Asic.foldl_tsc]

theorem Asic.restartIndex_tsc (a : Asic) (i : Nat) : (Asic.restartIndex a i).tsc = a.tsc := by
  unfold Asic.restartIndex
  simp -implicitDefEqProofs [Asic.wipeCell_tsc, Asic.each_tsc]

theorem Asic.stopEngine_tsc (a : Asic) : (Asic.stopEngine a).tsc = a.tsc := by
  unfold Asic.stopEngine
  simp -implicitDefEqProofs [Asic.restartIndex_tsc, Asic.each_tsc, Asic.ite_tsc]

theorem Asic.countGap_tsc (a : Asic) (i : Nat) (n : Nat) : (Asic.countGap a i n).tsc = a.tsc := by
  unfold Asic.countGap
  simp -implicitDefEqProofs [Asic.ite_tsc]

theorem Asic.keepValue_tsc (a : Asic) (i : Nat) (n : Nat) : (Asic.keepValue a i n).tsc = a.tsc := by
  unfold Asic.keepValue
  (repeat' split) <;> simp -implicitDefEqProofs [Asic.ite_tsc]

theorem Asic.dropSeconds_tsc (a : Asic) (i : Nat) (n : Nat) : (Asic.dropSeconds a i n).tsc = a.tsc := by
  unfold Asic.dropSeconds
  simp -implicitDefEqProofs []

theorem Asic.setEntry_tsc (a : Asic) (i : Nat) (j : Nat) (k : Nat) (w : Option Word) : (Asic.setEntry a i j k w).tsc = a.tsc := by
  unfold Asic.setEntry
  with_reducible rfl

theorem Asic.setValue_tsc (a : Asic) (i : Nat) (j : Nat) (k : Nat) (w : Word × Bool) : (Asic.setValue a i j k w).tsc = a.tsc := by
  unfold Asic.setValue
  simp -implicitDefEqProofs [Asic.setEntry_tsc, Asic.onlyIf_tsc]

theorem Asic.setRat_tsc (a : Asic) (i : Nat) (j : Nat) (k : Nat) (v : Option Rat) : (Asic.setRat a i j k v).tsc = a.tsc := by
  unfold Asic.setRat
  (repeat' split) <;> simp -implicitDefEqProofs [Asic.setEntry_tsc, Asic.setValue_tsc]

theorem Asic.writeDiagonal_tsc (a : Asic) (i : Nat) (n : Nat) : (Asic.writeDiagonal a i n).tsc = a.tsc := by
  unfold Asic.writeDiagonal
  simp -implicitDefEqProofs [Asic.setRat_tsc]

theorem Asic.emit_tsc (a : Asic) (q : Nat) (r : Record) : (Asic.emit a q r).tsc = a.tsc := by
  unfold Asic.emit
  simp -implicitDefEqProofs [Asic.ite_tsc]

theorem Asic.halfRecord_tsc (a : Asic) (i : Nat) (j : Nat) (half : Nat) (written : Nat) (pass : Nat) (degraded : Bool) : (Asic.halfRecord a i j half written pass degraded).tsc = a.tsc := by
  unfold Asic.halfRecord
  simp -implicitDefEqProofs [Asic.emit_tsc, Asic.ite_tsc, Asic.foldl_tsc]

theorem Asic.cellRecords_tsc (a : Asic) (i : Nat) (j : Nat) (written : Nat) (pass : Nat) (degraded : Bool) : (Asic.cellRecords a i j written pass degraded).tsc = a.tsc := by
  unfold Asic.cellRecords
  simp -implicitDefEqProofs [Asic.halfRecord_tsc]

theorem Asic.averaged_tsc (a : Asic) (i : Nat) (j : Nat) (k : Nat) (t : Option Rat) : (Asic.averaged a i j k t).1.tsc = a.tsc := by
  unfold Asic.averaged
  dsimp only
  (repeat' split) <;> simp -implicitDefEqProofs [Asic.setEntry_tsc, Asic.setValue_tsc, Asic.ite_tsc, ok, rej]

theorem Asic.adevEntries_tsc (a : Asic) (i : Nat) (n : Nat) : (Asic.adevEntries a i n).1.tsc = a.tsc := by
  unfold Asic.adevEntries
  simp -implicitDefEqProofs [Asic.averaged_tsc, Asic.entries_tsc, ok, rej]

theorem Asic.tdevEntries_tsc (a : Asic) (i : Nat) (j : Nat) (n : Nat) : (Asic.tdevEntries a i j n).1.tsc = a.tsc := by
  unfold Asic.tdevEntries
  simp -implicitDefEqProofs [Asic.averaged_tsc, Asic.entries_tsc, ok, rej]

theorem Asic.mtieEntry_tsc (a : Asic) (i : Nat) (j : Nat) (k : Nat) (s : Nat) (t : Option Int) : (Asic.mtieEntry a i j k s t).1.tsc = a.tsc := by
  unfold Asic.mtieEntry
  dsimp only
  (repeat' split) <;> simp -implicitDefEqProofs [Asic.setEntry_tsc, Asic.setValue_tsc, Asic.ite_tsc, Asic.foldl_tsc, ok, rej]

theorem Asic.mtieEntries_tsc (a : Asic) (i : Nat) (j : Nat) (n : Nat) : (Asic.mtieEntries a i j n).1.tsc = a.tsc := by
  unfold Asic.mtieEntries
  simp -implicitDefEqProofs [Asic.mtieEntry_tsc, Asic.entries_tsc, ok, rej]

theorem Asic.checkSegments_tsc (a : Asic) : (Asic.checkSegments a).tsc = a.tsc := by
  unfold Asic.checkSegments
  simp -implicitDefEqProofs [Asic.ite_tsc, Asic.foldl_tsc]

theorem Asic.restartDiagonal_tsc (a : Asic) (i : Nat) (n : Nat) : (Asic.restartDiagonal a i n).tsc = a.tsc := by
  unfold Asic.restartDiagonal
  simp -implicitDefEqProofs [Asic.wipeCell_tsc]

theorem Asic.passRestarts_tsc (a : Asic) (s : Nat) : (Asic.passRestarts a s).tsc = a.tsc := by
  unfold Asic.passRestarts
  simp -implicitDefEqProofs [Asic.restartIndex_tsc, Asic.restartDiagonal_tsc, Asic.each_tsc, Asic.ite_tsc]

theorem Asic.snapshotFlip_tsc (a : Asic) : (Asic.snapshotFlip a).tsc = a.tsc := by
  unfold Asic.snapshotFlip
  simp -implicitDefEqProofs [Asic.ite_tsc]

theorem Asic.runPass_tsc (a : Asic) (s : Nat) : (Asic.runPass a s).tsc = a.tsc := by
  unfold Asic.runPass
  dsimp only
  have e1 : ∀ (L : List Nat) (g : List Nat) (p : Nat) (x : Asic), (x.each indices fun a i =>
      ((if L.contains i then a.adevEntries i (a.formed i s) else (a, 0)).1.cellRecords i i (7 + (if L.contains i then a.adevEntries i (a.formed i s) else (a, 0)).2) p (g.contains i))).tsc = x.tsc := by
    intro L g p x
    refine Asic.each_tsc _ _ _ fun y i => ?_
    rw [Asic.cellRecords_tsc]
    split
    · exact Asic.adevEntries_tsc _ _ _
    · rfl
  have e2 : ∀ (L : List Nat) (g : List Nat) (p : Nat) (x : Asic) (l : List (Nat × Nat)) (h : Asic → Nat × Nat → Asic × Nat) (_ : ∀ x q, (h x q).1.tsc = x.tsc), (l.foldl (fun a q =>
      if (L.contains q.1 && L.contains q.2) = true then (h a q).1.cellRecords q.1 q.2 (h a q).2 p (g.contains q.1 || g.contains q.2) else a) x).tsc = x.tsc := by
    intro L g p x l h hh
    refine Asic.foldl_tsc _ _ _ fun y q => ?_
    split
    · rw [Asic.cellRecords_tsc, hh]
    · rfl
  simp -implicitDefEqProofs only [Asic.snapshotFlip_tsc, Asic.put_tsc, e1]
  rw [e2 _ _ _ _ _ (fun a q => a.mtieEntries q.1 q.2 (min (a.formed q.1 s) (a.formed q.2 s))) (fun x q => Asic.mtieEntries_tsc _ _ _ _),
    e2 _ _ _ _ _ (fun a q => a.tdevEntries q.1 q.2 (min (a.formed q.1 s) (a.formed q.2 s))) (fun x q => Asic.tdevEntries_tsc _ _ _ _), e1]
  simp -implicitDefEqProofs only [Asic.writeDiagonal_tsc, Asic.checkSegments_tsc, Asic.keepValue_tsc, Asic.dropSeconds_tsc, Asic.passRestarts_tsc, Asic.countGap_tsc, Asic.each_tsc, Asic.ite_tsc, ite_self, implies_true]

theorem Asic.ledgerPass_tsc (a : Asic) : (Asic.ledgerPass a).tsc = a.tsc := by
  unfold Asic.ledgerPass
  simp -implicitDefEqProofs [Asic.stopEngine_tsc, Asic.runPass_tsc, Asic.ite_tsc]

end Sys2Proof.Machine
end

