-- ==== Sys2Proof/Laws/Modes.lean ====
section
/-! SUPPORT. Laws of the device mode: outputs do not touch the `GLB` registers, and a transition shows its mode and cause. -/

namespace Sys2Proof.Machine

variable (a : Asic)

theorem Asic.skimDone_glb (o : Nat) : a.Same 0 0x10000 (a.skimDone o) := by
  unfold Asic.skimDone
  refine Asic.Same.event (Asic.Same.modO (Asic.Same.putS (.refl a) ?_)) ?_ <;> right <;> dsimp only <;> omega
theorem Asic.applySkew_glb (o : Nat) : a.Same 0 0x10000 (a.applySkew o) := by
  unfold Asic.applySkew
  intro g g1 g2
  simp only [Asic.get_def]
  simp only [← Asic.get_def]
  revert g1 g2
  revert g
  refine Asic.Same.put (Asic.Same.putS (.refl a) ?_) ?_ <;> right <;> dsimp only <;> omega
theorem Asic.squelchOut_glb (o : Nat) (b : Bool) : a.Same 0 0x10000 (a.squelchOut o b) := by
  unfold Asic.squelchOut
  split
  · exact .ite (.regs (.refl a) rfl rfl rfl) (.refl a)
  · have h1 : ∀ x : Asic, Asic.Same 0 0x10000 x (if (x.o o).skimFrom.isSome then x.skimDone o else x) :=
      fun x => .ite (x.skimDone_glb o) (.refl x)
    have h2 : ∀ x : Asic, Asic.Same 0 0x10000 x (if x.flag (Reg.OUT_STAT.SKEWPEND o) then x.applySkew o else x) :=
      fun x => .ite (x.applySkew_glb o) (.refl x)
    refine Asic.Same.trans (Asic.Same.trans ?_ (h1 _)) (h2 _)
    refine Asic.Same.modO (Asic.Same.event (Asic.Same.putB (Asic.Same.put (Asic.Same.put (.refl a) ?_) ?_) ?_) ?_)
      <;> right <;> dsimp only <;> omega
theorem Asic.squelchAll_glb (l : List Nat) (b : Bool) : a.Same 0 0x10000 (a.squelchAll l b) :=
  .each (.refl a) fun x o _ => x.squelchOut_glb o b
theorem Asic.squelchPls_glb : a.Same 0 0x10000 a.squelchPls := .each (.refl a) fun x _ _ => .regs (.refl x) rfl rfl rfl
theorem Asic.resumeOuts_glb : a.Same 0 0x10000 a.resumeOuts := .each (.refl a) fun x _ _ => .regs (.refl x) rfl rfl rfl
/-- What a transition does to the `GLB` registers is the transition's own. -/
theorem Asic.moveMode_glb (m cause : Nat) : (a.transition m cause).Same 0 0x10000 (a.moveMode m cause) := by
  unfold Asic.moveMode
  refine .ite ?_ (.ite ?_ (.ite ?_ (.refl _)))
  · exact (Asic.squelchAll_glb _ _ _).trans (Asic.squelchPls_glb _)
  · exact (Asic.squelchAll_glb _ _ _).trans (Asic.squelchPls_glb _)
  · exact Asic.resumeOuts_glb _

theorem Asic.transition_mode (m cause : Nat) (h : m < 8) : (a.transition m cause).mode = m := by
  unfold Asic.transition Asic.mode
  simp only [Asic.get_def, Asic.raise_regs, Asic.raise_tv1, Asic.raise_tv2]
  rw [← Asic.get_def, Asic.addWrap, Asic.get_put_ne _ _ _ _ (by unfold Fld.Apart; decide), Asic.get_put_ne _ _ _ _ (by unfold Fld.Apart; decide),
    Asic.get_put_same _ _ _ (by decide)]
  exact Nat.mod_eq_of_lt h
theorem Asic.transition_cause (m cause : Nat) (h : cause < 16) : (a.transition m cause).get Reg.GLB_MODE.CAUSE = cause := by
  unfold Asic.transition
  simp only [Asic.get_def, Asic.raise_regs, Asic.raise_tv1, Asic.raise_tv2]
  rw [← Asic.get_def, Asic.addWrap, Asic.get_put_ne _ _ _ _ (by unfold Fld.Apart; decide), Asic.get_put_same _ _ _ (by decide)]
  exact Nat.mod_eq_of_lt h
theorem Asic.transition_prev (m cause : Nat) : (a.transition m cause).get Reg.GLB_MODE.PREV = a.mode := by
  unfold Asic.transition
  simp only [Asic.get_def, Asic.raise_regs, Asic.raise_tv1, Asic.raise_tv2]
  rw [← Asic.get_def, Asic.addWrap, Asic.get_put_ne _ _ _ _ (by unfold Fld.Apart; decide), Asic.get_put_ne _ _ _ _ (by unfold Fld.Apart; decide),
    Asic.get_put_ne _ _ _ _ (by unfold Fld.Apart; decide), Asic.get_put_same _ _ _ (by decide)]
  exact Nat.mod_eq_of_lt (a.get_lt Reg.GLB_MODE.MODE)
/-- A transition shows its mode, its cause and the mode it left (R46–R48). -/
theorem Asic.moveMode_mode (m cause : Nat) (h : m < 8) : (a.moveMode m cause).mode = m :=
  (Asic.moveMode_glb a m cause _ (by decide) (by decide)).trans (a.transition_mode m cause h)
theorem Asic.moveMode_cause (m cause : Nat) (h : cause < 16) : (a.moveMode m cause).get Reg.GLB_MODE.CAUSE = cause :=
  (Asic.moveMode_glb a m cause _ (by decide) (by decide)).trans (a.transition_cause m cause h)
theorem Asic.moveMode_prev (m cause : Nat) : (a.moveMode m cause).get Reg.GLB_MODE.PREV = a.mode :=
  (Asic.moveMode_glb a m cause _ (by decide) (by decide)).trans (a.transition_prev m cause)

/-- A move to a mode in which outputs run writes no register but `GLB_MODE`. -/
theorem Asic.moveMode_get (m cause : Nat) (g : Fld) (h5 : m ≠ 5) (h6 : m ≠ 6) (hg : g.addr ≠ 4) : (a.moveMode m cause).get g = a.get g := by
  have ht : (a.transition m cause).get g = a.get g := by
    unfold Asic.transition
    rw [Asic.raise_get, Asic.addWrap, Asic.get_put_ne _ _ _ _ (.inl hg.symm), Asic.get_put_ne _ _ _ _ (.inl hg.symm),
      Asic.get_put_ne _ _ _ _ (.inl hg.symm), Asic.get_put_ne _ _ _ _ (.inl hg.symm)]
  have hr : ∀ x : Asic, x.resumeOuts.get g = x.get g := fun x =>
    Asic.Same.each (lo := g.addr) (hi := g.addr + 1) (.refl x) (fun y o _ => .modO (.refl y)) g (Nat.le_refl _) (Nat.lt_succ_self _)
  unfold Asic.moveMode
  rw [if_neg h6, if_neg h5]
  split
  · rw [hr, ht]
  · exact ht

end Sys2Proof.Machine
end

