-- ==== Sys2Proof/Laws/BringUp.lean ====
section
/-! SUPPORT. Laws of the bring-up. -/

namespace Sys2Proof.Machine

variable (a : Asic)

theorem Asic.activeOven_lt : a.activeOven < 2 := a.get_lt _

/-- COLD as it begins. -/
theorem Dev.coldAsic_facts (d : Dev) : d.coldAsic.mode = 1 ∧ d.coldAsic.modes.coldOn = true ∧ d.coldAsic.modes.t0 = d.asic.clk.now ∧
    d.coldAsic.activeOven = d.kep.ovenSel % 2 := by
  refine ⟨?_, rfl, rfl, ?_⟩
  · simp only [Dev.coldAsic, Asic.mode, Asic.putB]
    repeat rw [Asic.get_put_ne _ _ _ _ (by unfold Fld.Apart; decide)]
    rw [Asic.get_put_same _ _ _ (by decide)]
    rfl
  · simp only [Dev.coldAsic, Asic.activeOven]
    rw [Asic.get_put_ne _ _ _ _ (by unfold Fld.Apart; decide), Asic.get_put_same _ _ _ (by decide)]
    rfl
theorem Asic.selectOven_bkAt (o : Nat) (b : Bool) : (a.selectOven o b).clk.bkAt = some a.clk.now := by
  unfold Asic.selectOven; simp only; split <;> rfl
theorem Asic.selectOven_active (o : Nat) (b : Bool) (h : o < 2) : (a.selectOven o b).activeOven = o := by
  unfold Asic.selectOven Asic.activeOven
  simp only
  split <;> simp only [Asic.get_def] <;> simp only [← Asic.get_def] <;> rw [Asic.get_put_same _ _ _ (by decide)] <;> exact Nat.mod_eq_of_lt h
theorem Asic.putOsc_active (x y : Bool) : ((a.putB (Reg.CAL_OVSTS.OSC 0) x).putB (Reg.CAL_OVSTS.OSC 1) y).activeOven = a.activeOven := by
  unfold Asic.activeOven
  rw [Asic.get_putB_ne _ _ _ _ (by unfold Fld.Apart; decide), Asic.get_putB_ne _ _ _ _ (by unfold Fld.Apart; decide)]
/-- The oven check starts BKPLL on the oven in use if it oscillates, else on the other one (R202). -/
theorem Asic.ovenStart_picks (oscA oscB : Bool) (hc : a.modes.coldOn = true) (hb : a.clk.bkAt = none)
    (ht : a.modes.t0 + 20 * msec ≤ a.clk.now) (ho : oscA = true ∨ oscB = true) :
    (a.ovenStart oscA oscB).clk.bkAt = some a.clk.now ∧
      (a.ovenStart oscA oscB).activeOven = (if (if a.activeOven = 0 then oscA else oscB) then a.activeOven else 1 - a.activeOven) := by
  have ht' : ¬a.clk.now - a.modes.t0 < 20 * msec := by omega
  have hl := a.activeOven_lt
  unfold Asic.ovenStart
  simp only [hc, hb, Bool.not_true, Option.isSome_none, Bool.or_false, ht', decide_false, Bool.false_eq_true, if_false]
  by_cases hg : (if a.activeOven = 0 then oscA else oscB) = true
  · simp only [hg, if_true, Asic.selectOven_bkAt, Asic.selectOven_active _ _ _ hl]
    exact ⟨rfl, trivial⟩
  · have hg' : (if 1 - a.activeOven = 0 then oscA else oscB) = true := by
      rcases (by omega : a.activeOven = 0 ∨ a.activeOven = 1) with h | h <;> rw [h] at hg ⊢ <;> simp_all
    simp only [hg, hg', if_true, if_false, Bool.false_eq_true, Asic.selectOven_bkAt, Asic.selectOven_active _ _ _ (show 1 - a.activeOven < 2 by omega)]
    exact ⟨rfl, trivial⟩
theorem Asic.sysfbRuns_bkLocked : a.sysfbRuns.clk.bkLocked = true := by
  unfold Asic.sysfbRuns
  simp only
  rw [Asic.each_clk_bkLocked]
  intro x i; exact Asic.ovenFaultNow_clk_bkLocked x i 1
/-- Neither oven by 200 ms: BKPLL runs free, in fallback (R202). -/
theorem Asic.ovenStart_free (hc : a.modes.coldOn = true) (hb : a.clk.bkAt = none) (ht : a.modes.t0 + 200 * msec ≤ a.clk.now) :
    (a.ovenStart false false).clk.bkLocked = true ∧ (a.ovenStart false false).fallback = true := by
  have ht' : ¬a.clk.now - a.modes.t0 < 200 * msec := by omega
  have ht'' : ¬a.clk.now - a.modes.t0 < 20 * msec := by unfold msec at *; omega
  unfold Asic.ovenStart
  simp only [hc, hb, Bool.not_true, Option.isSome_none, Bool.or_false, ht', ht'', decide_false, Bool.false_eq_true, if_false, ite_self]
  refine ⟨Asic.sysfbRuns_bkLocked _, ?_⟩
  unfold Asic.runFree Asic.fallback Asic.flag
  simp only
  rw [Asic.sysfbRuns_glb _ (Nat.zero_le _) (by decide), Asic.noOvenRefresh_glb _ (Nat.zero_le _) (by decide), Asic.levelOn_get]
  simp only [Asic.get_def]
  simp only [← Asic.get_def]
  rw [Asic.get_put_same _ _ _ (by decide)]
  decide
theorem Asic.bkpllLocked_on (hc : a.modes.coldOn = true) (hb : a.clk.bkAt.isSome = true) : a.bkpllLocked.clk.bkLocked = true := by
  unfold Asic.bkpllLocked
  rw [hc]
  cases h : a.clk.bkLocked
  · cases hn : a.clk.bkAt
    · rw [hn] at hb; cases hb
    · simpa using a.sysfbRuns_bkLocked
  · simp [h]

/-- An image is loaded; without a valid image the load has failed (R55, R57, R464). -/
theorem Dev.configurationLoad_done (d : Dev) (hc : d.asic.modes.coldOn = true) (hb : d.asic.clk.bkLocked = true)
    (hl : d.asic.clk.sysLocked = true ∨ d.asic.fallback = true) (h1 : d.asic.modes.loaded = false) (h2 : d.asic.modes.loadFailed = false) :
    (if d.nvm.imageInUse.isSome then d.configurationLoad.asic.modes.loaded = true else d.configurationLoad.asic.modes.loadFailed = true) ∧
      d.configurationLoad.nvm = d.nvm ∧ d.configurationLoad.kep = d.kep ∧ d.configurationLoad.sup = d.sup := by
  have hl' : (d.asic.clk.sysLocked || d.asic.fallback) = true := by simpa using hl
  unfold Dev.configurationLoad
  simp only [hc, hb, hl', h1, h2, Bool.not_true, Bool.or_self, Bool.false_eq_true, if_false, and_self, and_true]
  simp only [Asic.startApll_modes, Asic.servosRefresh_modes, Asic.egRefreshAll_modes, Asic.rallyRefreshAll_modes, Asic.loadRally_modes]
  cases d.nvm.imageInUse <;> rfl

/-- What the comparison of the seal does to the ASIC is a fault occurrence and log entries. -/
theorem Dev.compareSeal_asic (d : Dev) : d.compareSeal.asic.clk = d.asic.clk ∧ d.compareSeal.asic.modes = d.asic.modes ∧
    d.compareSeal.asic.can.nmt = d.asic.can.nmt ∧ d.compareSeal.asic.tsc = d.asic.tsc ∧ d.compareSeal.kep = d.kep ∧ d.compareSeal.sup = d.sup ∧
    d.compareSeal.asic.target = d.asic.target ∧
    d.compareSeal.asic.mode = d.asic.mode ∧ d.compareSeal.asic.get Reg.GLB_MODE.CAUSE = d.asic.get Reg.GLB_MODE.CAUSE := by
  unfold Dev.compareSeal Dev.logSeal Asic.target Asic.mode
  simp only
  split
  · simp [Dev.onAsic, Dev.onNvm, Asic.logEntry_clk, Asic.logEntry_modes, Asic.logEntry_can_nmt, Asic.logEntry_tsc,
      Asic.logEntry_glb _ (Nat.zero_le _) (by decide : Reg.GLB_MODE.TARGET.addr < 0x10000),
      Asic.logEntry_glb _ (Nat.zero_le _) (by decide : Reg.GLB_MODE.MODE.addr < 0x10000),
      Asic.logEntry_glb _ (Nat.zero_le _) (by decide : Reg.GLB_MODE.CAUSE.addr < 0x10000)]
  · split
    · split <;> simp [Dev.onAsic, Dev.onNvm, Asic.logEntry_clk, Asic.logEntry_modes, Asic.logEntry_can_nmt, Asic.logEntry_tsc,
        Asic.logEntry_glb _ (Nat.zero_le _) (by decide : Reg.GLB_MODE.TARGET.addr < 0x10000),
        Asic.logEntry_glb _ (Nat.zero_le _) (by decide : Reg.GLB_MODE.MODE.addr < 0x10000),
        Asic.logEntry_glb _ (Nat.zero_le _) (by decide : Reg.GLB_MODE.CAUSE.addr < 0x10000)]
    · simp
theorem Dev.leaveCold_clk (d : Dev) : d.leaveCold.clk.coarse = 0 ∧ d.leaveCold.clk.coarseOn = true := by
  unfold Dev.leaveCold
  simp only
  generalize hx : Asic.logEntry _ 8 0 0 = x
  have h : x.clk.coarse = 0 ∧ x.clk.coarseOn = true := by
    subst hx
    simp only [Asic.logEntry_clk, Asic.bootNode_clk, Asic.put_clk, Asic.reloadCredits_clk, Asic.refreshRates_clk, Asic.startScales_clk, and_self]
  split
  · exact h
  · simpa only [Asic.mateRefresh_clk, Asic.moveMode_clk] using h
theorem Dev.leaveCold_coldOn (d : Dev) : d.leaveCold.modes.coldOn = false := by
  unfold Dev.leaveCold
  simp only
  generalize hx : Asic.logEntry _ 8 0 0 = x
  have h : x.modes.coldOn = false := by
    subst hx
    simp only [Asic.logEntry_modes, Asic.bootNode_modes, Asic.put_modes, Asic.reloadCredits_modes, Asic.refreshRates_modes, Asic.startScales_modes]
  split
  · exact h
  · simpa only [Asic.mateRefresh_modes, Asic.moveMode_modes] using h
theorem Dev.leaveCold_target (d : Dev) : d.leaveCold.target = 2 := by
  unfold Dev.leaveCold Asic.target
  simp only
  generalize hx : Asic.logEntry _ 8 0 0 = x
  have h : x.get Reg.GLB_MODE.TARGET = 2 := by
    subst hx
    simp only [Asic.logEntry_target, Asic.bootNode_target]
    rw [Asic.get_put_same _ _ _ (by decide)]
    rfl
  split
  · exact h
  · simpa only [Asic.mateRefresh_target, Asic.moveMode_target] using h
theorem Dev.leaveCold_nmt (d : Dev) : d.leaveCold.can.nmt = 127 := by
  unfold Dev.leaveCold
  simp only
  generalize hx : Asic.logEntry _ 8 0 0 = x
  have h : x.can.nmt = 127 := by
    subst hx
    simp only [Asic.logEntry_can_nmt]
    rfl
  split
  · exact h
  · simpa only [Asic.mateRefresh_can_nmt, Asic.moveMode_can_nmt] using h
/-- PRIMER with cause 1, or 12 after a failed load, unless the module is in SAFE; said for a module without a mate. -/
theorem Dev.leaveCold_mode (d : Dev) (h6 : d.asic.mode ≠ 6) (he : d.asic.flag Reg.RLY_MATECFG.EN = false) :
    d.leaveCold.mode = 2 ∧ d.leaveCold.get Reg.GLB_MODE.CAUSE = if d.asic.modes.loadFailed then 12 else 1 := by
  unfold Dev.leaveCold
  simp only
  generalize hx : Asic.logEntry _ 8 0 0 = x
  have hm : x.mode = d.asic.mode := by
    subst hx
    unfold Asic.mode
    simp only [Asic.logEntry_glb _ (Nat.zero_le _) (by decide : Reg.GLB_MODE.MODE.addr < 0x10000),
      Asic.bootNode_glb _ (Nat.zero_le _) (by decide : Reg.GLB_MODE.MODE.addr < 0x10000)]
    rw [Asic.get_put_ne _ _ _ _ (by unfold Fld.Apart; decide), Asic.get_put_ne _ _ _ _ (by unfold Fld.Apart; decide)]
    simp only [Asic.reloadCredits_glb _ (Nat.zero_le _) (by decide : Reg.GLB_MODE.MODE.addr < 0x10000),
      Asic.refreshRates_glb _ (Nat.zero_le _) (by decide : Reg.GLB_MODE.MODE.addr < 0x10000),
      Asic.startScales_glb _ (Nat.zero_le _) (by decide : Reg.GLB_MODE.MODE.addr < 0x10000)]
    rfl
  have hl : x.modes.loadFailed = d.asic.modes.loadFailed := by
    subst hx
    simp only [Asic.logEntry_modes, Asic.bootNode_modes, Asic.put_modes, Asic.reloadCredits_modes, Asic.refreshRates_modes, Asic.startScales_modes]
  have hen : x.flag Reg.RLY_MATECFG.EN = false := by
    subst hx
    unfold Asic.flag at *
    simp only [Asic.logEntry_maten, Asic.bootNode_maten]
    rw [Asic.get_put_ne _ _ _ _ (by unfold Fld.Apart; decide), Asic.get_put_ne _ _ _ _ (by unfold Fld.Apart; decide)]
    simp only [Asic.reloadCredits_maten, Asic.refreshRates_maten, Asic.startScales_maten]
    exact he
  rw [if_neg (by rw [hm]; exact h6), hl]
  have ho : ∀ c, (x.moveMode 2 c).mateRefresh = (x.moveMode 2 c).setRole 3 := by
    intro c
    have : (x.moveMode 2 c).flag Reg.RLY_MATECFG.EN = false := by
      unfold Asic.flag at *; rw [Asic.moveMode_get _ _ _ _ (by decide) (by decide) (by decide)]; exact hen
    simp [Asic.mateRefresh, Asic.mateOut, this]
  rw [ho]
  unfold Asic.mode
  rw [Asic.setRole_glb _ (Nat.zero_le _) (by decide), Asic.setRole_glb _ (Nat.zero_le _) (by decide)]
  exact ⟨x.moveMode_mode 2 _ (by decide), x.moveMode_cause 2 _ (by split <;> decide)⟩
/-- The end of COLD (R21, R55–R57, R261). -/
theorem Dev.coldComplete_done (d : Dev) (hc : d.asic.modes.coldOn = true) (hl : d.asic.modes.loaded = true ∨ d.asic.modes.loadFailed = true)
    (hf : d.asic.fallback = false ∨ d.asic.modes.t0 + 4000 * msec ≤ d.asic.clk.now) :
    d.coldComplete.asic.clk.coarse = 0 ∧ d.coldComplete.asic.clk.coarseOn = true ∧ d.coldComplete.asic.modes.coldOn = false ∧
      d.coldComplete.asic.target = 2 ∧ d.coldComplete.asic.can.nmt = 127 ∧ d.coldComplete.kep = d.kep ∧ d.coldComplete.sup = d.sup ∧
      (d.asic.mode ≠ 6 → d.asic.flag Reg.RLY_MATECFG.EN = false →
        d.coldComplete.asic.mode = 2 ∧ d.coldComplete.asic.get Reg.GLB_MODE.CAUSE = if d.asic.modes.loadFailed then 12 else 1) := by
  have h1 : (!d.asic.modes.loaded && !d.asic.modes.loadFailed) = false := by
    rcases hl with h | h <;> simp [h]
  have h2 : (d.asic.fallback && decide (d.asic.clk.now < d.asic.modes.t0 + 4000 * msec)) = false := by
    rcases hf with h | h
    · simp [h]
    · simp; omega
  unfold Dev.coldComplete
  simp only [hc, h1, h2, Bool.not_true, Bool.or_self, Bool.false_eq_true, if_false, Dev.compareSeal_asic]
  exact ⟨(d.leaveCold_clk).1, (d.leaveCold_clk).2, d.leaveCold_coldOn, d.leaveCold_target, d.leaveCold_nmt, trivial, trivial, d.leaveCold_mode⟩

end Sys2Proof.Machine
end

