-- ==== Sys2Proof/Laws/Commands.lean ====
section
/-! SUPPORT. What a GO row leaves, and what the two reserved-bit registers of a write do not touch. -/

namespace Sys2Proof.Machine

/-- Noting a write of reserved bits changes the two registers that note it, and nothing else a field shows. -/
theorem Asic.reservedWrite_get (b : Asic) (x : Access) (g : Fld) (h : g.addr ≠ Reg.GLB_RVSTAT.COUNT.addr) (h' : g.addr ≠ Reg.GLB_RVADDR.ADDR.addr) :
    (b.reservedWrite x).get g = b.get g := by
  unfold Asic.reservedWrite
  rw [Asic.raiseAccess_get, Asic.get_put_ne _ _ _ _ (.inl (Ne.symm h')), Asic.get_addSat_ne _ _ _ _ (.inl (Ne.symm h))]
@[simp] theorem Asic.reservedWrite_clk (b : Asic) (x : Access) : (b.reservedWrite x).clk = b.clk := by unfold Asic.reservedWrite; simp
@[simp] theorem Asic.reservedWrite_modes (b : Asic) (x : Access) : (b.reservedWrite x).modes = b.modes := by unfold Asic.reservedWrite; simp
@[simp] theorem Asic.reservedWrite_fw (b : Asic) (x : Access) : (b.reservedWrite x).fw = b.fw := by unfold Asic.reservedWrite; simp
@[simp] theorem Asic.reservedWrite_parity (b : Asic) (x : Access) : (b.reservedWrite x).parity = b.parity := by unfold Asic.reservedWrite; simp
@[simp] theorem Asic.reservedWrite_deferred (b : Asic) (x : Access) : (b.reservedWrite x).deferred = b.deferred := by unfold Asic.reservedWrite; simp
@[simp] theorem Asic.reservedWrite_ref (b : Asic) (x : Access) : (b.reservedWrite x).ref = b.ref := by unfold Asic.reservedWrite; simp
@[simp] theorem Asic.reservedWrite_ump (b : Asic) (x : Access) : (b.reservedWrite x).ump = b.ump := by unfold Asic.reservedWrite; simp
@[simp] theorem Asic.reservedWrite_ldg (b : Asic) (x : Access) : (b.reservedWrite x).ldg = b.ldg := by unfold Asic.reservedWrite; simp
@[simp] theorem Asic.reservedWrite_dpl (b : Asic) (x : Access) : (b.reservedWrite x).dpl = b.dpl := by unfold Asic.reservedWrite; simp
@[simp] theorem Asic.reservedWrite_ovn (b : Asic) (x : Access) : (b.reservedWrite x).ovn = b.ovn := by unfold Asic.reservedWrite; simp
@[simp] theorem Asic.reservedWrite_cal (b : Asic) (x : Access) : (b.reservedWrite x).cal = b.cal := by unfold Asic.reservedWrite; simp
@[simp] theorem Asic.reservedWrite_apl (b : Asic) (x : Access) : (b.reservedWrite x).apl = b.apl := by unfold Asic.reservedWrite; simp
@[simp] theorem Asic.reservedWrite_out (b : Asic) (x : Access) : (b.reservedWrite x).out = b.out := by unfold Asic.reservedWrite; simp
@[simp] theorem Asic.reservedWrite_tsc (b : Asic) (x : Access) : (b.reservedWrite x).tsc = b.tsc := by unfold Asic.reservedWrite; simp
@[simp] theorem Asic.reservedWrite_evt (b : Asic) (x : Access) : (b.reservedWrite x).evt = b.evt := by unfold Asic.reservedWrite; simp
@[simp] theorem Asic.reservedWrite_prt (b : Asic) (x : Access) : (b.reservedWrite x).prt = b.prt := by unfold Asic.reservedWrite; simp
@[simp] theorem Asic.reservedWrite_rly (b : Asic) (x : Access) : (b.reservedWrite x).rly = b.rly := by unfold Asic.reservedWrite; simp
@[simp] theorem Asic.reservedWrite_recs (b : Asic) (x : Access) : (b.reservedWrite x).recs = b.recs := by unfold Asic.reservedWrite; simp
@[simp] theorem Asic.reservedWrite_dma (b : Asic) (x : Access) : (b.reservedWrite x).dma = b.dma := by unfold Asic.reservedWrite; simp
@[simp] theorem Asic.reservedWrite_bus (b : Asic) (x : Access) : (b.reservedWrite x).bus = b.bus := by unfold Asic.reservedWrite; simp
@[simp] theorem Asic.reservedWrite_can (b : Asic) (x : Access) : (b.reservedWrite x).can = b.can := by unfold Asic.reservedWrite; simp
@[simp] theorem Asic.reservedWrite_nvc (b : Asic) (x : Access) : (b.reservedWrite x).nvc = b.nvc := by unfold Asic.reservedWrite; simp
@[simp] theorem Asic.reservedWrite_commits (b : Asic) (x : Access) : (b.reservedWrite x).commits = b.commits := by unfold Asic.reservedWrite; simp
@[simp] theorem Asic.reservedWrite_fill (b : Asic) (x : Access) : (b.reservedWrite x).fill = b.fill := by unfold Asic.reservedWrite; simp
@[simp] theorem Asic.reservedWrite_discards (b : Asic) (x : Access) : (b.reservedWrite x).discards = b.discards := by unfold Asic.reservedWrite; simp
@[simp] theorem Asic.reservedWrite_tx (b : Asic) (x : Access) : (b.reservedWrite x).tx = b.tx := by unfold Asic.reservedWrite; simp
/-- Bringing a channel's integrals up to date writes no register. -/
@[simp] theorem Asic.settleChan_get (a : Asic) (c : Nat) (g : Fld) : (a.settleChan c).get g = a.get g := rfl
/-- The bits of a GO word: its own bit is set. -/
theorem goWord_go (v : Word) (k : Nat) (h : k < 32) : hasBit (BitVec.ofNat 32 (v.toNat ||| 2 ^ k)).toNat k = true := by
  rw [hasBit, ← BitVec.getLsbD, BitVec.getLsbD_ofNat]
  simp [h]
/-- The other fields of a GO word are those of the operand. -/
theorem goWord_field (v : Word) (k lsb n : Nat) (h : k < lsb ∨ lsb + n ≤ k) : wordBits (BitVec.ofNat 32 (v.toNat ||| 2 ^ k)) lsb n = wordBits v lsb n := by
  refine wordBits_congr fun i h1 h2 => ?_
  rw [BitVec.getLsbD_ofNat, Nat.testBit_or, Nat.testBit_two_pow_of_ne (by omega), Bool.or_false]
  by_cases hi : i < 32
  · simp [hi, BitVec.getLsbD]
  · simp only [hi, decide_false, Bool.false_and]
    exact (BitVec.getLsbD_of_ge _ _ (by omega)).symm
theorem Asic.Wrote.clk {a b : Asic} {addr : Nat} {k : Masks} {v : Word} (h : a.Wrote addr k v b) : b.clk = a.clk := by
  have := congrArg Asic.clk (h.rest [] [] []); exact this
theorem Asic.Wrote.modes {a b : Asic} {addr : Nat} {k : Masks} {v : Word} (h : a.Wrote addr k v b) : b.modes = a.modes := by
  have := congrArg Asic.modes (h.rest [] [] []); exact this
theorem Asic.Wrote.fw {a b : Asic} {addr : Nat} {k : Masks} {v : Word} (h : a.Wrote addr k v b) : b.fw = a.fw := by
  have := congrArg Asic.fw (h.rest [] [] []); exact this
theorem Asic.Wrote.parity {a b : Asic} {addr : Nat} {k : Masks} {v : Word} (h : a.Wrote addr k v b) : b.parity = a.parity := by
  have := congrArg Asic.parity (h.rest [] [] []); exact this
theorem Asic.Wrote.deferred {a b : Asic} {addr : Nat} {k : Masks} {v : Word} (h : a.Wrote addr k v b) : b.deferred = a.deferred := by
  have := congrArg Asic.deferred (h.rest [] [] []); exact this
theorem Asic.Wrote.ref {a b : Asic} {addr : Nat} {k : Masks} {v : Word} (h : a.Wrote addr k v b) : b.ref = a.ref := by
  have := congrArg Asic.ref (h.rest [] [] []); exact this
theorem Asic.Wrote.ump {a b : Asic} {addr : Nat} {k : Masks} {v : Word} (h : a.Wrote addr k v b) : b.ump = a.ump := by
  have := congrArg Asic.ump (h.rest [] [] []); exact this
theorem Asic.Wrote.ldg {a b : Asic} {addr : Nat} {k : Masks} {v : Word} (h : a.Wrote addr k v b) : b.ldg = a.ldg := by
  have := congrArg Asic.ldg (h.rest [] [] []); exact this
theorem Asic.Wrote.dpl {a b : Asic} {addr : Nat} {k : Masks} {v : Word} (h : a.Wrote addr k v b) : b.dpl = a.dpl := by
  have := congrArg Asic.dpl (h.rest [] [] []); exact this
theorem Asic.Wrote.ovn {a b : Asic} {addr : Nat} {k : Masks} {v : Word} (h : a.Wrote addr k v b) : b.ovn = a.ovn := by
  have := congrArg Asic.ovn (h.rest [] [] []); exact this
theorem Asic.Wrote.cal {a b : Asic} {addr : Nat} {k : Masks} {v : Word} (h : a.Wrote addr k v b) : b.cal = a.cal := by
  have := congrArg Asic.cal (h.rest [] [] []); exact this
theorem Asic.Wrote.apl {a b : Asic} {addr : Nat} {k : Masks} {v : Word} (h : a.Wrote addr k v b) : b.apl = a.apl := by
  have := congrArg Asic.apl (h.rest [] [] []); exact this
theorem Asic.Wrote.out {a b : Asic} {addr : Nat} {k : Masks} {v : Word} (h : a.Wrote addr k v b) : b.out = a.out := by
  have := congrArg Asic.out (h.rest [] [] []); exact this
theorem Asic.Wrote.tsc {a b : Asic} {addr : Nat} {k : Masks} {v : Word} (h : a.Wrote addr k v b) : b.tsc = a.tsc := by
  have := congrArg Asic.tsc (h.rest [] [] []); exact this
theorem Asic.Wrote.evt {a b : Asic} {addr : Nat} {k : Masks} {v : Word} (h : a.Wrote addr k v b) : b.evt = a.evt := by
  have := congrArg Asic.evt (h.rest [] [] []); exact this
theorem Asic.Wrote.prt {a b : Asic} {addr : Nat} {k : Masks} {v : Word} (h : a.Wrote addr k v b) : b.prt = a.prt := by
  have := congrArg Asic.prt (h.rest [] [] []); exact this
theorem Asic.Wrote.rly {a b : Asic} {addr : Nat} {k : Masks} {v : Word} (h : a.Wrote addr k v b) : b.rly = a.rly := by
  have := congrArg Asic.rly (h.rest [] [] []); exact this
theorem Asic.Wrote.recs {a b : Asic} {addr : Nat} {k : Masks} {v : Word} (h : a.Wrote addr k v b) : b.recs = a.recs := by
  have := congrArg Asic.recs (h.rest [] [] []); exact this
theorem Asic.Wrote.dma {a b : Asic} {addr : Nat} {k : Masks} {v : Word} (h : a.Wrote addr k v b) : b.dma = a.dma := by
  have := congrArg Asic.dma (h.rest [] [] []); exact this
theorem Asic.Wrote.bus {a b : Asic} {addr : Nat} {k : Masks} {v : Word} (h : a.Wrote addr k v b) : b.bus = a.bus := by
  have := congrArg Asic.bus (h.rest [] [] []); exact this
theorem Asic.Wrote.can {a b : Asic} {addr : Nat} {k : Masks} {v : Word} (h : a.Wrote addr k v b) : b.can = a.can := by
  have := congrArg Asic.can (h.rest [] [] []); exact this
theorem Asic.Wrote.flt {a b : Asic} {addr : Nat} {k : Masks} {v : Word} (h : a.Wrote addr k v b) : b.flt = a.flt := by
  have := congrArg Asic.flt (h.rest [] [] []); exact this
theorem Asic.Wrote.nvc {a b : Asic} {addr : Nat} {k : Masks} {v : Word} (h : a.Wrote addr k v b) : b.nvc = a.nvc := by
  have := congrArg Asic.nvc (h.rest [] [] []); exact this
theorem Asic.Wrote.commits {a b : Asic} {addr : Nat} {k : Masks} {v : Word} (h : a.Wrote addr k v b) : b.commits = a.commits := by
  have := congrArg Asic.commits (h.rest [] [] []); exact this
theorem Asic.Wrote.fill {a b : Asic} {addr : Nat} {k : Masks} {v : Word} (h : a.Wrote addr k v b) : b.fill = a.fill := by
  have := congrArg Asic.fill (h.rest [] [] []); exact this
theorem Asic.Wrote.discards {a b : Asic} {addr : Nat} {k : Masks} {v : Word} (h : a.Wrote addr k v b) : b.discards = a.discards := by
  have := congrArg Asic.discards (h.rest [] [] []); exact this
theorem Asic.Wrote.tx {a b : Asic} {addr : Nat} {k : Masks} {v : Word} (h : a.Wrote addr k v b) : b.tx = a.tx := by
  have := congrArg Asic.tx (h.rest [] [] []); exact this
/-- The words whose write reaches past the ASIC. -/
def deviceWord (addr : Nat) : Bool := addr == 0x24 || addr == 0x2C || addr == 0x0E0000 || addr == 0x0E0010 || addr == 0x0E0024
theorem Dev.effect_asic (old d : Dev) (m addr base i v : Nat) (full : Bool) (h : deviceWord addr = false) :
    old.effect d m addr base i v full = ({ d with asic := (old.asic.effect d.asic m addr base i v full).1 }, (old.asic.effect d.asic m addr base i v full).2) := by
  simp only [deviceWord, Bool.or_eq_false_iff, beq_eq_false_iff_ne] at h
  unfold Dev.effect
  rw [if_neg h.1.1.1.1, if_neg h.1.1.1.2, if_neg h.1.1.2, if_neg h.1.2, if_neg h.2]
/-- A row that writes a word with its GO bit set, on the ASIC. -/
theorem Runs.go {c : Instr} {s : State} {P : Asic → Prop} (m : Master) (g : Fld) (v : Word) (base i : Nat) (k : Masks)
    (he : exec c s = s.act fun d => d.write m g.addr (v.toNat ||| 2 ^ g.lsb)) (hp : plainWord g.addr k base i = true) (hd : deviceWord g.addr = false)
    (hfree : s.dev.freeFor m = true) (hkey : k.wk ≠ 0 → s.dev.asic.keyOpen m.val = true) (hsq : k.sq = 0) (hg : g.lsb < 32)
    (h : ∀ (a : Asic) (w : Word), s.dev.asic.Wrote g.addr k w a → hasBit w.toNat g.lsb = true →
      (∀ q : Fld, q.addr = g.addr → q.lsb + q.width ≤ 32 → maskAt q.lsb q.width &&& ~~~(storedMask g.addr k) = 0 →
        (g.lsb < q.lsb ∨ q.lsb + q.width ≤ g.lsb) → a.get q = wordBits v q.lsb q.width) →
      ∃ b, s.dev.asic.effect a m.val g.addr base i w.toNat true = (b, false) ∧ P b ∧ ∀ x, P (b.reservedWrite x)) : Runs c s P :=
  Runs.write m g.addr _ base i k he hp hfree hkey (by rw [hsq]; simp) fun a ha => by
    obtain ⟨b, h1, h2⟩ := h a _ ha (goWord_go v _ hg) fun q p1 p2 p3 p4 => (ha.field q p1 p2 p3).trans (goWord_field v _ _ _ p4)
    exact ⟨b, by rw [Dev.effect_asic _ _ _ _ _ _ _ _ hd, h1], h2⟩
/-- A row that writes a word, on the ASIC. -/
theorem Runs.store {c : Instr} {s : State} {P : Asic → Prop} (m : Master) (addr : Nat) (v : Word) (base i : Nat) (k : Masks)
    (he : exec c s = s.act fun d => d.write m addr v.toNat) (hp : plainWord addr k base i = true) (hd : deviceWord addr = false)
    (hfree : s.dev.freeFor m = true) (hkey : k.wk ≠ 0 → s.dev.asic.keyOpen m.val = true) (hsq : k.sq = 0)
    (h : ∀ a : Asic, s.dev.asic.Wrote addr k v a →
      ∃ b, s.dev.asic.effect a m.val addr base i v.toNat true = (b, false) ∧ P b ∧ ∀ x, P (b.reservedWrite x)) : Runs c s P :=
  Runs.write m addr _ base i k he hp hfree hkey (by rw [hsq]; simp) fun a ha => by
    have hv : BitVec.ofNat 32 v.toNat = v := by simp
    rw [hv] at ha ⊢
    obtain ⟨b, h1, h2⟩ := h a ha
    exact ⟨b, by rw [Dev.effect_asic _ _ _ _ _ _ _ _ hd, h1], h2⟩
/-- A row that writes a command field, on the ASIC. -/
theorem Runs.order {c : Instr} {s : State} {P : Asic → Prop} (m : Master) (f : Fld) (n base i : Nat) (k : Masks)
    (he : exec c s = s.act fun d => d.command m f n) (hp : plainWord f.addr k base i = true) (hd : deviceWord f.addr = false) (hf : commandField k f = true)
    (hfree : s.dev.freeFor m = true) (hkey : k.wk ≠ 0 → s.dev.asic.keyOpen m.val = true)
    (h : ∀ a : Asic, s.dev.asic.Finds k a → ∃ b, s.dev.asic.effect a m.val f.addr base i (s.dev.commandWord f n).toNat true = (b, false) ∧ P b) :
    Runs c s P :=
  Runs.command m f n base i k he hp hf hfree hkey fun a ha => by
    obtain ⟨b, h1, h2⟩ := h a ha
    exact ⟨b, by rw [Dev.effect_asic _ _ _ _ _ _ _ _ hd, h1], h2⟩
/-- One bit of the word a write leaves. -/
theorem Asic.Wrote.bit {a b : Asic} {addr : Nat} {k : Masks} {v : Word} (h : a.Wrote addr k v b) (j : Nat) (hj : j < 32) :
    (b.word addr).getLsbD j = if (storedMask addr k).getLsbD j then v.getLsbD j else (a.word addr).getLsbD j := by
  have one : ∀ w u : Word, wordBits w j 1 = wordBits u j 1 → w.getLsbD j = u.getLsbD j := fun w u e => by
    have := congrArg (fun n => n.testBit 0) e
    simp only [wordBits_bit] at this
    simpa using this
  have hm : ∀ i, i < 32 → (maskAt j 1).getLsbD i = decide (i = j) := fun i hi => by
    rw [maskAt_bit _ _ _ hi]; congr 1; exact propext (by omega)
  cases hb : (storedMask addr k).getLsbD j
  · refine one _ _ (h.keeps ⟨addr, j, 1⟩ rfl (BitVec.eq_of_getLsbD_eq fun i hi => ?_) (by dsimp only; omega))
    simp only [BitVec.getLsbD_and, hm i hi]
    by_cases e : i = j
    · subst e; simp [hb]
    · simp [e]
  · refine one _ _ (h.field ⟨addr, j, 1⟩ rfl (by dsimp only; omega) (BitVec.eq_of_getLsbD_eq fun i hi => ?_))
    simp only [BitVec.getLsbD_and, BitVec.getLsbD_not, hm i hi]
    by_cases e : i = j
    · subst e; simp [hb]
    · simp [e]
/-- A row that writes a stored field of a word, on the ASIC: the field takes the value, the rest of the word stands. -/
theorem Runs.set {c : Instr} {s : State} {P : Asic → Prop} (m : Master) (f : Fld) (n base i : Nat) (k : Masks)
    (he : exec c s = s.act fun d => d.command m f n) (hp : plainWord f.addr k base i = true) (hd : deviceWord f.addr = false)
    (hfree : s.dev.freeFor m = true) (hkey : k.wk ≠ 0 → s.dev.asic.keyOpen m.val = true) (hsq : k.sq = 0)
    (hs : maskAt f.lsb f.width &&& ~~~(storedMask f.addr k) = 0) (hw : f.lsb + f.width ≤ 32) (hwo : k.wo = 0)
    (h : ∀ (a : Asic) (v : Word), s.dev.asic.Wrote f.addr k v a → a.get f = n % 2 ^ f.width →
      (∀ g : Fld, g.addr ≠ 0x14 → f.Apart g → g.lsb + g.width ≤ 32 → a.get g = s.dev.asic.get g) →
      ∃ b, s.dev.asic.effect a m.val f.addr base i v.toNat true = (b, false) ∧ P b ∧ ∀ x, P (b.reservedWrite x)) : Runs c s P := by
  have hk : masksAt f.addr = k := by
    simp only [plainWord, Bool.and_eq_true, decide_eq_true_eq] at hp
    exact hp.1.1.2
  have ha : f.addr < 0x100000 ∧ stagedBank f.addr = false := by
    simp only [plainWord, Bool.and_eq_true, decide_eq_true_eq, Bool.not_eq_true'] at hp
    simp_all
  refine Runs.store m f.addr (s.dev.commandWord f n) base i k (by rw [he]; simp only [State.act, Dev.command, Dev.commandWord]) hp hd hfree hkey hsq fun a hW => h a _ hW ?_ fun g h14 hg hl => ?_
  · rw [hW.field f rfl hw hs, Dev.commandWord_value _ _ _ hw]
  · by_cases hga : g.addr = f.addr
    · rw [Asic.get, Asic.get, hga]
      refine wordBits_congr fun j h1 h2 => ?_
      have hj : j < 32 := by omega
      rw [hW.bit j hj]
      split
      · have h0 : ¬0x100000 ≤ f.addr := by omega
        rw [Dev.commandWord_bit _ _ _ _ hj, if_neg (by unfold Fld.Apart at hg; omega), Dev.stored, if_neg h0, ha.2, if_neg (by simp), hk, hsq, hwo]
        rw [show (BitVec.ofNat 32 0 : Word) = 0 from rfl]
        have e := (by decide : ∀ j : Fin 32, (4294967295#32).getLsbD j.val = true) ⟨j, hj⟩
        simp only [BitVec.getLsbD_eq_getElem hj] at e
        simp [hj, e]
      · rfl
    · exact hW.get g hga h14
/-! The block an address belongs to. -/
theorem Asic.effect_glb (o a : Asic) (m addr base i v : Nat) (full : Bool) (h : addr / 65536 = 0) : o.effect a m addr base i v full = a.effGlb m addr v full := by
  unfold Asic.effect
  rw [h]
  rfl
theorem Asic.effect_ref (o a : Asic) (m addr base i v : Nat) (full : Bool) (h : addr / 65536 = 1) : o.effect a m addr base i v full = o.effRef a addr base i v := by
  unfold Asic.effect
  rw [h]
  rfl
theorem Asic.effect_ump (o a : Asic) (m addr base i v : Nat) (full : Bool) (h : addr / 65536 = 2) : o.effect a m addr base i v full = o.effUmp a base i v := by
  unfold Asic.effect
  rw [h]
  rfl
theorem Asic.effect_ldg (o a : Asic) (m addr base i v : Nat) (full : Bool) (h : addr / 65536 = 3) : o.effect a m addr base i v full = a.effLdg addr v := by
  unfold Asic.effect
  rw [h]
  rfl
theorem Asic.effect_dpl (o a : Asic) (m addr base i v : Nat) (full : Bool) (h : addr / 65536 = 4) : o.effect a m addr base i v full = o.effDpl a addr base i v := by
  unfold Asic.effect
  rw [h]
  rfl
theorem Asic.effect_apl (o a : Asic) (m addr base i v : Nat) (full : Bool) (h : addr / 65536 = 5) : o.effect a m addr base i v full = a.effApl addr v := by
  unfold Asic.effect
  rw [h]
  rfl
theorem Asic.effect_out (o a : Asic) (m addr base i v : Nat) (full : Bool) (h : addr / 65536 = 6) : o.effect a m addr base i v full = o.effOut a addr base i v := by
  unfold Asic.effect
  rw [h]
  rfl
theorem Asic.effect_tsc (o a : Asic) (m addr base i v : Nat) (full : Bool) (h : addr / 65536 = 7) : o.effect a m addr base i v full = o.effTsc a addr base i v := by
  unfold Asic.effect
  rw [h]
  rfl
theorem Asic.effect_evt (o a : Asic) (m addr base i v : Nat) (full : Bool) (h : addr / 65536 = 8) : o.effect a m addr base i v full = o.effEvt a addr base i v := by
  unfold Asic.effect
  rw [h]
  rfl
theorem Asic.effect_prt (o a : Asic) (m addr base i v : Nat) (full : Bool) (h : addr / 65536 = 9) : o.effect a m addr base i v full = o.effPrt a base i := by
  unfold Asic.effect
  rw [h]
  rfl
theorem Asic.effect_rly (o a : Asic) (m addr base i v : Nat) (full : Bool) (h : addr / 65536 = 10) : o.effect a m addr base i v full = o.effRly a addr base i v := by
  unfold Asic.effect
  rw [h]
  rfl
theorem Asic.effect_rec (o a : Asic) (m addr base i v : Nat) (full : Bool) (h : addr / 65536 = 11) : o.effect a m addr base i v full = a.effRec addr v := by
  unfold Asic.effect
  rw [h]
  rfl
theorem Asic.effect_dma (o a : Asic) (m addr base i v : Nat) (full : Bool) (h : addr / 65536 = 12) : o.effect a m addr base i v full = o.effDma a base i v := by
  unfold Asic.effect
  rw [h]
  rfl
theorem Asic.effect_flt (o a : Asic) (m addr base i v : Nat) (full : Bool) (h : addr / 65536 = 13) : o.effect a m addr base i v full = a.effFlt addr v := by
  unfold Asic.effect
  rw [h]
  rfl
theorem Asic.effect_cal (o a : Asic) (m addr base i v : Nat) (full : Bool) (h : addr / 65536 = 15) : o.effect a m addr base i v full = a.effCal addr v := by
  unfold Asic.effect
  rw [h]
  rfl

end Sys2Proof.Machine
end

