-- ==== Sys2Proof/Laws/Keep.lean ====
section
/-! SUPPORT. What the register bus, CAN, DMA and NVM can do to the keep-alive block and the supply: software writes the
scratch register and reserved bits, the active oven and the seconds are copied in; nothing else there changes. -/

namespace Sys2Proof.Machine

/-- The keep-alive block without what software, the active oven and `TS0` write there. -/
def Kep.core (k : Kep) : Kep := { k with fresh := true, scratch := 0, reserved := [], ovenSel := 0, sec := 0 }
/-- The core of the keep-alive block and the supply are as before. -/
def Dev.Kept (d d' : Dev) : Prop := d'.kep.core = d.kep.core ∧ d'.sup = d.sup

theorem Dev.Kept.refl (d : Dev) : d.Kept d := ⟨rfl, rfl⟩
theorem Dev.Kept.trans {d e f : Dev} (h : d.Kept e) (h' : e.Kept f) : d.Kept f := ⟨h'.1.trans h.1, h'.2.trans h.2⟩
theorem Dev.Kept.onAsic {d e : Dev} (h : d.Kept e) (f : Asic → Asic) : d.Kept (e.onAsic f) := ⟨h.1, h.2⟩
theorem Dev.Kept.onNvm {d e : Dev} (h : d.Kept e) (f : Nvm → Nvm) : d.Kept (e.onNvm f) := ⟨h.1, h.2⟩
theorem Dev.Kept.asic {d e : Dev} (h : d.Kept e) (a : Asic) : d.Kept { e with asic := a } := ⟨h.1, h.2⟩
theorem Dev.onAsic_kept (d : Dev) (f : Asic → Asic) : d.Kept (d.onAsic f) := ⟨rfl, rfl⟩
theorem Dev.onNvm_kept (d : Dev) (f : Nvm → Nvm) : d.Kept (d.onNvm f) := ⟨rfl, rfl⟩
theorem Dev.run_kept (d : Dev) (f : Asic → Asic) : d.Kept (d.run f) := by
  unfold Dev.run
  split
  · exact .refl d
  · refine ⟨?_, rfl⟩
    simp only
    split <;> rfl

/-! ### The bus -/

theorem Dev.undefinedData_kept (d : Dev) : d.Kept d.undefinedData.1 := ⟨rfl, rfl⟩
theorem Dev.readWord_kept (d : Dev) (o w : Nat) : d.Kept (d.readWord o w).1 := ⟨rfl, rfl⟩
theorem Dev.busRead_kept (d : Dev) (m o addr size : Nat) : d.Kept (d.busRead m o addr size).1 := by
  unfold Dev.busRead
  simp only
  split
  · exact d.onAsic_kept _
  · split
    · exact d.onAsic_kept _
    · split
      · exact ⟨rfl, rfl⟩
      · exact (d.onAsic_kept _).trans (Dev.readWord_kept _ _ _)
    · split
      · exact ⟨rfl, rfl⟩
      · exact ⟨rfl, rfl⟩
theorem Dev.store_kept (d : Dev) (w : Nat) (m v : Word) : d.Kept (d.store w m v) := by
  unfold Dev.store
  simp only
  split
  · refine ⟨?_, rfl⟩
    simp only
    split <;> rfl
  · split
    · exact d.onAsic_kept _
    · exact d.onAsic_kept _
theorem Dev.storeWrite_kept (d : Dev) (o w : Nat) (v : Word) : d.Kept (d.storeWrite o w v) := by
  unfold Dev.storeWrite
  simp only
  split
  · split
    · exact ((d.store_kept _ _ _).trans (Dev.store_kept _ _ _ _)).onAsic _
    · exact d.store_kept _ _ _
  · split
    · exact ((d.store_kept _ _ _).trans (Dev.store_kept _ _ _ _)).onAsic _
    · exact d.store_kept _ _ _
theorem Dev.clearEvents_kept (d : Dev) (w : Nat) (v m : Word) : d.Kept (d.clearEvents w v m) := by
  unfold Dev.clearEvents
  simp only
  split
  · exact .refl d
  · exact d.onAsic_kept _

theorem Dev.refuse_kept (d : Dev) (k : Nat) : d.Kept (d.refuse k).1 := d.onAsic_kept _
theorem Dev.nvmUnlock_kept (d : Dev) (m : Nat) : d.Kept (d.nvmUnlock m).1 := by
  unfold Dev.nvmUnlock
  simp only
  split
  · exact d.refuse_kept _
  · split
    · exact d.onAsic_kept _
    · exact (d.onAsic_kept _).trans (Dev.refuse_kept _ _)
theorem Dev.setPassword_kept (d : Dev) (m : Nat) : d.Kept (d.setPassword m).1 := by
  unfold Dev.setPassword
  simp only
  split
  · exact .refl d
  · exact d.onAsic_kept _
theorem Dev.nvmOpenPage_kept (d : Dev) (m : Nat) : d.Kept (d.nvmOpenPage m).1 := by
  unfold Dev.nvmOpenPage
  simp only
  split
  · exact d.refuse_kept _
  · split
    · exact .refl d
    · exact d.onAsic_kept _
theorem Dev.nvmCommit_kept (d : Dev) (m : Nat) : d.Kept (d.nvmCommit m).1 := by
  unfold Dev.nvmCommit
  simp only
  split
  · exact d.refuse_kept _
  · split
    · exact .refl d
    · split
      · exact d.refuse_kept _
      · exact d.onAsic_kept _
theorem Dev.nvmClose_kept (d : Dev) (m : Nat) : d.Kept (d.nvmClose m).1 := by
  unfold Dev.nvmClose
  split
  · exact d.refuse_kept _
  · exact d.onAsic_kept _
theorem Dev.nvmRead_kept (d : Dev) (m : Nat) : d.Kept (d.nvmRead m).1 := by
  unfold Dev.nvmRead
  simp only
  split
  · exact .refl d
  · exact d.onAsic_kept _
theorem Dev.saveConfig_kept (d : Dev) (m : Nat) : d.Kept (d.saveConfig m).1 := by
  unfold Dev.saveConfig
  split
  · exact .refl d
  · exact d.onAsic_kept _
theorem Dev.nvmCommand_kept (d : Dev) (m c : Nat) : d.Kept (d.nvmCommand m c).1 := by
  unfold Dev.nvmCommand
  split
  · exact d.nvmOpenPage_kept m
  · exact d.nvmCommit_kept m
  · exact d.nvmClose_kept m
  · exact d.nvmUnlock_kept m
  · exact d.onAsic_kept _
  · exact d.saveConfig_kept m
  · exact d.nvmRead_kept m
  · exact .refl d
theorem Dev.bufferWrite_kept (d : Dev) (m : Nat) (w : Word) : d.Kept (d.bufferWrite m w).1 := by
  unfold Dev.bufferWrite
  split
  · exact d.refuse_kept _
  · exact d.onAsic_kept _
theorem Dev.logClear_kept (d : Dev) (m : Nat) : d.Kept (d.logClear m).1 := by
  unfold Dev.logClear
  split
  · exact .refl d
  · exact (d.onAsic_kept _).onNvm _
theorem Dev.fwData_kept (d : Dev) (w : Word) : d.Kept (d.fwData w).1 := by
  unfold Dev.fwData
  simp only
  split
  · exact .refl d
  · exact (d.onNvm_kept _).onAsic _
theorem Dev.fwArm_kept (d : Dev) : d.Kept d.fwArm.1 := by
  unfold Dev.fwArm
  simp only
  split
  · exact .refl d
  · split
    · exact d.onAsic_kept _
    · exact d.onAsic_kept _

/-- No effect of a write reaches the keep-alive block. -/
theorem Dev.effect_kept (old d : Dev) (m addr base i v : Nat) (full : Bool) : d.Kept (old.effect d m addr base i v full).1 := by
  have harm : d.Kept (if hasBit v 11 = true then d.fwArm else (d, false)).1 := by
    split
    · exact d.fwArm_kept
    · exact .refl d
  have hpw : d.Kept (if hasBit v 0 = true then d.setPassword m else (d, false)).1 := by
    split
    · exact d.setPassword_kept m
    · exact .refl d
  unfold Dev.effect
  simp only
  split
  · generalize (if hasBit v 11 = true then d.fwArm else (d, false)) = r at harm
    split
    · exact harm
    · refine harm.trans ?_
      simp only
      split
      · exact r.1.onAsic_kept _
      · exact .refl r.1
  · split
    · exact d.fwData_kept _
    · split
      · exact d.nvmCommand_kept m _
      · split
        · exact d.bufferWrite_kept m _
        · split
          · generalize (if hasBit v 0 = true then d.setPassword m else (d, false)) = r at hpw
            split
            · exact hpw
            · exact hpw.trans (r.1.logClear_kept m)
          · exact ⟨rfl, rfl⟩

theorem Dev.writeWord_kept (d : Dev) (m o : Nat) (x : Access) (w : Nat) (v b : Word) : d.Kept (d.writeWord m o x w v b).1 := by
  have harm : d.Kept (if d.guarded w v = true then d.onAsic Asic.rearm else d) := by
    split
    · exact d.onAsic_kept _
    · exact .refl d
  unfold Dev.writeWord
  simp only
  generalize (if d.guarded w v = true then d.onAsic Asic.rearm else d) = e at harm
  have hst := (harm.trans (e.storeWrite_kept o w v)).trans (Dev.clearEvents_kept _ w v b)
  split
  · exact harm
  · split
    · exact harm
    · split
      · exact harm.onAsic _
      · split
        · exact harm
        · split <;> split
          all_goals first
            | exact (hst.trans (Dev.effect_kept _ _ _ _ _ _ _ _)).trans (Dev.store_kept _ _ _ _)
            | skip
          all_goals
            simp only
            split
            · exact (hst.trans (Dev.effect_kept _ _ _ _ _ _ _ _)).onAsic _
            · exact hst.trans (Dev.effect_kept _ _ _ _ _ _ _ _)

/-- A rejected access raises its source; either way the core stays. -/
theorem Dev.Kept.answer {d : Dev} {r : DRuled} (h : d.Kept r.1) (f : Asic → Asic) :
    d.Kept (if r.2 = true then (r.1.onAsic f, 3) else (r.1, (0 : Status))).1 := by
  split
  · exact h.onAsic f
  · exact h

theorem Dev.busWrite_kept (d : Dev) (m o addr size : Nat) (v : Word) : d.Kept (d.busWrite m o addr size v).1 := by
  unfold Dev.busWrite
  simp only
  split
  · exact d.onAsic_kept _
  · split
    · exact d.onAsic_kept _
    · rename_i word _
      have ht : d.Kept (d.onAsic fun a => a.touch m word) := d.onAsic_kept _
      generalize (d.onAsic fun a => a.touch m word) = e at ht
      refine Dev.Kept.answer ?_ _
      split
      · split
        · exact ht.onAsic _
        · exact ht
      · exact ht.trans (e.writeWord_kept _ _ _ _ _ _)
    · rename_i word b _
      have ht : d.Kept (d.onAsic fun a => a.touch m word) := d.onAsic_kept _
      generalize (d.onAsic fun a => a.touch m word) = e at ht
      refine Dev.Kept.answer ?_ _
      split
      · exact ht
      · split
        · exact ht
        · exact ht.trans (e.writeWord_kept _ _ _ _ _ _)

theorem Dev.write_kept (d : Dev) (m : Master) (addr n : Nat) : d.Kept (d.write m addr n) := by
  unfold Dev.write
  split
  · exact d.busWrite_kept _ _ _ _ _
  · exact .refl d
theorem Dev.command_kept (d : Dev) (m : Master) (f : Fld) (n : Nat) : d.Kept (d.command m f n) := d.write_kept _ _ _
theorem Dev.writeSized_kept (d : Dev) (m : Master) (addr size : Nat) (v : Word) : d.Kept (d.writeSized m addr size v) := by
  unfold Dev.writeSized
  split
  · exact d.busWrite_kept _ _ _ _ _
  · exact .refl d
theorem Dev.read_kept (d : Dev) (m : Master) (addr : Nat) : d.Kept (d.read m addr) := by
  unfold Dev.read
  split
  · exact d.busRead_kept _ _ _ _
  · exact .refl d

/-! ### SPI, PCIe and DMA -/

theorem Dev.spiReads_kept (size n addr : Nat) (d : Dev) : d.Kept (Dev.spiReads size n addr d) := by
  induction n generalizing addr d with
  | zero => exact .refl d
  | succ n ih =>
    unfold Dev.spiReads
    exact ((d.busRead_kept 1 1 addr size).onAsic _).trans (ih _ _)
theorem Dev.spiWrites_kept (size : Nat) (l : List Word) (addr : Nat) (d : Dev) : d.Kept (Dev.spiWrites size l addr d) := by
  induction l generalizing addr d with
  | nil => exact .refl d
  | cons v t ih =>
    unfold Dev.spiWrites
    exact ((d.busWrite_kept 1 1 addr size v).onAsic _).trans (ih _ _)
theorem Dev.spiRead_kept (d : Dev) (size count addr : Nat) : d.Kept (d.spiRead size count addr) := by
  unfold Dev.spiRead
  simp only
  split
  · exact .refl d
  · split
    · exact d.onAsic_kept _
    · exact Dev.spiReads_kept _ _ _ d
theorem Dev.spiWrite_kept (d : Dev) (size count addr : Nat) (l : List Word) : d.Kept (d.spiWrite size count addr l) := by
  unfold Dev.spiWrite
  simp only
  split
  · exact .refl d
  · split
    · exact d.onAsic_kept _
    · exact Dev.spiWrites_kept _ _ _ d
theorem Dev.pcieReads_kept (l : List (Nat × Nat)) (d : Dev) : d.Kept (Dev.pcieReads l d).1 := by
  induction l generalizing d with
  | nil => exact .refl d
  | cons p t ih =>
    unfold Dev.pcieReads
    exact (d.busRead_kept 2 2 p.1 p.2).trans (ih _)
theorem Dev.pcieWrites_kept (l : List (Nat × Nat)) (w : List Word) (d : Dev) : d.Kept (Dev.pcieWrites l w d).1 := by
  induction l generalizing d w with
  | nil => exact .refl d
  | cons p t ih =>
    unfold Dev.pcieWrites
    exact (d.busWrite_kept 2 2 p.1 p.2 _).trans (ih _ _)
theorem Dev.pcieRead_kept (d : Dev) (b : Bool) (o dw f l : Nat) : d.Kept (d.pcieRead b o dw f l) := by
  unfold Dev.pcieRead
  split
  · exact .refl d
  · split
    · exact d.undefinedData_kept.onAsic _
    · exact d.onAsic_kept _
    · exact (Dev.pcieReads_kept _ d).onAsic _
theorem Dev.pcieWrite_kept (d : Dev) (b : Bool) (o dw f l : Nat) (w : List Word) : d.Kept (d.pcieWrite b o dw f l w) := by
  unfold Dev.pcieWrite
  simp only
  split
  · exact .refl d
  · split
    · split
      · exact (Dev.pcieWrites_kept _ _ d).onAsic _
      · exact Dev.pcieWrites_kept _ _ d
    · exact d.onAsic_kept _
theorem Dev.copyReads_kept (n addr : Nat) (d : Dev) : d.Kept (Dev.copyReads n addr d).1 := by
  induction n generalizing addr d with
  | zero => exact .refl d
  | succ n ih =>
    unfold Dev.copyReads
    simp only
    split
    · exact d.busRead_kept _ _ _ _
    · exact (d.busRead_kept 3 3 addr 2).trans (ih _ _)
theorem Dev.dmaBurst_kept (d : Dev) : d.Kept d.dmaBurst := by
  unfold Dev.dmaBurst
  split
  · exact .refl d
  · simp only
    split
    · exact (Dev.copyReads_kept _ _ d).onAsic _
    · exact d.onAsic_kept _

/-! ### CAN -/

theorem Dev.readRegister_kept (d : Dev) (o addr : Nat) : d.Kept (d.readRegister o addr).1 := d.busRead_kept _ _ _ _
theorem Dev.objRead_kept (d : Dev) (o i k : Nat) : d.Kept (d.objRead o i k).1 := by
  unfold Dev.objRead
  split
  · exact .refl d
  · exact .refl d
  · split
    · exact .refl d
    · exact d.readRegister_kept _ _
  · split
    · exact .refl d
    · split
      · exact d.readRegister_kept _ _
      · simp only
        split
        · exact d.onAsic_kept _
        · exact .refl d
theorem Dev.writeRegister_kept (d : Dev) (o addr k : Nat) (v : Word) : d.Kept (d.writeRegister o addr k v).1 := by
  unfold Dev.writeRegister
  simp only
  split
  · exact .refl d
  · split
    · exact (d.busWrite_kept _ _ _ _ _).trans (Dev.busWrite_kept _ _ _ _ _ _)
    · exact d.busWrite_kept _ _ _ _ _
theorem Dev.objWrite_kept (d : Dev) (o i k : Nat) (b : List Byte) : d.Kept (d.objWrite o i k b).1 := by
  unfold Dev.objWrite
  simp only
  split
  · exact .refl d
  · exact .refl d
  · split
    · exact .refl d
    · split
      · exact .refl d
      · exact d.writeRegister_kept _ _ _ _
  · split
    · exact .refl d
    · split
      · split
        · exact .refl d
        · exact d.writeRegister_kept _ _ _ _
      · split
        · exact .refl d
        · split
          · exact d.writeRegister_kept _ _ _ _
          · split
            · exact .refl d
            · split
              · exact .refl d
              · exact d.onAsic_kept _
theorem Dev.sdoOpen_kept (d : Dev) (i k : Nat) (f : Dev → Dev) (h : ∀ e, Dev.Kept e (f e)) : d.Kept (d.sdoOpen i k f) := by
  unfold Dev.sdoOpen
  split
  · exact .refl d
  · split
    · exact d.onAsic_kept _
    · exact (d.onAsic_kept _).trans (h _)
theorem Dev.sdoUpload_kept (d : Dev) (i k : Nat) : d.Kept (d.sdoUpload i k) := by
  refine d.sdoOpen_kept i k _ fun e => ?_
  have h := e.objRead_kept 4 i k
  generalize e.objRead 4 i k = r at h
  obtain ⟨e', x⟩ := r
  cases x <;> exact h.onAsic _
theorem Dev.sdoDownload_kept (d : Dev) (i k : Nat) (l : List Byte) : d.Kept (d.sdoDownload i k l) :=
  d.sdoOpen_kept i k _ fun e => (e.objWrite_kept _ _ _ _).onAsic _
theorem Dev.sdoDownloadOpen_kept (d : Dev) (i k n : Nat) : d.Kept (d.sdoDownloadOpen i k n) :=
  d.sdoOpen_kept i k _ fun e => e.onAsic_kept _
theorem Dev.domainWords_kept (i k n : Nat) (l : List Byte) (d : Dev) : d.Kept (Dev.domainWords i k n l d).1 := by
  induction n generalizing l d with
  | zero => exact .refl d
  | succ n ih =>
    unfold Dev.domainWords
    split
    · exact .refl d
    · simp only
      split
      · exact d.objWrite_kept _ _ _ _
      · exact (d.objWrite_kept _ _ _ _).trans (ih _ _)
theorem Dev.downloadSegment_kept (d : Dev) (s : Sdo) (l : List Byte) (b : Bool) : d.Kept (d.downloadSegment s l b) := by
  unfold Dev.downloadSegment
  simp only
  refine Dev.Kept.onAsic ?_ _
  repeat' split
  all_goals first
    | exact .refl d
    | exact Dev.domainWords_kept _ _ _ _ d
    | exact d.objWrite_kept _ _ _ _
    | exact (Dev.domainWords_kept _ _ _ _ d).trans (Dev.objWrite_kept _ _ _ _ _)
theorem Dev.sdoSegment_kept (d : Dev) (t : Bool) (l : List Byte) (b : Bool) : d.Kept (d.sdoSegment t l b) := by
  unfold Dev.sdoSegment
  split
  · exact .refl d
  · split
    · exact d.onAsic_kept _
    · split
      · exact d.onAsic_kept _
      · split
        · exact d.onAsic_kept _
        · exact d.downloadSegment_kept _ _ _
theorem Dev.mappedData_kept (l : List Nat) (d : Dev) : d.Kept (Dev.mappedData l d).1 := by
  induction l generalizing d with
  | nil => exact .refl d
  | cons e t ih =>
    unfold Dev.mappedData
    simp only
    refine Dev.Kept.trans ?_ (ih _)
    split
    · exact .refl d
    · have h := d.objRead_kept 0 (e / 65536) (e / 256 % 256)
      generalize d.objRead 0 (e / 65536) (e / 256 % 256) = r at h
      obtain ⟨d', x⟩ := r
      cases x
      · exact h
      · exact h.trans d'.undefinedData_kept
theorem Dev.tpdoSample_kept (d : Dev) (t : Nat) : d.Kept (d.tpdoSample t).1 := (d.onAsic_kept _).trans (Dev.mappedData_kept _ _)
theorem Dev.tpdoTrigger_kept (d : Dev) (t : Nat) : d.Kept (d.tpdoTrigger t) := by
  unfold Dev.tpdoTrigger
  split
  · exact d.onAsic_kept _
  · exact (d.tpdoSample_kept t).onAsic _
theorem Dev.tpdoTimer_kept (d : Dev) (t : Nat) : d.Kept (d.tpdoTimer t) := by
  unfold Dev.tpdoTimer
  simp only
  repeat' split
  all_goals first
    | exact .refl d
    | exact d.tpdoTrigger_kept t
theorem Dev.foldl_kept {β : Type} (l : List β) (f : Dev → β → Dev) (h : ∀ d x, Dev.Kept d (f d x)) (d : Dev) : d.Kept (l.foldl f d) := by
  induction l generalizing d with
  | nil => exact .refl d
  | cons x t ih => exact (h d x).trans (ih _)
theorem Dev.watchStatus_kept (d : Dev) : d.Kept d.watchStatus := by
  unfold Dev.watchStatus
  split
  · exact .refl d
  · refine Dev.foldl_kept _ _ (fun e t => ?_) d
    split
    · exact e.tpdoTrigger_kept t
    · exact .refl e
theorem Dev.inhibitEnd_kept (d : Dev) (t : Option Nat) : d.Kept (d.inhibitEnd t) := by
  unfold Dev.inhibitEnd
  split
  · exact d.onAsic_kept _
  · split
    · exact d.tpdoTrigger_kept _
    · exact .refl d
theorem Dev.tpdoSync_kept (d : Dev) (c t : Nat) : d.Kept (d.tpdoSync c t) := by
  unfold Dev.tpdoSync
  simp only
  split
  repeat' split
  all_goals first
    | exact .refl d
    | exact d.onAsic_kept _
    | exact ((d.onAsic_kept _).trans (Dev.tpdoSample_kept _ _)).onAsic _
theorem Dev.rpdoWrites_kept (m : List Nat) (l : List Byte) (d : Dev) : d.Kept (Dev.rpdoWrites m l d) := by
  induction m generalizing l d with
  | nil => exact .refl d
  | cons e t ih => exact (d.objWrite_kept _ _ _ _).trans (ih _ _)
theorem Dev.canSync_kept (d : Dev) (c : Nat) : d.Kept (d.canSync c) := by
  unfold Dev.canSync
  split
  · exact .refl d
  · exact ((Dev.foldl_kept _ _ (fun e t => e.tpdoSync_kept c t) d).onAsic _).trans (Dev.foldl_kept _ _ (fun e r => Dev.rpdoWrites_kept _ _ e) _)
theorem Dev.rpdo_kept (d : Dev) (r : Nat) (l : List Byte) : d.Kept (d.rpdo r l) := by
  unfold Dev.rpdo
  simp only
  split
  · exact .refl d
  · split
    · exact d.onAsic_kept _
    · split
      · exact d.onAsic_kept _
      · split
        · exact d.onAsic_kept _
        · exact Dev.rpdoWrites_kept _ _ d
theorem Dev.canServe_kept (d : Dev) (i : Instr) : d.Kept (d.canServe i) := by
  unfold Dev.canServe
  split
  · exact d.onAsic_kept _
  · exact d.onAsic_kept _
  · exact d.onAsic_kept _
  · exact d.onAsic_kept _
  · exact d.onAsic_kept _
  · exact d.sdoUpload_kept _ _
  · exact d.sdoUpload_kept _ _
  · exact d.sdoDownload_kept _ _ _
  · exact d.sdoDownloadOpen_kept _ _ _
  · exact d.sdoSegment_kept _ _ _
  · exact d.canSync_kept _
  · exact d.rpdo_kept _ _
  · exact d.onAsic_kept _
  · exact .refl d
theorem Dev.canReceive_kept (d : Dev) (i : Instr) : d.Kept (d.canReceive i) := by
  unfold Dev.canReceive
  split
  · exact .refl d
  · split
    · exact ⟨rfl, rfl⟩
    · split
      · exact Dev.Kept.trans (e := { d with asic := _ }) ⟨rfl, rfl⟩ (Dev.canServe_kept _ i)
      · split
        · exact ⟨rfl, rfl⟩
        · exact ⟨rfl, rfl⟩
theorem Dev.canResume_kept (d : Dev) : d.Kept d.canResume := by
  unfold Dev.canResume
  split
  · exact .refl d
  · exact ((d.onAsic_kept _).trans (Dev.foldl_kept _ _ (fun e i => e.canServe_kept i) _)).onAsic _
theorem Dev.firmwareAlive_kept (d : Dev) : d.Kept d.firmwareAlive := by
  unfold Dev.firmwareAlive
  split
  · exact (d.onAsic_kept _).trans (Dev.canResume_kept _)
  · exact .refl d
theorem Dev.firmwareRevert_kept (d : Dev) : d.Kept d.firmwareRevert := by
  unfold Dev.firmwareRevert
  simp only
  split
  · exact (d.onAsic_kept _).trans (Dev.canResume_kept _)
  · exact d.onAsic_kept _

/-! ### NVM and the second of `TS0` -/

theorem Dev.commitStart_kept (d : Dev) : d.Kept d.commitStart := by
  unfold Dev.commitStart
  split
  · exact .refl d
  · simp only
    split
    · exact .refl d
    · split
      · exact (d.onAsic_kept _).onAsic _
      · exact ⟨rfl, rfl⟩
theorem Dev.commitComplete_kept (d : Dev) (v : Bool) : d.Kept (d.commitComplete v) := by
  unfold Dev.commitComplete
  repeat' split
  all_goals first
    | exact .refl d
    | exact d.onNvm_kept _
    | exact (d.onNvm_kept _).onAsic _
theorem Dev.scrubPage_kept (d : Dev) (p e : Nat) : d.Kept (d.scrubPage p e) := by
  unfold Dev.scrubPage
  split
  · exact .refl d
  · split
    · exact d.onAsic_kept _
    · exact (d.onNvm_kept _).onAsic _
    · exact .refl d
theorem Dev.loadDone_kept (d : Dev) : d.Kept d.loadDone := by
  unfold Dev.loadDone
  split
  · exact .refl d
  · exact d.onAsic_kept _
theorem Dev.scaleBoundary_kept (d : Dev) (k : Nat) : d.Kept (d.scaleBoundary k) := by
  unfold Dev.scaleBoundary
  simp only
  split
  · exact ⟨rfl, rfl⟩
  · exact d.onAsic_kept _
theorem Dev.configurationLoad_kept (d : Dev) : d.Kept d.configurationLoad := by
  unfold Dev.configurationLoad
  simp only
  split
  · exact .refl d
  · exact ⟨rfl, rfl⟩
theorem Dev.logSeal_kept (d : Dev) : d.Kept d.logSeal := (d.onAsic_kept _).onNvm _
theorem Dev.compareSeal_kept (d : Dev) : d.Kept d.compareSeal := by
  unfold Dev.compareSeal
  simp only
  split
  · exact d.logSeal_kept
  · split
    · split
      · exact ((d.onAsic_kept _).onAsic _).onNvm _
      · exact (d.onAsic_kept _).onNvm _
    · exact .refl d
theorem Dev.coldComplete_kept (d : Dev) : d.Kept d.coldComplete := by
  unfold Dev.coldComplete
  simp only
  split
  · exact .refl d
  · exact Dev.Kept.trans (e := { d with asic := _ }) ⟨rfl, rfl⟩ (Dev.compareSeal_kept _)

theorem Dev.braceExit_kept (d : Dev) (vin : Nat) : d.Kept (d.braceExit vin) := by
  unfold Dev.braceExit
  simp only
  repeat' split
  all_goals first
    | exact .refl d
    | exact d.onAsic_kept _

end Sys2Proof.Machine
end

