-- ==== Sys2Proof/Laws/Exec.lean ====
section
/-! SUPPORT. What any command can do to the supply and to the core of the keep-alive block. -/

namespace Sys2Proof.Machine

theorem State.run_kept {s t : State} {f : Asic → Asic} (h : s.run f = .next t) : s.dev.Kept t.dev := by
  cases h; exact s.dev.run_kept f
theorem State.act_kept {s t : State} {f : Dev → Dev} (h : s.act f = .next t) (hf : s.dev.Kept (f s.dev)) : s.dev.Kept t.dev := by
  cases h; exact hf
theorem State.awake_kept {s t : State} {f : Dev → Dev} (h : s.awake f = .next t) (hf : s.dev.Kept (f s.dev)) : s.dev.Kept t.dev := by
  refine State.act_kept h ?_
  split
  · exact .refl _
  · exact hf

/-- The commands that act on the supply or on the core of the keep-alive block. -/
def suppliesCommand : Instr → Bool
  | .vinQualified | .braceEntry _ | .shelfEntry | .keepSecondTick | .vinComparatorChange _ | .holdUpStoreExhausted
  | .keepAliveRailLoss | .vkeepLevelChange _ | .sealSample _ => true
  | _ => false

theorem supplies_cases (c : Instr) (h : suppliesCommand c = true) :
    c = .vinQualified ∨ (∃ v, c = .braceEntry v) ∨ c = .shelfEntry ∨ c = .keepSecondTick ∨ (∃ v, c = .vinComparatorChange v) ∨
      c = .holdUpStoreExhausted ∨ c = .keepAliveRailLoss ∨ (∃ b, c = .vkeepLevelChange b) ∨ ∃ b, c = .sealSample b := by
  cases c <;> first | (cases h; done) | simp

/-- Every other command keeps them. -/
theorem exec_kept (c : Instr) (s t : State) (hc : suppliesCommand c = false) (h : exec c s = .next t) : s.dev.Kept t.dev := by
  cases c with
  | vinQualified | braceEntry | shelfEntry | keepSecondTick | sealSample | vinComparatorChange | holdUpStoreExhausted |
  keepAliveRailLoss | vkeepLevelChange => cases hc
  | ovenStartCheck | bkpllLocked | syspllLocked | syspllLossOfLock | syspllRelock | syspllSwitchBack | sustainedFallback |
  placementChangeDeferralEnd | underlyingModeUpdate | anchorConditionMet | automaticRecovery | fwCheckpointStart | fwBankSwap | refEdge
  | presenceWindowEnd | laneCalStart | laneCalTableComputed | laneTableSwitch | laneHandoverCutover | tickEnd | freqMonitorWindowEnd |
  calppsEdge | phaseRecord | umpireEvaluation | switchTakeEffect | boclrApply | ledgerPass | dpllUpdate | holdoverModelUpdate |
  historyEntryClose | holdoverLimit | dpllTelemetryRecord | autoMigrationLoad | migrationStart | migrationCutover |
  ovenTemperatureSample | boardTempSample | ovenModelEvaluate | ovenHourlyPoint | ovenModelCommit | ovenFault | ovenFaultClear |
  ovenHandoverSwitch | ovenEmergencyHandover | ovenHandoverSettled | bandStepComplete | apllLockDeclared | apllLossOfLock |
  apllRelockStart | substitutionRestart | hopStart | hopOutputRestart | glideEnd | apllTrimMeasurement | apllHandoverSwitch |
  dividerSync | syncLEdge | safeLevelChange | plsRelayEdge | plsTrackSlot | plsPulseEnd | outputDriverFault | servoSample | servoCoast |
  triggerHandover | triggerEdge | evtEdge | acceptanceWindowClose | gateOpen | gateClose | measurementComplete | measurementTimeout |
  settleEnd | tacCalStart | tacCalTableComputed | tacTableSwitch | tacHandoverTableAccepted | tacHandoverCutover | linkUp | linkDown |
  frameReceived | ptpMessageReceived | ptpScheduledSend | hkcMessageSend | ptpExchangeComplete | ptpGridSample | ptpFaultyExit |
  announceReceiptTimeout | cutThroughFrame | esmcSend | esmcPduReceived | esmcTimeout | passApply | rallyFrameSend | rallyFrameReceived
  | rallySample | rallyPartnerTimeout | rallyAcalEnd | heartbeatSend | heartbeatReceived | mateReady | heartbeatLoss |
  matePlannedHandover | sealLoopOpen | sealLoopClose | impDurationEnd | reorderRelease | recordGrant | starvation | holdLimit |
  holdWatchdog | dmaFlushTimer | descriptorComplete | burstAcknowledged | hkcDescriptorPost | keyTimeout | tvScrub | spiReset |
  spiFrameEnd | pcieReset | txnCheckComplete | txnLeaseExpiry | sdoSessionTimeout | canHeartbeatProduce | canHeartbeatConsumerTimeout |
  busOffRecovery | errorPassive | authAssertion | presenceWindowExpiry | faultSourceAccepted | faultSourceDeasserted | brokenWire |
  pairRestored | faultLRelease | faultRecordClose | recoveryRunReset | nvmBufferTimeout | nvmUnlockTimeout | nvmUnlockLockoutEnd |
  logPageCommit | hourMeterTick | fieldStepStart | fieldStepResult | fieldStepAbandon | tjSample | pcieLinkUp | pcieConfigWrite |
  msixTableWrite | skimTargetReached | calPeriodElapsed | errorActiveReturn | trgPulseEnd => exact State.run_kept h
  | configurationLoad => simp only [exec, execConfigurationLoad] at h; exact State.awake_kept h (Dev.configurationLoad_kept ..)
  | coldSequenceComplete => simp only [exec, execColdSequenceComplete] at h; exact State.awake_kept h (Dev.coldComplete_kept ..)
  | braceExit => simp only [exec, execBraceExit] at h; exact State.act_kept h (Dev.braceExit_kept ..)
  | leaveSafe | enterFactory | leaveFactory | fwArm | fwCancel | umpDisq | umpRequal | umpReeval | umpBoclr | snapshotTake |
  dpllForceAuto | dpllForceFreerun | dpllForceHoldover | hopTableClear | apllRelock | outSyncCommand | tscCancel | tscSetnow | tscSetsec
  | tscStep | trgArm | trgDisarm | egArm | egDisarm | mateRelinquish | mateTake | impArm | impDisarm | recUnmask | recCounterClear |
  dmaFlush | dmaResume | dmaDiscard | txnReq | txnRenew | txnCommit | txnRelease | faultLSoftRelease | fltInjectStop | nvmOpen |
  nvmCommit | nvmClose | nvmUnlock | nvmLock | nvmSavecfg | nvmRead | nvmSetpw | nvmLogclr => exact State.act_kept h (Dev.command_kept ..)
  | fwDataWrite | laneHandoverGo | refConfigWrite | umpOverrideWrite | umpRankWrite | ldgRstGo | dpllEnWrite | dplHocfgWrite |
  dplLoopWrite | dpllMigrationGo | ovenHandoverGo | aplHopGo | apllHandoverGo | aplSpareWrite | outEnableWrite | outSkimWrite |
  tscSnapshot | tscSwoffWrite | egTmoWrite | egConfigWrite | tacHandoverGo | evtConfigWrite | portConfigWrite | rallyAcalGo |
  dmaTailWrite | dmaEnableWrite | heldPairHighWrite | keyWrite | sequenceClearWrite | aliasWrite | blockLockWrite | fltInject |
  nvmBufferWrite | calGo | calFreset => exact State.act_kept h (Dev.write_kept ..)
  | fwAlive => simp only [exec, execFwAlive] at h; exact State.awake_kept h (Dev.firmwareAlive_kept ..)
  | fwRevert => simp only [exec, execFwRevert] at h; exact State.awake_kept h (Dev.firmwareRevert_kept ..)
  | scaleSecondBoundary => simp only [exec, execScaleSecondBoundary] at h; exact State.awake_kept h (Dev.scaleBoundary_kept ..)
  | dmaBurst => simp only [exec, execDmaBurst] at h; exact State.awake_kept h (Dev.dmaBurst_kept ..)
  | registerWrite => exact State.act_kept h (Dev.writeSized_kept ..)
  | pairLowWordRead | tscFracRead => exact State.act_kept h (Dev.read_kept ..)
  | spiReadFrame => simp only [exec, execSpiReadFrame] at h; exact State.act_kept h (Dev.spiRead_kept ..)
  | spiWriteFrame => simp only [exec, execSpiWriteFrame] at h; exact State.act_kept h (Dev.spiWrite_kept ..)
  | pcieMemoryRead => simp only [exec, execPcieMemoryRead] at h; exact State.act_kept h (Dev.pcieRead_kept ..)
  | pcieMemoryWrite => simp only [exec, execPcieMemoryWrite] at h; exact State.act_kept h (Dev.pcieWrite_kept ..)
  | nmtStartRemoteNode => simp only [exec, execNmtStartRemoteNode] at h; exact State.awake_kept h (Dev.canReceive_kept ..)
  | nmtStopRemoteNode => simp only [exec, execNmtStopRemoteNode] at h; exact State.awake_kept h (Dev.canReceive_kept ..)
  | nmtEnterPreOperational => simp only [exec, execNmtEnterPreOperational] at h; exact State.awake_kept h (Dev.canReceive_kept ..)
  | nmtResetNode => simp only [exec, execNmtResetNode] at h; exact State.awake_kept h (Dev.canReceive_kept ..)
  | nmtResetCommunication => simp only [exec, execNmtResetCommunication] at h; exact State.awake_kept h (Dev.canReceive_kept ..)
  | sdoExpeditedUpload => simp only [exec, execSdoExpeditedUpload] at h; exact State.awake_kept h (Dev.canReceive_kept ..)
  | sdoExpeditedDownload => simp only [exec, execSdoExpeditedDownload] at h; exact State.awake_kept h (Dev.canReceive_kept ..)
  | sdoSegmentedUpload => simp only [exec, execSdoSegmentedUpload] at h; exact State.awake_kept h (Dev.canReceive_kept ..)
  | sdoSegmentedDownload => simp only [exec, execSdoSegmentedDownload] at h; exact State.awake_kept h (Dev.canReceive_kept ..)
  | sdoSegment => simp only [exec, execSdoSegment] at h; exact State.awake_kept h (Dev.canReceive_kept ..)
  | canSyncReceived => simp only [exec, execCanSyncReceived] at h; exact State.awake_kept h (Dev.canReceive_kept ..)
  | rpdoReceived => simp only [exec, execRpdoReceived] at h; exact State.awake_kept h (Dev.canReceive_kept ..)
  | canHeartbeatReceived => simp only [exec, execCanHeartbeatReceived] at h; exact State.awake_kept h (Dev.canReceive_kept ..)
  | tpdoEventTimer => simp only [exec, execTpdoEventTimer] at h; exact State.awake_kept h (Dev.tpdoTimer_kept ..)
  | nvmCommitStart => simp only [exec, execNvmCommitStart] at h; exact State.act_kept h (Dev.commitStart_kept ..)
  | nvmCommitComplete => simp only [exec, execNvmCommitComplete] at h; exact State.act_kept h (Dev.commitComplete_kept ..)
  | nvmScrub => simp only [exec, execNvmScrub] at h; exact State.act_kept h (Dev.scrubPage_kept ..)
  | inhibitTimeExpiry => simp only [exec, execInhibitTimeExpiry] at h; exact State.awake_kept h (Dev.inhibitEnd_kept ..)
  | nvmPageLoadComplete => simp only [exec, execNvmPageLoadComplete] at h; exact State.awake_kept h (Dev.loadDone_kept ..)

theorem Dev.Kept.count {d e : Dev} (h : d.Kept e) : e.kep.count = d.kep.count := by
  have := congrArg Kep.count h.1; exact this
theorem Dev.Kept.broken {d e : Dev} (h : d.Kept e) : e.kep.broken = d.kep.broken := by
  have := congrArg Kep.broken h.1; exact this
theorem Dev.sealSample_kep (d : Dev) (b : Bool) : (d.sealSample b).kep = d.kep.sample b := by
  unfold Dev.sealSample; simp only; split <;> rfl
/-- The seal history is as before. -/
def Dev.SameSeal (d e : Dev) : Prop := e.kep.count = d.kep.count ∧ e.kep.broken = d.kep.broken
theorem State.act_seal {s t : State} {f : Dev → Dev} (h : s.act f = .next t) (g : s.dev.SameSeal (f s.dev)) : s.dev.SameSeal t.dev := by
  cases h; exact g
/-- What a command does to the seal history: nothing, a sample of the loop, or its loss with the keep-alive rail (R433, R485). -/
theorem exec_seal (c : Instr) (s t : State) (ht : exec c s = .next t) :
    s.dev.SameSeal t.dev ∨ (∃ b, t.dev.kep = s.dev.kep.sample b) ∨ (c = .keepAliveRailLoss ∧ t.dev.kep.count = 0) := by
  by_cases hs : suppliesCommand c = false
  · have k := exec_kept c _ t hs ht
    exact .inl ⟨k.count, k.broken⟩
  · rcases supplies_cases c (by simpa using hs) with rfl | ⟨v, rfl⟩ | rfl | rfl | ⟨v, rfl⟩ | rfl | rfl | ⟨b, rfl⟩ | ⟨b, rfl⟩
    · left; refine State.act_seal ht ?_
      unfold Dev.vinQualified; simp only; repeat' split
      all_goals exact ⟨rfl, rfl⟩
    · left; simp only [exec, execBraceEntry] at ht; refine State.act_seal ht ?_
      unfold Dev.braceEntry; simp only; split <;> exact ⟨rfl, rfl⟩
    · left; refine State.act_seal ht ?_
      unfold Dev.shelfEntry; simp only; split <;> exact ⟨rfl, rfl⟩
    · left; refine State.act_seal ht ?_
      unfold Dev.keepTick; split <;> exact ⟨rfl, rfl⟩
    · left; simp only [exec, execVinComparatorChange] at ht; exact State.act_seal ht ⟨rfl, rfl⟩
    · left; refine State.act_seal ht ?_
      unfold Dev.holdUpOut; simp only; repeat' split
      all_goals exact ⟨rfl, rfl⟩
    · by_cases h : (!s.dev.sup.shelf || s.dev.kep.vkeepOk) = true
      · left; refine State.act_seal ht ?_
        unfold Dev.railLoss; rw [if_pos h]; exact ⟨rfl, rfl⟩
      · right; right
        refine ⟨rfl, ?_⟩
        have : t.dev = s.dev.railLoss := (congrArg State.dev (Host.Outcome.next.inj ht)).symm
        rw [this, Dev.railLoss, if_neg h]; rfl
    · left; simp only [exec, execVkeepLevelChange] at ht; exact State.act_seal ht ⟨rfl, rfl⟩
    · right; left
      refine ⟨b, ?_⟩
      have : t.dev = s.dev.sealSample b := (congrArg State.dev (Host.Outcome.next.inj ht)).symm
      rw [this, Dev.sealSample_kep]

/-! ### SHELF (R72) -/

theorem State.act_shelf (s : State) (f : Dev → Dev) (h : f s.dev = s.dev) : s.act f = .next s := by
  rw [State.act, h]
theorem State.awake_shelf (s : State) (f : Dev → Dev) (h : s.dev.sup.shelf = true) : s.awake f = .next s := by
  rw [State.awake, State.act, if_pos h]
theorem State.run_shelf (s : State) (f : Asic → Asic) (h : s.dev.sup.shelf = true) : s.run f = .next s := by
  rw [State.run, State.act, Dev.run_shelf _ _ h]
theorem Dev.write_shelf (d : Dev) (m : Master) (addr n : Nat) (h : d.sup.shelf = true) : d.write m addr n = d := by
  simp [Dev.write, Dev.busRuns, h]
theorem Dev.writeSized_shelf (d : Dev) (m : Master) (addr size : Nat) (v : Word) (h : d.sup.shelf = true) : d.writeSized m addr size v = d := by
  simp [Dev.writeSized, Dev.busRuns, h]
theorem Dev.read_shelf (d : Dev) (m : Master) (addr : Nat) (h : d.sup.shelf = true) : d.read m addr = d := by
  simp [Dev.read, Dev.busRuns, h]

/-- A command that does not act in SHELF leaves the whole state there as it is. -/
theorem exec_shelf (c : Instr) (s : State) (hc : shelfCommand c = false) (h : s.dev.sup.shelf = true) : exec c s = .next s := by
  cases c with
  | vinQualified | keepSecondTick | sealSample | nvmCommitComplete | vinComparatorChange | holdUpStoreExhausted |
  keepAliveRailLoss | vkeepLevelChange => cases hc
  | ovenStartCheck | bkpllLocked | syspllLocked | syspllLossOfLock | syspllRelock | syspllSwitchBack | sustainedFallback
  | placementChangeDeferralEnd | underlyingModeUpdate | anchorConditionMet | automaticRecovery | fwCheckpointStart |
  fwBankSwap | refEdge | presenceWindowEnd | laneCalStart | laneCalTableComputed | laneTableSwitch | laneHandoverCutover
  | tickEnd | freqMonitorWindowEnd | calppsEdge | phaseRecord | umpireEvaluation | switchTakeEffect | boclrApply |
  ledgerPass | dpllUpdate | holdoverModelUpdate | historyEntryClose | holdoverLimit | dpllTelemetryRecord |
  autoMigrationLoad | migrationStart | migrationCutover | ovenTemperatureSample | boardTempSample | ovenModelEvaluate |
  ovenHourlyPoint | ovenModelCommit | ovenFault | ovenFaultClear | ovenHandoverSwitch | ovenEmergencyHandover |
  ovenHandoverSettled | bandStepComplete | apllLockDeclared | apllLossOfLock | apllRelockStart | substitutionRestart |
  hopStart | hopOutputRestart | glideEnd | apllTrimMeasurement | apllHandoverSwitch | dividerSync | syncLEdge |
  safeLevelChange | plsRelayEdge | plsTrackSlot | plsPulseEnd | outputDriverFault | servoSample | servoCoast |
  triggerHandover | triggerEdge | evtEdge | acceptanceWindowClose | gateOpen | gateClose | measurementComplete |
  measurementTimeout | settleEnd | tacCalStart | tacCalTableComputed | tacTableSwitch | tacHandoverTableAccepted |
  tacHandoverCutover | linkUp | linkDown | frameReceived | ptpMessageReceived | ptpScheduledSend | hkcMessageSend |
  ptpExchangeComplete | ptpGridSample | ptpFaultyExit | announceReceiptTimeout | cutThroughFrame | esmcSend |
  esmcPduReceived | esmcTimeout | passApply | rallyFrameSend | rallyFrameReceived | rallySample | rallyPartnerTimeout |
  rallyAcalEnd | heartbeatSend | heartbeatReceived | mateReady | heartbeatLoss | matePlannedHandover | sealLoopOpen |
  sealLoopClose | impDurationEnd | reorderRelease | recordGrant | starvation | holdLimit | holdWatchdog | dmaFlushTimer
  | descriptorComplete | burstAcknowledged | hkcDescriptorPost | keyTimeout | tvScrub | spiReset | spiFrameEnd |
  pcieReset | txnCheckComplete | txnLeaseExpiry | sdoSessionTimeout | canHeartbeatProduce | canHeartbeatConsumerTimeout
  | busOffRecovery | errorPassive | authAssertion | presenceWindowExpiry | faultSourceAccepted | faultSourceDeasserted |
  brokenWire | pairRestored | faultLRelease | faultRecordClose | recoveryRunReset | nvmBufferTimeout | nvmUnlockTimeout
  | nvmUnlockLockoutEnd | logPageCommit | hourMeterTick | fieldStepStart | fieldStepResult | fieldStepAbandon | tjSample
  | pcieLinkUp | pcieConfigWrite | msixTableWrite | skimTargetReached | calPeriodElapsed | errorActiveReturn |
  trgPulseEnd => exact State.run_shelf s _ h
  | configurationLoad => simp only [exec, execConfigurationLoad]; exact State.awake_shelf s _ h
  | coldSequenceComplete => simp only [exec, execColdSequenceComplete]; exact State.awake_shelf s _ h
  | fwAlive => simp only [exec, execFwAlive]; exact State.awake_shelf s _ h
  | fwRevert => simp only [exec, execFwRevert]; exact State.awake_shelf s _ h
  | scaleSecondBoundary => simp only [exec, execScaleSecondBoundary]; exact State.awake_shelf s _ h
  | dmaBurst => simp only [exec, execDmaBurst]; exact State.awake_shelf s _ h
  | nmtStartRemoteNode => simp only [exec, execNmtStartRemoteNode]; exact State.awake_shelf s _ h
  | nmtStopRemoteNode => simp only [exec, execNmtStopRemoteNode]; exact State.awake_shelf s _ h
  | nmtEnterPreOperational => simp only [exec, execNmtEnterPreOperational]; exact State.awake_shelf s _ h
  | nmtResetNode => simp only [exec, execNmtResetNode]; exact State.awake_shelf s _ h
  | nmtResetCommunication => simp only [exec, execNmtResetCommunication]; exact State.awake_shelf s _ h
  | sdoExpeditedUpload => simp only [exec, execSdoExpeditedUpload]; exact State.awake_shelf s _ h
  | sdoExpeditedDownload => simp only [exec, execSdoExpeditedDownload]; exact State.awake_shelf s _ h
  | sdoSegmentedUpload => simp only [exec, execSdoSegmentedUpload]; exact State.awake_shelf s _ h
  | sdoSegmentedDownload => simp only [exec, execSdoSegmentedDownload]; exact State.awake_shelf s _ h
  | sdoSegment => simp only [exec, execSdoSegment]; exact State.awake_shelf s _ h
  | canSyncReceived => simp only [exec, execCanSyncReceived]; exact State.awake_shelf s _ h
  | tpdoEventTimer => simp only [exec, execTpdoEventTimer]; exact State.awake_shelf s _ h
  | rpdoReceived => simp only [exec, execRpdoReceived]; exact State.awake_shelf s _ h
  | canHeartbeatReceived => simp only [exec, execCanHeartbeatReceived]; exact State.awake_shelf s _ h
  | inhibitTimeExpiry => simp only [exec, execInhibitTimeExpiry]; exact State.awake_shelf s _ h
  | nvmPageLoadComplete => simp only [exec, execNvmPageLoadComplete]; exact State.awake_shelf s _ h
  | braceEntry => simp only [exec, execBraceEntry]; exact State.act_shelf s _ (by simp [Dev.braceEntry, h])
  | braceExit => simp only [exec, execBraceExit]; exact State.act_shelf s _ (by simp [Dev.braceExit, h])
  | shelfEntry => simp only [exec, execShelfEntry]; exact State.act_shelf s _ (by simp [Dev.shelfEntry, h])
  | leaveSafe | enterFactory | leaveFactory | fwDataWrite | fwArm | fwCancel | laneHandoverGo | refConfigWrite | umpDisq
  | umpRequal | umpOverrideWrite | umpRankWrite | umpReeval | umpBoclr | snapshotTake | ldgRstGo | dpllEnWrite |
  dpllForceAuto | dpllForceFreerun | dpllForceHoldover | dplHocfgWrite | dplLoopWrite | dpllMigrationGo | ovenHandoverGo
  | aplHopGo | hopTableClear | apllRelock | apllHandoverGo | aplSpareWrite | outEnableWrite | outSyncCommand |
  outSkimWrite | tscSnapshot | tscCancel | tscSetnow | tscSetsec | tscStep | tscSwoffWrite | trgArm | trgDisarm | egArm
  | egDisarm | egTmoWrite | egConfigWrite | tacHandoverGo | evtConfigWrite | portConfigWrite | rallyAcalGo |
  mateRelinquish | mateTake | impArm | impDisarm | recUnmask | recCounterClear | dmaFlush | dmaTailWrite | dmaResume |
  dmaDiscard | dmaEnableWrite | heldPairHighWrite | keyWrite | sequenceClearWrite | aliasWrite | blockLockWrite | txnReq
  | txnRenew | txnCommit | txnRelease | faultLSoftRelease | fltInject | fltInjectStop | nvmOpen | nvmCommit | nvmClose |
  nvmUnlock | nvmLock | nvmSavecfg | nvmRead | nvmBufferWrite | nvmSetpw | nvmLogclr | calGo | calFreset =>
    exact State.act_shelf s _ (Dev.write_shelf _ _ _ _ h)
  | registerWrite => exact State.act_shelf s _ (Dev.writeSized_shelf _ _ _ _ _ h)
  | pairLowWordRead | tscFracRead => exact State.act_shelf s _ (Dev.read_shelf _ _ _ h)
  | spiReadFrame => simp only [exec, execSpiReadFrame]; exact State.act_shelf s _ (by simp [Dev.spiRead, h, Dev.busRuns])
  | spiWriteFrame => simp only [exec, execSpiWriteFrame]; exact State.act_shelf s _ (by simp [Dev.spiWrite, h, Dev.busRuns])
  | pcieMemoryRead => simp only [exec, execPcieMemoryRead]; exact State.act_shelf s _ (by simp [Dev.pcieRead, h, Dev.busRuns])
  | pcieMemoryWrite => simp only [exec, execPcieMemoryWrite]; exact State.act_shelf s _ (by simp [Dev.pcieWrite, h, Dev.busRuns])
  | nvmCommitStart => simp only [exec, execNvmCommitStart]; exact State.act_shelf s _ (by simp only [Dev.commitStart, h, Bool.true_or, if_true]; split <;> rfl)
  | nvmScrub => simp only [exec, execNvmScrub]; exact State.act_shelf s _ (by simp [Dev.scrubPage, h])

end Sys2Proof.Machine
end

