-- ==== Sys2Proof/Laws/Faults.lean ====
section
/-! SUPPORT. Laws of the fault pairs. -/

namespace Sys2Proof.Machine

@[simp] theorem Asic.setPair_pair (a : Asic) (s : Nat) (p : Pair) : (a.setPair s p).pair s = p := Tab.get_set_same _ _ _
theorem Asic.setPair_pair_ne (a : Asic) {s i : Nat} (p : Pair) (h : i ≠ s) : (a.setPair s p).pair i = a.pair i := Tab.get_set_ne _ _ h
@[simp] theorem Asic.assertOcc_pair (a : Asic) (o : Occ) (s : Nat) : (a.assertOcc o).pair s = a.pair s := rfl
/-- A unit whose level source is on holds its pair. -/
theorem Asic.levelOn_has (a : Asic) (s u d : Nat) : ((a.levelOn s u d).pair s).has u = true := by
  unfold Asic.levelOn
  split
  · assumption
  · simp [Pair.has]
/-- A unit whose level source is off does not. -/
theorem Asic.levelOff_has (a : Asic) (s u : Nat) : ((a.levelOff s u).pair s).has u = false := by
  unfold Asic.levelOff
  split
  · simp [Pair.has]
  · next h => simpa using h

end Sys2Proof.Machine
end

