-- ==== Sys2Proof/Laws/FrameBank.lean ====
section
/-! SUPPORT. Operations that leave the field `Reg.GLB_FWCTL.BANK` alone. -/

set_option linter.unusedSimpArgs false
set_option linter.unusedSectionVars false

namespace Sys2Proof.Machine

theorem Asic.put_bank (a : Asic) (f : Fld) (n : Nat) (h : f.addr ≠ Reg.GLB_FWCTL.BANK.addr ∨ f.lsb + f.width ≤ Reg.GLB_FWCTL.BANK.lsb ∨ Reg.GLB_FWCTL.BANK.lsb + Reg.GLB_FWCTL.BANK.width ≤ f.lsb) : (a.put f n).get Reg.GLB_FWCTL.BANK = a.get Reg.GLB_FWCTL.BANK := Asic.get_put_ne _ _ _ _ h
theorem Asic.putS_bank (a : Asic) (f : Fld) (n : Int) (h : f.addr ≠ Reg.GLB_FWCTL.BANK.addr ∨ f.lsb + f.width ≤ Reg.GLB_FWCTL.BANK.lsb ∨ Reg.GLB_FWCTL.BANK.lsb + Reg.GLB_FWCTL.BANK.width ≤ f.lsb) : (a.putS f n).get Reg.GLB_FWCTL.BANK = a.get Reg.GLB_FWCTL.BANK := Asic.get_put_ne _ _ _ _ h
theorem Asic.putB_bank (a : Asic) (f : Fld) (n : Bool) (h : f.addr ≠ Reg.GLB_FWCTL.BANK.addr ∨ f.lsb + f.width ≤ Reg.GLB_FWCTL.BANK.lsb ∨ Reg.GLB_FWCTL.BANK.lsb + Reg.GLB_FWCTL.BANK.width ≤ f.lsb) : (a.putB f n).get Reg.GLB_FWCTL.BANK = a.get Reg.GLB_FWCTL.BANK := Asic.get_put_ne _ _ _ _ h
theorem Asic.addSat_bank (a : Asic) (f : Fld) (n : Nat) (h : f.addr ≠ Reg.GLB_FWCTL.BANK.addr ∨ f.lsb + f.width ≤ Reg.GLB_FWCTL.BANK.lsb ∨ Reg.GLB_FWCTL.BANK.lsb + Reg.GLB_FWCTL.BANK.width ≤ f.lsb) : (a.addSat f n).get Reg.GLB_FWCTL.BANK = a.get Reg.GLB_FWCTL.BANK := Asic.get_put_ne _ _ _ _ h
theorem Asic.addWrap_bank (a : Asic) (f : Fld) (n : Nat) (h : f.addr ≠ Reg.GLB_FWCTL.BANK.addr ∨ f.lsb + f.width ≤ Reg.GLB_FWCTL.BANK.lsb ∨ Reg.GLB_FWCTL.BANK.lsb + Reg.GLB_FWCTL.BANK.width ≤ f.lsb) : (a.addWrap f n).get Reg.GLB_FWCTL.BANK = a.get Reg.GLB_FWCTL.BANK := Asic.get_put_ne _ _ _ _ h
theorem Asic.event_bank (a : Asic) (f : Fld) (h : f.addr ≠ Reg.GLB_FWCTL.BANK.addr ∨ f.lsb + f.width ≤ Reg.GLB_FWCTL.BANK.lsb ∨ Reg.GLB_FWCTL.BANK.lsb + Reg.GLB_FWCTL.BANK.width ≤ f.lsb) (h' : f.addr ≠ Reg.GLB_FWCTL.BANK.addr ∨ 8 ≤ Reg.GLB_FWCTL.BANK.lsb) : (a.event f).get Reg.GLB_FWCTL.BANK = a.get Reg.GLB_FWCTL.BANK := Asic.get_event_ne _ _ _ h (h'.imp id .inl)
theorem Asic.put2_bank (a : Asic) (f f' : Fld) (n : Nat) (h : f.addr ≠ Reg.GLB_FWCTL.BANK.addr ∨ f.lsb + f.width ≤ Reg.GLB_FWCTL.BANK.lsb ∨ Reg.GLB_FWCTL.BANK.lsb + Reg.GLB_FWCTL.BANK.width ≤ f.lsb) (h' : f'.addr ≠ Reg.GLB_FWCTL.BANK.addr ∨ f'.lsb + f'.width ≤ Reg.GLB_FWCTL.BANK.lsb ∨ Reg.GLB_FWCTL.BANK.lsb + Reg.GLB_FWCTL.BANK.width ≤ f'.lsb) : (a.put2 f f' n).get Reg.GLB_FWCTL.BANK = a.get Reg.GLB_FWCTL.BANK := by
  unfold Asic.put2
  rw [Asic.get_put_ne _ _ _ _ h', Asic.get_put_ne _ _ _ _ h]
theorem Asic.put2S_bank (a : Asic) (f f' : Fld) (n : Int) (h : f.addr ≠ Reg.GLB_FWCTL.BANK.addr ∨ f.lsb + f.width ≤ Reg.GLB_FWCTL.BANK.lsb ∨ Reg.GLB_FWCTL.BANK.lsb + Reg.GLB_FWCTL.BANK.width ≤ f.lsb) (h' : f'.addr ≠ Reg.GLB_FWCTL.BANK.addr ∨ f'.lsb + f'.width ≤ Reg.GLB_FWCTL.BANK.lsb ∨ Reg.GLB_FWCTL.BANK.lsb + Reg.GLB_FWCTL.BANK.width ≤ f'.lsb) : (a.put2S f f' n).get Reg.GLB_FWCTL.BANK = a.get Reg.GLB_FWCTL.BANK := by
  unfold Asic.put2S Asic.put2
  rw [Asic.get_put_ne _ _ _ _ h', Asic.get_put_ne _ _ _ _ h]
theorem Asic.each_bank (a : Asic) (l : List Nat) (f : Asic → Nat → Asic) (h : ∀ x i, (f x i).get Reg.GLB_FWCTL.BANK = x.get Reg.GLB_FWCTL.BANK) : (a.each l f).get Reg.GLB_FWCTL.BANK = a.get Reg.GLB_FWCTL.BANK := by
  induction l generalizing a with
  | nil => rfl
  | cons i l ih => exact (ih (f a i)).trans (h a i)
theorem Asic.onlyIf_bank (a : Asic) (c : Bool) (f : Asic → Asic) (h : ∀ x, (f x).get Reg.GLB_FWCTL.BANK = x.get Reg.GLB_FWCTL.BANK) : (a.onlyIf c f).get Reg.GLB_FWCTL.BANK = a.get Reg.GLB_FWCTL.BANK := by
  unfold Asic.onlyIf
  split
  · exact h a
  · rfl
theorem Asic.ite_bank (c : Prop) [Decidable c] (x y : Asic) : (if c then x else y).get Reg.GLB_FWCTL.BANK = if c then x.get Reg.GLB_FWCTL.BANK else y.get Reg.GLB_FWCTL.BANK := apply_ite (fun z => Asic.get z Reg.GLB_FWCTL.BANK) _ _ _
theorem Asic.foldl_bank {α : Type} (a : Asic) (l : List α) (f : Asic → α → Asic) (h : ∀ x i, (f x i).get Reg.GLB_FWCTL.BANK = x.get Reg.GLB_FWCTL.BANK) : (l.foldl f a).get Reg.GLB_FWCTL.BANK = a.get Reg.GLB_FWCTL.BANK := by
  induction l generalizing a with
  | nil => rfl
  | cons i l ih => exact (ih (f a i)).trans (h a i)


theorem Asic.dropLatches_bank (a : Asic) (owner : Nat) : (Asic.dropLatches a owner).get Reg.GLB_FWCTL.BANK = a.get Reg.GLB_FWCTL.BANK := by
  unfold Asic.dropLatches
  simp +arith -implicitDefEqProofs [Asic.get_mk, Asic.get_of_regs]

theorem Asic.nvmLock_bank (a : Asic) (m : Nat) : (Asic.nvmLock a m).get Reg.GLB_FWCTL.BANK = a.get Reg.GLB_FWCTL.BANK := by
  unfold Asic.nvmLock
  simp +arith -implicitDefEqProofs [Asic.put_bank, Asic.get_mk, Asic.get_of_regs, Asic.foldl_bank]

theorem Asic.releaseBuffer_bank (a : Asic) : (Asic.releaseBuffer a).get Reg.GLB_FWCTL.BANK = a.get Reg.GLB_FWCTL.BANK := by
  unfold Asic.releaseBuffer
  simp +arith -implicitDefEqProofs [Asic.put_bank, Asic.get_mk, Asic.get_of_regs]

theorem Asic.nvmReset_bank (a : Asic) (m : Nat) : (Asic.nvmReset a m).get Reg.GLB_FWCTL.BANK = a.get Reg.GLB_FWCTL.BANK := by
  unfold Asic.nvmReset
  simp +arith -implicitDefEqProofs [Asic.nvmLock_bank, Asic.releaseBuffer_bank, Asic.get_mk, Asic.get_of_regs, Asic.ite_bank]

theorem Asic.rearm_bank (a : Asic) : (Asic.rearm a).get Reg.GLB_FWCTL.BANK = a.get Reg.GLB_FWCTL.BANK := by
  unfold Asic.rearm
  simp +arith -implicitDefEqProofs [Asic.put_bank, Asic.get_mk, Asic.get_of_regs]

theorem Asic.copyPlans_bank (a : Asic) : (Asic.copyPlans a).get Reg.GLB_FWCTL.BANK = a.get Reg.GLB_FWCTL.BANK := by
  unfold Asic.copyPlans
  simp +arith -implicitDefEqProofs [Asic.get_mk, Asic.get_of_regs]

theorem Asic.txnFree_bank (a : Asic) : (Asic.txnFree a).get Reg.GLB_FWCTL.BANK = a.get Reg.GLB_FWCTL.BANK := by
  unfold Asic.txnFree
  simp +arith -implicitDefEqProofs [Asic.copyPlans_bank, Asic.put_bank, Asic.get_mk, Asic.get_of_regs]

theorem Asic.masterReset_bank (a : Asic) (m : Nat) : (Asic.masterReset a m).get Reg.GLB_FWCTL.BANK = a.get Reg.GLB_FWCTL.BANK := by
  unfold Asic.masterReset
  simp +arith -implicitDefEqProofs [Asic.nvmReset_bank, Asic.rearm_bank, Asic.txnFree_bank, Asic.dropLatches_bank, Asic.event_bank, Asic.get_mk, Asic.get_of_regs, Asic.ite_bank]

theorem Asic.closeWindow'_bank (a : Asic) : (Asic.closeWindow' a).get Reg.GLB_FWCTL.BANK = a.get Reg.GLB_FWCTL.BANK := by
  unfold Asic.closeWindow'
  simp +arith -implicitDefEqProofs [Asic.get_mk, Asic.get_of_regs]

theorem Asic.hkcReset_bank (a : Asic) : (Asic.hkcReset a).get Reg.GLB_FWCTL.BANK = a.get Reg.GLB_FWCTL.BANK := by
  unfold Asic.hkcReset
  simp +arith -implicitDefEqProofs [Asic.dropLatches_bank, Asic.masterReset_bank, Asic.closeWindow'_bank, Asic.get_mk, Asic.get_of_regs]

theorem Asic.logEntry_bank (a : Asic) (code' : Nat) (item : Nat) (data : Nat) : (Asic.logEntry a code' item data).get Reg.GLB_FWCTL.BANK = a.get Reg.GLB_FWCTL.BANK := by
  unfold Asic.logEntry
  simp +arith -implicitDefEqProofs [Asic.put_bank, Asic.get_mk, Asic.get_of_regs, Asic.onlyIf_bank, Asic.ite_bank]

theorem Asic.sendEmcy_bank (a : Asic) : (Asic.sendEmcy a).get Reg.GLB_FWCTL.BANK = a.get Reg.GLB_FWCTL.BANK := by
  unfold Asic.sendEmcy
  (repeat' split) <;> simp +arith -implicitDefEqProofs [Asic.get_mk, Asic.get_of_regs, Asic.ite_bank]

end Sys2Proof.Machine
end

