-- ==== Sys2Proof/Laws/FrameCanRx.lean ====
section
/-! SUPPORT. Operations that leave `can.rx` alone. -/

set_option linter.unusedSimpArgs false
set_option linter.unusedSectionVars false

namespace Sys2Proof.Machine

theorem Asic.each_can_rx (a : Asic) (l : List Nat) (f : Asic → Nat → Asic) (h : ∀ x i, (f x i).can.rx = x.can.rx) : (a.each l f).can.rx = a.can.rx := by
  induction l generalizing a with
  | nil => rfl
  | cons i l ih => exact (ih (f a i)).trans (h a i)
theorem Asic.onlyIf_can_rx (a : Asic) (c : Bool) (f : Asic → Asic) (h : ∀ x, (f x).can.rx = x.can.rx) : (a.onlyIf c f).can.rx = a.can.rx := by
  unfold Asic.onlyIf
  split
  · exact h a
  · rfl
theorem Asic.ite_can_rx (c : Prop) [Decidable c] (x y : Asic) : (if c then x else y).can.rx = if c then x.can.rx else y.can.rx := apply_ite (fun z : Asic => z.can.rx) _ _ _
theorem Asic.foldl_can_rx {α : Type} (a : Asic) (l : List α) (f : Asic → α → Asic) (h : ∀ x i, (f x i).can.rx = x.can.rx) : (l.foldl f a).can.rx = a.can.rx := by
  induction l generalizing a with
  | nil => rfl
  | cons i l ih => exact (ih (f a i)).trans (h a i)

theorem Asic.dropLatches_can_rx (a : Asic) (owner : Nat) : (Asic.dropLatches a owner).can.rx = a.can.rx := by
  unfold Asic.dropLatches
  with_reducible rfl

theorem Asic.nvmLock_can_rx (a : Asic) (m : Nat) : (Asic.nvmLock a m).can.rx = a.can.rx := by
  unfold Asic.nvmLock
  simp -implicitDefEqProofs [Asic.foldl_can_rx]

theorem Asic.releaseBuffer_can_rx (a : Asic) : (Asic.releaseBuffer a).can.rx = a.can.rx := by
  unfold Asic.releaseBuffer
  simp -implicitDefEqProofs []

theorem Asic.nvmReset_can_rx (a : Asic) (m : Nat) : (Asic.nvmReset a m).can.rx = a.can.rx := by
  unfold Asic.nvmReset
  simp -implicitDefEqProofs [Asic.nvmLock_can_rx, Asic.releaseBuffer_can_rx, Asic.ite_can_rx]

theorem Asic.rearm_can_rx (a : Asic) : (Asic.rearm a).can.rx = a.can.rx := by
  unfold Asic.rearm
  simp -implicitDefEqProofs []

theorem Asic.copyPlans_can_rx (a : Asic) : (Asic.copyPlans a).can.rx = a.can.rx := by
  unfold Asic.copyPlans
  with_reducible rfl

theorem Asic.txnFree_can_rx (a : Asic) : (Asic.txnFree a).can.rx = a.can.rx := by
  unfold Asic.txnFree
  simp -implicitDefEqProofs [Asic.copyPlans_can_rx]

theorem Asic.masterReset_can_rx (a : Asic) (m : Nat) : (Asic.masterReset a m).can.rx = a.can.rx := by
  unfold Asic.masterReset
  simp -implicitDefEqProofs [Asic.nvmReset_can_rx, Asic.rearm_can_rx, Asic.txnFree_can_rx, Asic.dropLatches_can_rx, Asic.ite_can_rx]

theorem Asic.closeWindow'_can_rx (a : Asic) : (Asic.closeWindow' a).can.rx = a.can.rx := by
  unfold Asic.closeWindow'
  with_reducible rfl

theorem Asic.hkcReset_can_rx (a : Asic) : (Asic.hkcReset a).can.rx = a.can.rx := by
  unfold Asic.hkcReset
  simp -implicitDefEqProofs [Asic.dropLatches_can_rx, Asic.masterReset_can_rx, Asic.closeWindow'_can_rx]

theorem Asic.logEntry_can_rx (a : Asic) (code' : Nat) (item : Nat) (data : Nat) : (Asic.logEntry a code' item data).can.rx = a.can.rx := by
  unfold Asic.logEntry
  simp -implicitDefEqProofs [Asic.onlyIf_can_rx, Asic.ite_can_rx]

end Sys2Proof.Machine
end

