-- ==== Sys2Proof/Laws/FrameCanWindow.lean ====
section
/-! SUPPORT. Operations that leave `can.window` alone. -/

set_option linter.unusedSimpArgs false
set_option linter.unusedSectionVars false

namespace Sys2Proof.Machine

theorem Asic.each_can_window (a : Asic) (l : List Nat) (f : Asic → Nat → Asic) (h : ∀ x i, (f x i).can.window = x.can.window) : (a.each l f).can.window = a.can.window := by
  induction l generalizing a with
  | nil => rfl
  | cons i l ih => exact (ih (f a i)).trans (h a i)
theorem Asic.onlyIf_can_window (a : Asic) (c : Bool) (f : Asic → Asic) (h : ∀ x, (f x).can.window = x.can.window) : (a.onlyIf c f).can.window = a.can.window := by
  unfold Asic.onlyIf
  split
  · exact h a
  · rfl
theorem Asic.ite_can_window (c : Prop) [Decidable c] (x y : Asic) : (if c then x else y).can.window = if c then x.can.window else y.can.window := apply_ite (fun z : Asic => z.can.window) _ _ _
theorem Asic.foldl_can_window {α : Type} (a : Asic) (l : List α) (f : Asic → α → Asic) (h : ∀ x i, (f x i).can.window = x.can.window) : (l.foldl f a).can.window = a.can.window := by
  induction l generalizing a with
  | nil => rfl
  | cons i l ih => exact (ih (f a i)).trans (h a i)

theorem Asic.logEntry_can_window (a : Asic) (code' : Nat) (item : Nat) (data : Nat) : (Asic.logEntry a code' item data).can.window = a.can.window := by
  unfold Asic.logEntry
  simp -implicitDefEqProofs [Asic.onlyIf_can_window, Asic.ite_can_window]

end Sys2Proof.Machine
end

