-- ==== Sys2Proof/Laws/FrameCfgu.lean ====
section
/-! SUPPORT. Register fields at mod:0x22000:0x22200:64:20 to  that operations leave alone. -/

set_option linter.unusedSimpArgs false
set_option linter.unusedSectionVars false

namespace Sys2Proof.Machine

variable (g : Fld) (h1 : 0x22000 ≤ g.addr ∧ g.addr < 0x22200) (h2 : (g.addr + 0) % 64 < 20)
include h1 h2
theorem Asic.put_cfgu (a : Asic) (f : Fld) (n : Nat) (h : (f.addr < 0x22000 ∨ 0x22200 ≤ f.addr ∨ 20 ≤ (f.addr + 0) % 64)) : (a.put f n).get g = a.get g := Asic.get_put_ne _ _ _ _ (.inl (by omega))
theorem Asic.putS_cfgu (a : Asic) (f : Fld) (n : Int) (h : (f.addr < 0x22000 ∨ 0x22200 ≤ f.addr ∨ 20 ≤ (f.addr + 0) % 64)) : (a.putS f n).get g = a.get g := Asic.get_put_ne _ _ _ _ (.inl (by omega))
theorem Asic.putB_cfgu (a : Asic) (f : Fld) (n : Bool) (h : (f.addr < 0x22000 ∨ 0x22200 ≤ f.addr ∨ 20 ≤ (f.addr + 0) % 64)) : (a.putB f n).get g = a.get g := Asic.get_put_ne _ _ _ _ (.inl (by omega))
theorem Asic.addSat_cfgu (a : Asic) (f : Fld) (n : Nat) (h : (f.addr < 0x22000 ∨ 0x22200 ≤ f.addr ∨ 20 ≤ (f.addr + 0) % 64)) : (a.addSat f n).get g = a.get g := Asic.get_put_ne _ _ _ _ (.inl (by omega))
theorem Asic.addWrap_cfgu (a : Asic) (f : Fld) (n : Nat) (h : (f.addr < 0x22000 ∨ 0x22200 ≤ f.addr ∨ 20 ≤ (f.addr + 0) % 64)) : (a.addWrap f n).get g = a.get g := Asic.get_put_ne _ _ _ _ (.inl (by omega))
theorem Asic.event_cfgu (a : Asic) (f : Fld) (h : (f.addr < 0x22000 ∨ 0x22200 ≤ f.addr ∨ 20 ≤ (f.addr + 0) % 64)) : (a.event f).get g = a.get g := Asic.get_event_ne _ _ _ (.inl (by omega)) (.inl (by dsimp only; omega))
theorem Asic.put2_cfgu (a : Asic) (f f' : Fld) (n : Nat) (h : (f.addr < 0x22000 ∨ 0x22200 ≤ f.addr ∨ 20 ≤ (f.addr + 0) % 64)) (h' : (f'.addr < 0x22000 ∨ 0x22200 ≤ f'.addr ∨ 20 ≤ (f'.addr + 0) % 64)) : (a.put2 f f' n).get g = a.get g := by
  rw [Asic.put2, Asic.get_put_ne _ _ _ _ (.inl (by omega)), Asic.get_put_ne _ _ _ _ (.inl (by omega))]
theorem Asic.put2S_cfgu (a : Asic) (f f' : Fld) (n : Int) (h : (f.addr < 0x22000 ∨ 0x22200 ≤ f.addr ∨ 20 ≤ (f.addr + 0) % 64)) (h' : (f'.addr < 0x22000 ∨ 0x22200 ≤ f'.addr ∨ 20 ≤ (f'.addr + 0) % 64)) : (a.put2S f f' n).get g = a.get g := by
  rw [Asic.put2S, Asic.put2, Asic.get_put_ne _ _ _ _ (.inl (by omega)), Asic.get_put_ne _ _ _ _ (.inl (by omega))]
omit h1 h2
theorem Asic.each_cfgu (a : Asic) (l : List Nat) (f : Asic → Nat → Asic) (h : ∀ x i, (f x i).get g = x.get g) : (a.each l f).get g = a.get g := by
  induction l generalizing a with
  | nil => rfl
  | cons i l ih => exact (ih (f a i)).trans (h a i)
theorem Asic.onlyIf_cfgu (a : Asic) (c : Bool) (f : Asic → Asic) (h : ∀ x, (f x).get g = x.get g) : (a.onlyIf c f).get g = a.get g := by
  unfold Asic.onlyIf
  split
  · exact h a
  · rfl
theorem Asic.ite_cfgu (c : Prop) [Decidable c] (x y : Asic) : (if c then x else y).get g = if c then x.get g else y.get g := apply_ite (fun z => Asic.get z g) _ _ _
theorem Asic.foldl_cfgu {α : Type} (a : Asic) (l : List α) (f : Asic → α → Asic) (h : ∀ x i, (f x i).get g = x.get g) : (l.foldl f a).get g = a.get g := by
  induction l generalizing a with
  | nil => rfl
  | cons i l ih => exact (ih (f a i)).trans (h a i)
include h1 h2


theorem Asic.refreshAnchor_cfgu (a : Asic) : (Asic.refreshAnchor a).get g = a.get g := by
  unfold Asic.refreshAnchor
  simp -implicitDefEqProofs (disch := first | omega | (dsimp only; omega) | (intros; simp -implicitDefEqProofs (disch := first | omega | (dsimp only; omega)) [Asic.put_cfgu g h1 h2, Asic.get_mk, Asic.get_of_regs, Asic.each_cfgu, Asic.ite_cfgu])) [Asic.put_cfgu g h1 h2, Asic.get_mk, Asic.get_of_regs, Asic.each_cfgu, Asic.ite_cfgu]

theorem Asic.rebase_cfgu (a : Asic) (k : Nat) : (Asic.rebase a k).get g = a.get g := by
  unfold Asic.rebase
  simp -implicitDefEqProofs (disch := first | omega | (dsimp only; omega) | (intros; simp -implicitDefEqProofs (disch := first | omega | (dsimp only; omega)) [Asic.get_mk, Asic.get_of_regs])) [Asic.get_mk, Asic.get_of_regs]

theorem Asic.refreshRate_cfgu (a : Asic) (k : Nat) : (Asic.refreshRate a k).get g = a.get g := by
  unfold Asic.refreshRate
  simp -implicitDefEqProofs (disch := first | omega | (dsimp only; omega) | (intros; simp -implicitDefEqProofs (disch := first | omega | (dsimp only; omega)) [Asic.rebase_cfgu g h1 h2, Asic.putB_cfgu g h1 h2, Asic.get_mk, Asic.get_of_regs, Asic.ite_cfgu])) [Asic.rebase_cfgu g h1 h2, Asic.putB_cfgu g h1 h2, Asic.get_mk, Asic.get_of_regs, Asic.ite_cfgu]

theorem Asic.refreshRates_cfgu (a : Asic) : (Asic.refreshRates a).get g = a.get g := by
  unfold Asic.refreshRates
  simp -implicitDefEqProofs (disch := first | omega | (dsimp only; omega) | (intros; simp -implicitDefEqProofs (disch := first | omega | (dsimp only; omega)) [Asic.refreshRate_cfgu g h1 h2, Asic.get_mk, Asic.get_of_regs, Asic.each_cfgu])) [Asic.refreshRate_cfgu g h1 h2, Asic.get_mk, Asic.get_of_regs, Asic.each_cfgu]

theorem Asic.settleChan_cfgu (a : Asic) (c : Nat) : (Asic.settleChan a c).get g = a.get g := by
  unfold Asic.settleChan
  simp -implicitDefEqProofs (disch := first | omega | (dsimp only; omega) | (intros; simp -implicitDefEqProofs (disch := first | omega | (dsimp only; omega)) [Asic.get_mk, Asic.get_of_regs])) [Asic.get_mk, Asic.get_of_regs]

theorem Asic.setY_cfgu (a : Asic) (c : Nat) (y : Int) : (Asic.setY a c y).get g = a.get g := by
  unfold Asic.setY
  simp -implicitDefEqProofs (disch := first | omega | (dsimp only; omega) | (intros; simp -implicitDefEqProofs (disch := first | omega | (dsimp only; omega)) [Asic.refreshRates_cfgu g h1 h2, Asic.settleChan_cfgu g h1 h2, Asic.put2S_cfgu g h1 h2, Asic.get_mk, Asic.get_of_regs])) [Asic.refreshRates_cfgu g h1 h2, Asic.settleChan_cfgu g h1 h2, Asic.put2S_cfgu g h1 h2, Asic.get_mk, Asic.get_of_regs]

theorem Asic.noteClamp_cfgu (a : Asic) (c : Nat) (clamped : Bool) : (Asic.noteClamp a c clamped).get g = a.get g := by
  unfold Asic.noteClamp
  simp -implicitDefEqProofs (disch := first | omega | (dsimp only; omega) | (intros; simp -implicitDefEqProofs (disch := first | omega | (dsimp only; omega)) [Asic.putB_cfgu g h1 h2, Asic.event_cfgu g h1 h2, Asic.get_mk, Asic.get_of_regs, Asic.ite_cfgu])) [Asic.putB_cfgu g h1 h2, Asic.event_cfgu g h1 h2, Asic.get_mk, Asic.get_of_regs, Asic.ite_cfgu]

theorem Asic.takeWord_cfgu (a : Asic) (c : Nat) (w : Int) : (Asic.takeWord a c w).get g = a.get g := by
  unfold Asic.takeWord
  simp -implicitDefEqProofs (disch := first | omega | (dsimp only; omega) | (intros; simp -implicitDefEqProofs (disch := first | omega | (dsimp only; omega)) [Asic.setY_cfgu g h1 h2, Asic.noteClamp_cfgu g h1 h2, Asic.get_mk, Asic.get_of_regs])) [Asic.setY_cfgu g h1 h2, Asic.noteClamp_cfgu g h1 h2, Asic.get_mk, Asic.get_of_regs]

theorem Asic.emit_cfgu (a : Asic) (q : Nat) (r : Record) : (Asic.emit a q r).get g = a.get g := by
  unfold Asic.emit
  simp -implicitDefEqProofs (disch := first | omega | (dsimp only; omega) | (intros; simp -implicitDefEqProofs (disch := first | omega | (dsimp only; omega)) [Asic.addSat_cfgu g h1 h2, Asic.get_mk, Asic.get_of_regs, Asic.ite_cfgu])) [Asic.addSat_cfgu g h1 h2, Asic.get_mk, Asic.get_of_regs, Asic.ite_cfgu]

theorem Asic.telemetry_cfgu (a : Asic) (c : Nat) (event : Bool) (short : Bool) : (Asic.telemetry a c event short).get g = a.get g := by
  unfold Asic.telemetry
  simp -implicitDefEqProofs (disch := first | omega | (dsimp only; omega) | (intros; simp -implicitDefEqProofs (disch := first | omega | (dsimp only; omega)) [Asic.emit_cfgu g h1 h2, Asic.settleChan_cfgu g h1 h2, Asic.get_mk, Asic.get_of_regs, Asic.ite_cfgu])) [Asic.emit_cfgu g h1 h2, Asic.settleChan_cfgu g h1 h2, Asic.get_mk, Asic.get_of_regs, Asic.ite_cfgu]

theorem Asic.moveChan_cfgu (a : Asic) (c : Nat) (s : Nat) : (Asic.moveChan a c s).get g = a.get g := by
  unfold Asic.moveChan
  simp -implicitDefEqProofs (disch := first | omega | (dsimp only; omega) | (intros; simp -implicitDefEqProofs (disch := first | omega | (dsimp only; omega)) [Asic.refreshAnchor_cfgu g h1 h2, Asic.telemetry_cfgu g h1 h2, Asic.put_cfgu g h1 h2, Asic.get_mk, Asic.get_of_regs, Asic.ite_cfgu])) [Asic.refreshAnchor_cfgu g h1 h2, Asic.telemetry_cfgu g h1 h2, Asic.put_cfgu g h1 h2, Asic.get_mk, Asic.get_of_regs, Asic.ite_cfgu]

theorem Asic.toFreerun_cfgu (a : Asic) (c : Nat) : (Asic.toFreerun a c).get g = a.get g := by
  unfold Asic.toFreerun
  simp -implicitDefEqProofs (disch := first | omega | (dsimp only; omega) | (intros; simp -implicitDefEqProofs (disch := first | omega | (dsimp only; omega)) [Asic.takeWord_cfgu g h1 h2, Asic.moveChan_cfgu g h1 h2, Asic.put_cfgu g h1 h2, Asic.get_mk, Asic.get_of_regs, Asic.ite_cfgu])) [Asic.takeWord_cfgu g h1 h2, Asic.moveChan_cfgu g h1 h2, Asic.put_cfgu g h1 h2, Asic.get_mk, Asic.get_of_regs, Asic.ite_cfgu]

theorem Asic.toAcquire_cfgu (a : Asic) (c : Nat) : (Asic.toAcquire a c).get g = a.get g := by
  unfold Asic.toAcquire
  simp -implicitDefEqProofs (disch := first | omega | (dsimp only; omega) | (intros; simp -implicitDefEqProofs (disch := first | omega | (dsimp only; omega)) [Asic.moveChan_cfgu g h1 h2, Asic.put_cfgu g h1 h2, Asic.put2S_cfgu g h1 h2, Asic.get_mk, Asic.get_of_regs, Asic.onlyIf_cfgu, Asic.ite_cfgu])) [Asic.moveChan_cfgu g h1 h2, Asic.put_cfgu g h1 h2, Asic.put2S_cfgu g h1 h2, Asic.get_mk, Asic.get_of_regs, Asic.onlyIf_cfgu, Asic.ite_cfgu]

theorem Asic.takeHoWord_cfgu (a : Asic) (c : Nat) : (Asic.takeHoWord a c).get g = a.get g := by
  unfold Asic.takeHoWord
  simp -implicitDefEqProofs (disch := first | omega | (dsimp only; omega) | (intros; simp -implicitDefEqProofs (disch := first | omega | (dsimp only; omega)) [Asic.takeWord_cfgu g h1 h2, Asic.putB_cfgu g h1 h2, Asic.get_mk, Asic.get_of_regs])) [Asic.takeWord_cfgu g h1 h2, Asic.putB_cfgu g h1 h2, Asic.get_mk, Asic.get_of_regs]

theorem Asic.toHoldoverWith_cfgu (a : Asic) (c : Nat) (qual : Nat) (avg : Int) (tc : Nat) : (Asic.toHoldoverWith a c qual avg tc).get g = a.get g := by
  unfold Asic.toHoldoverWith
  simp -implicitDefEqProofs (disch := first | omega | (dsimp only; omega) | (intros; simp -implicitDefEqProofs (disch := first | omega | (dsimp only; omega)) [Asic.moveChan_cfgu g h1 h2, Asic.takeHoWord_cfgu g h1 h2, Asic.put_cfgu g h1 h2, Asic.addSat_cfgu g h1 h2, Asic.event_cfgu g h1 h2, Asic.put2S_cfgu g h1 h2, Asic.get_mk, Asic.get_of_regs])) [Asic.moveChan_cfgu g h1 h2, Asic.takeHoWord_cfgu g h1 h2, Asic.put_cfgu g h1 h2, Asic.addSat_cfgu g h1 h2, Asic.event_cfgu g h1 h2, Asic.put2S_cfgu g h1 h2, Asic.get_mk, Asic.get_of_regs]

theorem Asic.toHoldover_cfgu (a : Asic) (c : Nat) : (Asic.toHoldover a c).get g = a.get g := by
  unfold Asic.toHoldover
  simp -implicitDefEqProofs (disch := first | omega | (dsimp only; omega) | (intros; simp -implicitDefEqProofs (disch := first | omega | (dsimp only; omega)) [Asic.toHoldoverWith_cfgu g h1 h2, Asic.get_mk, Asic.get_of_regs])) [Asic.toHoldoverWith_cfgu g h1 h2, Asic.get_mk, Asic.get_of_regs]

theorem Asic.selectionChanged_cfgu (a : Asic) (c : Nat) : (Asic.selectionChanged a c).get g = a.get g := by
  unfold Asic.selectionChanged
  simp -implicitDefEqProofs (disch := first | omega | (dsimp only; omega) | (intros; simp -implicitDefEqProofs (disch := first | omega | (dsimp only; omega)) [Asic.refreshAnchor_cfgu g h1 h2, Asic.toFreerun_cfgu g h1 h2, Asic.toAcquire_cfgu g h1 h2, Asic.toHoldover_cfgu g h1 h2, Asic.get_mk, Asic.get_of_regs, Asic.ite_cfgu])) [Asic.refreshAnchor_cfgu g h1 h2, Asic.toFreerun_cfgu g h1 h2, Asic.toAcquire_cfgu g h1 h2, Asic.toHoldover_cfgu g h1 h2, Asic.get_mk, Asic.get_of_regs, Asic.ite_cfgu]

theorem Asic.startSwitch_cfgu (a : Asic) (c : Nat) (o : Nat) (n : Nat) (reason : Nat) : (Asic.startSwitch a c o n reason).get g = a.get g := by
  unfold Asic.startSwitch
  simp -implicitDefEqProofs (disch := first | omega | (dsimp only; omega) | (intros; simp -implicitDefEqProofs (disch := first | omega | (dsimp only; omega)) [Asic.put_cfgu g h1 h2, Asic.get_mk, Asic.get_of_regs])) [Asic.put_cfgu g h1 h2, Asic.get_mk, Asic.get_of_regs]

theorem Asic.abortSwitch_cfgu (a : Asic) (c : Nat) : (Asic.abortSwitch a c).get g = a.get g := by
  unfold Asic.abortSwitch
  simp -implicitDefEqProofs (disch := first | omega | (dsimp only; omega) | (intros; simp -implicitDefEqProofs (disch := first | omega | (dsimp only; omega)) [Asic.put_cfgu g h1 h2, Asic.event_cfgu g h1 h2, Asic.get_mk, Asic.get_of_regs])) [Asic.put_cfgu g h1 h2, Asic.event_cfgu g h1 h2, Asic.get_mk, Asic.get_of_regs]

theorem Asic.selectOn_cfgu (a : Asic) (written : Bool) (c : Nat) : (Asic.selectOn a written c).get g = a.get g := by
  unfold Asic.selectOn
  dsimp only
  (repeat' split) <;> simp -implicitDefEqProofs (disch := first | omega | (dsimp only; omega) | (intros; simp -implicitDefEqProofs (disch := first | omega | (dsimp only; omega)) [Asic.selectionChanged_cfgu g h1 h2, Asic.startSwitch_cfgu g h1 h2, Asic.abortSwitch_cfgu g h1 h2, Asic.put_cfgu g h1 h2, Asic.putB_cfgu g h1 h2, Asic.event_cfgu g h1 h2, Asic.get_mk, Asic.get_of_regs, Asic.ite_cfgu])) [Asic.selectionChanged_cfgu g h1 h2, Asic.startSwitch_cfgu g h1 h2, Asic.abortSwitch_cfgu g h1 h2, Asic.put_cfgu g h1 h2, Asic.putB_cfgu g h1 h2, Asic.event_cfgu g h1 h2, Asic.get_mk, Asic.get_of_regs, Asic.ite_cfgu]

theorem Asic.overrideWritten_cfgu (a : Asic) (c : Nat) : (Asic.overrideWritten a c).get g = a.get g := by
  unfold Asic.overrideWritten
  simp -implicitDefEqProofs (disch := first | omega | (dsimp only; omega) | (intros; simp -implicitDefEqProofs (disch := first | omega | (dsimp only; omega)) [Asic.refreshAnchor_cfgu g h1 h2, Asic.selectOn_cfgu g h1 h2, Asic.get_mk, Asic.get_of_regs])) [Asic.refreshAnchor_cfgu g h1 h2, Asic.selectOn_cfgu g h1 h2, Asic.get_mk, Asic.get_of_regs]

end Sys2Proof.Machine
end

