-- ==== Sys2Proof/Laws/FrameDpl.lean ====
section
/-! SUPPORT. Operations that leave `dpl` alone. -/

set_option linter.unusedSimpArgs false
set_option linter.unusedSectionVars false

namespace Sys2Proof.Machine

theorem Asic.each_dpl (a : Asic) (l : List Nat) (f : Asic → Nat → Asic) (h : ∀ x i, (f x i).dpl = x.dpl) : (a.each l f).dpl = a.dpl := by
  induction l generalizing a with
  | nil => rfl
  | cons i l ih => exact (ih (f a i)).trans (h a i)
theorem Asic.onlyIf_dpl (a : Asic) (c : Bool) (f : Asic → Asic) (h : ∀ x, (f x).dpl = x.dpl) : (a.onlyIf c f).dpl = a.dpl := by
  unfold Asic.onlyIf
  split
  · exact h a
  · rfl
theorem Asic.entries_dpl (a : Asic) (l : List Nat) (f : Asic → Nat → Asic × Bool) (h : ∀ x i, (f x i).1.dpl = x.dpl) : (a.entries l f).1.dpl = a.dpl := by
  have e : ∀ (l : List Nat) (p : Asic × Nat), (l.foldl (fun (p : Asic × Nat) k =>
      let (a, w) := f p.1 k
      (a, if w then p.2 + 2 ^ k else p.2)) p).1.dpl = p.1.dpl := by
    intro l
    induction l with
    | nil => intro p; rfl
    | cons i l ih => intro p; exact (ih _).trans (h p.1 i)
  exact e l (a, 0)
theorem Asic.ite_dpl (c : Prop) [Decidable c] (x y : Asic) : (if c then x else y).dpl = if c then x.dpl else y.dpl := apply_ite (fun z : Asic => z.dpl) _ _ _
theorem Asic.foldl_dpl {α : Type} (a : Asic) (l : List α) (f : Asic → α → Asic) (h : ∀ x i, (f x i).dpl = x.dpl) : (l.foldl f a).dpl = a.dpl := by
  induction l generalizing a with
  | nil => rfl
  | cons i l ih => exact (ih (f a i)).trans (h a i)

theorem Asic.wipeCell_dpl (a : Asic) (i : Nat) (j : Nat) : (Asic.wipeCell a i j).dpl = a.dpl := by
  unfold Asic.wipeCell
  simp -implicitDefEqProofs [Asic.foldl_dpl]

theorem Asic.restartIndex_dpl (a : Asic) (i : Nat) : (Asic.restartIndex a i).dpl = a.dpl := by
  unfold Asic.restartIndex
  simp -implicitDefEqProofs [Asic.wipeCell_dpl, Asic.each_dpl]

theorem Asic.stopEngine_dpl (a : Asic) : (Asic.stopEngine a).dpl = a.dpl := by
  unfold Asic.stopEngine
  simp -implicitDefEqProofs [Asic.restartIndex_dpl, Asic.each_dpl, Asic.ite_dpl]

theorem Asic.countGap_dpl (a : Asic) (i : Nat) (n : Nat) : (Asic.countGap a i n).dpl = a.dpl := by
  unfold Asic.countGap
  simp -implicitDefEqProofs [Asic.ite_dpl]

theorem Asic.keepValue_dpl (a : Asic) (i : Nat) (n : Nat) : (Asic.keepValue a i n).dpl = a.dpl := by
  unfold Asic.keepValue
  (repeat' split) <;> simp -implicitDefEqProofs [Asic.ite_dpl]

theorem Asic.dropSeconds_dpl (a : Asic) (i : Nat) (n : Nat) : (Asic.dropSeconds a i n).dpl = a.dpl := by
  unfold Asic.dropSeconds
  simp -implicitDefEqProofs []

theorem Asic.setEntry_dpl (a : Asic) (i : Nat) (j : Nat) (k : Nat) (w : Option Word) : (Asic.setEntry a i j k w).dpl = a.dpl := by
  unfold Asic.setEntry
  with_reducible rfl

theorem Asic.setValue_dpl (a : Asic) (i : Nat) (j : Nat) (k : Nat) (w : Word × Bool) : (Asic.setValue a i j k w).dpl = a.dpl := by
  unfold Asic.setValue
  simp -implicitDefEqProofs [Asic.setEntry_dpl, Asic.onlyIf_dpl]

theorem Asic.setRat_dpl (a : Asic) (i : Nat) (j : Nat) (k : Nat) (v : Option Rat) : (Asic.setRat a i j k v).dpl = a.dpl := by
  unfold Asic.setRat
  (repeat' split) <;> simp -implicitDefEqProofs [Asic.setEntry_dpl, Asic.setValue_dpl]

theorem Asic.writeDiagonal_dpl (a : Asic) (i : Nat) (n : Nat) : (Asic.writeDiagonal a i n).dpl = a.dpl := by
  unfold Asic.writeDiagonal
  simp -implicitDefEqProofs [Asic.setRat_dpl]

theorem Asic.emit_dpl (a : Asic) (q : Nat) (r : Record) : (Asic.emit a q r).dpl = a.dpl := by
  unfold Asic.emit
  simp -implicitDefEqProofs [Asic.ite_dpl]

theorem Asic.halfRecord_dpl (a : Asic) (i : Nat) (j : Nat) (half : Nat) (written : Nat) (pass : Nat) (degraded : Bool) : (Asic.halfRecord a i j half written pass degraded).dpl = a.dpl := by
  unfold Asic.halfRecord
  simp -implicitDefEqProofs [Asic.emit_dpl, Asic.ite_dpl, Asic.foldl_dpl]

theorem Asic.cellRecords_dpl (a : Asic) (i : Nat) (j : Nat) (written : Nat) (pass : Nat) (degraded : Bool) : (Asic.cellRecords a i j written pass degraded).dpl = a.dpl := by
  unfold Asic.cellRecords
  simp -implicitDefEqProofs [Asic.halfRecord_dpl]

theorem Asic.averaged_dpl (a : Asic) (i : Nat) (j : Nat) (k : Nat) (t : Option Rat) : (Asic.averaged a i j k t).1.dpl = a.dpl := by
  unfold Asic.averaged
  dsimp only
  (repeat' split) <;> simp -implicitDefEqProofs [Asic.setEntry_dpl, Asic.setValue_dpl, Asic.ite_dpl, ok, rej]

theorem Asic.adevEntries_dpl (a : Asic) (i : Nat) (n : Nat) : (Asic.adevEntries a i n).1.dpl = a.dpl := by
  unfold Asic.adevEntries
  simp -implicitDefEqProofs [Asic.averaged_dpl, Asic.entries_dpl, ok, rej]

theorem Asic.tdevEntries_dpl (a : Asic) (i : Nat) (j : Nat) (n : Nat) : (Asic.tdevEntries a i j n).1.dpl = a.dpl := by
  unfold Asic.tdevEntries
  simp -implicitDefEqProofs [Asic.averaged_dpl, Asic.entries_dpl, ok, rej]

theorem Asic.mtieEntry_dpl (a : Asic) (i : Nat) (j : Nat) (k : Nat) (s : Nat) (t : Option Int) : (Asic.mtieEntry a i j k s t).1.dpl = a.dpl := by
  unfold Asic.mtieEntry
  dsimp only
  (repeat' split) <;> simp -implicitDefEqProofs [Asic.setEntry_dpl, Asic.setValue_dpl, Asic.ite_dpl, Asic.foldl_dpl, ok, rej]

theorem Asic.mtieEntries_dpl (a : Asic) (i : Nat) (j : Nat) (n : Nat) : (Asic.mtieEntries a i j n).1.dpl = a.dpl := by
  unfold Asic.mtieEntries
  simp -implicitDefEqProofs [Asic.mtieEntry_dpl, Asic.entries_dpl, ok, rej]

theorem Asic.checkSegments_dpl (a : Asic) : (Asic.checkSegments a).dpl = a.dpl := by
  unfold Asic.checkSegments
  simp -implicitDefEqProofs [Asic.ite_dpl, Asic.foldl_dpl]

theorem Asic.restartDiagonal_dpl (a : Asic) (i : Nat) (n : Nat) : (Asic.restartDiagonal a i n).dpl = a.dpl := by
  unfold Asic.restartDiagonal
  simp -implicitDefEqProofs [Asic.wipeCell_dpl]

theorem Asic.passRestarts_dpl (a : Asic) (s : Nat) : (Asic.passRestarts a s).dpl = a.dpl := by
  unfold Asic.passRestarts
  simp -implicitDefEqProofs [Asic.restartIndex_dpl, Asic.restartDiagonal_dpl, Asic.each_dpl, Asic.ite_dpl]

theorem Asic.snapshotFlip_dpl (a : Asic) : (Asic.snapshotFlip a).dpl = a.dpl := by
  unfold Asic.snapshotFlip
  simp -implicitDefEqProofs [Asic.ite_dpl]

theorem Asic.runPass_dpl (a : Asic) (s : Nat) : (Asic.runPass a s).dpl = a.dpl := by
  unfold Asic.runPass
  dsimp only
  have e1 : ∀ (L : List Nat) (g : List Nat) (p : Nat) (x : Asic), (x.each indices fun a i =>
      ((if L.contains i then a.adevEntries i (a.formed i s) else (a, 0)).1.cellRecords i i (7 + (if L.contains i then a.adevEntries i (a.formed i s) else (a, 0)).2) p (g.contains i))).dpl = x.dpl := by
    intro L g p x
    refine Asic.each_dpl _ _ _ fun y i => ?_
    rw [Asic.cellRecords_dpl]
    split
    · exact Asic.adevEntries_dpl _ _ _
    · rfl
  have e2 : ∀ (L : List Nat) (g : List Nat) (p : Nat) (x : Asic) (l : List (Nat × Nat)) (h : Asic → Nat × Nat → Asic × Nat) (_ : ∀ x q, (h x q).1.dpl = x.dpl), (l.foldl (fun a q =>
      if (L.contains q.1 && L.contains q.2) = true then (h a q).1.cellRecords q.1 q.2 (h a q).2 p (g.contains q.1 || g.contains q.2) else a) x).dpl = x.dpl := by
    intro L g p x l h hh
    refine Asic.foldl_dpl _ _ _ fun y q => ?_
    split
    · rw [Asic.cellRecords_dpl, hh]
    · rfl
  simp -implicitDefEqProofs only [Asic.snapshotFlip_dpl, Asic.put_dpl, e1]
  rw [e2 _ _ _ _ _ (fun a q => a.mtieEntries q.1 q.2 (min (a.formed q.1 s) (a.formed q.2 s))) (fun x q => Asic.mtieEntries_dpl _ _ _ _),
    e2 _ _ _ _ _ (fun a q => a.tdevEntries q.1 q.2 (min (a.formed q.1 s) (a.formed q.2 s))) (fun x q => Asic.tdevEntries_dpl _ _ _ _), e1]
  simp -implicitDefEqProofs only [Asic.writeDiagonal_dpl, Asic.checkSegments_dpl, Asic.keepValue_dpl, Asic.dropSeconds_dpl, Asic.passRestarts_dpl, Asic.countGap_dpl, Asic.each_dpl, Asic.ite_dpl, ite_self, implies_true]

theorem Asic.ledgerPass_dpl (a : Asic) : (Asic.ledgerPass a).dpl = a.dpl := by
  unfold Asic.ledgerPass
  simp -implicitDefEqProofs [Asic.stopEngine_dpl, Asic.runPass_dpl, Asic.ite_dpl]

theorem Asic.changeEpoch_dpl (a : Asic) (q : Nat) (kind : Nat) (fn : Nat) (old : Nat) (new : Nat) (cause : Nat) (extra : Nat) : (Asic.changeEpoch a q kind fn old new cause extra).dpl = a.dpl := by
  unfold Asic.changeEpoch
  simp -implicitDefEqProofs [Asic.emit_dpl]

theorem Asic.refreshAnchor_dpl (a : Asic) : (Asic.refreshAnchor a).dpl = a.dpl := by
  unfold Asic.refreshAnchor
  simp -implicitDefEqProofs [Asic.each_dpl, Asic.ite_dpl]

theorem Asic.rebase_dpl (a : Asic) (k : Nat) : (Asic.rebase a k).dpl = a.dpl := by
  unfold Asic.rebase
  simp -implicitDefEqProofs []

theorem Asic.refreshRate_dpl (a : Asic) (k : Nat) : (Asic.refreshRate a k).dpl = a.dpl := by
  unfold Asic.refreshRate
  simp -implicitDefEqProofs [Asic.rebase_dpl, Asic.ite_dpl]

theorem Asic.refreshRates_dpl (a : Asic) : (Asic.refreshRates a).dpl = a.dpl := by
  unfold Asic.refreshRates
  simp -implicitDefEqProofs [Asic.refreshRate_dpl, Asic.each_dpl]

theorem Asic.noteClamp_dpl (a : Asic) (c : Nat) (clamped : Bool) : (Asic.noteClamp a c clamped).dpl = a.dpl := by
  unfold Asic.noteClamp
  simp -implicitDefEqProofs [Asic.ite_dpl]

end Sys2Proof.Machine
end

