-- ==== Sys2Proof/Laws/FrameDplcfg.lean ====
section
/-! SUPPORT. Register fields at mod:0x40000:0x48000:4096:40 to  that operations leave alone. -/

set_option linter.unusedSimpArgs false
set_option linter.unusedSectionVars false

namespace Sys2Proof.Machine

variable (g : Fld) (h1 : 0x40000 ≤ g.addr ∧ g.addr < 0x48000) (h2 : (g.addr + 0) % 4096 < 40)
include h1 h2
theorem Asic.put_dplcfg (a : Asic) (f : Fld) (n : Nat) (h : (f.addr < 0x40000 ∨ 0x48000 ≤ f.addr ∨ 40 ≤ (f.addr + 0) % 4096)) : (a.put f n).get g = a.get g := Asic.get_put_ne _ _ _ _ (.inl (by omega))
theorem Asic.putS_dplcfg (a : Asic) (f : Fld) (n : Int) (h : (f.addr < 0x40000 ∨ 0x48000 ≤ f.addr ∨ 40 ≤ (f.addr + 0) % 4096)) : (a.putS f n).get g = a.get g := Asic.get_put_ne _ _ _ _ (.inl (by omega))
theorem Asic.putB_dplcfg (a : Asic) (f : Fld) (n : Bool) (h : (f.addr < 0x40000 ∨ 0x48000 ≤ f.addr ∨ 40 ≤ (f.addr + 0) % 4096)) : (a.putB f n).get g = a.get g := Asic.get_put_ne _ _ _ _ (.inl (by omega))
theorem Asic.addSat_dplcfg (a : Asic) (f : Fld) (n : Nat) (h : (f.addr < 0x40000 ∨ 0x48000 ≤ f.addr ∨ 40 ≤ (f.addr + 0) % 4096)) : (a.addSat f n).get g = a.get g := Asic.get_put_ne _ _ _ _ (.inl (by omega))
theorem Asic.addWrap_dplcfg (a : Asic) (f : Fld) (n : Nat) (h : (f.addr < 0x40000 ∨ 0x48000 ≤ f.addr ∨ 40 ≤ (f.addr + 0) % 4096)) : (a.addWrap f n).get g = a.get g := Asic.get_put_ne _ _ _ _ (.inl (by omega))
theorem Asic.event_dplcfg (a : Asic) (f : Fld) (h : (f.addr < 0x40000 ∨ 0x48000 ≤ f.addr ∨ 40 ≤ (f.addr + 0) % 4096)) : (a.event f).get g = a.get g := Asic.get_event_ne _ _ _ (.inl (by omega)) (.inl (by dsimp only; omega))
theorem Asic.put2_dplcfg (a : Asic) (f f' : Fld) (n : Nat) (h : (f.addr < 0x40000 ∨ 0x48000 ≤ f.addr ∨ 40 ≤ (f.addr + 0) % 4096)) (h' : (f'.addr < 0x40000 ∨ 0x48000 ≤ f'.addr ∨ 40 ≤ (f'.addr + 0) % 4096)) : (a.put2 f f' n).get g = a.get g := by
  rw [Asic.put2, Asic.get_put_ne _ _ _ _ (.inl (by omega)), Asic.get_put_ne _ _ _ _ (.inl (by omega))]
theorem Asic.put2S_dplcfg (a : Asic) (f f' : Fld) (n : Int) (h : (f.addr < 0x40000 ∨ 0x48000 ≤ f.addr ∨ 40 ≤ (f.addr + 0) % 4096)) (h' : (f'.addr < 0x40000 ∨ 0x48000 ≤ f'.addr ∨ 40 ≤ (f'.addr + 0) % 4096)) : (a.put2S f f' n).get g = a.get g := by
  rw [Asic.put2S, Asic.put2, Asic.get_put_ne _ _ _ _ (.inl (by omega)), Asic.get_put_ne _ _ _ _ (.inl (by omega))]
omit h1 h2
theorem Asic.each_dplcfg (a : Asic) (l : List Nat) (f : Asic → Nat → Asic) (h : ∀ x i, (f x i).get g = x.get g) : (a.each l f).get g = a.get g := by
  induction l generalizing a with
  | nil => rfl
  | cons i l ih => exact (ih (f a i)).trans (h a i)
theorem Asic.onlyIf_dplcfg (a : Asic) (c : Bool) (f : Asic → Asic) (h : ∀ x, (f x).get g = x.get g) : (a.onlyIf c f).get g = a.get g := by
  unfold Asic.onlyIf
  split
  · exact h a
  · rfl
theorem Asic.entries_dplcfg (a : Asic) (l : List Nat) (f : Asic → Nat → Asic × Bool) (h : ∀ x i, (f x i).1.get g = x.get g) : (a.entries l f).1.get g = a.get g := by
  have e : ∀ (l : List Nat) (p : Asic × Nat), (l.foldl (fun (p : Asic × Nat) k =>
      let (a, w) := f p.1 k
      (a, if w then p.2 + 2 ^ k else p.2)) p).1.get g = p.1.get g := by
    intro l
    induction l with
    | nil => intro p; rfl
    | cons i l ih => intro p; exact (ih _).trans (h p.1 i)
  exact e l (a, 0)
theorem Asic.ite_dplcfg (c : Prop) [Decidable c] (x y : Asic) : (if c then x else y).get g = if c then x.get g else y.get g := apply_ite (fun z => Asic.get z g) _ _ _
theorem Asic.foldl_dplcfg {α : Type} (a : Asic) (l : List α) (f : Asic → α → Asic) (h : ∀ x i, (f x i).get g = x.get g) : (l.foldl f a).get g = a.get g := by
  induction l generalizing a with
  | nil => rfl
  | cons i l ih => exact (ih (f a i)).trans (h a i)
include h1 h2


theorem Asic.settleChan_dplcfg (a : Asic) (c : Nat) : (Asic.settleChan a c).get g = a.get g := by
  unfold Asic.settleChan
  simp -implicitDefEqProofs (disch := first | omega | (dsimp only; omega) | (intros; simp -implicitDefEqProofs (disch := first | omega | (dsimp only; omega)) [Asic.get_mk, Asic.get_of_regs])) [Asic.get_mk, Asic.get_of_regs]

theorem Asic.historyReset_dplcfg (a : Asic) (c : Nat) (old : Nat) : (Asic.historyReset a c old).get g = a.get g := by
  unfold Asic.historyReset
  simp -implicitDefEqProofs (disch := first | omega | (dsimp only; omega) | (intros; simp -implicitDefEqProofs (disch := first | omega | (dsimp only; omega)) [Asic.settleChan_dplcfg g h1 h2, Asic.put_dplcfg g h1 h2, Asic.get_mk, Asic.get_of_regs, Asic.ite_dplcfg])) [Asic.settleChan_dplcfg g h1 h2, Asic.put_dplcfg g h1 h2, Asic.get_mk, Asic.get_of_regs, Asic.ite_dplcfg]

end Sys2Proof.Machine
end

