-- ==== Sys2Proof/Laws/FrameDplctl.lean ====
section
/-! SUPPORT. Register fields at mod:0x40000:0x48000:4096:4 to  that operations leave alone. -/

set_option linter.unusedSimpArgs false
set_option linter.unusedSectionVars false

namespace Sys2Proof.Machine

variable (g : Fld) (h1 : 0x40000 ≤ g.addr ∧ g.addr < 0x48000) (h2 : (g.addr + 0) % 4096 < 4)
include h1 h2
theorem Asic.put_dplctl (a : Asic) (f : Fld) (n : Nat) (h : (f.addr < 0x40000 ∨ 0x48000 ≤ f.addr ∨ 4 ≤ (f.addr + 0) % 4096)) : (a.put f n).get g = a.get g := Asic.get_put_ne _ _ _ _ (.inl (by omega))
theorem Asic.putS_dplctl (a : Asic) (f : Fld) (n : Int) (h : (f.addr < 0x40000 ∨ 0x48000 ≤ f.addr ∨ 4 ≤ (f.addr + 0) % 4096)) : (a.putS f n).get g = a.get g := Asic.get_put_ne _ _ _ _ (.inl (by omega))
theorem Asic.putB_dplctl (a : Asic) (f : Fld) (n : Bool) (h : (f.addr < 0x40000 ∨ 0x48000 ≤ f.addr ∨ 4 ≤ (f.addr + 0) % 4096)) : (a.putB f n).get g = a.get g := Asic.get_put_ne _ _ _ _ (.inl (by omega))
theorem Asic.addSat_dplctl (a : Asic) (f : Fld) (n : Nat) (h : (f.addr < 0x40000 ∨ 0x48000 ≤ f.addr ∨ 4 ≤ (f.addr + 0) % 4096)) : (a.addSat f n).get g = a.get g := Asic.get_put_ne _ _ _ _ (.inl (by omega))
theorem Asic.addWrap_dplctl (a : Asic) (f : Fld) (n : Nat) (h : (f.addr < 0x40000 ∨ 0x48000 ≤ f.addr ∨ 4 ≤ (f.addr + 0) % 4096)) : (a.addWrap f n).get g = a.get g := Asic.get_put_ne _ _ _ _ (.inl (by omega))
theorem Asic.event_dplctl (a : Asic) (f : Fld) (h : (f.addr < 0x40000 ∨ 0x48000 ≤ f.addr ∨ 4 ≤ (f.addr + 0) % 4096)) : (a.event f).get g = a.get g := Asic.get_event_ne _ _ _ (.inl (by omega)) (.inl (by dsimp only; omega))
theorem Asic.put2_dplctl (a : Asic) (f f' : Fld) (n : Nat) (h : (f.addr < 0x40000 ∨ 0x48000 ≤ f.addr ∨ 4 ≤ (f.addr + 0) % 4096)) (h' : (f'.addr < 0x40000 ∨ 0x48000 ≤ f'.addr ∨ 4 ≤ (f'.addr + 0) % 4096)) : (a.put2 f f' n).get g = a.get g := by
  rw [Asic.put2, Asic.get_put_ne _ _ _ _ (.inl (by omega)), Asic.get_put_ne _ _ _ _ (.inl (by omega))]
theorem Asic.put2S_dplctl (a : Asic) (f f' : Fld) (n : Int) (h : (f.addr < 0x40000 ∨ 0x48000 ≤ f.addr ∨ 4 ≤ (f.addr + 0) % 4096)) (h' : (f'.addr < 0x40000 ∨ 0x48000 ≤ f'.addr ∨ 4 ≤ (f'.addr + 0) % 4096)) : (a.put2S f f' n).get g = a.get g := by
  rw [Asic.put2S, Asic.put2, Asic.get_put_ne _ _ _ _ (.inl (by omega)), Asic.get_put_ne _ _ _ _ (.inl (by omega))]
omit h1 h2
theorem Asic.each_dplctl (a : Asic) (l : List Nat) (f : Asic → Nat → Asic) (h : ∀ x i, (f x i).get g = x.get g) : (a.each l f).get g = a.get g := by
  induction l generalizing a with
  | nil => rfl
  | cons i l ih => exact (ih (f a i)).trans (h a i)
theorem Asic.onlyIf_dplctl (a : Asic) (c : Bool) (f : Asic → Asic) (h : ∀ x, (f x).get g = x.get g) : (a.onlyIf c f).get g = a.get g := by
  unfold Asic.onlyIf
  split
  · exact h a
  · rfl
theorem Asic.entries_dplctl (a : Asic) (l : List Nat) (f : Asic → Nat → Asic × Bool) (h : ∀ x i, (f x i).1.get g = x.get g) : (a.entries l f).1.get g = a.get g := by
  have e : ∀ (l : List Nat) (p : Asic × Nat), (l.foldl (fun (p : Asic × Nat) k =>
      let (a, w) := f p.1 k
      (a, if w then p.2 + 2 ^ k else p.2)) p).1.get g = p.1.get g := by
    intro l
    induction l with
    | nil => intro p; rfl
    | cons i l ih => intro p; exact (ih _).trans (h p.1 i)
  exact e l (a, 0)
theorem Asic.ite_dplctl (c : Prop) [Decidable c] (x y : Asic) : (if c then x else y).get g = if c then x.get g else y.get g := apply_ite (fun z => Asic.get z g) _ _ _
theorem Asic.foldl_dplctl {α : Type} (a : Asic) (l : List α) (f : Asic → α → Asic) (h : ∀ x i, (f x i).get g = x.get g) : (l.foldl f a).get g = a.get g := by
  induction l generalizing a with
  | nil => rfl
  | cons i l ih => exact (ih (f a i)).trans (h a i)
include h1 h2


theorem Asic.rebase_dplctl (a : Asic) (k : Nat) : (Asic.rebase a k).get g = a.get g := by
  unfold Asic.rebase
  simp -implicitDefEqProofs (disch := first | omega | (dsimp only; omega) | (intros; simp -implicitDefEqProofs (disch := first | omega | (dsimp only; omega)) [Asic.get_mk, Asic.get_of_regs])) [Asic.get_mk, Asic.get_of_regs]

theorem Asic.refreshRate_dplctl (a : Asic) (k : Nat) : (Asic.refreshRate a k).get g = a.get g := by
  unfold Asic.refreshRate
  simp -implicitDefEqProofs (disch := first | omega | (dsimp only; omega) | (intros; simp -implicitDefEqProofs (disch := first | omega | (dsimp only; omega)) [Asic.rebase_dplctl g h1 h2, Asic.putB_dplctl g h1 h2, Asic.get_mk, Asic.get_of_regs, Asic.ite_dplctl])) [Asic.rebase_dplctl g h1 h2, Asic.putB_dplctl g h1 h2, Asic.get_mk, Asic.get_of_regs, Asic.ite_dplctl]

theorem Asic.refreshRates_dplctl (a : Asic) : (Asic.refreshRates a).get g = a.get g := by
  unfold Asic.refreshRates
  simp -implicitDefEqProofs (disch := first | omega | (dsimp only; omega) | (intros; simp -implicitDefEqProofs (disch := first | omega | (dsimp only; omega)) [Asic.refreshRate_dplctl g h1 h2, Asic.get_mk, Asic.get_of_regs, Asic.each_dplctl])) [Asic.refreshRate_dplctl g h1 h2, Asic.get_mk, Asic.get_of_regs, Asic.each_dplctl]

theorem Asic.settleChan_dplctl (a : Asic) (c : Nat) : (Asic.settleChan a c).get g = a.get g := by
  unfold Asic.settleChan
  simp -implicitDefEqProofs (disch := first | omega | (dsimp only; omega) | (intros; simp -implicitDefEqProofs (disch := first | omega | (dsimp only; omega)) [Asic.get_mk, Asic.get_of_regs])) [Asic.get_mk, Asic.get_of_regs]

theorem Asic.setY_dplctl (a : Asic) (c : Nat) (y : Int) : (Asic.setY a c y).get g = a.get g := by
  unfold Asic.setY
  simp -implicitDefEqProofs (disch := first | omega | (dsimp only; omega) | (intros; simp -implicitDefEqProofs (disch := first | omega | (dsimp only; omega)) [Asic.refreshRates_dplctl g h1 h2, Asic.settleChan_dplctl g h1 h2, Asic.put2S_dplctl g h1 h2, Asic.get_mk, Asic.get_of_regs])) [Asic.refreshRates_dplctl g h1 h2, Asic.settleChan_dplctl g h1 h2, Asic.put2S_dplctl g h1 h2, Asic.get_mk, Asic.get_of_regs]

theorem Asic.noteClamp_dplctl (a : Asic) (c : Nat) (clamped : Bool) : (Asic.noteClamp a c clamped).get g = a.get g := by
  unfold Asic.noteClamp
  simp -implicitDefEqProofs (disch := first | omega | (dsimp only; omega) | (intros; simp -implicitDefEqProofs (disch := first | omega | (dsimp only; omega)) [Asic.putB_dplctl g h1 h2, Asic.event_dplctl g h1 h2, Asic.get_mk, Asic.get_of_regs, Asic.ite_dplctl])) [Asic.putB_dplctl g h1 h2, Asic.event_dplctl g h1 h2, Asic.get_mk, Asic.get_of_regs, Asic.ite_dplctl]

theorem Asic.takeWord_dplctl (a : Asic) (c : Nat) (w : Int) : (Asic.takeWord a c w).get g = a.get g := by
  unfold Asic.takeWord
  simp -implicitDefEqProofs (disch := first | omega | (dsimp only; omega) | (intros; simp -implicitDefEqProofs (disch := first | omega | (dsimp only; omega)) [Asic.setY_dplctl g h1 h2, Asic.noteClamp_dplctl g h1 h2, Asic.get_mk, Asic.get_of_regs])) [Asic.setY_dplctl g h1 h2, Asic.noteClamp_dplctl g h1 h2, Asic.get_mk, Asic.get_of_regs]

theorem Asic.refreshAnchor_dplctl (a : Asic) : (Asic.refreshAnchor a).get g = a.get g := by
  unfold Asic.refreshAnchor
  simp -implicitDefEqProofs (disch := first | omega | (dsimp only; omega) | (intros; simp -implicitDefEqProofs (disch := first | omega | (dsimp only; omega)) [Asic.put_dplctl g h1 h2, Asic.get_mk, Asic.get_of_regs, Asic.each_dplctl, Asic.ite_dplctl])) [Asic.put_dplctl g h1 h2, Asic.get_mk, Asic.get_of_regs, Asic.each_dplctl, Asic.ite_dplctl]

theorem Asic.emit_dplctl (a : Asic) (q : Nat) (r : Record) : (Asic.emit a q r).get g = a.get g := by
  unfold Asic.emit
  simp -implicitDefEqProofs (disch := first | omega | (dsimp only; omega) | (intros; simp -implicitDefEqProofs (disch := first | omega | (dsimp only; omega)) [Asic.addSat_dplctl g h1 h2, Asic.get_mk, Asic.get_of_regs, Asic.ite_dplctl])) [Asic.addSat_dplctl g h1 h2, Asic.get_mk, Asic.get_of_regs, Asic.ite_dplctl]

theorem Asic.telemetry_dplctl (a : Asic) (c : Nat) (event : Bool) (short : Bool) : (Asic.telemetry a c event short).get g = a.get g := by
  unfold Asic.telemetry
  simp -implicitDefEqProofs (disch := first | omega | (dsimp only; omega) | (intros; simp -implicitDefEqProofs (disch := first | omega | (dsimp only; omega)) [Asic.emit_dplctl g h1 h2, Asic.settleChan_dplctl g h1 h2, Asic.get_mk, Asic.get_of_regs, Asic.ite_dplctl])) [Asic.emit_dplctl g h1 h2, Asic.settleChan_dplctl g h1 h2, Asic.get_mk, Asic.get_of_regs, Asic.ite_dplctl]

theorem Asic.moveChan_dplctl (a : Asic) (c : Nat) (s : Nat) : (Asic.moveChan a c s).get g = a.get g := by
  unfold Asic.moveChan
  simp -implicitDefEqProofs (disch := first | omega | (dsimp only; omega) | (intros; simp -implicitDefEqProofs (disch := first | omega | (dsimp only; omega)) [Asic.refreshAnchor_dplctl g h1 h2, Asic.telemetry_dplctl g h1 h2, Asic.put_dplctl g h1 h2, Asic.get_mk, Asic.get_of_regs, Asic.ite_dplctl])) [Asic.refreshAnchor_dplctl g h1 h2, Asic.telemetry_dplctl g h1 h2, Asic.put_dplctl g h1 h2, Asic.get_mk, Asic.get_of_regs, Asic.ite_dplctl]

theorem Asic.toFreerun_dplctl (a : Asic) (c : Nat) : (Asic.toFreerun a c).get g = a.get g := by
  unfold Asic.toFreerun
  simp -implicitDefEqProofs (disch := first | omega | (dsimp only; omega) | (intros; simp -implicitDefEqProofs (disch := first | omega | (dsimp only; omega)) [Asic.takeWord_dplctl g h1 h2, Asic.moveChan_dplctl g h1 h2, Asic.put_dplctl g h1 h2, Asic.get_mk, Asic.get_of_regs, Asic.ite_dplctl])) [Asic.takeWord_dplctl g h1 h2, Asic.moveChan_dplctl g h1 h2, Asic.put_dplctl g h1 h2, Asic.get_mk, Asic.get_of_regs, Asic.ite_dplctl]

theorem Asic.toAcquire_dplctl (a : Asic) (c : Nat) : (Asic.toAcquire a c).get g = a.get g := by
  unfold Asic.toAcquire
  simp -implicitDefEqProofs (disch := first | omega | (dsimp only; omega) | (intros; simp -implicitDefEqProofs (disch := first | omega | (dsimp only; omega)) [Asic.moveChan_dplctl g h1 h2, Asic.put_dplctl g h1 h2, Asic.put2S_dplctl g h1 h2, Asic.get_mk, Asic.get_of_regs, Asic.onlyIf_dplctl, Asic.ite_dplctl])) [Asic.moveChan_dplctl g h1 h2, Asic.put_dplctl g h1 h2, Asic.put2S_dplctl g h1 h2, Asic.get_mk, Asic.get_of_regs, Asic.onlyIf_dplctl, Asic.ite_dplctl]

theorem Asic.takeHoWord_dplctl (a : Asic) (c : Nat) : (Asic.takeHoWord a c).get g = a.get g := by
  unfold Asic.takeHoWord
  simp -implicitDefEqProofs (disch := first | omega | (dsimp only; omega) | (intros; simp -implicitDefEqProofs (disch := first | omega | (dsimp only; omega)) [Asic.takeWord_dplctl g h1 h2, Asic.putB_dplctl g h1 h2, Asic.get_mk, Asic.get_of_regs])) [Asic.takeWord_dplctl g h1 h2, Asic.putB_dplctl g h1 h2, Asic.get_mk, Asic.get_of_regs]

theorem Asic.toHoldoverWith_dplctl (a : Asic) (c : Nat) (qual : Nat) (avg : Int) (tc : Nat) : (Asic.toHoldoverWith a c qual avg tc).get g = a.get g := by
  unfold Asic.toHoldoverWith
  simp -implicitDefEqProofs (disch := first | omega | (dsimp only; omega) | (intros; simp -implicitDefEqProofs (disch := first | omega | (dsimp only; omega)) [Asic.moveChan_dplctl g h1 h2, Asic.takeHoWord_dplctl g h1 h2, Asic.put_dplctl g h1 h2, Asic.addSat_dplctl g h1 h2, Asic.event_dplctl g h1 h2, Asic.put2S_dplctl g h1 h2, Asic.get_mk, Asic.get_of_regs])) [Asic.moveChan_dplctl g h1 h2, Asic.takeHoWord_dplctl g h1 h2, Asic.put_dplctl g h1 h2, Asic.addSat_dplctl g h1 h2, Asic.event_dplctl g h1 h2, Asic.put2S_dplctl g h1 h2, Asic.get_mk, Asic.get_of_regs]

theorem Asic.toHoldover_dplctl (a : Asic) (c : Nat) : (Asic.toHoldover a c).get g = a.get g := by
  unfold Asic.toHoldover
  simp -implicitDefEqProofs (disch := first | omega | (dsimp only; omega) | (intros; simp -implicitDefEqProofs (disch := first | omega | (dsimp only; omega)) [Asic.toHoldoverWith_dplctl g h1 h2, Asic.get_mk, Asic.get_of_regs])) [Asic.toHoldoverWith_dplctl g h1 h2, Asic.get_mk, Asic.get_of_regs]

theorem Asic.startSwitch_dplctl (a : Asic) (c : Nat) (o : Nat) (n : Nat) (reason : Nat) : (Asic.startSwitch a c o n reason).get g = a.get g := by
  unfold Asic.startSwitch
  simp -implicitDefEqProofs (disch := first | omega | (dsimp only; omega) | (intros; simp -implicitDefEqProofs (disch := first | omega | (dsimp only; omega)) [Asic.put_dplctl g h1 h2, Asic.get_mk, Asic.get_of_regs])) [Asic.put_dplctl g h1 h2, Asic.get_mk, Asic.get_of_regs]

theorem Asic.ctlWritten_dplctl (a : Asic) (c : Nat) : (Asic.ctlWritten a c).get g = a.get g := by
  unfold Asic.ctlWritten
  simp -implicitDefEqProofs (disch := first | omega | (dsimp only; omega) | (intros; simp -implicitDefEqProofs (disch := first | omega | (dsimp only; omega)) [Asic.toFreerun_dplctl g h1 h2, Asic.toAcquire_dplctl g h1 h2, Asic.toHoldover_dplctl g h1 h2, Asic.startSwitch_dplctl g h1 h2, Asic.get_mk, Asic.get_of_regs, Asic.ite_dplctl])) [Asic.toFreerun_dplctl g h1 h2, Asic.toAcquire_dplctl g h1 h2, Asic.toHoldover_dplctl g h1 h2, Asic.startSwitch_dplctl g h1 h2, Asic.get_mk, Asic.get_of_regs, Asic.ite_dplctl]

end Sys2Proof.Machine
end

