-- ==== Sys2Proof/Laws/FrameDplmo.lean ====
section
/-! SUPPORT. Operations that leave the field `Reg.DPL_STATE.MODELED` alone. -/

set_option linter.unusedSimpArgs false
set_option linter.unusedSectionVars false

namespace Sys2Proof.Machine

variable (q0 : Nat) (h0 : q0 < 64)
theorem Asic.put_dplmo (a : Asic) (f : Fld) (n : Nat) (h : f.addr ≠ (Reg.DPL_STATE.MODELED q0).addr ∨ f.lsb + f.width ≤ (Reg.DPL_STATE.MODELED q0).lsb ∨ (Reg.DPL_STATE.MODELED q0).lsb + (Reg.DPL_STATE.MODELED q0).width ≤ f.lsb) : (a.put f n).get (Reg.DPL_STATE.MODELED q0) = a.get (Reg.DPL_STATE.MODELED q0) := Asic.get_put_ne _ _ _ _ h
theorem Asic.putS_dplmo (a : Asic) (f : Fld) (n : Int) (h : f.addr ≠ (Reg.DPL_STATE.MODELED q0).addr ∨ f.lsb + f.width ≤ (Reg.DPL_STATE.MODELED q0).lsb ∨ (Reg.DPL_STATE.MODELED q0).lsb + (Reg.DPL_STATE.MODELED q0).width ≤ f.lsb) : (a.putS f n).get (Reg.DPL_STATE.MODELED q0) = a.get (Reg.DPL_STATE.MODELED q0) := Asic.get_put_ne _ _ _ _ h
theorem Asic.putB_dplmo (a : Asic) (f : Fld) (n : Bool) (h : f.addr ≠ (Reg.DPL_STATE.MODELED q0).addr ∨ f.lsb + f.width ≤ (Reg.DPL_STATE.MODELED q0).lsb ∨ (Reg.DPL_STATE.MODELED q0).lsb + (Reg.DPL_STATE.MODELED q0).width ≤ f.lsb) : (a.putB f n).get (Reg.DPL_STATE.MODELED q0) = a.get (Reg.DPL_STATE.MODELED q0) := Asic.get_put_ne _ _ _ _ h
theorem Asic.addSat_dplmo (a : Asic) (f : Fld) (n : Nat) (h : f.addr ≠ (Reg.DPL_STATE.MODELED q0).addr ∨ f.lsb + f.width ≤ (Reg.DPL_STATE.MODELED q0).lsb ∨ (Reg.DPL_STATE.MODELED q0).lsb + (Reg.DPL_STATE.MODELED q0).width ≤ f.lsb) : (a.addSat f n).get (Reg.DPL_STATE.MODELED q0) = a.get (Reg.DPL_STATE.MODELED q0) := Asic.get_put_ne _ _ _ _ h
theorem Asic.addWrap_dplmo (a : Asic) (f : Fld) (n : Nat) (h : f.addr ≠ (Reg.DPL_STATE.MODELED q0).addr ∨ f.lsb + f.width ≤ (Reg.DPL_STATE.MODELED q0).lsb ∨ (Reg.DPL_STATE.MODELED q0).lsb + (Reg.DPL_STATE.MODELED q0).width ≤ f.lsb) : (a.addWrap f n).get (Reg.DPL_STATE.MODELED q0) = a.get (Reg.DPL_STATE.MODELED q0) := Asic.get_put_ne _ _ _ _ h
theorem Asic.event_dplmo (a : Asic) (f : Fld) (h : f.addr ≠ (Reg.DPL_STATE.MODELED q0).addr ∨ f.lsb + f.width ≤ (Reg.DPL_STATE.MODELED q0).lsb ∨ (Reg.DPL_STATE.MODELED q0).lsb + (Reg.DPL_STATE.MODELED q0).width ≤ f.lsb) (h' : f.addr ≠ (Reg.DPL_STATE.MODELED q0).addr ∨ 8 ≤ (Reg.DPL_STATE.MODELED q0).lsb) : (a.event f).get (Reg.DPL_STATE.MODELED q0) = a.get (Reg.DPL_STATE.MODELED q0) := Asic.get_event_ne _ _ _ h (h'.imp id .inl)
theorem Asic.put2_dplmo (a : Asic) (f f' : Fld) (n : Nat) (h : f.addr ≠ (Reg.DPL_STATE.MODELED q0).addr ∨ f.lsb + f.width ≤ (Reg.DPL_STATE.MODELED q0).lsb ∨ (Reg.DPL_STATE.MODELED q0).lsb + (Reg.DPL_STATE.MODELED q0).width ≤ f.lsb) (h' : f'.addr ≠ (Reg.DPL_STATE.MODELED q0).addr ∨ f'.lsb + f'.width ≤ (Reg.DPL_STATE.MODELED q0).lsb ∨ (Reg.DPL_STATE.MODELED q0).lsb + (Reg.DPL_STATE.MODELED q0).width ≤ f'.lsb) : (a.put2 f f' n).get (Reg.DPL_STATE.MODELED q0) = a.get (Reg.DPL_STATE.MODELED q0) := by
  unfold Asic.put2
  rw [Asic.get_put_ne _ _ _ _ h', Asic.get_put_ne _ _ _ _ h]
theorem Asic.put2S_dplmo (a : Asic) (f f' : Fld) (n : Int) (h : f.addr ≠ (Reg.DPL_STATE.MODELED q0).addr ∨ f.lsb + f.width ≤ (Reg.DPL_STATE.MODELED q0).lsb ∨ (Reg.DPL_STATE.MODELED q0).lsb + (Reg.DPL_STATE.MODELED q0).width ≤ f.lsb) (h' : f'.addr ≠ (Reg.DPL_STATE.MODELED q0).addr ∨ f'.lsb + f'.width ≤ (Reg.DPL_STATE.MODELED q0).lsb ∨ (Reg.DPL_STATE.MODELED q0).lsb + (Reg.DPL_STATE.MODELED q0).width ≤ f'.lsb) : (a.put2S f f' n).get (Reg.DPL_STATE.MODELED q0) = a.get (Reg.DPL_STATE.MODELED q0) := by
  unfold Asic.put2S Asic.put2
  rw [Asic.get_put_ne _ _ _ _ h', Asic.get_put_ne _ _ _ _ h]
theorem Asic.each_dplmo (a : Asic) (l : List Nat) (f : Asic → Nat → Asic) (h : ∀ x i, (f x i).get (Reg.DPL_STATE.MODELED q0) = x.get (Reg.DPL_STATE.MODELED q0)) : (a.each l f).get (Reg.DPL_STATE.MODELED q0) = a.get (Reg.DPL_STATE.MODELED q0) := by
  induction l generalizing a with
  | nil => rfl
  | cons i l ih => exact (ih (f a i)).trans (h a i)
theorem Asic.onlyIf_dplmo (a : Asic) (c : Bool) (f : Asic → Asic) (h : ∀ x, (f x).get (Reg.DPL_STATE.MODELED q0) = x.get (Reg.DPL_STATE.MODELED q0)) : (a.onlyIf c f).get (Reg.DPL_STATE.MODELED q0) = a.get (Reg.DPL_STATE.MODELED q0) := by
  unfold Asic.onlyIf
  split
  · exact h a
  · rfl
theorem Asic.ite_dplmo (c : Prop) [Decidable c] (x y : Asic) : (if c then x else y).get (Reg.DPL_STATE.MODELED q0) = if c then x.get (Reg.DPL_STATE.MODELED q0) else y.get (Reg.DPL_STATE.MODELED q0) := apply_ite (fun z => Asic.get z (Reg.DPL_STATE.MODELED q0)) _ _ _
theorem Asic.foldl_dplmo {α : Type} (a : Asic) (l : List α) (f : Asic → α → Asic) (h : ∀ x i, (f x i).get (Reg.DPL_STATE.MODELED q0) = x.get (Reg.DPL_STATE.MODELED q0)) : (l.foldl f a).get (Reg.DPL_STATE.MODELED q0) = a.get (Reg.DPL_STATE.MODELED q0) := by
  induction l generalizing a with
  | nil => rfl
  | cons i l ih => exact (ih (f a i)).trans (h a i)


include h0 in
theorem Asic.rebase_dplmo (a : Asic) (k : Nat) : (Asic.rebase a k).get (Reg.DPL_STATE.MODELED q0) = a.get (Reg.DPL_STATE.MODELED q0) := by
  unfold Asic.rebase
  simp -implicitDefEqProofs (disch := first | omega | (dsimp only; omega) | (intros; simp -implicitDefEqProofs (disch := first | omega | (dsimp only; omega)) [Asic.get_mk, Asic.get_of_regs])) [Asic.get_mk, Asic.get_of_regs]

include h0 in
theorem Asic.refreshRate_dplmo (a : Asic) (k : Nat) : (Asic.refreshRate a k).get (Reg.DPL_STATE.MODELED q0) = a.get (Reg.DPL_STATE.MODELED q0) := by
  unfold Asic.refreshRate
  simp -implicitDefEqProofs (disch := first | omega | (dsimp only; omega) | (intros; simp -implicitDefEqProofs (disch := first | omega | (dsimp only; omega)) [Asic.rebase_dplmo q0 h0, Asic.putB_dplmo q0, Asic.get_mk, Asic.get_of_regs, Asic.ite_dplmo])) [Asic.rebase_dplmo q0 h0, Asic.putB_dplmo q0, Asic.get_mk, Asic.get_of_regs, Asic.ite_dplmo]

include h0 in
theorem Asic.refreshRates_dplmo (a : Asic) : (Asic.refreshRates a).get (Reg.DPL_STATE.MODELED q0) = a.get (Reg.DPL_STATE.MODELED q0) := by
  unfold Asic.refreshRates
  simp -implicitDefEqProofs (disch := first | omega | (dsimp only; omega) | (intros; simp -implicitDefEqProofs (disch := first | omega | (dsimp only; omega)) [Asic.refreshRate_dplmo q0 h0, Asic.get_mk, Asic.get_of_regs, Asic.each_dplmo])) [Asic.refreshRate_dplmo q0 h0, Asic.get_mk, Asic.get_of_regs, Asic.each_dplmo]

include h0 in
theorem Asic.settleChan_dplmo (a : Asic) (c : Nat) : (Asic.settleChan a c).get (Reg.DPL_STATE.MODELED q0) = a.get (Reg.DPL_STATE.MODELED q0) := by
  unfold Asic.settleChan
  simp -implicitDefEqProofs (disch := first | omega | (dsimp only; omega) | (intros; simp -implicitDefEqProofs (disch := first | omega | (dsimp only; omega)) [Asic.get_mk, Asic.get_of_regs])) [Asic.get_mk, Asic.get_of_regs]

include h0 in
theorem Asic.setY_dplmo (a : Asic) (c : Nat) (y : Int) : (Asic.setY a c y).get (Reg.DPL_STATE.MODELED q0) = a.get (Reg.DPL_STATE.MODELED q0) := by
  unfold Asic.setY
  simp -implicitDefEqProofs (disch := first | omega | (dsimp only; omega) | (intros; simp -implicitDefEqProofs (disch := first | omega | (dsimp only; omega)) [Asic.refreshRates_dplmo q0 h0, Asic.settleChan_dplmo q0 h0, Asic.put2S_dplmo q0, Asic.get_mk, Asic.get_of_regs])) [Asic.refreshRates_dplmo q0 h0, Asic.settleChan_dplmo q0 h0, Asic.put2S_dplmo q0, Asic.get_mk, Asic.get_of_regs]

include h0 in
theorem Asic.noteClamp_dplmo (a : Asic) (c : Nat) (clamped : Bool) : (Asic.noteClamp a c clamped).get (Reg.DPL_STATE.MODELED q0) = a.get (Reg.DPL_STATE.MODELED q0) := by
  unfold Asic.noteClamp
  simp -implicitDefEqProofs (disch := first | omega | (dsimp only; omega) | (intros; simp -implicitDefEqProofs (disch := first | omega | (dsimp only; omega)) [Asic.putB_dplmo q0, Asic.event_dplmo q0, Asic.get_mk, Asic.get_of_regs, Asic.ite_dplmo])) [Asic.putB_dplmo q0, Asic.event_dplmo q0, Asic.get_mk, Asic.get_of_regs, Asic.ite_dplmo]

include h0 in
theorem Asic.takeWord_dplmo (a : Asic) (c : Nat) (w : Int) : (Asic.takeWord a c w).get (Reg.DPL_STATE.MODELED q0) = a.get (Reg.DPL_STATE.MODELED q0) := by
  unfold Asic.takeWord
  simp -implicitDefEqProofs (disch := first | omega | (dsimp only; omega) | (intros; simp -implicitDefEqProofs (disch := first | omega | (dsimp only; omega)) [Asic.setY_dplmo q0 h0, Asic.noteClamp_dplmo q0 h0, Asic.get_mk, Asic.get_of_regs])) [Asic.setY_dplmo q0 h0, Asic.noteClamp_dplmo q0 h0, Asic.get_mk, Asic.get_of_regs]

end Sys2Proof.Machine
end

