-- ==== Sys2Proof/Laws/FrameDplpe.lean ====
section
/-! SUPPORT. Register fields at mod:0x40000:0x48000:4096:8:4024 to  that operations leave alone. -/

set_option linter.unusedSimpArgs false
set_option linter.unusedSectionVars false

namespace Sys2Proof.Machine

variable (g : Fld) (h1 : 0x40000 ≤ g.addr ∧ g.addr < 0x48000) (h2 : (g.addr + 4024) % 4096 < 8)
include h1 h2
theorem Asic.put_dplpe (a : Asic) (f : Fld) (n : Nat) (h : (f.addr < 0x40000 ∨ 0x48000 ≤ f.addr ∨ 8 ≤ (f.addr + 4024) % 4096)) : (a.put f n).get g = a.get g := Asic.get_put_ne _ _ _ _ (.inl (by omega))
theorem Asic.putS_dplpe (a : Asic) (f : Fld) (n : Int) (h : (f.addr < 0x40000 ∨ 0x48000 ≤ f.addr ∨ 8 ≤ (f.addr + 4024) % 4096)) : (a.putS f n).get g = a.get g := Asic.get_put_ne _ _ _ _ (.inl (by omega))
theorem Asic.putB_dplpe (a : Asic) (f : Fld) (n : Bool) (h : (f.addr < 0x40000 ∨ 0x48000 ≤ f.addr ∨ 8 ≤ (f.addr + 4024) % 4096)) : (a.putB f n).get g = a.get g := Asic.get_put_ne _ _ _ _ (.inl (by omega))
theorem Asic.addSat_dplpe (a : Asic) (f : Fld) (n : Nat) (h : (f.addr < 0x40000 ∨ 0x48000 ≤ f.addr ∨ 8 ≤ (f.addr + 4024) % 4096)) : (a.addSat f n).get g = a.get g := Asic.get_put_ne _ _ _ _ (.inl (by omega))
theorem Asic.addWrap_dplpe (a : Asic) (f : Fld) (n : Nat) (h : (f.addr < 0x40000 ∨ 0x48000 ≤ f.addr ∨ 8 ≤ (f.addr + 4024) % 4096)) : (a.addWrap f n).get g = a.get g := Asic.get_put_ne _ _ _ _ (.inl (by omega))
theorem Asic.event_dplpe (a : Asic) (f : Fld) (h : (f.addr < 0x40000 ∨ 0x48000 ≤ f.addr ∨ 8 ≤ (f.addr + 4024) % 4096)) : (a.event f).get g = a.get g := Asic.get_event_ne _ _ _ (.inl (by omega)) (.inl (by dsimp only; omega))
theorem Asic.put2_dplpe (a : Asic) (f f' : Fld) (n : Nat) (h : (f.addr < 0x40000 ∨ 0x48000 ≤ f.addr ∨ 8 ≤ (f.addr + 4024) % 4096)) (h' : (f'.addr < 0x40000 ∨ 0x48000 ≤ f'.addr ∨ 8 ≤ (f'.addr + 4024) % 4096)) : (a.put2 f f' n).get g = a.get g := by
  rw [Asic.put2, Asic.get_put_ne _ _ _ _ (.inl (by omega)), Asic.get_put_ne _ _ _ _ (.inl (by omega))]
theorem Asic.put2S_dplpe (a : Asic) (f f' : Fld) (n : Int) (h : (f.addr < 0x40000 ∨ 0x48000 ≤ f.addr ∨ 8 ≤ (f.addr + 4024) % 4096)) (h' : (f'.addr < 0x40000 ∨ 0x48000 ≤ f'.addr ∨ 8 ≤ (f'.addr + 4024) % 4096)) : (a.put2S f f' n).get g = a.get g := by
  rw [Asic.put2S, Asic.put2, Asic.get_put_ne _ _ _ _ (.inl (by omega)), Asic.get_put_ne _ _ _ _ (.inl (by omega))]
omit h1 h2
theorem Asic.each_dplpe (a : Asic) (l : List Nat) (f : Asic → Nat → Asic) (h : ∀ x i, (f x i).get g = x.get g) : (a.each l f).get g = a.get g := by
  induction l generalizing a with
  | nil => rfl
  | cons i l ih => exact (ih (f a i)).trans (h a i)
theorem Asic.onlyIf_dplpe (a : Asic) (c : Bool) (f : Asic → Asic) (h : ∀ x, (f x).get g = x.get g) : (a.onlyIf c f).get g = a.get g := by
  unfold Asic.onlyIf
  split
  · exact h a
  · rfl
theorem Asic.entries_dplpe (a : Asic) (l : List Nat) (f : Asic → Nat → Asic × Bool) (h : ∀ x i, (f x i).1.get g = x.get g) : (a.entries l f).1.get g = a.get g := by
  have e : ∀ (l : List Nat) (p : Asic × Nat), (l.foldl (fun (p : Asic × Nat) k =>
      let (a, w) := f p.1 k
      (a, if w then p.2 + 2 ^ k else p.2)) p).1.get g = p.1.get g := by
    intro l
    induction l with
    | nil => intro p; rfl
    | cons i l ih => intro p; exact (ih _).trans (h p.1 i)
  exact e l (a, 0)
theorem Asic.ite_dplpe (c : Prop) [Decidable c] (x y : Asic) : (if c then x else y).get g = if c then x.get g else y.get g := apply_ite (fun z => Asic.get z g) _ _ _
theorem Asic.foldl_dplpe {α : Type} (a : Asic) (l : List α) (f : Asic → α → Asic) (h : ∀ x i, (f x i).get g = x.get g) : (l.foldl f a).get g = a.get g := by
  induction l generalizing a with
  | nil => rfl
  | cons i l ih => exact (ih (f a i)).trans (h a i)
include h1 h2


theorem Asic.rebase_dplpe (a : Asic) (k : Nat) : (Asic.rebase a k).get g = a.get g := by
  unfold Asic.rebase
  simp -implicitDefEqProofs (disch := first | omega | (dsimp only; omega) | (intros; simp -implicitDefEqProofs (disch := first | omega | (dsimp only; omega)) [Asic.get_mk, Asic.get_of_regs])) [Asic.get_mk, Asic.get_of_regs]

theorem Asic.refreshRate_dplpe (a : Asic) (k : Nat) : (Asic.refreshRate a k).get g = a.get g := by
  unfold Asic.refreshRate
  simp -implicitDefEqProofs (disch := first | omega | (dsimp only; omega) | (intros; simp -implicitDefEqProofs (disch := first | omega | (dsimp only; omega)) [Asic.rebase_dplpe g h1 h2, Asic.putB_dplpe g h1 h2, Asic.get_mk, Asic.get_of_regs, Asic.ite_dplpe])) [Asic.rebase_dplpe g h1 h2, Asic.putB_dplpe g h1 h2, Asic.get_mk, Asic.get_of_regs, Asic.ite_dplpe]

theorem Asic.refreshRates_dplpe (a : Asic) : (Asic.refreshRates a).get g = a.get g := by
  unfold Asic.refreshRates
  simp -implicitDefEqProofs (disch := first | omega | (dsimp only; omega) | (intros; simp -implicitDefEqProofs (disch := first | omega | (dsimp only; omega)) [Asic.refreshRate_dplpe g h1 h2, Asic.get_mk, Asic.get_of_regs, Asic.each_dplpe])) [Asic.refreshRate_dplpe g h1 h2, Asic.get_mk, Asic.get_of_regs, Asic.each_dplpe]

theorem Asic.settleChan_dplpe (a : Asic) (c : Nat) : (Asic.settleChan a c).get g = a.get g := by
  unfold Asic.settleChan
  simp -implicitDefEqProofs (disch := first | omega | (dsimp only; omega) | (intros; simp -implicitDefEqProofs (disch := first | omega | (dsimp only; omega)) [Asic.get_mk, Asic.get_of_regs])) [Asic.get_mk, Asic.get_of_regs]

theorem Asic.setY_dplpe (a : Asic) (c : Nat) (y : Int) : (Asic.setY a c y).get g = a.get g := by
  unfold Asic.setY
  simp -implicitDefEqProofs (disch := first | omega | (dsimp only; omega) | (intros; simp -implicitDefEqProofs (disch := first | omega | (dsimp only; omega)) [Asic.refreshRates_dplpe g h1 h2, Asic.settleChan_dplpe g h1 h2, Asic.put2S_dplpe g h1 h2, Asic.get_mk, Asic.get_of_regs])) [Asic.refreshRates_dplpe g h1 h2, Asic.settleChan_dplpe g h1 h2, Asic.put2S_dplpe g h1 h2, Asic.get_mk, Asic.get_of_regs]

theorem Asic.noteClamp_dplpe (a : Asic) (c : Nat) (clamped : Bool) : (Asic.noteClamp a c clamped).get g = a.get g := by
  unfold Asic.noteClamp
  simp -implicitDefEqProofs (disch := first | omega | (dsimp only; omega) | (intros; simp -implicitDefEqProofs (disch := first | omega | (dsimp only; omega)) [Asic.putB_dplpe g h1 h2, Asic.event_dplpe g h1 h2, Asic.get_mk, Asic.get_of_regs, Asic.ite_dplpe])) [Asic.putB_dplpe g h1 h2, Asic.event_dplpe g h1 h2, Asic.get_mk, Asic.get_of_regs, Asic.ite_dplpe]

theorem Asic.refreshAnchor_dplpe (a : Asic) : (Asic.refreshAnchor a).get g = a.get g := by
  unfold Asic.refreshAnchor
  simp -implicitDefEqProofs (disch := first | omega | (dsimp only; omega) | (intros; simp -implicitDefEqProofs (disch := first | omega | (dsimp only; omega)) [Asic.put_dplpe g h1 h2, Asic.get_mk, Asic.get_of_regs, Asic.each_dplpe, Asic.ite_dplpe])) [Asic.put_dplpe g h1 h2, Asic.get_mk, Asic.get_of_regs, Asic.each_dplpe, Asic.ite_dplpe]

theorem Asic.emit_dplpe (a : Asic) (q : Nat) (r : Record) : (Asic.emit a q r).get g = a.get g := by
  unfold Asic.emit
  simp -implicitDefEqProofs (disch := first | omega | (dsimp only; omega) | (intros; simp -implicitDefEqProofs (disch := first | omega | (dsimp only; omega)) [Asic.addSat_dplpe g h1 h2, Asic.get_mk, Asic.get_of_regs, Asic.ite_dplpe])) [Asic.addSat_dplpe g h1 h2, Asic.get_mk, Asic.get_of_regs, Asic.ite_dplpe]

theorem Asic.telemetry_dplpe (a : Asic) (c : Nat) (event : Bool) (short : Bool) : (Asic.telemetry a c event short).get g = a.get g := by
  unfold Asic.telemetry
  simp -implicitDefEqProofs (disch := first | omega | (dsimp only; omega) | (intros; simp -implicitDefEqProofs (disch := first | omega | (dsimp only; omega)) [Asic.emit_dplpe g h1 h2, Asic.settleChan_dplpe g h1 h2, Asic.get_mk, Asic.get_of_regs, Asic.ite_dplpe])) [Asic.emit_dplpe g h1 h2, Asic.settleChan_dplpe g h1 h2, Asic.get_mk, Asic.get_of_regs, Asic.ite_dplpe]

theorem Asic.moveChan_dplpe (a : Asic) (c : Nat) (s : Nat) : (Asic.moveChan a c s).get g = a.get g := by
  unfold Asic.moveChan
  simp -implicitDefEqProofs (disch := first | omega | (dsimp only; omega) | (intros; simp -implicitDefEqProofs (disch := first | omega | (dsimp only; omega)) [Asic.refreshAnchor_dplpe g h1 h2, Asic.telemetry_dplpe g h1 h2, Asic.put_dplpe g h1 h2, Asic.get_mk, Asic.get_of_regs, Asic.ite_dplpe])) [Asic.refreshAnchor_dplpe g h1 h2, Asic.telemetry_dplpe g h1 h2, Asic.put_dplpe g h1 h2, Asic.get_mk, Asic.get_of_regs, Asic.ite_dplpe]

theorem Asic.lock_dplpe (a : Asic) (c : Nat) : (Asic.lock a c).get g = a.get g := by
  unfold Asic.lock
  simp -implicitDefEqProofs (disch := first | omega | (dsimp only; omega) | (intros; simp -implicitDefEqProofs (disch := first | omega | (dsimp only; omega)) [Asic.moveChan_dplpe g h1 h2, Asic.event_dplpe g h1 h2, Asic.get_mk, Asic.get_of_regs])) [Asic.moveChan_dplpe g h1 h2, Asic.event_dplpe g h1 h2, Asic.get_mk, Asic.get_of_regs]

theorem Asic.unlock_dplpe (a : Asic) (c : Nat) : (Asic.unlock a c).get g = a.get g := by
  unfold Asic.unlock
  simp -implicitDefEqProofs (disch := first | omega | (dsimp only; omega) | (intros; simp -implicitDefEqProofs (disch := first | omega | (dsimp only; omega)) [Asic.moveChan_dplpe g h1 h2, Asic.addSat_dplpe g h1 h2, Asic.event_dplpe g h1 h2, Asic.get_mk, Asic.get_of_regs])) [Asic.moveChan_dplpe g h1 h2, Asic.addSat_dplpe g h1 h2, Asic.event_dplpe g h1 h2, Asic.get_mk, Asic.get_of_regs]

end Sys2Proof.Machine
end

