-- ==== Sys2Proof/Laws/FrameDplst.lean ====
section
/-! SUPPORT. Operations that leave the field `Reg.DPL_STATE.STATE` alone. -/

set_option linter.unusedSimpArgs false
set_option linter.unusedSectionVars false

namespace Sys2Proof.Machine

variable (q0 : Nat) (h0 : q0 < 64)
theorem Asic.put_dplst (a : Asic) (f : Fld) (n : Nat) (h : f.addr ≠ (Reg.DPL_STATE.STATE q0).addr ∨ f.lsb + f.width ≤ (Reg.DPL_STATE.STATE q0).lsb ∨ (Reg.DPL_STATE.STATE q0).lsb + (Reg.DPL_STATE.STATE q0).width ≤ f.lsb) : (a.put f n).get (Reg.DPL_STATE.STATE q0) = a.get (Reg.DPL_STATE.STATE q0) := Asic.get_put_ne _ _ _ _ h
theorem Asic.putS_dplst (a : Asic) (f : Fld) (n : Int) (h : f.addr ≠ (Reg.DPL_STATE.STATE q0).addr ∨ f.lsb + f.width ≤ (Reg.DPL_STATE.STATE q0).lsb ∨ (Reg.DPL_STATE.STATE q0).lsb + (Reg.DPL_STATE.STATE q0).width ≤ f.lsb) : (a.putS f n).get (Reg.DPL_STATE.STATE q0) = a.get (Reg.DPL_STATE.STATE q0) := Asic.get_put_ne _ _ _ _ h
theorem Asic.putB_dplst (a : Asic) (f : Fld) (n : Bool) (h : f.addr ≠ (Reg.DPL_STATE.STATE q0).addr ∨ f.lsb + f.width ≤ (Reg.DPL_STATE.STATE q0).lsb ∨ (Reg.DPL_STATE.STATE q0).lsb + (Reg.DPL_STATE.STATE q0).width ≤ f.lsb) : (a.putB f n).get (Reg.DPL_STATE.STATE q0) = a.get (Reg.DPL_STATE.STATE q0) := Asic.get_put_ne _ _ _ _ h
theorem Asic.addSat_dplst (a : Asic) (f : Fld) (n : Nat) (h : f.addr ≠ (Reg.DPL_STATE.STATE q0).addr ∨ f.lsb + f.width ≤ (Reg.DPL_STATE.STATE q0).lsb ∨ (Reg.DPL_STATE.STATE q0).lsb + (Reg.DPL_STATE.STATE q0).width ≤ f.lsb) : (a.addSat f n).get (Reg.DPL_STATE.STATE q0) = a.get (Reg.DPL_STATE.STATE q0) := Asic.get_put_ne _ _ _ _ h
theorem Asic.addWrap_dplst (a : Asic) (f : Fld) (n : Nat) (h : f.addr ≠ (Reg.DPL_STATE.STATE q0).addr ∨ f.lsb + f.width ≤ (Reg.DPL_STATE.STATE q0).lsb ∨ (Reg.DPL_STATE.STATE q0).lsb + (Reg.DPL_STATE.STATE q0).width ≤ f.lsb) : (a.addWrap f n).get (Reg.DPL_STATE.STATE q0) = a.get (Reg.DPL_STATE.STATE q0) := Asic.get_put_ne _ _ _ _ h
theorem Asic.event_dplst (a : Asic) (f : Fld) (h : f.addr ≠ (Reg.DPL_STATE.STATE q0).addr ∨ f.lsb + f.width ≤ (Reg.DPL_STATE.STATE q0).lsb ∨ (Reg.DPL_STATE.STATE q0).lsb + (Reg.DPL_STATE.STATE q0).width ≤ f.lsb) (h' : f.addr ≠ (Reg.DPL_STATE.STATE q0).addr ∨ 8 ≤ (Reg.DPL_STATE.STATE q0).lsb) : (a.event f).get (Reg.DPL_STATE.STATE q0) = a.get (Reg.DPL_STATE.STATE q0) := Asic.get_event_ne _ _ _ h (h'.imp id .inl)
theorem Asic.put2_dplst (a : Asic) (f f' : Fld) (n : Nat) (h : f.addr ≠ (Reg.DPL_STATE.STATE q0).addr ∨ f.lsb + f.width ≤ (Reg.DPL_STATE.STATE q0).lsb ∨ (Reg.DPL_STATE.STATE q0).lsb + (Reg.DPL_STATE.STATE q0).width ≤ f.lsb) (h' : f'.addr ≠ (Reg.DPL_STATE.STATE q0).addr ∨ f'.lsb + f'.width ≤ (Reg.DPL_STATE.STATE q0).lsb ∨ (Reg.DPL_STATE.STATE q0).lsb + (Reg.DPL_STATE.STATE q0).width ≤ f'.lsb) : (a.put2 f f' n).get (Reg.DPL_STATE.STATE q0) = a.get (Reg.DPL_STATE.STATE q0) := by
  unfold Asic.put2
  rw [Asic.get_put_ne _ _ _ _ h', Asic.get_put_ne _ _ _ _ h]
theorem Asic.put2S_dplst (a : Asic) (f f' : Fld) (n : Int) (h : f.addr ≠ (Reg.DPL_STATE.STATE q0).addr ∨ f.lsb + f.width ≤ (Reg.DPL_STATE.STATE q0).lsb ∨ (Reg.DPL_STATE.STATE q0).lsb + (Reg.DPL_STATE.STATE q0).width ≤ f.lsb) (h' : f'.addr ≠ (Reg.DPL_STATE.STATE q0).addr ∨ f'.lsb + f'.width ≤ (Reg.DPL_STATE.STATE q0).lsb ∨ (Reg.DPL_STATE.STATE q0).lsb + (Reg.DPL_STATE.STATE q0).width ≤ f'.lsb) : (a.put2S f f' n).get (Reg.DPL_STATE.STATE q0) = a.get (Reg.DPL_STATE.STATE q0) := by
  unfold Asic.put2S Asic.put2
  rw [Asic.get_put_ne _ _ _ _ h', Asic.get_put_ne _ _ _ _ h]
theorem Asic.each_dplst (a : Asic) (l : List Nat) (f : Asic → Nat → Asic) (h : ∀ x i, (f x i).get (Reg.DPL_STATE.STATE q0) = x.get (Reg.DPL_STATE.STATE q0)) : (a.each l f).get (Reg.DPL_STATE.STATE q0) = a.get (Reg.DPL_STATE.STATE q0) := by
  induction l generalizing a with
  | nil => rfl
  | cons i l ih => exact (ih (f a i)).trans (h a i)
theorem Asic.onlyIf_dplst (a : Asic) (c : Bool) (f : Asic → Asic) (h : ∀ x, (f x).get (Reg.DPL_STATE.STATE q0) = x.get (Reg.DPL_STATE.STATE q0)) : (a.onlyIf c f).get (Reg.DPL_STATE.STATE q0) = a.get (Reg.DPL_STATE.STATE q0) := by
  unfold Asic.onlyIf
  split
  · exact h a
  · rfl
theorem Asic.ite_dplst (c : Prop) [Decidable c] (x y : Asic) : (if c then x else y).get (Reg.DPL_STATE.STATE q0) = if c then x.get (Reg.DPL_STATE.STATE q0) else y.get (Reg.DPL_STATE.STATE q0) := apply_ite (fun z => Asic.get z (Reg.DPL_STATE.STATE q0)) _ _ _
theorem Asic.foldl_dplst {α : Type} (a : Asic) (l : List α) (f : Asic → α → Asic) (h : ∀ x i, (f x i).get (Reg.DPL_STATE.STATE q0) = x.get (Reg.DPL_STATE.STATE q0)) : (l.foldl f a).get (Reg.DPL_STATE.STATE q0) = a.get (Reg.DPL_STATE.STATE q0) := by
  induction l generalizing a with
  | nil => rfl
  | cons i l ih => exact (ih (f a i)).trans (h a i)


include h0 in
theorem Asic.emit_dplst (a : Asic) (q : Nat) (r : Record) : (Asic.emit a q r).get (Reg.DPL_STATE.STATE q0) = a.get (Reg.DPL_STATE.STATE q0) := by
  unfold Asic.emit
  simp -implicitDefEqProofs (disch := first | omega | (dsimp only; omega) | (intros; simp -implicitDefEqProofs (disch := first | omega | (dsimp only; omega)) [Asic.addSat_dplst q0, Asic.get_mk, Asic.get_of_regs, Asic.ite_dplst])) [Asic.addSat_dplst q0, Asic.get_mk, Asic.get_of_regs, Asic.ite_dplst]

include h0 in
theorem Asic.settleChan_dplst (a : Asic) (c : Nat) : (Asic.settleChan a c).get (Reg.DPL_STATE.STATE q0) = a.get (Reg.DPL_STATE.STATE q0) := by
  unfold Asic.settleChan
  simp -implicitDefEqProofs (disch := first | omega | (dsimp only; omega) | (intros; simp -implicitDefEqProofs (disch := first | omega | (dsimp only; omega)) [Asic.get_mk, Asic.get_of_regs])) [Asic.get_mk, Asic.get_of_regs]

include h0 in
theorem Asic.telemetry_dplst (a : Asic) (c : Nat) (event : Bool) (short : Bool) : (Asic.telemetry a c event short).get (Reg.DPL_STATE.STATE q0) = a.get (Reg.DPL_STATE.STATE q0) := by
  unfold Asic.telemetry
  simp -implicitDefEqProofs (disch := first | omega | (dsimp only; omega) | (intros; simp -implicitDefEqProofs (disch := first | omega | (dsimp only; omega)) [Asic.emit_dplst q0 h0, Asic.settleChan_dplst q0 h0, Asic.get_mk, Asic.get_of_regs, Asic.ite_dplst])) [Asic.emit_dplst q0 h0, Asic.settleChan_dplst q0 h0, Asic.get_mk, Asic.get_of_regs, Asic.ite_dplst]

include h0 in
theorem Asic.refreshAnchor_dplst (a : Asic) : (Asic.refreshAnchor a).get (Reg.DPL_STATE.STATE q0) = a.get (Reg.DPL_STATE.STATE q0) := by
  unfold Asic.refreshAnchor
  simp -implicitDefEqProofs (disch := first | omega | (dsimp only; omega) | (intros; simp -implicitDefEqProofs (disch := first | omega | (dsimp only; omega)) [Asic.put_dplst q0, Asic.get_mk, Asic.get_of_regs, Asic.each_dplst, Asic.ite_dplst])) [Asic.put_dplst q0, Asic.get_mk, Asic.get_of_regs, Asic.each_dplst, Asic.ite_dplst]

include h0 in
theorem Asic.rebase_dplst (a : Asic) (k : Nat) : (Asic.rebase a k).get (Reg.DPL_STATE.STATE q0) = a.get (Reg.DPL_STATE.STATE q0) := by
  unfold Asic.rebase
  simp -implicitDefEqProofs (disch := first | omega | (dsimp only; omega) | (intros; simp -implicitDefEqProofs (disch := first | omega | (dsimp only; omega)) [Asic.get_mk, Asic.get_of_regs])) [Asic.get_mk, Asic.get_of_regs]

include h0 in
theorem Asic.refreshRate_dplst (a : Asic) (k : Nat) : (Asic.refreshRate a k).get (Reg.DPL_STATE.STATE q0) = a.get (Reg.DPL_STATE.STATE q0) := by
  unfold Asic.refreshRate
  simp -implicitDefEqProofs (disch := first | omega | (dsimp only; omega) | (intros; simp -implicitDefEqProofs (disch := first | omega | (dsimp only; omega)) [Asic.rebase_dplst q0 h0, Asic.putB_dplst q0, Asic.get_mk, Asic.get_of_regs, Asic.ite_dplst])) [Asic.rebase_dplst q0 h0, Asic.putB_dplst q0, Asic.get_mk, Asic.get_of_regs, Asic.ite_dplst]

include h0 in
theorem Asic.refreshRates_dplst (a : Asic) : (Asic.refreshRates a).get (Reg.DPL_STATE.STATE q0) = a.get (Reg.DPL_STATE.STATE q0) := by
  unfold Asic.refreshRates
  simp -implicitDefEqProofs (disch := first | omega | (dsimp only; omega) | (intros; simp -implicitDefEqProofs (disch := first | omega | (dsimp only; omega)) [Asic.refreshRate_dplst q0 h0, Asic.get_mk, Asic.get_of_regs, Asic.each_dplst])) [Asic.refreshRate_dplst q0 h0, Asic.get_mk, Asic.get_of_regs, Asic.each_dplst]

include h0 in
theorem Asic.setY_dplst (a : Asic) (c : Nat) (y : Int) : (Asic.setY a c y).get (Reg.DPL_STATE.STATE q0) = a.get (Reg.DPL_STATE.STATE q0) := by
  unfold Asic.setY
  simp -implicitDefEqProofs (disch := first | omega | (dsimp only; omega) | (intros; simp -implicitDefEqProofs (disch := first | omega | (dsimp only; omega)) [Asic.refreshRates_dplst q0 h0, Asic.settleChan_dplst q0 h0, Asic.put2S_dplst q0, Asic.get_mk, Asic.get_of_regs])) [Asic.refreshRates_dplst q0 h0, Asic.settleChan_dplst q0 h0, Asic.put2S_dplst q0, Asic.get_mk, Asic.get_of_regs]

include h0 in
theorem Asic.noteClamp_dplst (a : Asic) (c : Nat) (clamped : Bool) : (Asic.noteClamp a c clamped).get (Reg.DPL_STATE.STATE q0) = a.get (Reg.DPL_STATE.STATE q0) := by
  unfold Asic.noteClamp
  simp -implicitDefEqProofs (disch := first | omega | (dsimp only; omega) | (intros; simp -implicitDefEqProofs (disch := first | omega | (dsimp only; omega)) [Asic.putB_dplst q0, Asic.event_dplst q0, Asic.get_mk, Asic.get_of_regs, Asic.ite_dplst])) [Asic.putB_dplst q0, Asic.event_dplst q0, Asic.get_mk, Asic.get_of_regs, Asic.ite_dplst]

include h0 in
theorem Asic.takeWord_dplst (a : Asic) (c : Nat) (w : Int) : (Asic.takeWord a c w).get (Reg.DPL_STATE.STATE q0) = a.get (Reg.DPL_STATE.STATE q0) := by
  unfold Asic.takeWord
  simp -implicitDefEqProofs (disch := first | omega | (dsimp only; omega) | (intros; simp -implicitDefEqProofs (disch := first | omega | (dsimp only; omega)) [Asic.setY_dplst q0 h0, Asic.noteClamp_dplst q0 h0, Asic.get_mk, Asic.get_of_regs])) [Asic.setY_dplst q0 h0, Asic.noteClamp_dplst q0 h0, Asic.get_mk, Asic.get_of_regs]

include h0 in
theorem Asic.takeHoWord_dplst (a : Asic) (c : Nat) : (Asic.takeHoWord a c).get (Reg.DPL_STATE.STATE q0) = a.get (Reg.DPL_STATE.STATE q0) := by
  unfold Asic.takeHoWord
  simp -implicitDefEqProofs (disch := first | omega | (dsimp only; omega) | (intros; simp -implicitDefEqProofs (disch := first | omega | (dsimp only; omega)) [Asic.takeWord_dplst q0 h0, Asic.putB_dplst q0, Asic.get_mk, Asic.get_of_regs])) [Asic.takeWord_dplst q0 h0, Asic.putB_dplst q0, Asic.get_mk, Asic.get_of_regs]

include h0 in
theorem Asic.startSwitch_dplst (a : Asic) (c : Nat) (o : Nat) (n : Nat) (reason : Nat) : (Asic.startSwitch a c o n reason).get (Reg.DPL_STATE.STATE q0) = a.get (Reg.DPL_STATE.STATE q0) := by
  unfold Asic.startSwitch
  simp -implicitDefEqProofs (disch := first | omega | (dsimp only; omega) | (intros; simp -implicitDefEqProofs (disch := first | omega | (dsimp only; omega)) [Asic.put_dplst q0, Asic.get_mk, Asic.get_of_regs])) [Asic.put_dplst q0, Asic.get_mk, Asic.get_of_regs]

end Sys2Proof.Machine
end

