-- ==== Sys2Proof/Laws/FrameDplun.lean ====
section
/-! SUPPORT. Operations that leave the field `Reg.DPL_STATE.UNIT` alone. -/

set_option linter.unusedSimpArgs false
set_option linter.unusedSectionVars false

namespace Sys2Proof.Machine

variable (q0 : Nat) (h0 : q0 < 64)
theorem Asic.put_dplun (a : Asic) (f : Fld) (n : Nat) (h : f.addr ≠ (Reg.DPL_STATE.UNIT q0).addr ∨ f.lsb + f.width ≤ (Reg.DPL_STATE.UNIT q0).lsb ∨ (Reg.DPL_STATE.UNIT q0).lsb + (Reg.DPL_STATE.UNIT q0).width ≤ f.lsb) : (a.put f n).get (Reg.DPL_STATE.UNIT q0) = a.get (Reg.DPL_STATE.UNIT q0) := Asic.get_put_ne _ _ _ _ h
theorem Asic.putS_dplun (a : Asic) (f : Fld) (n : Int) (h : f.addr ≠ (Reg.DPL_STATE.UNIT q0).addr ∨ f.lsb + f.width ≤ (Reg.DPL_STATE.UNIT q0).lsb ∨ (Reg.DPL_STATE.UNIT q0).lsb + (Reg.DPL_STATE.UNIT q0).width ≤ f.lsb) : (a.putS f n).get (Reg.DPL_STATE.UNIT q0) = a.get (Reg.DPL_STATE.UNIT q0) := Asic.get_put_ne _ _ _ _ h
theorem Asic.putB_dplun (a : Asic) (f : Fld) (n : Bool) (h : f.addr ≠ (Reg.DPL_STATE.UNIT q0).addr ∨ f.lsb + f.width ≤ (Reg.DPL_STATE.UNIT q0).lsb ∨ (Reg.DPL_STATE.UNIT q0).lsb + (Reg.DPL_STATE.UNIT q0).width ≤ f.lsb) : (a.putB f n).get (Reg.DPL_STATE.UNIT q0) = a.get (Reg.DPL_STATE.UNIT q0) := Asic.get_put_ne _ _ _ _ h
theorem Asic.addSat_dplun (a : Asic) (f : Fld) (n : Nat) (h : f.addr ≠ (Reg.DPL_STATE.UNIT q0).addr ∨ f.lsb + f.width ≤ (Reg.DPL_STATE.UNIT q0).lsb ∨ (Reg.DPL_STATE.UNIT q0).lsb + (Reg.DPL_STATE.UNIT q0).width ≤ f.lsb) : (a.addSat f n).get (Reg.DPL_STATE.UNIT q0) = a.get (Reg.DPL_STATE.UNIT q0) := Asic.get_put_ne _ _ _ _ h
theorem Asic.addWrap_dplun (a : Asic) (f : Fld) (n : Nat) (h : f.addr ≠ (Reg.DPL_STATE.UNIT q0).addr ∨ f.lsb + f.width ≤ (Reg.DPL_STATE.UNIT q0).lsb ∨ (Reg.DPL_STATE.UNIT q0).lsb + (Reg.DPL_STATE.UNIT q0).width ≤ f.lsb) : (a.addWrap f n).get (Reg.DPL_STATE.UNIT q0) = a.get (Reg.DPL_STATE.UNIT q0) := Asic.get_put_ne _ _ _ _ h
theorem Asic.event_dplun (a : Asic) (f : Fld) (h : f.addr ≠ (Reg.DPL_STATE.UNIT q0).addr ∨ f.lsb + f.width ≤ (Reg.DPL_STATE.UNIT q0).lsb ∨ (Reg.DPL_STATE.UNIT q0).lsb + (Reg.DPL_STATE.UNIT q0).width ≤ f.lsb) (h' : f.addr ≠ (Reg.DPL_STATE.UNIT q0).addr ∨ 8 ≤ (Reg.DPL_STATE.UNIT q0).lsb) : (a.event f).get (Reg.DPL_STATE.UNIT q0) = a.get (Reg.DPL_STATE.UNIT q0) := Asic.get_event_ne _ _ _ h (h'.imp id .inl)
theorem Asic.put2_dplun (a : Asic) (f f' : Fld) (n : Nat) (h : f.addr ≠ (Reg.DPL_STATE.UNIT q0).addr ∨ f.lsb + f.width ≤ (Reg.DPL_STATE.UNIT q0).lsb ∨ (Reg.DPL_STATE.UNIT q0).lsb + (Reg.DPL_STATE.UNIT q0).width ≤ f.lsb) (h' : f'.addr ≠ (Reg.DPL_STATE.UNIT q0).addr ∨ f'.lsb + f'.width ≤ (Reg.DPL_STATE.UNIT q0).lsb ∨ (Reg.DPL_STATE.UNIT q0).lsb + (Reg.DPL_STATE.UNIT q0).width ≤ f'.lsb) : (a.put2 f f' n).get (Reg.DPL_STATE.UNIT q0) = a.get (Reg.DPL_STATE.UNIT q0) := by
  unfold Asic.put2
  rw [Asic.get_put_ne _ _ _ _ h', Asic.get_put_ne _ _ _ _ h]
theorem Asic.put2S_dplun (a : Asic) (f f' : Fld) (n : Int) (h : f.addr ≠ (Reg.DPL_STATE.UNIT q0).addr ∨ f.lsb + f.width ≤ (Reg.DPL_STATE.UNIT q0).lsb ∨ (Reg.DPL_STATE.UNIT q0).lsb + (Reg.DPL_STATE.UNIT q0).width ≤ f.lsb) (h' : f'.addr ≠ (Reg.DPL_STATE.UNIT q0).addr ∨ f'.lsb + f'.width ≤ (Reg.DPL_STATE.UNIT q0).lsb ∨ (Reg.DPL_STATE.UNIT q0).lsb + (Reg.DPL_STATE.UNIT q0).width ≤ f'.lsb) : (a.put2S f f' n).get (Reg.DPL_STATE.UNIT q0) = a.get (Reg.DPL_STATE.UNIT q0) := by
  unfold Asic.put2S Asic.put2
  rw [Asic.get_put_ne _ _ _ _ h', Asic.get_put_ne _ _ _ _ h]
theorem Asic.each_dplun (a : Asic) (l : List Nat) (f : Asic → Nat → Asic) (h : ∀ x i, (f x i).get (Reg.DPL_STATE.UNIT q0) = x.get (Reg.DPL_STATE.UNIT q0)) : (a.each l f).get (Reg.DPL_STATE.UNIT q0) = a.get (Reg.DPL_STATE.UNIT q0) := by
  induction l generalizing a with
  | nil => rfl
  | cons i l ih => exact (ih (f a i)).trans (h a i)
theorem Asic.onlyIf_dplun (a : Asic) (c : Bool) (f : Asic → Asic) (h : ∀ x, (f x).get (Reg.DPL_STATE.UNIT q0) = x.get (Reg.DPL_STATE.UNIT q0)) : (a.onlyIf c f).get (Reg.DPL_STATE.UNIT q0) = a.get (Reg.DPL_STATE.UNIT q0) := by
  unfold Asic.onlyIf
  split
  · exact h a
  · rfl
theorem Asic.ite_dplun (c : Prop) [Decidable c] (x y : Asic) : (if c then x else y).get (Reg.DPL_STATE.UNIT q0) = if c then x.get (Reg.DPL_STATE.UNIT q0) else y.get (Reg.DPL_STATE.UNIT q0) := apply_ite (fun z => Asic.get z (Reg.DPL_STATE.UNIT q0)) _ _ _
theorem Asic.foldl_dplun {α : Type} (a : Asic) (l : List α) (f : Asic → α → Asic) (h : ∀ x i, (f x i).get (Reg.DPL_STATE.UNIT q0) = x.get (Reg.DPL_STATE.UNIT q0)) : (l.foldl f a).get (Reg.DPL_STATE.UNIT q0) = a.get (Reg.DPL_STATE.UNIT q0) := by
  induction l generalizing a with
  | nil => rfl
  | cons i l ih => exact (ih (f a i)).trans (h a i)


include h0 in
theorem Asic.emit_dplun (a : Asic) (q : Nat) (r : Record) : (Asic.emit a q r).get (Reg.DPL_STATE.UNIT q0) = a.get (Reg.DPL_STATE.UNIT q0) := by
  unfold Asic.emit
  simp -implicitDefEqProofs (disch := first | omega | (dsimp only; omega) | (intros; simp -implicitDefEqProofs (disch := first | omega | (dsimp only; omega)) [Asic.addSat_dplun q0, Asic.get_mk, Asic.get_of_regs, Asic.ite_dplun])) [Asic.addSat_dplun q0, Asic.get_mk, Asic.get_of_regs, Asic.ite_dplun]

include h0 in
theorem Asic.settleChan_dplun (a : Asic) (c : Nat) : (Asic.settleChan a c).get (Reg.DPL_STATE.UNIT q0) = a.get (Reg.DPL_STATE.UNIT q0) := by
  unfold Asic.settleChan
  simp -implicitDefEqProofs (disch := first | omega | (dsimp only; omega) | (intros; simp -implicitDefEqProofs (disch := first | omega | (dsimp only; omega)) [Asic.get_mk, Asic.get_of_regs])) [Asic.get_mk, Asic.get_of_regs]

include h0 in
theorem Asic.telemetry_dplun (a : Asic) (c : Nat) (event : Bool) (short : Bool) : (Asic.telemetry a c event short).get (Reg.DPL_STATE.UNIT q0) = a.get (Reg.DPL_STATE.UNIT q0) := by
  unfold Asic.telemetry
  simp -implicitDefEqProofs (disch := first | omega | (dsimp only; omega) | (intros; simp -implicitDefEqProofs (disch := first | omega | (dsimp only; omega)) [Asic.emit_dplun q0 h0, Asic.settleChan_dplun q0 h0, Asic.get_mk, Asic.get_of_regs, Asic.ite_dplun])) [Asic.emit_dplun q0 h0, Asic.settleChan_dplun q0 h0, Asic.get_mk, Asic.get_of_regs, Asic.ite_dplun]

include h0 in
theorem Asic.refreshAnchor_dplun (a : Asic) : (Asic.refreshAnchor a).get (Reg.DPL_STATE.UNIT q0) = a.get (Reg.DPL_STATE.UNIT q0) := by
  unfold Asic.refreshAnchor
  simp -implicitDefEqProofs (disch := first | omega | (dsimp only; omega) | (intros; simp -implicitDefEqProofs (disch := first | omega | (dsimp only; omega)) [Asic.put_dplun q0, Asic.get_mk, Asic.get_of_regs, Asic.each_dplun, Asic.ite_dplun])) [Asic.put_dplun q0, Asic.get_mk, Asic.get_of_regs, Asic.each_dplun, Asic.ite_dplun]

include h0 in
theorem Asic.rebase_dplun (a : Asic) (k : Nat) : (Asic.rebase a k).get (Reg.DPL_STATE.UNIT q0) = a.get (Reg.DPL_STATE.UNIT q0) := by
  unfold Asic.rebase
  simp -implicitDefEqProofs (disch := first | omega | (dsimp only; omega) | (intros; simp -implicitDefEqProofs (disch := first | omega | (dsimp only; omega)) [Asic.get_mk, Asic.get_of_regs])) [Asic.get_mk, Asic.get_of_regs]

include h0 in
theorem Asic.refreshRate_dplun (a : Asic) (k : Nat) : (Asic.refreshRate a k).get (Reg.DPL_STATE.UNIT q0) = a.get (Reg.DPL_STATE.UNIT q0) := by
  unfold Asic.refreshRate
  simp -implicitDefEqProofs (disch := first | omega | (dsimp only; omega) | (intros; simp -implicitDefEqProofs (disch := first | omega | (dsimp only; omega)) [Asic.rebase_dplun q0 h0, Asic.putB_dplun q0, Asic.get_mk, Asic.get_of_regs, Asic.ite_dplun])) [Asic.rebase_dplun q0 h0, Asic.putB_dplun q0, Asic.get_mk, Asic.get_of_regs, Asic.ite_dplun]

include h0 in
theorem Asic.refreshRates_dplun (a : Asic) : (Asic.refreshRates a).get (Reg.DPL_STATE.UNIT q0) = a.get (Reg.DPL_STATE.UNIT q0) := by
  unfold Asic.refreshRates
  simp -implicitDefEqProofs (disch := first | omega | (dsimp only; omega) | (intros; simp -implicitDefEqProofs (disch := first | omega | (dsimp only; omega)) [Asic.refreshRate_dplun q0 h0, Asic.get_mk, Asic.get_of_regs, Asic.each_dplun])) [Asic.refreshRate_dplun q0 h0, Asic.get_mk, Asic.get_of_regs, Asic.each_dplun]

include h0 in
theorem Asic.setY_dplun (a : Asic) (c : Nat) (y : Int) : (Asic.setY a c y).get (Reg.DPL_STATE.UNIT q0) = a.get (Reg.DPL_STATE.UNIT q0) := by
  unfold Asic.setY
  simp -implicitDefEqProofs (disch := first | omega | (dsimp only; omega) | (intros; simp -implicitDefEqProofs (disch := first | omega | (dsimp only; omega)) [Asic.refreshRates_dplun q0 h0, Asic.settleChan_dplun q0 h0, Asic.put2S_dplun q0, Asic.get_mk, Asic.get_of_regs])) [Asic.refreshRates_dplun q0 h0, Asic.settleChan_dplun q0 h0, Asic.put2S_dplun q0, Asic.get_mk, Asic.get_of_regs]

include h0 in
theorem Asic.noteClamp_dplun (a : Asic) (c : Nat) (clamped : Bool) : (Asic.noteClamp a c clamped).get (Reg.DPL_STATE.UNIT q0) = a.get (Reg.DPL_STATE.UNIT q0) := by
  unfold Asic.noteClamp
  simp -implicitDefEqProofs (disch := first | omega | (dsimp only; omega) | (intros; simp -implicitDefEqProofs (disch := first | omega | (dsimp only; omega)) [Asic.putB_dplun q0, Asic.event_dplun q0, Asic.get_mk, Asic.get_of_regs, Asic.ite_dplun])) [Asic.putB_dplun q0, Asic.event_dplun q0, Asic.get_mk, Asic.get_of_regs, Asic.ite_dplun]

include h0 in
theorem Asic.takeWord_dplun (a : Asic) (c : Nat) (w : Int) : (Asic.takeWord a c w).get (Reg.DPL_STATE.UNIT q0) = a.get (Reg.DPL_STATE.UNIT q0) := by
  unfold Asic.takeWord
  simp -implicitDefEqProofs (disch := first | omega | (dsimp only; omega) | (intros; simp -implicitDefEqProofs (disch := first | omega | (dsimp only; omega)) [Asic.setY_dplun q0 h0, Asic.noteClamp_dplun q0 h0, Asic.get_mk, Asic.get_of_regs])) [Asic.setY_dplun q0 h0, Asic.noteClamp_dplun q0 h0, Asic.get_mk, Asic.get_of_regs]

include h0 in
theorem Asic.moveChan_dplun (a : Asic) (c : Nat) (s : Nat) : (Asic.moveChan a c s).get (Reg.DPL_STATE.UNIT q0) = a.get (Reg.DPL_STATE.UNIT q0) := by
  unfold Asic.moveChan
  simp -implicitDefEqProofs (disch := first | omega | (dsimp only; omega) | (intros; simp -implicitDefEqProofs (disch := first | omega | (dsimp only; omega)) [Asic.refreshAnchor_dplun q0 h0, Asic.telemetry_dplun q0 h0, Asic.put_dplun q0, Asic.get_mk, Asic.get_of_regs, Asic.ite_dplun])) [Asic.refreshAnchor_dplun q0 h0, Asic.telemetry_dplun q0 h0, Asic.put_dplun q0, Asic.get_mk, Asic.get_of_regs, Asic.ite_dplun]

include h0 in
theorem Asic.takeHoWord_dplun (a : Asic) (c : Nat) : (Asic.takeHoWord a c).get (Reg.DPL_STATE.UNIT q0) = a.get (Reg.DPL_STATE.UNIT q0) := by
  unfold Asic.takeHoWord
  simp -implicitDefEqProofs (disch := first | omega | (dsimp only; omega) | (intros; simp -implicitDefEqProofs (disch := first | omega | (dsimp only; omega)) [Asic.takeWord_dplun q0 h0, Asic.putB_dplun q0, Asic.get_mk, Asic.get_of_regs])) [Asic.takeWord_dplun q0 h0, Asic.putB_dplun q0, Asic.get_mk, Asic.get_of_regs]

include h0 in
theorem Asic.toHoldoverWith_dplun (a : Asic) (c : Nat) (qual : Nat) (avg : Int) (tc : Nat) : (Asic.toHoldoverWith a c qual avg tc).get (Reg.DPL_STATE.UNIT q0) = a.get (Reg.DPL_STATE.UNIT q0) := by
  unfold Asic.toHoldoverWith
  simp -implicitDefEqProofs (disch := first | omega | (dsimp only; omega) | (intros; simp -implicitDefEqProofs (disch := first | omega | (dsimp only; omega)) [Asic.moveChan_dplun q0 h0, Asic.takeHoWord_dplun q0 h0, Asic.put_dplun q0, Asic.addSat_dplun q0, Asic.event_dplun q0, Asic.put2S_dplun q0, Asic.get_mk, Asic.get_of_regs])) [Asic.moveChan_dplun q0 h0, Asic.takeHoWord_dplun q0 h0, Asic.put_dplun q0, Asic.addSat_dplun q0, Asic.event_dplun q0, Asic.put2S_dplun q0, Asic.get_mk, Asic.get_of_regs]

include h0 in
theorem Asic.toFreerun_dplun (a : Asic) (c : Nat) : (Asic.toFreerun a c).get (Reg.DPL_STATE.UNIT q0) = a.get (Reg.DPL_STATE.UNIT q0) := by
  unfold Asic.toFreerun
  simp -implicitDefEqProofs (disch := first | omega | (dsimp only; omega) | (intros; simp -implicitDefEqProofs (disch := first | omega | (dsimp only; omega)) [Asic.takeWord_dplun q0 h0, Asic.moveChan_dplun q0 h0, Asic.put_dplun q0, Asic.get_mk, Asic.get_of_regs, Asic.ite_dplun])) [Asic.takeWord_dplun q0 h0, Asic.moveChan_dplun q0 h0, Asic.put_dplun q0, Asic.get_mk, Asic.get_of_regs, Asic.ite_dplun]

include h0 in
theorem Asic.toAcquire_dplun (a : Asic) (c : Nat) : (Asic.toAcquire a c).get (Reg.DPL_STATE.UNIT q0) = a.get (Reg.DPL_STATE.UNIT q0) := by
  unfold Asic.toAcquire
  simp -implicitDefEqProofs (disch := first | omega | (dsimp only; omega) | (intros; simp -implicitDefEqProofs (disch := first | omega | (dsimp only; omega)) [Asic.moveChan_dplun q0 h0, Asic.put_dplun q0, Asic.put2S_dplun q0, Asic.get_mk, Asic.get_of_regs, Asic.onlyIf_dplun, Asic.ite_dplun])) [Asic.moveChan_dplun q0 h0, Asic.put_dplun q0, Asic.put2S_dplun q0, Asic.get_mk, Asic.get_of_regs, Asic.onlyIf_dplun, Asic.ite_dplun]

include h0 in
theorem Asic.toHoldover_dplun (a : Asic) (c : Nat) : (Asic.toHoldover a c).get (Reg.DPL_STATE.UNIT q0) = a.get (Reg.DPL_STATE.UNIT q0) := by
  unfold Asic.toHoldover
  simp -implicitDefEqProofs (disch := first | omega | (dsimp only; omega) | (intros; simp -implicitDefEqProofs (disch := first | omega | (dsimp only; omega)) [Asic.toHoldoverWith_dplun q0 h0, Asic.get_mk, Asic.get_of_regs])) [Asic.toHoldoverWith_dplun q0 h0, Asic.get_mk, Asic.get_of_regs]

include h0 in
theorem Asic.selectionChanged_dplun (a : Asic) (c : Nat) : (Asic.selectionChanged a c).get (Reg.DPL_STATE.UNIT q0) = a.get (Reg.DPL_STATE.UNIT q0) := by
  unfold Asic.selectionChanged
  simp -implicitDefEqProofs (disch := first | omega | (dsimp only; omega) | (intros; simp -implicitDefEqProofs (disch := first | omega | (dsimp only; omega)) [Asic.refreshAnchor_dplun q0 h0, Asic.toFreerun_dplun q0 h0, Asic.toAcquire_dplun q0 h0, Asic.toHoldover_dplun q0 h0, Asic.get_mk, Asic.get_of_regs, Asic.ite_dplun])) [Asic.refreshAnchor_dplun q0 h0, Asic.toFreerun_dplun q0 h0, Asic.toAcquire_dplun q0 h0, Asic.toHoldover_dplun q0 h0, Asic.get_mk, Asic.get_of_regs, Asic.ite_dplun]

include h0 in
theorem Asic.changeEpoch_dplun (a : Asic) (q : Nat) (kind : Nat) (fn : Nat) (old : Nat) (new : Nat) (cause : Nat) (extra : Nat) : (Asic.changeEpoch a q kind fn old new cause extra).get (Reg.DPL_STATE.UNIT q0) = a.get (Reg.DPL_STATE.UNIT q0) := by
  unfold Asic.changeEpoch
  simp -implicitDefEqProofs (disch := first | omega | (dsimp only; omega) | (intros; simp -implicitDefEqProofs (disch := first | omega | (dsimp only; omega)) [Asic.emit_dplun q0 h0, Asic.get_mk, Asic.get_of_regs])) [Asic.emit_dplun q0 h0, Asic.get_mk, Asic.get_of_regs]

end Sys2Proof.Machine
end

