-- ==== Sys2Proof/Laws/FrameFallback.lean ====
section
/-! SUPPORT. Operations that leave the field `Reg.GLB_MODE.FALLBACK` alone. -/

set_option linter.unusedSimpArgs false
set_option linter.unusedSectionVars false

namespace Sys2Proof.Machine

theorem Asic.put_fallback (a : Asic) (f : Fld) (n : Nat) (h : f.addr ≠ Reg.GLB_MODE.FALLBACK.addr ∨ f.lsb + f.width ≤ Reg.GLB_MODE.FALLBACK.lsb ∨ Reg.GLB_MODE.FALLBACK.lsb + Reg.GLB_MODE.FALLBACK.width ≤ f.lsb) : (a.put f n).get Reg.GLB_MODE.FALLBACK = a.get Reg.GLB_MODE.FALLBACK := Asic.get_put_ne _ _ _ _ h
theorem Asic.putS_fallback (a : Asic) (f : Fld) (n : Int) (h : f.addr ≠ Reg.GLB_MODE.FALLBACK.addr ∨ f.lsb + f.width ≤ Reg.GLB_MODE.FALLBACK.lsb ∨ Reg.GLB_MODE.FALLBACK.lsb + Reg.GLB_MODE.FALLBACK.width ≤ f.lsb) : (a.putS f n).get Reg.GLB_MODE.FALLBACK = a.get Reg.GLB_MODE.FALLBACK := Asic.get_put_ne _ _ _ _ h
theorem Asic.putB_fallback (a : Asic) (f : Fld) (n : Bool) (h : f.addr ≠ Reg.GLB_MODE.FALLBACK.addr ∨ f.lsb + f.width ≤ Reg.GLB_MODE.FALLBACK.lsb ∨ Reg.GLB_MODE.FALLBACK.lsb + Reg.GLB_MODE.FALLBACK.width ≤ f.lsb) : (a.putB f n).get Reg.GLB_MODE.FALLBACK = a.get Reg.GLB_MODE.FALLBACK := Asic.get_put_ne _ _ _ _ h
theorem Asic.addSat_fallback (a : Asic) (f : Fld) (n : Nat) (h : f.addr ≠ Reg.GLB_MODE.FALLBACK.addr ∨ f.lsb + f.width ≤ Reg.GLB_MODE.FALLBACK.lsb ∨ Reg.GLB_MODE.FALLBACK.lsb + Reg.GLB_MODE.FALLBACK.width ≤ f.lsb) : (a.addSat f n).get Reg.GLB_MODE.FALLBACK = a.get Reg.GLB_MODE.FALLBACK := Asic.get_put_ne _ _ _ _ h
theorem Asic.addWrap_fallback (a : Asic) (f : Fld) (n : Nat) (h : f.addr ≠ Reg.GLB_MODE.FALLBACK.addr ∨ f.lsb + f.width ≤ Reg.GLB_MODE.FALLBACK.lsb ∨ Reg.GLB_MODE.FALLBACK.lsb + Reg.GLB_MODE.FALLBACK.width ≤ f.lsb) : (a.addWrap f n).get Reg.GLB_MODE.FALLBACK = a.get Reg.GLB_MODE.FALLBACK := Asic.get_put_ne _ _ _ _ h
theorem Asic.event_fallback (a : Asic) (f : Fld) (h : f.addr ≠ Reg.GLB_MODE.FALLBACK.addr ∨ f.lsb + f.width ≤ Reg.GLB_MODE.FALLBACK.lsb ∨ Reg.GLB_MODE.FALLBACK.lsb + Reg.GLB_MODE.FALLBACK.width ≤ f.lsb) (h' : f.addr ≠ Reg.GLB_MODE.FALLBACK.addr ∨ 8 ≤ Reg.GLB_MODE.FALLBACK.lsb) : (a.event f).get Reg.GLB_MODE.FALLBACK = a.get Reg.GLB_MODE.FALLBACK := Asic.get_event_ne _ _ _ h (h'.imp id .inl)
theorem Asic.put2_fallback (a : Asic) (f f' : Fld) (n : Nat) (h : f.addr ≠ Reg.GLB_MODE.FALLBACK.addr ∨ f.lsb + f.width ≤ Reg.GLB_MODE.FALLBACK.lsb ∨ Reg.GLB_MODE.FALLBACK.lsb + Reg.GLB_MODE.FALLBACK.width ≤ f.lsb) (h' : f'.addr ≠ Reg.GLB_MODE.FALLBACK.addr ∨ f'.lsb + f'.width ≤ Reg.GLB_MODE.FALLBACK.lsb ∨ Reg.GLB_MODE.FALLBACK.lsb + Reg.GLB_MODE.FALLBACK.width ≤ f'.lsb) : (a.put2 f f' n).get Reg.GLB_MODE.FALLBACK = a.get Reg.GLB_MODE.FALLBACK := by
  unfold Asic.put2
  rw [Asic.get_put_ne _ _ _ _ h', Asic.get_put_ne _ _ _ _ h]
theorem Asic.put2S_fallback (a : Asic) (f f' : Fld) (n : Int) (h : f.addr ≠ Reg.GLB_MODE.FALLBACK.addr ∨ f.lsb + f.width ≤ Reg.GLB_MODE.FALLBACK.lsb ∨ Reg.GLB_MODE.FALLBACK.lsb + Reg.GLB_MODE.FALLBACK.width ≤ f.lsb) (h' : f'.addr ≠ Reg.GLB_MODE.FALLBACK.addr ∨ f'.lsb + f'.width ≤ Reg.GLB_MODE.FALLBACK.lsb ∨ Reg.GLB_MODE.FALLBACK.lsb + Reg.GLB_MODE.FALLBACK.width ≤ f'.lsb) : (a.put2S f f' n).get Reg.GLB_MODE.FALLBACK = a.get Reg.GLB_MODE.FALLBACK := by
  unfold Asic.put2S Asic.put2
  rw [Asic.get_put_ne _ _ _ _ h', Asic.get_put_ne _ _ _ _ h]
theorem Asic.each_fallback (a : Asic) (l : List Nat) (f : Asic → Nat → Asic) (h : ∀ x i, (f x i).get Reg.GLB_MODE.FALLBACK = x.get Reg.GLB_MODE.FALLBACK) : (a.each l f).get Reg.GLB_MODE.FALLBACK = a.get Reg.GLB_MODE.FALLBACK := by
  induction l generalizing a with
  | nil => rfl
  | cons i l ih => exact (ih (f a i)).trans (h a i)
theorem Asic.onlyIf_fallback (a : Asic) (c : Bool) (f : Asic → Asic) (h : ∀ x, (f x).get Reg.GLB_MODE.FALLBACK = x.get Reg.GLB_MODE.FALLBACK) : (a.onlyIf c f).get Reg.GLB_MODE.FALLBACK = a.get Reg.GLB_MODE.FALLBACK := by
  unfold Asic.onlyIf
  split
  · exact h a
  · rfl
theorem Asic.ite_fallback (c : Prop) [Decidable c] (x y : Asic) : (if c then x else y).get Reg.GLB_MODE.FALLBACK = if c then x.get Reg.GLB_MODE.FALLBACK else y.get Reg.GLB_MODE.FALLBACK := apply_ite (fun z => Asic.get z Reg.GLB_MODE.FALLBACK) _ _ _
theorem Asic.foldl_fallback {α : Type} (a : Asic) (l : List α) (f : Asic → α → Asic) (h : ∀ x i, (f x i).get Reg.GLB_MODE.FALLBACK = x.get Reg.GLB_MODE.FALLBACK) : (l.foldl f a).get Reg.GLB_MODE.FALLBACK = a.get Reg.GLB_MODE.FALLBACK := by
  induction l generalizing a with
  | nil => rfl
  | cons i l ih => exact (ih (f a i)).trans (h a i)


theorem Asic.settleChan_fallback (a : Asic) (c : Nat) : (Asic.settleChan a c).get Reg.GLB_MODE.FALLBACK = a.get Reg.GLB_MODE.FALLBACK := by
  unfold Asic.settleChan
  simp +arith -implicitDefEqProofs [Asic.get_mk, Asic.get_of_regs]

theorem Asic.freezeChannels_fallback (a : Asic) : (Asic.freezeChannels a).get Reg.GLB_MODE.FALLBACK = a.get Reg.GLB_MODE.FALLBACK := by
  unfold Asic.freezeChannels
  simp +arith -implicitDefEqProofs [Asic.settleChan_fallback, Asic.put_fallback, Asic.get_mk, Asic.get_of_regs, Asic.each_fallback, Asic.ite_fallback]

theorem Asic.abortSwitch_fallback (a : Asic) (c : Nat) : (Asic.abortSwitch a c).get Reg.GLB_MODE.FALLBACK = a.get Reg.GLB_MODE.FALLBACK := by
  unfold Asic.abortSwitch
  simp +arith -implicitDefEqProofs [Asic.put_fallback, Asic.event_fallback, Asic.get_mk, Asic.get_of_regs]

theorem Asic.setRallyState_fallback (a : Asic) (i : Nat) (s : Nat) : (Asic.setRallyState a i s).get Reg.GLB_MODE.FALLBACK = a.get Reg.GLB_MODE.FALLBACK := by
  unfold Asic.setRallyState
  simp +arith -implicitDefEqProofs [Asic.put_fallback, Asic.event_fallback, Asic.get_mk, Asic.get_of_regs, Asic.ite_fallback]

theorem Asic.rallyRefresh_fallback (a : Asic) (i : Nat) : (Asic.rallyRefresh a i).get Reg.GLB_MODE.FALLBACK = a.get Reg.GLB_MODE.FALLBACK := by
  unfold Asic.rallyRefresh
  simp +arith -implicitDefEqProofs [Asic.setRallyState_fallback, Asic.put_fallback, Asic.putB_fallback, Asic.get_mk, Asic.get_of_regs, Asic.ite_fallback]

theorem Asic.rallyRefreshAll_fallback (a : Asic) : (Asic.rallyRefreshAll a).get Reg.GLB_MODE.FALLBACK = a.get Reg.GLB_MODE.FALLBACK := by
  unfold Asic.rallyRefreshAll
  simp +arith -implicitDefEqProofs [Asic.rallyRefresh_fallback, Asic.get_mk, Asic.get_of_regs, Asic.each_fallback]

theorem Asic.endStep_fallback (a : Asic) (s : CalStep) (result : Nat) (change : Int) : (Asic.endStep a s result change).get Reg.GLB_MODE.FALLBACK = a.get Reg.GLB_MODE.FALLBACK := by
  unfold Asic.endStep
  simp +arith -implicitDefEqProofs [Asic.put_fallback, Asic.putS_fallback, Asic.get_mk, Asic.get_of_regs]

theorem Asic.dropStep_fallback (a : Asic) : (Asic.dropStep a).get Reg.GLB_MODE.FALLBACK = a.get Reg.GLB_MODE.FALLBACK := by
  unfold Asic.dropStep
  (repeat' split) <;> simp +arith -implicitDefEqProofs [Asic.endStep_fallback, Asic.event_fallback, Asic.get_mk, Asic.get_of_regs]

theorem Asic.invalidateLanes_fallback (a : Asic) : (Asic.invalidateLanes a).get Reg.GLB_MODE.FALLBACK = a.get Reg.GLB_MODE.FALLBACK := by
  unfold Asic.invalidateLanes
  simp +arith -implicitDefEqProofs [Asic.put_fallback, Asic.get_mk, Asic.get_of_regs, Asic.each_fallback]

theorem Asic.thawChannels_fallback (a : Asic) : (Asic.thawChannels a).get Reg.GLB_MODE.FALLBACK = a.get Reg.GLB_MODE.FALLBACK := by
  unfold Asic.thawChannels
  simp +arith -implicitDefEqProofs [Asic.put_fallback, Asic.get_mk, Asic.get_of_regs, Asic.each_fallback]

theorem Asic.enterQual_fallback (a : Asic) (i : Nat) (st : Nat) : (Asic.enterQual a i st).get Reg.GLB_MODE.FALLBACK = a.get Reg.GLB_MODE.FALLBACK := by
  unfold Asic.enterQual
  simp +arith -implicitDefEqProofs [Asic.put_fallback, Asic.event_fallback, Asic.get_mk, Asic.get_of_regs, Asic.ite_fallback]

theorem Asic.addCause_fallback (a : Asic) (i : Nat) (k : Nat) : (Asic.addCause a i k).get Reg.GLB_MODE.FALLBACK = a.get Reg.GLB_MODE.FALLBACK := by
  unfold Asic.addCause
  simp +arith -implicitDefEqProofs [Asic.put_fallback, Asic.get_mk, Asic.get_of_regs]

theorem Asic.suspectFor_fallback (a : Asic) (i : Nat) (k : Nat) : (Asic.suspectFor a i k).get Reg.GLB_MODE.FALLBACK = a.get Reg.GLB_MODE.FALLBACK := by
  unfold Asic.suspectFor
  simp +arith -implicitDefEqProofs [Asic.enterQual_fallback, Asic.addCause_fallback, Asic.get_mk, Asic.get_of_regs, Asic.ite_fallback]

theorem Asic.toAbsent_fallback (a : Asic) (i : Nat) : (Asic.toAbsent a i).get Reg.GLB_MODE.FALLBACK = a.get Reg.GLB_MODE.FALLBACK := by
  unfold Asic.toAbsent
  simp +arith -implicitDefEqProofs [Asic.enterQual_fallback, Asic.put_fallback, Asic.get_mk, Asic.get_of_regs, Asic.ite_fallback]

theorem Asic.toSoak_fallback (a : Asic) (i : Nat) : (Asic.toSoak a i).get Reg.GLB_MODE.FALLBACK = a.get Reg.GLB_MODE.FALLBACK := by
  unfold Asic.toSoak
  simp +arith -implicitDefEqProofs [Asic.enterQual_fallback, Asic.put_fallback, Asic.get_mk, Asic.get_of_regs]

theorem Asic.refreshAnchor_fallback (a : Asic) : (Asic.refreshAnchor a).get Reg.GLB_MODE.FALLBACK = a.get Reg.GLB_MODE.FALLBACK := by
  unfold Asic.refreshAnchor
  simp +arith -implicitDefEqProofs [Asic.put_fallback, Asic.get_mk, Asic.get_of_regs, Asic.each_fallback, Asic.ite_fallback]

theorem Asic.rebase_fallback (a : Asic) (k : Nat) : (Asic.rebase a k).get Reg.GLB_MODE.FALLBACK = a.get Reg.GLB_MODE.FALLBACK := by
  unfold Asic.rebase
  simp +arith -implicitDefEqProofs [Asic.get_mk, Asic.get_of_regs]

theorem Asic.refreshRate_fallback (a : Asic) (k : Nat) : (Asic.refreshRate a k).get Reg.GLB_MODE.FALLBACK = a.get Reg.GLB_MODE.FALLBACK := by
  unfold Asic.refreshRate
  simp +arith -implicitDefEqProofs [Asic.rebase_fallback, Asic.putB_fallback, Asic.get_mk, Asic.get_of_regs, Asic.ite_fallback]

theorem Asic.refreshRates_fallback (a : Asic) : (Asic.refreshRates a).get Reg.GLB_MODE.FALLBACK = a.get Reg.GLB_MODE.FALLBACK := by
  unfold Asic.refreshRates
  simp +arith -implicitDefEqProofs [Asic.refreshRate_fallback, Asic.get_mk, Asic.get_of_regs, Asic.each_fallback]

theorem Asic.setY_fallback (a : Asic) (c : Nat) (y : Int) : (Asic.setY a c y).get Reg.GLB_MODE.FALLBACK = a.get Reg.GLB_MODE.FALLBACK := by
  unfold Asic.setY
  simp +arith -implicitDefEqProofs [Asic.refreshRates_fallback, Asic.settleChan_fallback, Asic.put2S_fallback, Asic.get_mk, Asic.get_of_regs]

theorem Asic.noteClamp_fallback (a : Asic) (c : Nat) (clamped : Bool) : (Asic.noteClamp a c clamped).get Reg.GLB_MODE.FALLBACK = a.get Reg.GLB_MODE.FALLBACK := by
  unfold Asic.noteClamp
  simp +arith -implicitDefEqProofs [Asic.putB_fallback, Asic.event_fallback, Asic.get_mk, Asic.get_of_regs, Asic.ite_fallback]

theorem Asic.takeWord_fallback (a : Asic) (c : Nat) (w : Int) : (Asic.takeWord a c w).get Reg.GLB_MODE.FALLBACK = a.get Reg.GLB_MODE.FALLBACK := by
  unfold Asic.takeWord
  exact (Asic.noteClamp_fallback _ _ _).trans ((Asic.setY_fallback _ _ _).trans rfl)

theorem Asic.emit_fallback (a : Asic) (q : Nat) (r : Record) : (Asic.emit a q r).get Reg.GLB_MODE.FALLBACK = a.get Reg.GLB_MODE.FALLBACK := by
  unfold Asic.emit
  simp +arith -implicitDefEqProofs [Asic.addSat_fallback, Asic.get_mk, Asic.get_of_regs, Asic.ite_fallback]

theorem Asic.telemetry_fallback (a : Asic) (c : Nat) (event : Bool) (short : Bool) : (Asic.telemetry a c event short).get Reg.GLB_MODE.FALLBACK = a.get Reg.GLB_MODE.FALLBACK := by
  unfold Asic.telemetry
  simp +arith -implicitDefEqProofs [Asic.emit_fallback, Asic.settleChan_fallback, Asic.get_mk, Asic.get_of_regs, Asic.ite_fallback]

theorem Asic.moveChan_fallback (a : Asic) (c : Nat) (s : Nat) : (Asic.moveChan a c s).get Reg.GLB_MODE.FALLBACK = a.get Reg.GLB_MODE.FALLBACK := by
  unfold Asic.moveChan
  simp +arith -implicitDefEqProofs [Asic.refreshAnchor_fallback, Asic.telemetry_fallback, Asic.put_fallback, Asic.get_mk, Asic.get_of_regs, Asic.ite_fallback]

theorem Asic.toFreerun_fallback (a : Asic) (c : Nat) : (Asic.toFreerun a c).get Reg.GLB_MODE.FALLBACK = a.get Reg.GLB_MODE.FALLBACK := by
  unfold Asic.toFreerun
  simp +arith -implicitDefEqProofs [Asic.takeWord_fallback, Asic.moveChan_fallback, Asic.put_fallback, Asic.get_mk, Asic.get_of_regs, Asic.ite_fallback]

theorem Asic.toAcquire_fallback (a : Asic) (c : Nat) : (Asic.toAcquire a c).get Reg.GLB_MODE.FALLBACK = a.get Reg.GLB_MODE.FALLBACK := by
  unfold Asic.toAcquire
  simp +arith -implicitDefEqProofs [Asic.moveChan_fallback, Asic.put_fallback, Asic.put2S_fallback, Asic.get_mk, Asic.get_of_regs, Asic.onlyIf_fallback, Asic.ite_fallback]

theorem Asic.takeHoWord_fallback (a : Asic) (c : Nat) : (Asic.takeHoWord a c).get Reg.GLB_MODE.FALLBACK = a.get Reg.GLB_MODE.FALLBACK := by
  unfold Asic.takeHoWord
  simp +arith -implicitDefEqProofs [Asic.takeWord_fallback, Asic.putB_fallback, Asic.get_mk, Asic.get_of_regs]

theorem Asic.toHoldoverWith_fallback (a : Asic) (c : Nat) (qual : Nat) (avg : Int) (tc : Nat) : (Asic.toHoldoverWith a c qual avg tc).get Reg.GLB_MODE.FALLBACK = a.get Reg.GLB_MODE.FALLBACK := by
  unfold Asic.toHoldoverWith
  simp +arith -implicitDefEqProofs [Asic.moveChan_fallback, Asic.takeHoWord_fallback, Asic.put_fallback, Asic.addSat_fallback, Asic.event_fallback, Asic.put2S_fallback, Asic.get_mk, Asic.get_of_regs]

theorem Asic.toHoldover_fallback (a : Asic) (c : Nat) : (Asic.toHoldover a c).get Reg.GLB_MODE.FALLBACK = a.get Reg.GLB_MODE.FALLBACK := by
  unfold Asic.toHoldover
  simp +arith -implicitDefEqProofs [Asic.toHoldoverWith_fallback, Asic.get_mk, Asic.get_of_regs]

theorem Asic.selectionChanged_fallback (a : Asic) (c : Nat) : (Asic.selectionChanged a c).get Reg.GLB_MODE.FALLBACK = a.get Reg.GLB_MODE.FALLBACK := by
  unfold Asic.selectionChanged
  simp +arith -implicitDefEqProofs [Asic.refreshAnchor_fallback, Asic.toFreerun_fallback, Asic.toAcquire_fallback, Asic.toHoldover_fallback, Asic.get_mk, Asic.get_of_regs, Asic.ite_fallback]

theorem Asic.startSwitch_fallback (a : Asic) (c : Nat) (o : Nat) (n : Nat) (reason : Nat) : (Asic.startSwitch a c o n reason).get Reg.GLB_MODE.FALLBACK = a.get Reg.GLB_MODE.FALLBACK := by
  unfold Asic.startSwitch
  simp +arith -implicitDefEqProofs [Asic.put_fallback, Asic.get_mk, Asic.get_of_regs]

theorem Asic.selectOn_fallback (a : Asic) (written : Bool) (c : Nat) : (Asic.selectOn a written c).get Reg.GLB_MODE.FALLBACK = a.get Reg.GLB_MODE.FALLBACK := by
  unfold Asic.selectOn
  dsimp only
  (repeat' split) <;> simp +arith -implicitDefEqProofs [Asic.selectionChanged_fallback, Asic.startSwitch_fallback, Asic.abortSwitch_fallback, Asic.put_fallback, Asic.putB_fallback, Asic.event_fallback, Asic.get_mk, Asic.get_of_regs, Asic.ite_fallback]

theorem Asic.selectAll_fallback (a : Asic) : (Asic.selectAll a).get Reg.GLB_MODE.FALLBACK = a.get Reg.GLB_MODE.FALLBACK := by
  unfold Asic.selectAll
  simp +arith -implicitDefEqProofs [Asic.refreshAnchor_fallback, Asic.selectOn_fallback, Asic.get_mk, Asic.get_of_regs, Asic.each_fallback]

theorem Asic.umpCatchUp_fallback (a : Asic) : (Asic.umpCatchUp a).get Reg.GLB_MODE.FALLBACK = a.get Reg.GLB_MODE.FALLBACK := by
  unfold Asic.umpCatchUp
  simp +arith -implicitDefEqProofs [Asic.suspectFor_fallback, Asic.toAbsent_fallback, Asic.toSoak_fallback, Asic.selectAll_fallback, Asic.get_mk, Asic.get_of_regs, Asic.each_fallback, Asic.ite_fallback]

theorem Asic.trigDone_fallback (a : Asic) (n : Nat) : (Asic.trigDone a n).get Reg.GLB_MODE.FALLBACK = a.get Reg.GLB_MODE.FALLBACK := by
  unfold Asic.trigDone
  simp +arith -implicitDefEqProofs [Asic.put_fallback, Asic.event_fallback, Asic.get_mk, Asic.get_of_regs]

theorem Asic.trigEvaluate_fallback (a : Asic) (n : Nat) : (Asic.trigEvaluate a n).get Reg.GLB_MODE.FALLBACK = a.get Reg.GLB_MODE.FALLBACK := by
  unfold Asic.trigEvaluate
  dsimp only
  have e : ∀ (T : Trig) (k : Nat), (((a.setTrig n T).addSat (Reg.TRG_CNT.SKIPS n) k).event (Reg.TRG_STAT.SKIPD n)).get Reg.GLB_MODE.FALLBACK = a.get Reg.GLB_MODE.FALLBACK :=
    fun T k => by simp +arith -implicitDefEqProofs [Asic.addSat_fallback, Asic.event_fallback]
  have e' : ∀ (T : Trig) (k : Nat), (((a.setTrig n T).event (Reg.TRG_STAT.LATE n)).addSat (Reg.TRG_CNT.LATE n) k).get Reg.GLB_MODE.FALLBACK = a.get Reg.GLB_MODE.FALLBACK :=
    fun T k => by simp +arith -implicitDefEqProofs [Asic.addSat_fallback, Asic.event_fallback]
  (repeat' split) <;> simp -implicitDefEqProofs only [Asic.trigDone_fallback, e, e']

theorem Asic.trigsOf_fallback (a : Asic) (k : Nat) : (Asic.trigsOf a k).get Reg.GLB_MODE.FALLBACK = a.get Reg.GLB_MODE.FALLBACK := by
  unfold Asic.trigsOf
  simp +arith -implicitDefEqProofs [Asic.trigEvaluate_fallback, Asic.get_mk, Asic.get_of_regs, Asic.each_fallback, Asic.ite_fallback]

theorem Asic.requestMigration_fallback (a : Asic) (c : Nat) (u : Nat) : (Asic.requestMigration a c u).get Reg.GLB_MODE.FALLBACK = a.get Reg.GLB_MODE.FALLBACK := by
  unfold Asic.requestMigration
  simp +arith -implicitDefEqProofs [Asic.put_fallback, Asic.get_mk, Asic.get_of_regs, Asic.ite_fallback]

theorem Asic.resumeMigration_fallback (a : Asic) : (Asic.resumeMigration a).get Reg.GLB_MODE.FALLBACK = a.get Reg.GLB_MODE.FALLBACK := by
  unfold Asic.resumeMigration
  (repeat' split) <;> simp +arith -implicitDefEqProofs [Asic.requestMigration_fallback, Asic.event_fallback, Asic.get_mk, Asic.get_of_regs, Asic.ite_fallback]

theorem Asic.requestOvenHo_fallback (a : Asic) : (Asic.requestOvenHo a).get Reg.GLB_MODE.FALLBACK = a.get Reg.GLB_MODE.FALLBACK := by
  unfold Asic.requestOvenHo
  simp +arith -implicitDefEqProofs [Asic.put_fallback, Asic.get_mk, Asic.get_of_regs, Asic.ite_fallback]

theorem Asic.resumeOvenHo_fallback (a : Asic) : (Asic.resumeOvenHo a).get Reg.GLB_MODE.FALLBACK = a.get Reg.GLB_MODE.FALLBACK := by
  unfold Asic.resumeOvenHo
  simp +arith -implicitDefEqProofs [Asic.requestOvenHo_fallback, Asic.get_mk, Asic.get_of_regs, Asic.ite_fallback]

end Sys2Proof.Machine
end

