-- ==== Sys2Proof/Laws/FrameFw.lean ====
section
/-! SUPPORT. Operations that leave `fw` alone. -/

set_option linter.unusedSimpArgs false
set_option linter.unusedSectionVars false

namespace Sys2Proof.Machine

theorem Asic.each_fw (a : Asic) (l : List Nat) (f : Asic → Nat → Asic) (h : ∀ x i, (f x i).fw = x.fw) : (a.each l f).fw = a.fw := by
  induction l generalizing a with
  | nil => rfl
  | cons i l ih => exact (ih (f a i)).trans (h a i)
theorem Asic.onlyIf_fw (a : Asic) (c : Bool) (f : Asic → Asic) (h : ∀ x, (f x).fw = x.fw) : (a.onlyIf c f).fw = a.fw := by
  unfold Asic.onlyIf
  split
  · exact h a
  · rfl
theorem Asic.ite_fw (c : Prop) [Decidable c] (x y : Asic) : (if c then x else y).fw = if c then x.fw else y.fw := apply_ite (fun z : Asic => z.fw) _ _ _
theorem Asic.foldl_fw {α : Type} (a : Asic) (l : List α) (f : Asic → α → Asic) (h : ∀ x i, (f x i).fw = x.fw) : (l.foldl f a).fw = a.fw := by
  induction l generalizing a with
  | nil => rfl
  | cons i l ih => exact (ih (f a i)).trans (h a i)

theorem Asic.dropLatches_fw (a : Asic) (owner : Nat) : (Asic.dropLatches a owner).fw = a.fw := by
  unfold Asic.dropLatches
  with_reducible rfl

theorem Asic.nvmLock_fw (a : Asic) (m : Nat) : (Asic.nvmLock a m).fw = a.fw := by
  unfold Asic.nvmLock
  simp -implicitDefEqProofs [Asic.foldl_fw]

theorem Asic.releaseBuffer_fw (a : Asic) : (Asic.releaseBuffer a).fw = a.fw := by
  unfold Asic.releaseBuffer
  simp -implicitDefEqProofs []

theorem Asic.nvmReset_fw (a : Asic) (m : Nat) : (Asic.nvmReset a m).fw = a.fw := by
  unfold Asic.nvmReset
  simp -implicitDefEqProofs [Asic.nvmLock_fw, Asic.releaseBuffer_fw, Asic.ite_fw]

theorem Asic.rearm_fw (a : Asic) : (Asic.rearm a).fw = a.fw := by
  unfold Asic.rearm
  simp -implicitDefEqProofs []

theorem Asic.copyPlans_fw (a : Asic) : (Asic.copyPlans a).fw = a.fw := by
  unfold Asic.copyPlans
  with_reducible rfl

theorem Asic.txnFree_fw (a : Asic) : (Asic.txnFree a).fw = a.fw := by
  unfold Asic.txnFree
  simp -implicitDefEqProofs [Asic.copyPlans_fw]

theorem Asic.masterReset_fw (a : Asic) (m : Nat) : (Asic.masterReset a m).fw = a.fw := by
  unfold Asic.masterReset
  simp -implicitDefEqProofs [Asic.nvmReset_fw, Asic.rearm_fw, Asic.txnFree_fw, Asic.dropLatches_fw, Asic.ite_fw]

theorem Asic.closeWindow'_fw (a : Asic) : (Asic.closeWindow' a).fw = a.fw := by
  unfold Asic.closeWindow'
  with_reducible rfl

theorem Asic.hkcReset_fw (a : Asic) : (Asic.hkcReset a).fw = a.fw := by
  unfold Asic.hkcReset
  simp -implicitDefEqProofs [Asic.dropLatches_fw, Asic.masterReset_fw, Asic.closeWindow'_fw]

theorem Asic.logEntry_fw (a : Asic) (code' : Nat) (item : Nat) (data : Nat) : (Asic.logEntry a code' item data).fw = a.fw := by
  unfold Asic.logEntry
  simp -implicitDefEqProofs [Asic.onlyIf_fw, Asic.ite_fw]

theorem Asic.sendEmcy_fw (a : Asic) : (Asic.sendEmcy a).fw = a.fw := by
  unfold Asic.sendEmcy
  (repeat' split) <;> simp -implicitDefEqProofs [Asic.ite_fw]

end Sys2Proof.Machine
end

