-- ==== Sys2Proof/Laws/FrameLdgOvenrestart.lean ====
section
/-! SUPPORT. Operations that leave `ldg.ovenRestart` alone. -/

set_option linter.unusedSimpArgs false
set_option linter.unusedSectionVars false

namespace Sys2Proof.Machine

theorem Asic.each_ldg_ovenRestart (a : Asic) (l : List Nat) (f : Asic → Nat → Asic) (h : ∀ x i, (f x i).ldg.ovenRestart = x.ldg.ovenRestart) : (a.each l f).ldg.ovenRestart = a.ldg.ovenRestart := by
  induction l generalizing a with
  | nil => rfl
  | cons i l ih => exact (ih (f a i)).trans (h a i)
theorem Asic.onlyIf_ldg_ovenRestart (a : Asic) (c : Bool) (f : Asic → Asic) (h : ∀ x, (f x).ldg.ovenRestart = x.ldg.ovenRestart) : (a.onlyIf c f).ldg.ovenRestart = a.ldg.ovenRestart := by
  unfold Asic.onlyIf
  split
  · exact h a
  · rfl
theorem Asic.entries_ldg_ovenRestart (a : Asic) (l : List Nat) (f : Asic → Nat → Asic × Bool) (h : ∀ x i, (f x i).1.ldg.ovenRestart = x.ldg.ovenRestart) : (a.entries l f).1.ldg.ovenRestart = a.ldg.ovenRestart := by
  have e : ∀ (l : List Nat) (p : Asic × Nat), (l.foldl (fun (p : Asic × Nat) k =>
      let (a, w) := f p.1 k
      (a, if w then p.2 + 2 ^ k else p.2)) p).1.ldg.ovenRestart = p.1.ldg.ovenRestart := by
    intro l
    induction l with
    | nil => intro p; rfl
    | cons i l ih => intro p; exact (ih _).trans (h p.1 i)
  exact e l (a, 0)
theorem Asic.ite_ldg_ovenRestart (c : Prop) [Decidable c] (x y : Asic) : (if c then x else y).ldg.ovenRestart = if c then x.ldg.ovenRestart else y.ldg.ovenRestart := apply_ite (fun z : Asic => z.ldg.ovenRestart) _ _ _
theorem Asic.foldl_ldg_ovenRestart {α : Type} (a : Asic) (l : List α) (f : Asic → α → Asic) (h : ∀ x i, (f x i).ldg.ovenRestart = x.ldg.ovenRestart) : (l.foldl f a).ldg.ovenRestart = a.ldg.ovenRestart := by
  induction l generalizing a with
  | nil => rfl
  | cons i l ih => exact (ih (f a i)).trans (h a i)

theorem Asic.keepValue_ldg_ovenRestart (a : Asic) (i : Nat) (n : Nat) : (Asic.keepValue a i n).ldg.ovenRestart = a.ldg.ovenRestart := by
  unfold Asic.keepValue
  (repeat' split) <;> (try rfl) <;> simp -implicitDefEqProofs [Asic.ite_ldg_ovenRestart, Asic.each_ldg_ovenRestart, Asic.onlyIf_ldg_ovenRestart, Asic.ite_ldg_ovenRestart, Asic.foldl_ldg_ovenRestart]

theorem Asic.dropSeconds_ldg_ovenRestart (a : Asic) (i : Nat) (n : Nat) : (Asic.dropSeconds a i n).ldg.ovenRestart = a.ldg.ovenRestart := by
  unfold Asic.dropSeconds
  simp -implicitDefEqProofs []

theorem Asic.checkSegments_ldg_ovenRestart (a : Asic) : (Asic.checkSegments a).ldg.ovenRestart = a.ldg.ovenRestart := by
  unfold Asic.checkSegments
  simp -implicitDefEqProofs [Asic.ite_ldg_ovenRestart, Asic.foldl_ldg_ovenRestart]

theorem Asic.setEntry_ldg_ovenRestart (a : Asic) (i : Nat) (j : Nat) (k : Nat) (w : Option Word) : (Asic.setEntry a i j k w).ldg.ovenRestart = a.ldg.ovenRestart := by
  unfold Asic.setEntry
  with_reducible rfl

theorem Asic.setValue_ldg_ovenRestart (a : Asic) (i : Nat) (j : Nat) (k : Nat) (w : Word × Bool) : (Asic.setValue a i j k w).ldg.ovenRestart = a.ldg.ovenRestart := by
  unfold Asic.setValue
  simp -implicitDefEqProofs [Asic.setEntry_ldg_ovenRestart, Asic.onlyIf_ldg_ovenRestart]

theorem Asic.setRat_ldg_ovenRestart (a : Asic) (i : Nat) (j : Nat) (k : Nat) (v : Option Rat) : (Asic.setRat a i j k v).ldg.ovenRestart = a.ldg.ovenRestart := by
  unfold Asic.setRat
  (repeat' split) <;> simp -implicitDefEqProofs [Asic.setEntry_ldg_ovenRestart, Asic.setValue_ldg_ovenRestart]

theorem Asic.writeDiagonal_ldg_ovenRestart (a : Asic) (i : Nat) (n : Nat) : (Asic.writeDiagonal a i n).ldg.ovenRestart = a.ldg.ovenRestart := by
  unfold Asic.writeDiagonal
  simp -implicitDefEqProofs [Asic.setRat_ldg_ovenRestart]

theorem Asic.emit_ldg_ovenRestart (a : Asic) (q : Nat) (r : Record) : (Asic.emit a q r).ldg.ovenRestart = a.ldg.ovenRestart := by
  unfold Asic.emit
  simp -implicitDefEqProofs [Asic.ite_ldg_ovenRestart]

theorem Asic.halfRecord_ldg_ovenRestart (a : Asic) (i : Nat) (j : Nat) (half : Nat) (written : Nat) (pass : Nat) (degraded : Bool) : (Asic.halfRecord a i j half written pass degraded).ldg.ovenRestart = a.ldg.ovenRestart := by
  unfold Asic.halfRecord
  simp -implicitDefEqProofs [Asic.emit_ldg_ovenRestart, Asic.ite_ldg_ovenRestart, Asic.foldl_ldg_ovenRestart]

theorem Asic.cellRecords_ldg_ovenRestart (a : Asic) (i : Nat) (j : Nat) (written : Nat) (pass : Nat) (degraded : Bool) : (Asic.cellRecords a i j written pass degraded).ldg.ovenRestart = a.ldg.ovenRestart := by
  unfold Asic.cellRecords
  simp -implicitDefEqProofs [Asic.halfRecord_ldg_ovenRestart]

theorem Asic.averaged_ldg_ovenRestart (a : Asic) (i : Nat) (j : Nat) (k : Nat) (t : Option Rat) : (Asic.averaged a i j k t).1.ldg.ovenRestart = a.ldg.ovenRestart := by
  unfold Asic.averaged
  dsimp only
  (repeat' split) <;> simp -implicitDefEqProofs [Asic.setEntry_ldg_ovenRestart, Asic.setValue_ldg_ovenRestart, Asic.ite_ldg_ovenRestart, ok, rej]

theorem Asic.adevEntries_ldg_ovenRestart (a : Asic) (i : Nat) (n : Nat) : (Asic.adevEntries a i n).1.ldg.ovenRestart = a.ldg.ovenRestart := by
  unfold Asic.adevEntries
  simp -implicitDefEqProofs [Asic.averaged_ldg_ovenRestart, Asic.entries_ldg_ovenRestart, ok, rej]

theorem Asic.tdevEntries_ldg_ovenRestart (a : Asic) (i : Nat) (j : Nat) (n : Nat) : (Asic.tdevEntries a i j n).1.ldg.ovenRestart = a.ldg.ovenRestart := by
  unfold Asic.tdevEntries
  simp -implicitDefEqProofs [Asic.averaged_ldg_ovenRestart, Asic.entries_ldg_ovenRestart, ok, rej]

theorem Asic.mtieEntry_ldg_ovenRestart (a : Asic) (i : Nat) (j : Nat) (k : Nat) (s : Nat) (t : Option Int) : (Asic.mtieEntry a i j k s t).1.ldg.ovenRestart = a.ldg.ovenRestart := by
  unfold Asic.mtieEntry
  dsimp only
  (repeat' split) <;> simp -implicitDefEqProofs [Asic.setEntry_ldg_ovenRestart, Asic.setValue_ldg_ovenRestart, Asic.ite_ldg_ovenRestart, Asic.foldl_ldg_ovenRestart, ok, rej]

theorem Asic.mtieEntries_ldg_ovenRestart (a : Asic) (i : Nat) (j : Nat) (n : Nat) : (Asic.mtieEntries a i j n).1.ldg.ovenRestart = a.ldg.ovenRestart := by
  unfold Asic.mtieEntries
  simp -implicitDefEqProofs [Asic.mtieEntry_ldg_ovenRestart, Asic.entries_ldg_ovenRestart, ok, rej]

theorem Asic.snapshotFlip_ldg_ovenRestart (a : Asic) : (Asic.snapshotFlip a).ldg.ovenRestart = a.ldg.ovenRestart := by
  unfold Asic.snapshotFlip
  simp -implicitDefEqProofs [Asic.ite_ldg_ovenRestart]

end Sys2Proof.Machine
end

