-- ==== Sys2Proof/Laws/FrameLdgRestartall.lean ====
section
/-! SUPPORT. Operations that leave `ldg.restartAll` alone. -/

set_option linter.unusedSimpArgs false
set_option linter.unusedSectionVars false

namespace Sys2Proof.Machine

theorem Asic.each_ldg_restartAll (a : Asic) (l : List Nat) (f : Asic → Nat → Asic) (h : ∀ x i, (f x i).ldg.restartAll = x.ldg.restartAll) : (a.each l f).ldg.restartAll = a.ldg.restartAll := by
  induction l generalizing a with
  | nil => rfl
  | cons i l ih => exact (ih (f a i)).trans (h a i)
theorem Asic.onlyIf_ldg_restartAll (a : Asic) (c : Bool) (f : Asic → Asic) (h : ∀ x, (f x).ldg.restartAll = x.ldg.restartAll) : (a.onlyIf c f).ldg.restartAll = a.ldg.restartAll := by
  unfold Asic.onlyIf
  split
  · exact h a
  · rfl
theorem Asic.entries_ldg_restartAll (a : Asic) (l : List Nat) (f : Asic → Nat → Asic × Bool) (h : ∀ x i, (f x i).1.ldg.restartAll = x.ldg.restartAll) : (a.entries l f).1.ldg.restartAll = a.ldg.restartAll := by
  have e : ∀ (l : List Nat) (p : Asic × Nat), (l.foldl (fun (p : Asic × Nat) k =>
      let (a, w) := f p.1 k
      (a, if w then p.2 + 2 ^ k else p.2)) p).1.ldg.restartAll = p.1.ldg.restartAll := by
    intro l
    induction l with
    | nil => intro p; rfl
    | cons i l ih => intro p; exact (ih _).trans (h p.1 i)
  exact e l (a, 0)
theorem Asic.ite_ldg_restartAll (c : Prop) [Decidable c] (x y : Asic) : (if c then x else y).ldg.restartAll = if c then x.ldg.restartAll else y.ldg.restartAll := apply_ite (fun z : Asic => z.ldg.restartAll) _ _ _
theorem Asic.foldl_ldg_restartAll {α : Type} (a : Asic) (l : List α) (f : Asic → α → Asic) (h : ∀ x i, (f x i).ldg.restartAll = x.ldg.restartAll) : (l.foldl f a).ldg.restartAll = a.ldg.restartAll := by
  induction l generalizing a with
  | nil => rfl
  | cons i l ih => exact (ih (f a i)).trans (h a i)

theorem Asic.keepValue_ldg_restartAll (a : Asic) (i : Nat) (n : Nat) : (Asic.keepValue a i n).ldg.restartAll = a.ldg.restartAll := by
  unfold Asic.keepValue
  (repeat' split) <;> (try rfl) <;> simp -implicitDefEqProofs [Asic.ite_ldg_restartAll, Asic.each_ldg_restartAll, Asic.onlyIf_ldg_restartAll, Asic.ite_ldg_restartAll, Asic.foldl_ldg_restartAll]

theorem Asic.dropSeconds_ldg_restartAll (a : Asic) (i : Nat) (n : Nat) : (Asic.dropSeconds a i n).ldg.restartAll = a.ldg.restartAll := by
  unfold Asic.dropSeconds
  simp -implicitDefEqProofs []

theorem Asic.checkSegments_ldg_restartAll (a : Asic) : (Asic.checkSegments a).ldg.restartAll = a.ldg.restartAll := by
  unfold Asic.checkSegments
  simp -implicitDefEqProofs [Asic.ite_ldg_restartAll, Asic.foldl_ldg_restartAll]

theorem Asic.setEntry_ldg_restartAll (a : Asic) (i : Nat) (j : Nat) (k : Nat) (w : Option Word) : (Asic.setEntry a i j k w).ldg.restartAll = a.ldg.restartAll := by
  unfold Asic.setEntry
  with_reducible rfl

theorem Asic.setValue_ldg_restartAll (a : Asic) (i : Nat) (j : Nat) (k : Nat) (w : Word × Bool) : (Asic.setValue a i j k w).ldg.restartAll = a.ldg.restartAll := by
  unfold Asic.setValue
  simp -implicitDefEqProofs [Asic.setEntry_ldg_restartAll, Asic.onlyIf_ldg_restartAll]

theorem Asic.setRat_ldg_restartAll (a : Asic) (i : Nat) (j : Nat) (k : Nat) (v : Option Rat) : (Asic.setRat a i j k v).ldg.restartAll = a.ldg.restartAll := by
  unfold Asic.setRat
  (repeat' split) <;> simp -implicitDefEqProofs [Asic.setEntry_ldg_restartAll, Asic.setValue_ldg_restartAll]

theorem Asic.writeDiagonal_ldg_restartAll (a : Asic) (i : Nat) (n : Nat) : (Asic.writeDiagonal a i n).ldg.restartAll = a.ldg.restartAll := by
  unfold Asic.writeDiagonal
  simp -implicitDefEqProofs [Asic.setRat_ldg_restartAll]

theorem Asic.emit_ldg_restartAll (a : Asic) (q : Nat) (r : Record) : (Asic.emit a q r).ldg.restartAll = a.ldg.restartAll := by
  unfold Asic.emit
  simp -implicitDefEqProofs [Asic.ite_ldg_restartAll]

theorem Asic.halfRecord_ldg_restartAll (a : Asic) (i : Nat) (j : Nat) (half : Nat) (written : Nat) (pass : Nat) (degraded : Bool) : (Asic.halfRecord a i j half written pass degraded).ldg.restartAll = a.ldg.restartAll := by
  unfold Asic.halfRecord
  simp -implicitDefEqProofs [Asic.emit_ldg_restartAll, Asic.ite_ldg_restartAll, Asic.foldl_ldg_restartAll]

theorem Asic.cellRecords_ldg_restartAll (a : Asic) (i : Nat) (j : Nat) (written : Nat) (pass : Nat) (degraded : Bool) : (Asic.cellRecords a i j written pass degraded).ldg.restartAll = a.ldg.restartAll := by
  unfold Asic.cellRecords
  simp -implicitDefEqProofs [Asic.halfRecord_ldg_restartAll]

theorem Asic.averaged_ldg_restartAll (a : Asic) (i : Nat) (j : Nat) (k : Nat) (t : Option Rat) : (Asic.averaged a i j k t).1.ldg.restartAll = a.ldg.restartAll := by
  unfold Asic.averaged
  dsimp only
  (repeat' split) <;> simp -implicitDefEqProofs [Asic.setEntry_ldg_restartAll, Asic.setValue_ldg_restartAll, Asic.ite_ldg_restartAll, ok, rej]

theorem Asic.adevEntries_ldg_restartAll (a : Asic) (i : Nat) (n : Nat) : (Asic.adevEntries a i n).1.ldg.restartAll = a.ldg.restartAll := by
  unfold Asic.adevEntries
  simp -implicitDefEqProofs [Asic.averaged_ldg_restartAll, Asic.entries_ldg_restartAll, ok, rej]

theorem Asic.tdevEntries_ldg_restartAll (a : Asic) (i : Nat) (j : Nat) (n : Nat) : (Asic.tdevEntries a i j n).1.ldg.restartAll = a.ldg.restartAll := by
  unfold Asic.tdevEntries
  simp -implicitDefEqProofs [Asic.averaged_ldg_restartAll, Asic.entries_ldg_restartAll, ok, rej]

theorem Asic.mtieEntry_ldg_restartAll (a : Asic) (i : Nat) (j : Nat) (k : Nat) (s : Nat) (t : Option Int) : (Asic.mtieEntry a i j k s t).1.ldg.restartAll = a.ldg.restartAll := by
  unfold Asic.mtieEntry
  dsimp only
  (repeat' split) <;> simp -implicitDefEqProofs [Asic.setEntry_ldg_restartAll, Asic.setValue_ldg_restartAll, Asic.ite_ldg_restartAll, Asic.foldl_ldg_restartAll, ok, rej]

theorem Asic.mtieEntries_ldg_restartAll (a : Asic) (i : Nat) (j : Nat) (n : Nat) : (Asic.mtieEntries a i j n).1.ldg.restartAll = a.ldg.restartAll := by
  unfold Asic.mtieEntries
  simp -implicitDefEqProofs [Asic.mtieEntry_ldg_restartAll, Asic.entries_ldg_restartAll, ok, rej]

theorem Asic.snapshotFlip_ldg_restartAll (a : Asic) : (Asic.snapshotFlip a).ldg.restartAll = a.ldg.restartAll := by
  unfold Asic.snapshotFlip
  simp -implicitDefEqProofs [Asic.ite_ldg_restartAll]

end Sys2Proof.Machine
end

