-- ==== Sys2Proof/Laws/FrameLdgShown.lean ====
section
/-! SUPPORT. Operations that leave `ldg.shown` alone. -/

set_option linter.unusedSimpArgs false
set_option linter.unusedSectionVars false

namespace Sys2Proof.Machine

theorem Asic.each_ldg_shown (a : Asic) (l : List Nat) (f : Asic → Nat → Asic) (h : ∀ x i, (f x i).ldg.shown = x.ldg.shown) : (a.each l f).ldg.shown = a.ldg.shown := by
  induction l generalizing a with
  | nil => rfl
  | cons i l ih => exact (ih (f a i)).trans (h a i)
theorem Asic.onlyIf_ldg_shown (a : Asic) (c : Bool) (f : Asic → Asic) (h : ∀ x, (f x).ldg.shown = x.ldg.shown) : (a.onlyIf c f).ldg.shown = a.ldg.shown := by
  unfold Asic.onlyIf
  split
  · exact h a
  · rfl
theorem Asic.entries_ldg_shown (a : Asic) (l : List Nat) (f : Asic → Nat → Asic × Bool) (h : ∀ x i, (f x i).1.ldg.shown = x.ldg.shown) : (a.entries l f).1.ldg.shown = a.ldg.shown := by
  have e : ∀ (l : List Nat) (p : Asic × Nat), (l.foldl (fun (p : Asic × Nat) k =>
      let (a, w) := f p.1 k
      (a, if w then p.2 + 2 ^ k else p.2)) p).1.ldg.shown = p.1.ldg.shown := by
    intro l
    induction l with
    | nil => intro p; rfl
    | cons i l ih => intro p; exact (ih _).trans (h p.1 i)
  exact e l (a, 0)
theorem Asic.ite_ldg_shown (c : Prop) [Decidable c] (x y : Asic) : (if c then x else y).ldg.shown = if c then x.ldg.shown else y.ldg.shown := apply_ite (fun z : Asic => z.ldg.shown) _ _ _
theorem Asic.foldl_ldg_shown {α : Type} (a : Asic) (l : List α) (f : Asic → α → Asic) (h : ∀ x i, (f x i).ldg.shown = x.ldg.shown) : (l.foldl f a).ldg.shown = a.ldg.shown := by
  induction l generalizing a with
  | nil => rfl
  | cons i l ih => exact (ih (f a i)).trans (h a i)

theorem Asic.countGap_ldg_shown (a : Asic) (i : Nat) (n : Nat) : (Asic.countGap a i n).ldg.shown = a.ldg.shown := by
  unfold Asic.countGap
  (repeat' split) <;> (try rfl) <;> simp -implicitDefEqProofs [Asic.ite_ldg_shown, Asic.each_ldg_shown, Asic.onlyIf_ldg_shown, Asic.ite_ldg_shown, Asic.foldl_ldg_shown]

theorem Asic.wipeCell_ldg_shown (a : Asic) (i : Nat) (j : Nat) : (Asic.wipeCell a i j).ldg.shown = a.ldg.shown := by
  unfold Asic.wipeCell
  simp -implicitDefEqProofs [Asic.foldl_ldg_shown]

theorem Asic.restartIndex_ldg_shown (a : Asic) (i : Nat) : (Asic.restartIndex a i).ldg.shown = a.ldg.shown := by
  unfold Asic.restartIndex
  dsimp only
  simp -implicitDefEqProofs only [Asic.event_ldg, Asic.addWrap_ldg, Asic.put_ldg]
  have m : ∀ (z : Asic) (f : LdgIdx → LdgIdx), (z.modLdgIdx i f).ldg.shown = z.ldg.shown := fun _ _ => rfl
  rw [m, Asic.each_ldg_shown _ _ _ (fun x j => by rw [Asic.wipeCell_ldg_shown, Asic.wipeCell_ldg_shown])]

theorem Asic.restartDiagonal_ldg_shown (a : Asic) (i : Nat) (n : Nat) : (Asic.restartDiagonal a i n).ldg.shown = a.ldg.shown := by
  unfold Asic.restartDiagonal
  (repeat' split) <;> (try rfl) <;> simp -implicitDefEqProofs [Asic.wipeCell_ldg_shown, Asic.each_ldg_shown, Asic.onlyIf_ldg_shown, Asic.ite_ldg_shown, Asic.foldl_ldg_shown]

theorem Asic.passRestarts_ldg_shown (a : Asic) (s : Nat) : (Asic.passRestarts a s).ldg.shown = a.ldg.shown := by
  unfold Asic.passRestarts
  simp -implicitDefEqProofs [Asic.restartIndex_ldg_shown, Asic.restartDiagonal_ldg_shown, Asic.each_ldg_shown, Asic.ite_ldg_shown]

theorem Asic.keepValue_ldg_shown (a : Asic) (i : Nat) (n : Nat) : (Asic.keepValue a i n).ldg.shown = a.ldg.shown := by
  unfold Asic.keepValue
  (repeat' split) <;> (try rfl) <;> simp -implicitDefEqProofs [Asic.ite_ldg_shown, Asic.each_ldg_shown, Asic.onlyIf_ldg_shown, Asic.ite_ldg_shown, Asic.foldl_ldg_shown]

theorem Asic.dropSeconds_ldg_shown (a : Asic) (i : Nat) (n : Nat) : (Asic.dropSeconds a i n).ldg.shown = a.ldg.shown := by
  unfold Asic.dropSeconds
  simp -implicitDefEqProofs []

theorem Asic.checkSegments_ldg_shown (a : Asic) : (Asic.checkSegments a).ldg.shown = a.ldg.shown := by
  unfold Asic.checkSegments
  simp -implicitDefEqProofs [Asic.ite_ldg_shown, Asic.foldl_ldg_shown]

theorem Asic.setEntry_ldg_shown (a : Asic) (i : Nat) (j : Nat) (k : Nat) (w : Option Word) : (Asic.setEntry a i j k w).ldg.shown = a.ldg.shown := by
  unfold Asic.setEntry
  with_reducible rfl

theorem Asic.setValue_ldg_shown (a : Asic) (i : Nat) (j : Nat) (k : Nat) (w : Word × Bool) : (Asic.setValue a i j k w).ldg.shown = a.ldg.shown := by
  unfold Asic.setValue
  simp -implicitDefEqProofs [Asic.setEntry_ldg_shown, Asic.onlyIf_ldg_shown]

theorem Asic.setRat_ldg_shown (a : Asic) (i : Nat) (j : Nat) (k : Nat) (v : Option Rat) : (Asic.setRat a i j k v).ldg.shown = a.ldg.shown := by
  unfold Asic.setRat
  (repeat' split) <;> simp -implicitDefEqProofs [Asic.setEntry_ldg_shown, Asic.setValue_ldg_shown]

theorem Asic.writeDiagonal_ldg_shown (a : Asic) (i : Nat) (n : Nat) : (Asic.writeDiagonal a i n).ldg.shown = a.ldg.shown := by
  unfold Asic.writeDiagonal
  simp -implicitDefEqProofs [Asic.setRat_ldg_shown]

theorem Asic.emit_ldg_shown (a : Asic) (q : Nat) (r : Record) : (Asic.emit a q r).ldg.shown = a.ldg.shown := by
  unfold Asic.emit
  simp -implicitDefEqProofs [Asic.ite_ldg_shown]

theorem Asic.halfRecord_ldg_shown (a : Asic) (i : Nat) (j : Nat) (half : Nat) (written : Nat) (pass : Nat) (degraded : Bool) : (Asic.halfRecord a i j half written pass degraded).ldg.shown = a.ldg.shown := by
  unfold Asic.halfRecord
  simp -implicitDefEqProofs [Asic.emit_ldg_shown, Asic.ite_ldg_shown, Asic.foldl_ldg_shown]

theorem Asic.cellRecords_ldg_shown (a : Asic) (i : Nat) (j : Nat) (written : Nat) (pass : Nat) (degraded : Bool) : (Asic.cellRecords a i j written pass degraded).ldg.shown = a.ldg.shown := by
  unfold Asic.cellRecords
  simp -implicitDefEqProofs [Asic.halfRecord_ldg_shown]

theorem Asic.averaged_ldg_shown (a : Asic) (i : Nat) (j : Nat) (k : Nat) (t : Option Rat) : (Asic.averaged a i j k t).1.ldg.shown = a.ldg.shown := by
  unfold Asic.averaged
  dsimp only
  (repeat' split) <;> simp -implicitDefEqProofs [Asic.setEntry_ldg_shown, Asic.setValue_ldg_shown, Asic.ite_ldg_shown, ok, rej]

theorem Asic.adevEntries_ldg_shown (a : Asic) (i : Nat) (n : Nat) : (Asic.adevEntries a i n).1.ldg.shown = a.ldg.shown := by
  unfold Asic.adevEntries
  simp -implicitDefEqProofs [Asic.averaged_ldg_shown, Asic.entries_ldg_shown, ok, rej]

theorem Asic.tdevEntries_ldg_shown (a : Asic) (i : Nat) (j : Nat) (n : Nat) : (Asic.tdevEntries a i j n).1.ldg.shown = a.ldg.shown := by
  unfold Asic.tdevEntries
  simp -implicitDefEqProofs [Asic.averaged_ldg_shown, Asic.entries_ldg_shown, ok, rej]

theorem Asic.mtieEntry_ldg_shown (a : Asic) (i : Nat) (j : Nat) (k : Nat) (s : Nat) (t : Option Int) : (Asic.mtieEntry a i j k s t).1.ldg.shown = a.ldg.shown := by
  unfold Asic.mtieEntry
  dsimp only
  (repeat' split) <;> simp -implicitDefEqProofs [Asic.setEntry_ldg_shown, Asic.setValue_ldg_shown, Asic.ite_ldg_shown, Asic.foldl_ldg_shown, ok, rej]

theorem Asic.mtieEntries_ldg_shown (a : Asic) (i : Nat) (j : Nat) (n : Nat) : (Asic.mtieEntries a i j n).1.ldg.shown = a.ldg.shown := by
  unfold Asic.mtieEntries
  simp -implicitDefEqProofs [Asic.mtieEntry_ldg_shown, Asic.entries_ldg_shown, ok, rej]

end Sys2Proof.Machine
end

