-- ==== Sys2Proof/Laws/FrameLdgStopped.lean ====
section
/-! SUPPORT. Operations that leave `ldg.stopped` alone. -/

set_option linter.unusedSimpArgs false
set_option linter.unusedSectionVars false

namespace Sys2Proof.Machine

theorem Asic.each_ldg_stopped (a : Asic) (l : List Nat) (f : Asic → Nat → Asic) (h : ∀ x i, (f x i).ldg.stopped = x.ldg.stopped) : (a.each l f).ldg.stopped = a.ldg.stopped := by
  induction l generalizing a with
  | nil => rfl
  | cons i l ih => exact (ih (f a i)).trans (h a i)
theorem Asic.onlyIf_ldg_stopped (a : Asic) (c : Bool) (f : Asic → Asic) (h : ∀ x, (f x).ldg.stopped = x.ldg.stopped) : (a.onlyIf c f).ldg.stopped = a.ldg.stopped := by
  unfold Asic.onlyIf
  split
  · exact h a
  · rfl
theorem Asic.entries_ldg_stopped (a : Asic) (l : List Nat) (f : Asic → Nat → Asic × Bool) (h : ∀ x i, (f x i).1.ldg.stopped = x.ldg.stopped) : (a.entries l f).1.ldg.stopped = a.ldg.stopped := by
  have e : ∀ (l : List Nat) (p : Asic × Nat), (l.foldl (fun (p : Asic × Nat) k =>
      let (a, w) := f p.1 k
      (a, if w then p.2 + 2 ^ k else p.2)) p).1.ldg.stopped = p.1.ldg.stopped := by
    intro l
    induction l with
    | nil => intro p; rfl
    | cons i l ih => intro p; exact (ih _).trans (h p.1 i)
  exact e l (a, 0)
theorem Asic.ite_ldg_stopped (c : Prop) [Decidable c] (x y : Asic) : (if c then x else y).ldg.stopped = if c then x.ldg.stopped else y.ldg.stopped := apply_ite (fun z : Asic => z.ldg.stopped) _ _ _
theorem Asic.foldl_ldg_stopped {α : Type} (a : Asic) (l : List α) (f : Asic → α → Asic) (h : ∀ x i, (f x i).ldg.stopped = x.ldg.stopped) : (l.foldl f a).ldg.stopped = a.ldg.stopped := by
  induction l generalizing a with
  | nil => rfl
  | cons i l ih => exact (ih (f a i)).trans (h a i)

theorem Asic.keepValue_ldg_stopped (a : Asic) (i : Nat) (n : Nat) : (Asic.keepValue a i n).ldg.stopped = a.ldg.stopped := by
  unfold Asic.keepValue
  (repeat' split) <;> (try rfl) <;> simp -implicitDefEqProofs [Asic.ite_ldg_stopped, Asic.each_ldg_stopped, Asic.onlyIf_ldg_stopped, Asic.ite_ldg_stopped, Asic.foldl_ldg_stopped]

theorem Asic.dropSeconds_ldg_stopped (a : Asic) (i : Nat) (n : Nat) : (Asic.dropSeconds a i n).ldg.stopped = a.ldg.stopped := by
  unfold Asic.dropSeconds
  simp -implicitDefEqProofs []

theorem Asic.checkSegments_ldg_stopped (a : Asic) : (Asic.checkSegments a).ldg.stopped = a.ldg.stopped := by
  unfold Asic.checkSegments
  simp -implicitDefEqProofs [Asic.ite_ldg_stopped, Asic.foldl_ldg_stopped]

theorem Asic.setEntry_ldg_stopped (a : Asic) (i : Nat) (j : Nat) (k : Nat) (w : Option Word) : (Asic.setEntry a i j k w).ldg.stopped = a.ldg.stopped := by
  unfold Asic.setEntry
  with_reducible rfl

theorem Asic.setValue_ldg_stopped (a : Asic) (i : Nat) (j : Nat) (k : Nat) (w : Word × Bool) : (Asic.setValue a i j k w).ldg.stopped = a.ldg.stopped := by
  unfold Asic.setValue
  simp -implicitDefEqProofs [Asic.setEntry_ldg_stopped, Asic.onlyIf_ldg_stopped]

theorem Asic.setRat_ldg_stopped (a : Asic) (i : Nat) (j : Nat) (k : Nat) (v : Option Rat) : (Asic.setRat a i j k v).ldg.stopped = a.ldg.stopped := by
  unfold Asic.setRat
  (repeat' split) <;> simp -implicitDefEqProofs [Asic.setEntry_ldg_stopped, Asic.setValue_ldg_stopped]

theorem Asic.writeDiagonal_ldg_stopped (a : Asic) (i : Nat) (n : Nat) : (Asic.writeDiagonal a i n).ldg.stopped = a.ldg.stopped := by
  unfold Asic.writeDiagonal
  simp -implicitDefEqProofs [Asic.setRat_ldg_stopped]

theorem Asic.emit_ldg_stopped (a : Asic) (q : Nat) (r : Record) : (Asic.emit a q r).ldg.stopped = a.ldg.stopped := by
  unfold Asic.emit
  simp -implicitDefEqProofs [Asic.ite_ldg_stopped]

theorem Asic.halfRecord_ldg_stopped (a : Asic) (i : Nat) (j : Nat) (half : Nat) (written : Nat) (pass : Nat) (degraded : Bool) : (Asic.halfRecord a i j half written pass degraded).ldg.stopped = a.ldg.stopped := by
  unfold Asic.halfRecord
  simp -implicitDefEqProofs [Asic.emit_ldg_stopped, Asic.ite_ldg_stopped, Asic.foldl_ldg_stopped]

theorem Asic.cellRecords_ldg_stopped (a : Asic) (i : Nat) (j : Nat) (written : Nat) (pass : Nat) (degraded : Bool) : (Asic.cellRecords a i j written pass degraded).ldg.stopped = a.ldg.stopped := by
  unfold Asic.cellRecords
  simp -implicitDefEqProofs [Asic.halfRecord_ldg_stopped]

theorem Asic.averaged_ldg_stopped (a : Asic) (i : Nat) (j : Nat) (k : Nat) (t : Option Rat) : (Asic.averaged a i j k t).1.ldg.stopped = a.ldg.stopped := by
  unfold Asic.averaged
  dsimp only
  (repeat' split) <;> simp -implicitDefEqProofs [Asic.setEntry_ldg_stopped, Asic.setValue_ldg_stopped, Asic.ite_ldg_stopped, ok, rej]

theorem Asic.adevEntries_ldg_stopped (a : Asic) (i : Nat) (n : Nat) : (Asic.adevEntries a i n).1.ldg.stopped = a.ldg.stopped := by
  unfold Asic.adevEntries
  simp -implicitDefEqProofs [Asic.averaged_ldg_stopped, Asic.entries_ldg_stopped, ok, rej]

theorem Asic.tdevEntries_ldg_stopped (a : Asic) (i : Nat) (j : Nat) (n : Nat) : (Asic.tdevEntries a i j n).1.ldg.stopped = a.ldg.stopped := by
  unfold Asic.tdevEntries
  simp -implicitDefEqProofs [Asic.averaged_ldg_stopped, Asic.entries_ldg_stopped, ok, rej]

theorem Asic.mtieEntry_ldg_stopped (a : Asic) (i : Nat) (j : Nat) (k : Nat) (s : Nat) (t : Option Int) : (Asic.mtieEntry a i j k s t).1.ldg.stopped = a.ldg.stopped := by
  unfold Asic.mtieEntry
  dsimp only
  (repeat' split) <;> simp -implicitDefEqProofs [Asic.setEntry_ldg_stopped, Asic.setValue_ldg_stopped, Asic.ite_ldg_stopped, Asic.foldl_ldg_stopped, ok, rej]

theorem Asic.mtieEntries_ldg_stopped (a : Asic) (i : Nat) (j : Nat) (n : Nat) : (Asic.mtieEntries a i j n).1.ldg.stopped = a.ldg.stopped := by
  unfold Asic.mtieEntries
  simp -implicitDefEqProofs [Asic.mtieEntry_ldg_stopped, Asic.entries_ldg_stopped, ok, rej]

theorem Asic.snapshotFlip_ldg_stopped (a : Asic) : (Asic.snapshotFlip a).ldg.stopped = a.ldg.stopped := by
  unfold Asic.snapshotFlip
  simp -implicitDefEqProofs [Asic.ite_ldg_stopped]

end Sys2Proof.Machine
end

