-- ==== Sys2Proof/Laws/FrameLdgcfg.lean ====
section
/-! SUPPORT. Register fields at 0x38000 to 0x38010 that operations leave alone. -/

set_option linter.unusedSimpArgs false
set_option linter.unusedSectionVars false

namespace Sys2Proof.Machine

variable (g : Fld) (h1 : 0x38000 ≤ g.addr) (h2 : g.addr < 0x38010)
include h1 h2
theorem Asic.put_ldgcfg (a : Asic) (f : Fld) (n : Nat) (h : f.addr < 0x38000 ∨ 0x38010 ≤ f.addr) : (a.put f n).get g = a.get g := Asic.get_put_ne _ _ _ _ (.inl (by omega))
theorem Asic.putS_ldgcfg (a : Asic) (f : Fld) (n : Int) (h : f.addr < 0x38000 ∨ 0x38010 ≤ f.addr) : (a.putS f n).get g = a.get g := Asic.get_put_ne _ _ _ _ (.inl (by omega))
theorem Asic.putB_ldgcfg (a : Asic) (f : Fld) (n : Bool) (h : f.addr < 0x38000 ∨ 0x38010 ≤ f.addr) : (a.putB f n).get g = a.get g := Asic.get_put_ne _ _ _ _ (.inl (by omega))
theorem Asic.addSat_ldgcfg (a : Asic) (f : Fld) (n : Nat) (h : f.addr < 0x38000 ∨ 0x38010 ≤ f.addr) : (a.addSat f n).get g = a.get g := Asic.get_put_ne _ _ _ _ (.inl (by omega))
theorem Asic.addWrap_ldgcfg (a : Asic) (f : Fld) (n : Nat) (h : f.addr < 0x38000 ∨ 0x38010 ≤ f.addr) : (a.addWrap f n).get g = a.get g := Asic.get_put_ne _ _ _ _ (.inl (by omega))
theorem Asic.event_ldgcfg (a : Asic) (f : Fld) (h : f.addr < 0x38000 ∨ 0x38010 ≤ f.addr) : (a.event f).get g = a.get g := Asic.get_event_ne _ _ _ (.inl (by omega)) (.inl (by dsimp only; omega))
theorem Asic.put2_ldgcfg (a : Asic) (f f' : Fld) (n : Nat) (h : f.addr < 0x38000 ∨ 0x38010 ≤ f.addr) (h' : f'.addr < 0x38000 ∨ 0x38010 ≤ f'.addr) : (a.put2 f f' n).get g = a.get g := by
  rw [Asic.put2, Asic.get_put_ne _ _ _ _ (.inl (by omega)), Asic.get_put_ne _ _ _ _ (.inl (by omega))]
theorem Asic.put2S_ldgcfg (a : Asic) (f f' : Fld) (n : Int) (h : f.addr < 0x38000 ∨ 0x38010 ≤ f.addr) (h' : f'.addr < 0x38000 ∨ 0x38010 ≤ f'.addr) : (a.put2S f f' n).get g = a.get g := by
  rw [Asic.put2S, Asic.put2, Asic.get_put_ne _ _ _ _ (.inl (by omega)), Asic.get_put_ne _ _ _ _ (.inl (by omega))]
omit h1 h2
theorem Asic.each_ldgcfg (a : Asic) (l : List Nat) (f : Asic → Nat → Asic) (h : ∀ x i, (f x i).get g = x.get g) : (a.each l f).get g = a.get g := by
  induction l generalizing a with
  | nil => rfl
  | cons i l ih => exact (ih (f a i)).trans (h a i)
theorem Asic.onlyIf_ldgcfg (a : Asic) (c : Bool) (f : Asic → Asic) (h : ∀ x, (f x).get g = x.get g) : (a.onlyIf c f).get g = a.get g := by
  unfold Asic.onlyIf
  split
  · exact h a
  · rfl
theorem Asic.entries_ldgcfg (a : Asic) (l : List Nat) (f : Asic → Nat → Asic × Bool) (h : ∀ x i, (f x i).1.get g = x.get g) : (a.entries l f).1.get g = a.get g := by
  have e : ∀ (l : List Nat) (p : Asic × Nat), (l.foldl (fun (p : Asic × Nat) k =>
      let (a, w) := f p.1 k
      (a, if w then p.2 + 2 ^ k else p.2)) p).1.get g = p.1.get g := by
    intro l
    induction l with
    | nil => intro p; rfl
    | cons i l ih => intro p; exact (ih _).trans (h p.1 i)
  exact e l (a, 0)
theorem Asic.ite_ldgcfg (c : Prop) [Decidable c] (x y : Asic) : (if c then x else y).get g = if c then x.get g else y.get g := apply_ite (fun z => Asic.get z g) _ _ _
theorem Asic.foldl_ldgcfg {α : Type} (a : Asic) (l : List α) (f : Asic → α → Asic) (h : ∀ x i, (f x i).get g = x.get g) : (l.foldl f a).get g = a.get g := by
  induction l generalizing a with
  | nil => rfl
  | cons i l ih => exact (ih (f a i)).trans (h a i)
include h1 h2


theorem Asic.countGap_ldgcfg (a : Asic) (i : Nat) (n : Nat) : (Asic.countGap a i n).get g = a.get g := by
  unfold Asic.countGap
  simp +arith -implicitDefEqProofs [Asic.put_ldgcfg g h1 h2, Asic.addSat_ldgcfg g h1 h2, Asic.event_ldgcfg g h1 h2, Asic.get_mk, Asic.get_of_regs, Asic.ite_ldgcfg]

theorem Asic.wipeCell_ldgcfg (a : Asic) (i : Nat) (j : Nat) : (Asic.wipeCell a i j).get g = a.get g := by
  unfold Asic.wipeCell
  simp +arith -implicitDefEqProofs [Asic.get_mk, Asic.get_of_regs, Asic.foldl_ldgcfg]

theorem Asic.restartIndex_ldgcfg (a : Asic) (i : Nat) : (Asic.restartIndex a i).get g = a.get g := by
  unfold Asic.restartIndex
  simp +arith -implicitDefEqProofs [Asic.wipeCell_ldgcfg g h1 h2, Asic.put_ldgcfg g h1 h2, Asic.addWrap_ldgcfg g h1 h2, Asic.event_ldgcfg g h1 h2, Asic.get_mk, Asic.get_of_regs, Asic.each_ldgcfg]

theorem Asic.restartDiagonal_ldgcfg (a : Asic) (i : Nat) (n : Nat) : (Asic.restartDiagonal a i n).get g = a.get g := by
  unfold Asic.restartDiagonal
  simp +arith -implicitDefEqProofs [Asic.wipeCell_ldgcfg g h1 h2, Asic.get_mk, Asic.get_of_regs]

theorem Asic.passRestarts_ldgcfg (a : Asic) (s : Nat) : (Asic.passRestarts a s).get g = a.get g := by
  unfold Asic.passRestarts
  simp +arith -implicitDefEqProofs [Asic.restartIndex_ldgcfg g h1 h2, Asic.restartDiagonal_ldgcfg g h1 h2, Asic.get_mk, Asic.get_of_regs, Asic.each_ldgcfg, Asic.ite_ldgcfg]

theorem Asic.keepValue_ldgcfg (a : Asic) (i : Nat) (n : Nat) : (Asic.keepValue a i n).get g = a.get g := by
  unfold Asic.keepValue
  (repeat' split) <;> simp +arith -implicitDefEqProofs [Asic.addSat_ldgcfg g h1 h2, Asic.get_mk, Asic.get_of_regs, Asic.ite_ldgcfg]

theorem Asic.dropSeconds_ldgcfg (a : Asic) (i : Nat) (n : Nat) : (Asic.dropSeconds a i n).get g = a.get g := by
  unfold Asic.dropSeconds
  simp +arith -implicitDefEqProofs [Asic.get_mk, Asic.get_of_regs]

theorem Asic.checkSegments_ldgcfg (a : Asic) : (Asic.checkSegments a).get g = a.get g := by
  unfold Asic.checkSegments
  simp +arith -implicitDefEqProofs [Asic.get_mk, Asic.get_of_regs, Asic.ite_ldgcfg, Asic.foldl_ldgcfg]

theorem Asic.setEntry_ldgcfg (a : Asic) (i : Nat) (j : Nat) (k : Nat) (w : Option Word) : (Asic.setEntry a i j k w).get g = a.get g := by
  unfold Asic.setEntry
  simp +arith -implicitDefEqProofs [Asic.get_mk, Asic.get_of_regs]

theorem Asic.setValue_ldgcfg (a : Asic) (i : Nat) (j : Nat) (k : Nat) (w : Word × Bool) : (Asic.setValue a i j k w).get g = a.get g := by
  unfold Asic.setValue
  simp +arith -implicitDefEqProofs [Asic.setEntry_ldgcfg g h1 h2, Asic.event_ldgcfg g h1 h2, Asic.get_mk, Asic.get_of_regs, Asic.onlyIf_ldgcfg]

theorem Asic.setRat_ldgcfg (a : Asic) (i : Nat) (j : Nat) (k : Nat) (v : Option Rat) : (Asic.setRat a i j k v).get g = a.get g := by
  unfold Asic.setRat
  (repeat' split) <;> simp +arith -implicitDefEqProofs [Asic.setEntry_ldgcfg g h1 h2, Asic.setValue_ldgcfg g h1 h2, Asic.get_mk, Asic.get_of_regs]

theorem Asic.writeDiagonal_ldgcfg (a : Asic) (i : Nat) (n : Nat) : (Asic.writeDiagonal a i n).get g = a.get g := by
  unfold Asic.writeDiagonal
  simp +arith -implicitDefEqProofs [Asic.setRat_ldgcfg g h1 h2, Asic.get_mk, Asic.get_of_regs]

theorem Asic.emit_ldgcfg (a : Asic) (q : Nat) (r : Record) : (Asic.emit a q r).get g = a.get g := by
  unfold Asic.emit
  simp +arith -implicitDefEqProofs [Asic.addSat_ldgcfg g h1 h2, Asic.get_mk, Asic.get_of_regs, Asic.ite_ldgcfg]

theorem Asic.halfRecord_ldgcfg (a : Asic) (i : Nat) (j : Nat) (half : Nat) (written : Nat) (pass : Nat) (degraded : Bool) : (Asic.halfRecord a i j half written pass degraded).get g = a.get g := by
  unfold Asic.halfRecord
  simp +arith -implicitDefEqProofs [Asic.emit_ldgcfg g h1 h2, Asic.addSat_ldgcfg g h1 h2, Asic.get_mk, Asic.get_of_regs, Asic.ite_ldgcfg, Asic.foldl_ldgcfg]

theorem Asic.cellRecords_ldgcfg (a : Asic) (i : Nat) (j : Nat) (written : Nat) (pass : Nat) (degraded : Bool) : (Asic.cellRecords a i j written pass degraded).get g = a.get g := by
  unfold Asic.cellRecords
  simp +arith -implicitDefEqProofs [Asic.halfRecord_ldgcfg g h1 h2, Asic.get_mk, Asic.get_of_regs]

theorem Asic.averaged_ldgcfg (a : Asic) (i : Nat) (j : Nat) (k : Nat) (t : Option Rat) : (Asic.averaged a i j k t).1.get g = a.get g := by
  unfold Asic.averaged
  dsimp only
  (repeat' split) <;> simp +arith -implicitDefEqProofs [Asic.setEntry_ldgcfg g h1 h2, Asic.setValue_ldgcfg g h1 h2, Asic.get_mk, Asic.get_of_regs, Asic.ite_ldgcfg, ok, rej]

theorem Asic.adevEntries_ldgcfg (a : Asic) (i : Nat) (n : Nat) : (Asic.adevEntries a i n).1.get g = a.get g := by
  unfold Asic.adevEntries
  simp +arith -implicitDefEqProofs [Asic.averaged_ldgcfg g h1 h2, Asic.get_mk, Asic.get_of_regs, Asic.entries_ldgcfg, ok, rej]

theorem Asic.tdevEntries_ldgcfg (a : Asic) (i : Nat) (j : Nat) (n : Nat) : (Asic.tdevEntries a i j n).1.get g = a.get g := by
  unfold Asic.tdevEntries
  simp +arith -implicitDefEqProofs [Asic.averaged_ldgcfg g h1 h2, Asic.get_mk, Asic.get_of_regs, Asic.entries_ldgcfg, ok, rej]

theorem Asic.mtieEntry_ldgcfg (a : Asic) (i : Nat) (j : Nat) (k : Nat) (s : Nat) (t : Option Int) : (Asic.mtieEntry a i j k s t).1.get g = a.get g := by
  unfold Asic.mtieEntry
  extract_lets key seg old new keep b x
  split
  · rfl
  · dsimp only
    have hb : x.get g = a.get g := rfl
    clear_value x
    rw [← hb]
    split
    · exact Asic.setEntry_ldgcfg g h1 h2 _ _ _ _ _
    · generalize ratToF32 _ = w
      exact Asic.setValue_ldgcfg g h1 h2 _ _ _ _ _

theorem Asic.mtieEntries_ldgcfg (a : Asic) (i : Nat) (j : Nat) (n : Nat) : (Asic.mtieEntries a i j n).1.get g = a.get g := by
  unfold Asic.mtieEntries
  simp +arith -implicitDefEqProofs [Asic.mtieEntry_ldgcfg g h1 h2, Asic.get_mk, Asic.get_of_regs, Asic.entries_ldgcfg, ok, rej]

end Sys2Proof.Machine
end

