-- ==== Sys2Proof/Laws/FrameLdgu.lean ====
section
/-! SUPPORT. Register fields at 0x38034 to 0x38038 that operations leave alone. -/

set_option linter.unusedSimpArgs false
set_option linter.unusedSectionVars false

namespace Sys2Proof.Machine

variable (g : Fld) (h1 : 0x38034 ≤ g.addr) (h2 : g.addr < 0x38038)
include h1 h2
theorem Asic.put_ldgu (a : Asic) (f : Fld) (n : Nat) (h : f.addr < 0x38034 ∨ 0x38038 ≤ f.addr) : (a.put f n).get g = a.get g := Asic.get_put_ne _ _ _ _ (.inl (by omega))
theorem Asic.putS_ldgu (a : Asic) (f : Fld) (n : Int) (h : f.addr < 0x38034 ∨ 0x38038 ≤ f.addr) : (a.putS f n).get g = a.get g := Asic.get_put_ne _ _ _ _ (.inl (by omega))
theorem Asic.putB_ldgu (a : Asic) (f : Fld) (n : Bool) (h : f.addr < 0x38034 ∨ 0x38038 ≤ f.addr) : (a.putB f n).get g = a.get g := Asic.get_put_ne _ _ _ _ (.inl (by omega))
theorem Asic.addSat_ldgu (a : Asic) (f : Fld) (n : Nat) (h : f.addr < 0x38034 ∨ 0x38038 ≤ f.addr) : (a.addSat f n).get g = a.get g := Asic.get_put_ne _ _ _ _ (.inl (by omega))
theorem Asic.addWrap_ldgu (a : Asic) (f : Fld) (n : Nat) (h : f.addr < 0x38034 ∨ 0x38038 ≤ f.addr) : (a.addWrap f n).get g = a.get g := Asic.get_put_ne _ _ _ _ (.inl (by omega))
theorem Asic.event_ldgu (a : Asic) (f : Fld) (h : f.addr < 0x38034 ∨ 0x38038 ≤ f.addr) : (a.event f).get g = a.get g := Asic.get_event_ne _ _ _ (.inl (by omega)) (.inl (by dsimp only; omega))
theorem Asic.put2_ldgu (a : Asic) (f f' : Fld) (n : Nat) (h : f.addr < 0x38034 ∨ 0x38038 ≤ f.addr) (h' : f'.addr < 0x38034 ∨ 0x38038 ≤ f'.addr) : (a.put2 f f' n).get g = a.get g := by
  rw [Asic.put2, Asic.get_put_ne _ _ _ _ (.inl (by omega)), Asic.get_put_ne _ _ _ _ (.inl (by omega))]
theorem Asic.put2S_ldgu (a : Asic) (f f' : Fld) (n : Int) (h : f.addr < 0x38034 ∨ 0x38038 ≤ f.addr) (h' : f'.addr < 0x38034 ∨ 0x38038 ≤ f'.addr) : (a.put2S f f' n).get g = a.get g := by
  rw [Asic.put2S, Asic.put2, Asic.get_put_ne _ _ _ _ (.inl (by omega)), Asic.get_put_ne _ _ _ _ (.inl (by omega))]
omit h1 h2
theorem Asic.each_ldgu (a : Asic) (l : List Nat) (f : Asic → Nat → Asic) (h : ∀ x i, (f x i).get g = x.get g) : (a.each l f).get g = a.get g := by
  induction l generalizing a with
  | nil => rfl
  | cons i l ih => exact (ih (f a i)).trans (h a i)
theorem Asic.onlyIf_ldgu (a : Asic) (c : Bool) (f : Asic → Asic) (h : ∀ x, (f x).get g = x.get g) : (a.onlyIf c f).get g = a.get g := by
  unfold Asic.onlyIf
  split
  · exact h a
  · rfl
theorem Asic.entries_ldgu (a : Asic) (l : List Nat) (f : Asic → Nat → Asic × Bool) (h : ∀ x i, (f x i).1.get g = x.get g) : (a.entries l f).1.get g = a.get g := by
  have e : ∀ (l : List Nat) (p : Asic × Nat), (l.foldl (fun (p : Asic × Nat) k =>
      let (a, w) := f p.1 k
      (a, if w then p.2 + 2 ^ k else p.2)) p).1.get g = p.1.get g := by
    intro l
    induction l with
    | nil => intro p; rfl
    | cons i l ih => intro p; exact (ih _).trans (h p.1 i)
  exact e l (a, 0)
theorem Asic.ite_ldgu (c : Prop) [Decidable c] (x y : Asic) : (if c then x else y).get g = if c then x.get g else y.get g := apply_ite (fun z => Asic.get z g) _ _ _
theorem Asic.foldl_ldgu {α : Type} (a : Asic) (l : List α) (f : Asic → α → Asic) (h : ∀ x i, (f x i).get g = x.get g) : (l.foldl f a).get g = a.get g := by
  induction l generalizing a with
  | nil => rfl
  | cons i l ih => exact (ih (f a i)).trans (h a i)
include h1 h2


theorem Asic.countGap_ldgu (a : Asic) (i : Nat) (n : Nat) : (Asic.countGap a i n).get g = a.get g := by
  unfold Asic.countGap
  simp +arith -implicitDefEqProofs [Asic.put_ldgu g h1 h2, Asic.addSat_ldgu g h1 h2, Asic.event_ldgu g h1 h2, Asic.get_mk, Asic.get_of_regs, Asic.ite_ldgu]

theorem Asic.wipeCell_ldgu (a : Asic) (i : Nat) (j : Nat) : (Asic.wipeCell a i j).get g = a.get g := by
  unfold Asic.wipeCell
  simp +arith -implicitDefEqProofs [Asic.get_mk, Asic.get_of_regs, Asic.foldl_ldgu]

theorem Asic.restartIndex_ldgu (a : Asic) (i : Nat) : (Asic.restartIndex a i).get g = a.get g := by
  unfold Asic.restartIndex
  simp +arith -implicitDefEqProofs [Asic.wipeCell_ldgu g h1 h2, Asic.put_ldgu g h1 h2, Asic.addWrap_ldgu g h1 h2, Asic.event_ldgu g h1 h2, Asic.get_mk, Asic.get_of_regs, Asic.each_ldgu]

theorem Asic.restartDiagonal_ldgu (a : Asic) (i : Nat) (n : Nat) : (Asic.restartDiagonal a i n).get g = a.get g := by
  unfold Asic.restartDiagonal
  simp +arith -implicitDefEqProofs [Asic.wipeCell_ldgu g h1 h2, Asic.get_mk, Asic.get_of_regs]

theorem Asic.passRestarts_ldgu (a : Asic) (s : Nat) : (Asic.passRestarts a s).get g = a.get g := by
  unfold Asic.passRestarts
  simp +arith -implicitDefEqProofs [Asic.restartIndex_ldgu g h1 h2, Asic.restartDiagonal_ldgu g h1 h2, Asic.get_mk, Asic.get_of_regs, Asic.each_ldgu, Asic.ite_ldgu]

theorem Asic.keepValue_ldgu (a : Asic) (i : Nat) (n : Nat) : (Asic.keepValue a i n).get g = a.get g := by
  unfold Asic.keepValue
  (repeat' split) <;> simp +arith -implicitDefEqProofs [Asic.addSat_ldgu g h1 h2, Asic.get_mk, Asic.get_of_regs, Asic.ite_ldgu]

theorem Asic.dropSeconds_ldgu (a : Asic) (i : Nat) (n : Nat) : (Asic.dropSeconds a i n).get g = a.get g := by
  unfold Asic.dropSeconds
  simp +arith -implicitDefEqProofs [Asic.get_mk, Asic.get_of_regs]

theorem Asic.checkSegments_ldgu (a : Asic) : (Asic.checkSegments a).get g = a.get g := by
  unfold Asic.checkSegments
  simp +arith -implicitDefEqProofs [Asic.get_mk, Asic.get_of_regs, Asic.ite_ldgu, Asic.foldl_ldgu]

end Sys2Proof.Machine
end

