-- ==== Sys2Proof/Laws/FrameMode.lean ====
section
/-! SUPPORT. Operations that leave the field `Reg.GLB_MODE.MODE` alone. -/

set_option linter.unusedSimpArgs false
set_option linter.unusedSectionVars false

namespace Sys2Proof.Machine

theorem Asic.put_mode (a : Asic) (f : Fld) (n : Nat) (h : f.addr ≠ Reg.GLB_MODE.MODE.addr ∨ f.lsb + f.width ≤ Reg.GLB_MODE.MODE.lsb ∨ Reg.GLB_MODE.MODE.lsb + Reg.GLB_MODE.MODE.width ≤ f.lsb) : (a.put f n).get Reg.GLB_MODE.MODE = a.get Reg.GLB_MODE.MODE := Asic.get_put_ne _ _ _ _ h
theorem Asic.putS_mode (a : Asic) (f : Fld) (n : Int) (h : f.addr ≠ Reg.GLB_MODE.MODE.addr ∨ f.lsb + f.width ≤ Reg.GLB_MODE.MODE.lsb ∨ Reg.GLB_MODE.MODE.lsb + Reg.GLB_MODE.MODE.width ≤ f.lsb) : (a.putS f n).get Reg.GLB_MODE.MODE = a.get Reg.GLB_MODE.MODE := Asic.get_put_ne _ _ _ _ h
theorem Asic.putB_mode (a : Asic) (f : Fld) (n : Bool) (h : f.addr ≠ Reg.GLB_MODE.MODE.addr ∨ f.lsb + f.width ≤ Reg.GLB_MODE.MODE.lsb ∨ Reg.GLB_MODE.MODE.lsb + Reg.GLB_MODE.MODE.width ≤ f.lsb) : (a.putB f n).get Reg.GLB_MODE.MODE = a.get Reg.GLB_MODE.MODE := Asic.get_put_ne _ _ _ _ h
theorem Asic.addSat_mode (a : Asic) (f : Fld) (n : Nat) (h : f.addr ≠ Reg.GLB_MODE.MODE.addr ∨ f.lsb + f.width ≤ Reg.GLB_MODE.MODE.lsb ∨ Reg.GLB_MODE.MODE.lsb + Reg.GLB_MODE.MODE.width ≤ f.lsb) : (a.addSat f n).get Reg.GLB_MODE.MODE = a.get Reg.GLB_MODE.MODE := Asic.get_put_ne _ _ _ _ h
theorem Asic.addWrap_mode (a : Asic) (f : Fld) (n : Nat) (h : f.addr ≠ Reg.GLB_MODE.MODE.addr ∨ f.lsb + f.width ≤ Reg.GLB_MODE.MODE.lsb ∨ Reg.GLB_MODE.MODE.lsb + Reg.GLB_MODE.MODE.width ≤ f.lsb) : (a.addWrap f n).get Reg.GLB_MODE.MODE = a.get Reg.GLB_MODE.MODE := Asic.get_put_ne _ _ _ _ h
theorem Asic.event_mode (a : Asic) (f : Fld) (h : f.addr ≠ Reg.GLB_MODE.MODE.addr ∨ f.lsb + f.width ≤ Reg.GLB_MODE.MODE.lsb ∨ Reg.GLB_MODE.MODE.lsb + Reg.GLB_MODE.MODE.width ≤ f.lsb) (h' : f.addr ≠ Reg.GLB_MODE.MODE.addr ∨ 8 ≤ Reg.GLB_MODE.MODE.lsb) : (a.event f).get Reg.GLB_MODE.MODE = a.get Reg.GLB_MODE.MODE := Asic.get_event_ne _ _ _ h (h'.imp id .inl)
theorem Asic.put2_mode (a : Asic) (f f' : Fld) (n : Nat) (h : f.addr ≠ Reg.GLB_MODE.MODE.addr ∨ f.lsb + f.width ≤ Reg.GLB_MODE.MODE.lsb ∨ Reg.GLB_MODE.MODE.lsb + Reg.GLB_MODE.MODE.width ≤ f.lsb) (h' : f'.addr ≠ Reg.GLB_MODE.MODE.addr ∨ f'.lsb + f'.width ≤ Reg.GLB_MODE.MODE.lsb ∨ Reg.GLB_MODE.MODE.lsb + Reg.GLB_MODE.MODE.width ≤ f'.lsb) : (a.put2 f f' n).get Reg.GLB_MODE.MODE = a.get Reg.GLB_MODE.MODE := by
  unfold Asic.put2
  rw [Asic.get_put_ne _ _ _ _ h', Asic.get_put_ne _ _ _ _ h]
theorem Asic.put2S_mode (a : Asic) (f f' : Fld) (n : Int) (h : f.addr ≠ Reg.GLB_MODE.MODE.addr ∨ f.lsb + f.width ≤ Reg.GLB_MODE.MODE.lsb ∨ Reg.GLB_MODE.MODE.lsb + Reg.GLB_MODE.MODE.width ≤ f.lsb) (h' : f'.addr ≠ Reg.GLB_MODE.MODE.addr ∨ f'.lsb + f'.width ≤ Reg.GLB_MODE.MODE.lsb ∨ Reg.GLB_MODE.MODE.lsb + Reg.GLB_MODE.MODE.width ≤ f'.lsb) : (a.put2S f f' n).get Reg.GLB_MODE.MODE = a.get Reg.GLB_MODE.MODE := by
  unfold Asic.put2S Asic.put2
  rw [Asic.get_put_ne _ _ _ _ h', Asic.get_put_ne _ _ _ _ h]
theorem Asic.each_mode (a : Asic) (l : List Nat) (f : Asic → Nat → Asic) (h : ∀ x i, (f x i).get Reg.GLB_MODE.MODE = x.get Reg.GLB_MODE.MODE) : (a.each l f).get Reg.GLB_MODE.MODE = a.get Reg.GLB_MODE.MODE := by
  induction l generalizing a with
  | nil => rfl
  | cons i l ih => exact (ih (f a i)).trans (h a i)
theorem Asic.onlyIf_mode (a : Asic) (c : Bool) (f : Asic → Asic) (h : ∀ x, (f x).get Reg.GLB_MODE.MODE = x.get Reg.GLB_MODE.MODE) : (a.onlyIf c f).get Reg.GLB_MODE.MODE = a.get Reg.GLB_MODE.MODE := by
  unfold Asic.onlyIf
  split
  · exact h a
  · rfl
theorem Asic.ite_mode (c : Prop) [Decidable c] (x y : Asic) : (if c then x else y).get Reg.GLB_MODE.MODE = if c then x.get Reg.GLB_MODE.MODE else y.get Reg.GLB_MODE.MODE := apply_ite (fun z => Asic.get z Reg.GLB_MODE.MODE) _ _ _
theorem Asic.foldl_mode {α : Type} (a : Asic) (l : List α) (f : Asic → α → Asic) (h : ∀ x i, (f x i).get Reg.GLB_MODE.MODE = x.get Reg.GLB_MODE.MODE) : (l.foldl f a).get Reg.GLB_MODE.MODE = a.get Reg.GLB_MODE.MODE := by
  induction l generalizing a with
  | nil => rfl
  | cons i l ih => exact (ih (f a i)).trans (h a i)


theorem Asic.settleChan_mode (a : Asic) (c : Nat) : (Asic.settleChan a c).get Reg.GLB_MODE.MODE = a.get Reg.GLB_MODE.MODE := by
  unfold Asic.settleChan
  simp +arith -implicitDefEqProofs [Asic.get_mk, Asic.get_of_regs]

theorem Asic.freezeChannels_mode (a : Asic) : (Asic.freezeChannels a).get Reg.GLB_MODE.MODE = a.get Reg.GLB_MODE.MODE := by
  unfold Asic.freezeChannels
  simp +arith -implicitDefEqProofs [Asic.settleChan_mode, Asic.put_mode, Asic.get_mk, Asic.get_of_regs, Asic.each_mode, Asic.ite_mode]

theorem Asic.abortSwitch_mode (a : Asic) (c : Nat) : (Asic.abortSwitch a c).get Reg.GLB_MODE.MODE = a.get Reg.GLB_MODE.MODE := by
  unfold Asic.abortSwitch
  simp +arith -implicitDefEqProofs [Asic.put_mode, Asic.event_mode, Asic.get_mk, Asic.get_of_regs]

theorem Asic.setRallyState_mode (a : Asic) (i : Nat) (s : Nat) : (Asic.setRallyState a i s).get Reg.GLB_MODE.MODE = a.get Reg.GLB_MODE.MODE := by
  unfold Asic.setRallyState
  simp +arith -implicitDefEqProofs [Asic.put_mode, Asic.event_mode, Asic.get_mk, Asic.get_of_regs, Asic.ite_mode]

theorem Asic.rallyRefresh_mode (a : Asic) (i : Nat) : (Asic.rallyRefresh a i).get Reg.GLB_MODE.MODE = a.get Reg.GLB_MODE.MODE := by
  unfold Asic.rallyRefresh
  simp +arith -implicitDefEqProofs [Asic.setRallyState_mode, Asic.put_mode, Asic.putB_mode, Asic.get_mk, Asic.get_of_regs, Asic.ite_mode]

theorem Asic.rallyRefreshAll_mode (a : Asic) : (Asic.rallyRefreshAll a).get Reg.GLB_MODE.MODE = a.get Reg.GLB_MODE.MODE := by
  unfold Asic.rallyRefreshAll
  simp +arith -implicitDefEqProofs [Asic.rallyRefresh_mode, Asic.get_mk, Asic.get_of_regs, Asic.each_mode]

theorem Asic.endStep_mode (a : Asic) (s : CalStep) (result : Nat) (change : Int) : (Asic.endStep a s result change).get Reg.GLB_MODE.MODE = a.get Reg.GLB_MODE.MODE := by
  unfold Asic.endStep
  simp +arith -implicitDefEqProofs [Asic.put_mode, Asic.putS_mode, Asic.get_mk, Asic.get_of_regs]

theorem Asic.dropStep_mode (a : Asic) : (Asic.dropStep a).get Reg.GLB_MODE.MODE = a.get Reg.GLB_MODE.MODE := by
  unfold Asic.dropStep
  (repeat' split) <;> simp +arith -implicitDefEqProofs [Asic.endStep_mode, Asic.event_mode, Asic.get_mk, Asic.get_of_regs]

theorem Asic.invalidateLanes_mode (a : Asic) : (Asic.invalidateLanes a).get Reg.GLB_MODE.MODE = a.get Reg.GLB_MODE.MODE := by
  unfold Asic.invalidateLanes
  simp +arith -implicitDefEqProofs [Asic.put_mode, Asic.get_mk, Asic.get_of_regs, Asic.each_mode]

theorem Asic.thawChannels_mode (a : Asic) : (Asic.thawChannels a).get Reg.GLB_MODE.MODE = a.get Reg.GLB_MODE.MODE := by
  unfold Asic.thawChannels
  simp +arith -implicitDefEqProofs [Asic.put_mode, Asic.get_mk, Asic.get_of_regs, Asic.each_mode]

theorem Asic.enterQual_mode (a : Asic) (i : Nat) (st : Nat) : (Asic.enterQual a i st).get Reg.GLB_MODE.MODE = a.get Reg.GLB_MODE.MODE := by
  unfold Asic.enterQual
  simp +arith -implicitDefEqProofs [Asic.put_mode, Asic.event_mode, Asic.get_mk, Asic.get_of_regs, Asic.ite_mode]

theorem Asic.addCause_mode (a : Asic) (i : Nat) (k : Nat) : (Asic.addCause a i k).get Reg.GLB_MODE.MODE = a.get Reg.GLB_MODE.MODE := by
  unfold Asic.addCause
  simp +arith -implicitDefEqProofs [Asic.put_mode, Asic.get_mk, Asic.get_of_regs]

theorem Asic.suspectFor_mode (a : Asic) (i : Nat) (k : Nat) : (Asic.suspectFor a i k).get Reg.GLB_MODE.MODE = a.get Reg.GLB_MODE.MODE := by
  unfold Asic.suspectFor
  simp +arith -implicitDefEqProofs [Asic.enterQual_mode, Asic.addCause_mode, Asic.get_mk, Asic.get_of_regs, Asic.ite_mode]

theorem Asic.toAbsent_mode (a : Asic) (i : Nat) : (Asic.toAbsent a i).get Reg.GLB_MODE.MODE = a.get Reg.GLB_MODE.MODE := by
  unfold Asic.toAbsent
  simp +arith -implicitDefEqProofs [Asic.enterQual_mode, Asic.put_mode, Asic.get_mk, Asic.get_of_regs, Asic.ite_mode]

theorem Asic.toSoak_mode (a : Asic) (i : Nat) : (Asic.toSoak a i).get Reg.GLB_MODE.MODE = a.get Reg.GLB_MODE.MODE := by
  unfold Asic.toSoak
  simp +arith -implicitDefEqProofs [Asic.enterQual_mode, Asic.put_mode, Asic.get_mk, Asic.get_of_regs]

theorem Asic.refreshAnchor_mode (a : Asic) : (Asic.refreshAnchor a).get Reg.GLB_MODE.MODE = a.get Reg.GLB_MODE.MODE := by
  unfold Asic.refreshAnchor
  simp +arith -implicitDefEqProofs [Asic.put_mode, Asic.get_mk, Asic.get_of_regs, Asic.each_mode, Asic.ite_mode]

theorem Asic.rebase_mode (a : Asic) (k : Nat) : (Asic.rebase a k).get Reg.GLB_MODE.MODE = a.get Reg.GLB_MODE.MODE := by
  unfold Asic.rebase
  simp +arith -implicitDefEqProofs [Asic.get_mk, Asic.get_of_regs]

theorem Asic.refreshRate_mode (a : Asic) (k : Nat) : (Asic.refreshRate a k).get Reg.GLB_MODE.MODE = a.get Reg.GLB_MODE.MODE := by
  unfold Asic.refreshRate
  simp +arith -implicitDefEqProofs [Asic.rebase_mode, Asic.putB_mode, Asic.get_mk, Asic.get_of_regs, Asic.ite_mode]

theorem Asic.refreshRates_mode (a : Asic) : (Asic.refreshRates a).get Reg.GLB_MODE.MODE = a.get Reg.GLB_MODE.MODE := by
  unfold Asic.refreshRates
  simp +arith -implicitDefEqProofs [Asic.refreshRate_mode, Asic.get_mk, Asic.get_of_regs, Asic.each_mode]

theorem Asic.setY_mode (a : Asic) (c : Nat) (y : Int) : (Asic.setY a c y).get Reg.GLB_MODE.MODE = a.get Reg.GLB_MODE.MODE := by
  unfold Asic.setY
  simp +arith -implicitDefEqProofs [Asic.refreshRates_mode, Asic.settleChan_mode, Asic.put2S_mode, Asic.get_mk, Asic.get_of_regs]

theorem Asic.noteClamp_mode (a : Asic) (c : Nat) (clamped : Bool) : (Asic.noteClamp a c clamped).get Reg.GLB_MODE.MODE = a.get Reg.GLB_MODE.MODE := by
  unfold Asic.noteClamp
  simp +arith -implicitDefEqProofs [Asic.putB_mode, Asic.event_mode, Asic.get_mk, Asic.get_of_regs, Asic.ite_mode]

theorem Asic.takeWord_mode (a : Asic) (c : Nat) (w : Int) : (Asic.takeWord a c w).get Reg.GLB_MODE.MODE = a.get Reg.GLB_MODE.MODE := by
  unfold Asic.takeWord
  exact (Asic.noteClamp_mode _ _ _).trans ((Asic.setY_mode _ _ _).trans rfl)

theorem Asic.emit_mode (a : Asic) (q : Nat) (r : Record) : (Asic.emit a q r).get Reg.GLB_MODE.MODE = a.get Reg.GLB_MODE.MODE := by
  unfold Asic.emit
  simp +arith -implicitDefEqProofs [Asic.addSat_mode, Asic.get_mk, Asic.get_of_regs, Asic.ite_mode]

theorem Asic.telemetry_mode (a : Asic) (c : Nat) (event : Bool) (short : Bool) : (Asic.telemetry a c event short).get Reg.GLB_MODE.MODE = a.get Reg.GLB_MODE.MODE := by
  unfold Asic.telemetry
  simp +arith -implicitDefEqProofs [Asic.emit_mode, Asic.settleChan_mode, Asic.get_mk, Asic.get_of_regs, Asic.ite_mode]

theorem Asic.moveChan_mode (a : Asic) (c : Nat) (s : Nat) : (Asic.moveChan a c s).get Reg.GLB_MODE.MODE = a.get Reg.GLB_MODE.MODE := by
  unfold Asic.moveChan
  simp +arith -implicitDefEqProofs [Asic.refreshAnchor_mode, Asic.telemetry_mode, Asic.put_mode, Asic.get_mk, Asic.get_of_regs, Asic.ite_mode]

theorem Asic.toFreerun_mode (a : Asic) (c : Nat) : (Asic.toFreerun a c).get Reg.GLB_MODE.MODE = a.get Reg.GLB_MODE.MODE := by
  unfold Asic.toFreerun
  simp +arith -implicitDefEqProofs [Asic.takeWord_mode, Asic.moveChan_mode, Asic.put_mode, Asic.get_mk, Asic.get_of_regs, Asic.ite_mode]

theorem Asic.toAcquire_mode (a : Asic) (c : Nat) : (Asic.toAcquire a c).get Reg.GLB_MODE.MODE = a.get Reg.GLB_MODE.MODE := by
  unfold Asic.toAcquire
  simp +arith -implicitDefEqProofs [Asic.moveChan_mode, Asic.put_mode, Asic.put2S_mode, Asic.get_mk, Asic.get_of_regs, Asic.onlyIf_mode, Asic.ite_mode]

theorem Asic.takeHoWord_mode (a : Asic) (c : Nat) : (Asic.takeHoWord a c).get Reg.GLB_MODE.MODE = a.get Reg.GLB_MODE.MODE := by
  unfold Asic.takeHoWord
  simp +arith -implicitDefEqProofs [Asic.takeWord_mode, Asic.putB_mode, Asic.get_mk, Asic.get_of_regs]

theorem Asic.toHoldoverWith_mode (a : Asic) (c : Nat) (qual : Nat) (avg : Int) (tc : Nat) : (Asic.toHoldoverWith a c qual avg tc).get Reg.GLB_MODE.MODE = a.get Reg.GLB_MODE.MODE := by
  unfold Asic.toHoldoverWith
  simp +arith -implicitDefEqProofs [Asic.moveChan_mode, Asic.takeHoWord_mode, Asic.put_mode, Asic.addSat_mode, Asic.event_mode, Asic.put2S_mode, Asic.get_mk, Asic.get_of_regs]

theorem Asic.toHoldover_mode (a : Asic) (c : Nat) : (Asic.toHoldover a c).get Reg.GLB_MODE.MODE = a.get Reg.GLB_MODE.MODE := by
  unfold Asic.toHoldover
  simp +arith -implicitDefEqProofs [Asic.toHoldoverWith_mode, Asic.get_mk, Asic.get_of_regs]

theorem Asic.selectionChanged_mode (a : Asic) (c : Nat) : (Asic.selectionChanged a c).get Reg.GLB_MODE.MODE = a.get Reg.GLB_MODE.MODE := by
  unfold Asic.selectionChanged
  simp +arith -implicitDefEqProofs [Asic.refreshAnchor_mode, Asic.toFreerun_mode, Asic.toAcquire_mode, Asic.toHoldover_mode, Asic.get_mk, Asic.get_of_regs, Asic.ite_mode]

theorem Asic.startSwitch_mode (a : Asic) (c : Nat) (o : Nat) (n : Nat) (reason : Nat) : (Asic.startSwitch a c o n reason).get Reg.GLB_MODE.MODE = a.get Reg.GLB_MODE.MODE := by
  unfold Asic.startSwitch
  simp +arith -implicitDefEqProofs [Asic.put_mode, Asic.get_mk, Asic.get_of_regs]

theorem Asic.selectOn_mode (a : Asic) (written : Bool) (c : Nat) : (Asic.selectOn a written c).get Reg.GLB_MODE.MODE = a.get Reg.GLB_MODE.MODE := by
  unfold Asic.selectOn
  dsimp only
  (repeat' split) <;> simp +arith -implicitDefEqProofs [Asic.selectionChanged_mode, Asic.startSwitch_mode, Asic.abortSwitch_mode, Asic.put_mode, Asic.putB_mode, Asic.event_mode, Asic.get_mk, Asic.get_of_regs, Asic.ite_mode]

theorem Asic.selectAll_mode (a : Asic) : (Asic.selectAll a).get Reg.GLB_MODE.MODE = a.get Reg.GLB_MODE.MODE := by
  unfold Asic.selectAll
  simp +arith -implicitDefEqProofs [Asic.refreshAnchor_mode, Asic.selectOn_mode, Asic.get_mk, Asic.get_of_regs, Asic.each_mode]

theorem Asic.umpCatchUp_mode (a : Asic) : (Asic.umpCatchUp a).get Reg.GLB_MODE.MODE = a.get Reg.GLB_MODE.MODE := by
  unfold Asic.umpCatchUp
  simp +arith -implicitDefEqProofs [Asic.suspectFor_mode, Asic.toAbsent_mode, Asic.toSoak_mode, Asic.selectAll_mode, Asic.get_mk, Asic.get_of_regs, Asic.each_mode, Asic.ite_mode]

theorem Asic.trigDone_mode (a : Asic) (n : Nat) : (Asic.trigDone a n).get Reg.GLB_MODE.MODE = a.get Reg.GLB_MODE.MODE := by
  unfold Asic.trigDone
  simp +arith -implicitDefEqProofs [Asic.put_mode, Asic.event_mode, Asic.get_mk, Asic.get_of_regs]

theorem Asic.trigEvaluate_mode (a : Asic) (n : Nat) : (Asic.trigEvaluate a n).get Reg.GLB_MODE.MODE = a.get Reg.GLB_MODE.MODE := by
  unfold Asic.trigEvaluate
  dsimp only
  have e : ∀ (T : Trig) (k : Nat), (((a.setTrig n T).addSat (Reg.TRG_CNT.SKIPS n) k).event (Reg.TRG_STAT.SKIPD n)).get Reg.GLB_MODE.MODE = a.get Reg.GLB_MODE.MODE :=
    fun T k => by simp +arith -implicitDefEqProofs [Asic.addSat_mode, Asic.event_mode]
  have e' : ∀ (T : Trig) (k : Nat), (((a.setTrig n T).event (Reg.TRG_STAT.LATE n)).addSat (Reg.TRG_CNT.LATE n) k).get Reg.GLB_MODE.MODE = a.get Reg.GLB_MODE.MODE :=
    fun T k => by simp +arith -implicitDefEqProofs [Asic.addSat_mode, Asic.event_mode]
  (repeat' split) <;> simp -implicitDefEqProofs only [Asic.trigDone_mode, e, e']

theorem Asic.trigsOf_mode (a : Asic) (k : Nat) : (Asic.trigsOf a k).get Reg.GLB_MODE.MODE = a.get Reg.GLB_MODE.MODE := by
  unfold Asic.trigsOf
  simp +arith -implicitDefEqProofs [Asic.trigEvaluate_mode, Asic.get_mk, Asic.get_of_regs, Asic.each_mode, Asic.ite_mode]

theorem Asic.requestMigration_mode (a : Asic) (c : Nat) (u : Nat) : (Asic.requestMigration a c u).get Reg.GLB_MODE.MODE = a.get Reg.GLB_MODE.MODE := by
  unfold Asic.requestMigration
  simp +arith -implicitDefEqProofs [Asic.put_mode, Asic.get_mk, Asic.get_of_regs, Asic.ite_mode]

theorem Asic.resumeMigration_mode (a : Asic) : (Asic.resumeMigration a).get Reg.GLB_MODE.MODE = a.get Reg.GLB_MODE.MODE := by
  unfold Asic.resumeMigration
  (repeat' split) <;> simp +arith -implicitDefEqProofs [Asic.requestMigration_mode, Asic.event_mode, Asic.get_mk, Asic.get_of_regs, Asic.ite_mode]

theorem Asic.requestOvenHo_mode (a : Asic) : (Asic.requestOvenHo a).get Reg.GLB_MODE.MODE = a.get Reg.GLB_MODE.MODE := by
  unfold Asic.requestOvenHo
  simp +arith -implicitDefEqProofs [Asic.put_mode, Asic.get_mk, Asic.get_of_regs, Asic.ite_mode]

theorem Asic.resumeOvenHo_mode (a : Asic) : (Asic.resumeOvenHo a).get Reg.GLB_MODE.MODE = a.get Reg.GLB_MODE.MODE := by
  unfold Asic.resumeOvenHo
  simp +arith -implicitDefEqProofs [Asic.requestOvenHo_mode, Asic.get_mk, Asic.get_of_regs, Asic.ite_mode]

end Sys2Proof.Machine
end

