-- ==== Sys2Proof/Laws/FrameOvn.lean ====
section
/-! SUPPORT. Operations that leave `ovn` alone. -/

set_option linter.unusedSimpArgs false
set_option linter.unusedSectionVars false

namespace Sys2Proof.Machine

theorem Asic.each_ovn (a : Asic) (l : List Nat) (f : Asic → Nat → Asic) (h : ∀ x i, (f x i).ovn = x.ovn) : (a.each l f).ovn = a.ovn := by
  induction l generalizing a with
  | nil => rfl
  | cons i l ih => exact (ih (f a i)).trans (h a i)
theorem Asic.onlyIf_ovn (a : Asic) (c : Bool) (f : Asic → Asic) (h : ∀ x, (f x).ovn = x.ovn) : (a.onlyIf c f).ovn = a.ovn := by
  unfold Asic.onlyIf
  split
  · exact h a
  · rfl
theorem Asic.entries_ovn (a : Asic) (l : List Nat) (f : Asic → Nat → Asic × Bool) (h : ∀ x i, (f x i).1.ovn = x.ovn) : (a.entries l f).1.ovn = a.ovn := by
  have e : ∀ (l : List Nat) (p : Asic × Nat), (l.foldl (fun (p : Asic × Nat) k =>
      let (a, w) := f p.1 k
      (a, if w then p.2 + 2 ^ k else p.2)) p).1.ovn = p.1.ovn := by
    intro l
    induction l with
    | nil => intro p; rfl
    | cons i l ih => intro p; exact (ih _).trans (h p.1 i)
  exact e l (a, 0)
theorem Asic.ite_ovn (c : Prop) [Decidable c] (x y : Asic) : (if c then x else y).ovn = if c then x.ovn else y.ovn := apply_ite (fun z : Asic => z.ovn) _ _ _
theorem Asic.foldl_ovn {α : Type} (a : Asic) (l : List α) (f : Asic → α → Asic) (h : ∀ x i, (f x i).ovn = x.ovn) : (l.foldl f a).ovn = a.ovn := by
  induction l generalizing a with
  | nil => rfl
  | cons i l ih => exact (ih (f a i)).trans (h a i)

theorem Asic.settleChan_ovn (a : Asic) (c : Nat) : (Asic.settleChan a c).ovn = a.ovn := by
  unfold Asic.settleChan
  simp -implicitDefEqProofs []

theorem Asic.emit_ovn (a : Asic) (q : Nat) (r : Record) : (Asic.emit a q r).ovn = a.ovn := by
  unfold Asic.emit
  simp -implicitDefEqProofs [Asic.ite_ovn]

theorem Asic.changeEpoch_ovn (a : Asic) (q : Nat) (kind : Nat) (fn : Nat) (old : Nat) (new : Nat) (cause : Nat) (extra : Nat) : (Asic.changeEpoch a q kind fn old new cause extra).ovn = a.ovn := by
  unfold Asic.changeEpoch
  simp -implicitDefEqProofs [Asic.emit_ovn]

theorem Asic.rebase_ovn (a : Asic) (k : Nat) : (Asic.rebase a k).ovn = a.ovn := by
  unfold Asic.rebase
  simp -implicitDefEqProofs []

theorem Asic.refreshRate_ovn (a : Asic) (k : Nat) : (Asic.refreshRate a k).ovn = a.ovn := by
  unfold Asic.refreshRate
  simp -implicitDefEqProofs [Asic.rebase_ovn, Asic.ite_ovn]

theorem Asic.refreshRates_ovn (a : Asic) : (Asic.refreshRates a).ovn = a.ovn := by
  unfold Asic.refreshRates
  simp -implicitDefEqProofs [Asic.refreshRate_ovn, Asic.each_ovn]

theorem Asic.setY_ovn (a : Asic) (c : Nat) (y : Int) : (Asic.setY a c y).ovn = a.ovn := by
  unfold Asic.setY
  simp -implicitDefEqProofs [Asic.refreshRates_ovn, Asic.settleChan_ovn]

theorem Asic.adjustWords_ovn (a : Asic) (y : Int) : (Asic.adjustWords a y).ovn = a.ovn := by
  unfold Asic.adjustWords
  simp -implicitDefEqProofs [Asic.refreshRate_ovn, Asic.settleChan_ovn, Asic.setY_ovn, Asic.each_ovn, Asic.ite_ovn]

theorem Asic.admitByWarm_ovn (a : Asic) : (Asic.admitByWarm a).ovn = a.ovn := by
  unfold Asic.admitByWarm
  simp -implicitDefEqProofs [Asic.ite_ovn]

theorem Asic.noOvenRefresh_ovn (a : Asic) : (Asic.noOvenRefresh a).ovn = a.ovn := by
  unfold Asic.noOvenRefresh
  simp -implicitDefEqProofs []

theorem Asic.invalidateLanes_ovn (a : Asic) : (Asic.invalidateLanes a).ovn = a.ovn := by
  unfold Asic.invalidateLanes
  simp -implicitDefEqProofs [Asic.each_ovn]

end Sys2Proof.Machine
end

