-- ==== Sys2Proof/Laws/FrameParity.lean ====
section
/-! SUPPORT. Operations that leave `parity` alone. -/

set_option linter.unusedSimpArgs false
set_option linter.unusedSectionVars false

namespace Sys2Proof.Machine

theorem Asic.each_parity (a : Asic) (l : List Nat) (f : Asic → Nat → Asic) (h : ∀ x i, (f x i).parity = x.parity) : (a.each l f).parity = a.parity := by
  induction l generalizing a with
  | nil => rfl
  | cons i l ih => exact (ih (f a i)).trans (h a i)
theorem Asic.onlyIf_parity (a : Asic) (c : Bool) (f : Asic → Asic) (h : ∀ x, (f x).parity = x.parity) : (a.onlyIf c f).parity = a.parity := by
  unfold Asic.onlyIf
  split
  · exact h a
  · rfl
theorem Asic.entries_parity (a : Asic) (l : List Nat) (f : Asic → Nat → Asic × Bool) (h : ∀ x i, (f x i).1.parity = x.parity) : (a.entries l f).1.parity = a.parity := by
  have e : ∀ (l : List Nat) (p : Asic × Nat), (l.foldl (fun (p : Asic × Nat) k =>
      let (a, w) := f p.1 k
      (a, if w then p.2 + 2 ^ k else p.2)) p).1.parity = p.1.parity := by
    intro l
    induction l with
    | nil => intro p; rfl
    | cons i l ih => intro p; exact (ih _).trans (h p.1 i)
  exact e l (a, 0)
theorem Asic.ite_parity (c : Prop) [Decidable c] (x y : Asic) : (if c then x else y).parity = if c then x.parity else y.parity := apply_ite (fun z : Asic => z.parity) _ _ _
theorem Asic.foldl_parity {α : Type} (a : Asic) (l : List α) (f : Asic → α → Asic) (h : ∀ x i, (f x i).parity = x.parity) : (l.foldl f a).parity = a.parity := by
  induction l generalizing a with
  | nil => rfl
  | cons i l ih => exact (ih (f a i)).trans (h a i)

theorem Asic.emit_parity (a : Asic) (q : Nat) (r : Record) : (Asic.emit a q r).parity = a.parity := by
  unfold Asic.emit
  simp -implicitDefEqProofs [Asic.ite_parity]

theorem Asic.settleChan_parity (a : Asic) (c : Nat) : (Asic.settleChan a c).parity = a.parity := by
  unfold Asic.settleChan
  simp -implicitDefEqProofs []

theorem Asic.telemetry_parity (a : Asic) (c : Nat) (event : Bool) (short : Bool) : (Asic.telemetry a c event short).parity = a.parity := by
  unfold Asic.telemetry
  simp -implicitDefEqProofs [Asic.emit_parity, Asic.settleChan_parity, Asic.ite_parity]

theorem Asic.refreshAnchor_parity (a : Asic) : (Asic.refreshAnchor a).parity = a.parity := by
  unfold Asic.refreshAnchor
  simp -implicitDefEqProofs [Asic.each_parity, Asic.ite_parity]

theorem Asic.moveChan_parity (a : Asic) (c : Nat) (s : Nat) : (Asic.moveChan a c s).parity = a.parity := by
  unfold Asic.moveChan
  simp -implicitDefEqProofs [Asic.refreshAnchor_parity, Asic.telemetry_parity, Asic.ite_parity]

theorem Asic.rebase_parity (a : Asic) (k : Nat) : (Asic.rebase a k).parity = a.parity := by
  unfold Asic.rebase
  simp -implicitDefEqProofs []

theorem Asic.refreshRate_parity (a : Asic) (k : Nat) : (Asic.refreshRate a k).parity = a.parity := by
  unfold Asic.refreshRate
  simp -implicitDefEqProofs [Asic.rebase_parity, Asic.ite_parity]

theorem Asic.refreshRates_parity (a : Asic) : (Asic.refreshRates a).parity = a.parity := by
  unfold Asic.refreshRates
  simp -implicitDefEqProofs [Asic.refreshRate_parity, Asic.each_parity]

theorem Asic.setY_parity (a : Asic) (c : Nat) (y : Int) : (Asic.setY a c y).parity = a.parity := by
  unfold Asic.setY
  simp -implicitDefEqProofs [Asic.refreshRates_parity, Asic.settleChan_parity]

theorem Asic.noteClamp_parity (a : Asic) (c : Nat) (clamped : Bool) : (Asic.noteClamp a c clamped).parity = a.parity := by
  unfold Asic.noteClamp
  simp -implicitDefEqProofs [Asic.ite_parity]

theorem Asic.takeWord_parity (a : Asic) (c : Nat) (w : Int) : (Asic.takeWord a c w).parity = a.parity := by
  unfold Asic.takeWord
  simp -implicitDefEqProofs [Asic.setY_parity, Asic.noteClamp_parity]

theorem Asic.takeHoWord_parity (a : Asic) (c : Nat) : (Asic.takeHoWord a c).parity = a.parity := by
  unfold Asic.takeHoWord
  simp -implicitDefEqProofs [Asic.takeWord_parity]

theorem Asic.toHoldoverWith_parity (a : Asic) (c : Nat) (qual : Nat) (avg : Int) (tc : Nat) : (Asic.toHoldoverWith a c qual avg tc).parity = a.parity := by
  unfold Asic.toHoldoverWith
  simp -implicitDefEqProofs [Asic.moveChan_parity, Asic.takeHoWord_parity]

end Sys2Proof.Machine
end

