-- ==== Sys2Proof/Laws/FrameRef.lean ====
section
/-! SUPPORT. Operations that leave `ref` alone. -/

set_option linter.unusedSimpArgs false
set_option linter.unusedSectionVars false

namespace Sys2Proof.Machine

theorem Asic.each_ref (a : Asic) (l : List Nat) (f : Asic → Nat → Asic) (h : ∀ x i, (f x i).ref = x.ref) : (a.each l f).ref = a.ref := by
  induction l generalizing a with
  | nil => rfl
  | cons i l ih => exact (ih (f a i)).trans (h a i)
theorem Asic.onlyIf_ref (a : Asic) (c : Bool) (f : Asic → Asic) (h : ∀ x, (f x).ref = x.ref) : (a.onlyIf c f).ref = a.ref := by
  unfold Asic.onlyIf
  split
  · exact h a
  · rfl
theorem Asic.ite_ref (c : Prop) [Decidable c] (x y : Asic) : (if c then x else y).ref = if c then x.ref else y.ref := apply_ite (fun z : Asic => z.ref) _ _ _
theorem Asic.foldl_ref {α : Type} (a : Asic) (l : List α) (f : Asic → α → Asic) (h : ∀ x i, (f x i).ref = x.ref) : (l.foldl f a).ref = a.ref := by
  induction l generalizing a with
  | nil => rfl
  | cons i l ih => exact (ih (f a i)).trans (h a i)

theorem Asic.enterQual_ref (a : Asic) (i : Nat) (st : Nat) : (Asic.enterQual a i st).ref = a.ref := by
  unfold Asic.enterQual
  simp -implicitDefEqProofs [Asic.ite_ref]

theorem Asic.addCause_ref (a : Asic) (i : Nat) (k : Nat) : (Asic.addCause a i k).ref = a.ref := by
  unfold Asic.addCause
  simp -implicitDefEqProofs []

theorem Asic.suspectFor_ref (a : Asic) (i : Nat) (k : Nat) : (Asic.suspectFor a i k).ref = a.ref := by
  unfold Asic.suspectFor
  simp -implicitDefEqProofs [Asic.enterQual_ref, Asic.addCause_ref, Asic.ite_ref]

theorem Asic.refreshAnchor_ref (a : Asic) : (Asic.refreshAnchor a).ref = a.ref := by
  unfold Asic.refreshAnchor
  simp -implicitDefEqProofs [Asic.each_ref, Asic.ite_ref]

theorem Asic.rebase_ref (a : Asic) (k : Nat) : (Asic.rebase a k).ref = a.ref := by
  unfold Asic.rebase
  simp -implicitDefEqProofs []

theorem Asic.refreshRate_ref (a : Asic) (k : Nat) : (Asic.refreshRate a k).ref = a.ref := by
  unfold Asic.refreshRate
  simp -implicitDefEqProofs [Asic.rebase_ref, Asic.ite_ref]

theorem Asic.refreshRates_ref (a : Asic) : (Asic.refreshRates a).ref = a.ref := by
  unfold Asic.refreshRates
  simp -implicitDefEqProofs [Asic.refreshRate_ref, Asic.each_ref]

theorem Asic.settleChan_ref (a : Asic) (c : Nat) : (Asic.settleChan a c).ref = a.ref := by
  unfold Asic.settleChan
  simp -implicitDefEqProofs []

theorem Asic.setY_ref (a : Asic) (c : Nat) (y : Int) : (Asic.setY a c y).ref = a.ref := by
  unfold Asic.setY
  simp -implicitDefEqProofs [Asic.refreshRates_ref, Asic.settleChan_ref]

theorem Asic.noteClamp_ref (a : Asic) (c : Nat) (clamped : Bool) : (Asic.noteClamp a c clamped).ref = a.ref := by
  unfold Asic.noteClamp
  simp -implicitDefEqProofs [Asic.ite_ref]

theorem Asic.takeWord_ref (a : Asic) (c : Nat) (w : Int) : (Asic.takeWord a c w).ref = a.ref := by
  unfold Asic.takeWord
  simp -implicitDefEqProofs [Asic.setY_ref, Asic.noteClamp_ref]

theorem Asic.emit_ref (a : Asic) (q : Nat) (r : Record) : (Asic.emit a q r).ref = a.ref := by
  unfold Asic.emit
  simp -implicitDefEqProofs [Asic.ite_ref]

theorem Asic.telemetry_ref (a : Asic) (c : Nat) (event : Bool) (short : Bool) : (Asic.telemetry a c event short).ref = a.ref := by
  unfold Asic.telemetry
  simp -implicitDefEqProofs [Asic.emit_ref, Asic.settleChan_ref, Asic.ite_ref]

theorem Asic.moveChan_ref (a : Asic) (c : Nat) (s : Nat) : (Asic.moveChan a c s).ref = a.ref := by
  unfold Asic.moveChan
  simp -implicitDefEqProofs [Asic.refreshAnchor_ref, Asic.telemetry_ref, Asic.ite_ref]

theorem Asic.toFreerun_ref (a : Asic) (c : Nat) : (Asic.toFreerun a c).ref = a.ref := by
  unfold Asic.toFreerun
  simp -implicitDefEqProofs [Asic.takeWord_ref, Asic.moveChan_ref, Asic.ite_ref]

theorem Asic.toAcquire_ref (a : Asic) (c : Nat) : (Asic.toAcquire a c).ref = a.ref := by
  unfold Asic.toAcquire
  simp -implicitDefEqProofs [Asic.moveChan_ref, Asic.onlyIf_ref, Asic.ite_ref]

theorem Asic.takeHoWord_ref (a : Asic) (c : Nat) : (Asic.takeHoWord a c).ref = a.ref := by
  unfold Asic.takeHoWord
  simp -implicitDefEqProofs [Asic.takeWord_ref]

theorem Asic.toHoldoverWith_ref (a : Asic) (c : Nat) (qual : Nat) (avg : Int) (tc : Nat) : (Asic.toHoldoverWith a c qual avg tc).ref = a.ref := by
  unfold Asic.toHoldoverWith
  simp -implicitDefEqProofs [Asic.moveChan_ref, Asic.takeHoWord_ref]

theorem Asic.toHoldover_ref (a : Asic) (c : Nat) : (Asic.toHoldover a c).ref = a.ref := by
  unfold Asic.toHoldover
  simp -implicitDefEqProofs [Asic.toHoldoverWith_ref]

theorem Asic.selectionChanged_ref (a : Asic) (c : Nat) : (Asic.selectionChanged a c).ref = a.ref := by
  unfold Asic.selectionChanged
  simp -implicitDefEqProofs [Asic.refreshAnchor_ref, Asic.toFreerun_ref, Asic.toAcquire_ref, Asic.toHoldover_ref, Asic.ite_ref]

theorem Asic.startSwitch_ref (a : Asic) (c : Nat) (o : Nat) (n : Nat) (reason : Nat) : (Asic.startSwitch a c o n reason).ref = a.ref := by
  unfold Asic.startSwitch
  simp -implicitDefEqProofs []

theorem Asic.abortSwitch_ref (a : Asic) (c : Nat) : (Asic.abortSwitch a c).ref = a.ref := by
  unfold Asic.abortSwitch
  simp -implicitDefEqProofs []

theorem Asic.selectOn_ref (a : Asic) (written : Bool) (c : Nat) : (Asic.selectOn a written c).ref = a.ref := by
  unfold Asic.selectOn
  dsimp only
  (repeat' split) <;> simp -implicitDefEqProofs [Asic.selectionChanged_ref, Asic.startSwitch_ref, Asic.abortSwitch_ref, Asic.ite_ref]

theorem Asic.selectAll_ref (a : Asic) : (Asic.selectAll a).ref = a.ref := by
  unfold Asic.selectAll
  simp -implicitDefEqProofs [Asic.refreshAnchor_ref, Asic.selectOn_ref, Asic.each_ref]

theorem Asic.umpAlarm_ref (a : Asic) (i : Nat) (k : Nat) : (Asic.umpAlarm a i k).ref = a.ref := by
  unfold Asic.umpAlarm
  simp -implicitDefEqProofs [Asic.suspectFor_ref, Asic.selectAll_ref, Asic.ite_ref]

theorem Asic.toAbsent_ref (a : Asic) (i : Nat) : (Asic.toAbsent a i).ref = a.ref := by
  unfold Asic.toAbsent
  simp -implicitDefEqProofs [Asic.enterQual_ref, Asic.ite_ref]

theorem Asic.umpAbsent_ref (a : Asic) (i : Nat) : (Asic.umpAbsent a i).ref = a.ref := by
  unfold Asic.umpAbsent
  simp -implicitDefEqProofs [Asic.toAbsent_ref, Asic.selectAll_ref, Asic.ite_ref]

theorem Asic.toSoak_ref (a : Asic) (i : Nat) : (Asic.toSoak a i).ref = a.ref := by
  unfold Asic.toSoak
  simp -implicitDefEqProofs [Asic.enterQual_ref]

theorem Asic.umpPresent_ref (a : Asic) (i : Nat) : (Asic.umpPresent a i).ref = a.ref := by
  unfold Asic.umpPresent
  simp -implicitDefEqProofs [Asic.toSoak_ref, Asic.ite_ref]

theorem Asic.moveSets_ref (a : Asic) (item : Nat) (unit : Nat) (entry : Nat) (r : Rat) : (Asic.moveSets a item unit entry r).ref = a.ref := by
  unfold Asic.moveSets
  with_reducible rfl

theorem Asic.learnTable_ref (a : Asic) (item : Nat) (unit : Nat) (l : List Int) : (Asic.learnTable a item unit l).ref = a.ref := by
  unfold Asic.learnTable
  simp -implicitDefEqProofs [Asic.moveSets_ref, Asic.foldl_ref]

theorem Asic.setRallyState_ref (a : Asic) (i : Nat) (s : Nat) : (Asic.setRallyState a i s).ref = a.ref := by
  unfold Asic.setRallyState
  simp -implicitDefEqProofs [Asic.ite_ref]

theorem Asic.rallyRefresh_ref (a : Asic) (i : Nat) : (Asic.rallyRefresh a i).ref = a.ref := by
  unfold Asic.rallyRefresh
  simp -implicitDefEqProofs [Asic.setRallyState_ref, Asic.ite_ref]

theorem Asic.rallyRefreshAll_ref (a : Asic) : (Asic.rallyRefreshAll a).ref = a.ref := by
  unfold Asic.rallyRefreshAll
  simp -implicitDefEqProofs [Asic.rallyRefresh_ref, Asic.each_ref]

theorem Asic.servoRest_ref (a : Asic) (k : Nat) (st : Nat) : (Asic.servoRest a k st).ref = a.ref := by
  unfold Asic.servoRest
  simp -implicitDefEqProofs [Asic.refreshRate_ref]

theorem Asic.servoRefresh_ref (a : Asic) (k : Nat) : (Asic.servoRefresh a k).ref = a.ref := by
  unfold Asic.servoRefresh
  simp -implicitDefEqProofs [Asic.servoRest_ref, Asic.ite_ref]

theorem Asic.servosRefresh_ref (a : Asic) : (Asic.servosRefresh a).ref = a.ref := by
  unfold Asic.servosRefresh
  simp -implicitDefEqProofs [Asic.servoRefresh_ref, Asic.each_ref]

theorem Asic.acalEdge_ref (a : Asic) (off : Int) : (Asic.acalEdge a off).ref = a.ref := by
  unfold Asic.acalEdge
  simp -implicitDefEqProofs [Asic.each_ref, Asic.ite_ref]

theorem Asic.changeEpoch_ref (a : Asic) (q : Nat) (kind : Nat) (fn : Nat) (old : Nat) (new : Nat) (cause : Nat) (extra : Nat) : (Asic.changeEpoch a q kind fn old new cause extra).ref = a.ref := by
  unfold Asic.changeEpoch
  simp -implicitDefEqProofs [Asic.emit_ref]

theorem Asic.watchStep_ref (a : Asic) : (Asic.watchStep a).ref = a.ref := by
  unfold Asic.watchStep
  (repeat' split) <;> simp -implicitDefEqProofs [Asic.ite_ref]

theorem Asic.moveDelays_ref (a : Asic) : (Asic.moveDelays a).ref = a.ref := by
  unfold Asic.moveDelays
  simp -implicitDefEqProofs [Asic.each_ref, Asic.ite_ref]

end Sys2Proof.Machine
end

