-- ==== Sys2Proof/Laws/FrameRefb.lean ====
section
/-! SUPPORT. Register fields at 0x10000 to 0x20000 that operations leave alone. -/

set_option linter.unusedSimpArgs false
set_option linter.unusedSectionVars false

namespace Sys2Proof.Machine

variable (g : Fld) (h1 : 0x10000 ≤ g.addr) (h2 : g.addr < 0x20000)
include h1 h2
theorem Asic.put_refb (a : Asic) (f : Fld) (n : Nat) (h : f.addr < 0x10000 ∨ 0x20000 ≤ f.addr) : (a.put f n).get g = a.get g := Asic.get_put_ne _ _ _ _ (.inl (by omega))
theorem Asic.putS_refb (a : Asic) (f : Fld) (n : Int) (h : f.addr < 0x10000 ∨ 0x20000 ≤ f.addr) : (a.putS f n).get g = a.get g := Asic.get_put_ne _ _ _ _ (.inl (by omega))
theorem Asic.putB_refb (a : Asic) (f : Fld) (n : Bool) (h : f.addr < 0x10000 ∨ 0x20000 ≤ f.addr) : (a.putB f n).get g = a.get g := Asic.get_put_ne _ _ _ _ (.inl (by omega))
theorem Asic.addSat_refb (a : Asic) (f : Fld) (n : Nat) (h : f.addr < 0x10000 ∨ 0x20000 ≤ f.addr) : (a.addSat f n).get g = a.get g := Asic.get_put_ne _ _ _ _ (.inl (by omega))
theorem Asic.addWrap_refb (a : Asic) (f : Fld) (n : Nat) (h : f.addr < 0x10000 ∨ 0x20000 ≤ f.addr) : (a.addWrap f n).get g = a.get g := Asic.get_put_ne _ _ _ _ (.inl (by omega))
theorem Asic.event_refb (a : Asic) (f : Fld) (h : f.addr < 0x10000 ∨ 0x20000 ≤ f.addr) : (a.event f).get g = a.get g := Asic.get_event_ne _ _ _ (.inl (by omega)) (.inl (by dsimp only; omega))
theorem Asic.put2_refb (a : Asic) (f f' : Fld) (n : Nat) (h : f.addr < 0x10000 ∨ 0x20000 ≤ f.addr) (h' : f'.addr < 0x10000 ∨ 0x20000 ≤ f'.addr) : (a.put2 f f' n).get g = a.get g := by
  rw [Asic.put2, Asic.get_put_ne _ _ _ _ (.inl (by omega)), Asic.get_put_ne _ _ _ _ (.inl (by omega))]
theorem Asic.put2S_refb (a : Asic) (f f' : Fld) (n : Int) (h : f.addr < 0x10000 ∨ 0x20000 ≤ f.addr) (h' : f'.addr < 0x10000 ∨ 0x20000 ≤ f'.addr) : (a.put2S f f' n).get g = a.get g := by
  rw [Asic.put2S, Asic.put2, Asic.get_put_ne _ _ _ _ (.inl (by omega)), Asic.get_put_ne _ _ _ _ (.inl (by omega))]
omit h1 h2
theorem Asic.each_refb (a : Asic) (l : List Nat) (f : Asic → Nat → Asic) (h : ∀ x i, (f x i).get g = x.get g) : (a.each l f).get g = a.get g := by
  induction l generalizing a with
  | nil => rfl
  | cons i l ih => exact (ih (f a i)).trans (h a i)
theorem Asic.onlyIf_refb (a : Asic) (c : Bool) (f : Asic → Asic) (h : ∀ x, (f x).get g = x.get g) : (a.onlyIf c f).get g = a.get g := by
  unfold Asic.onlyIf
  split
  · exact h a
  · rfl
theorem Asic.ite_refb (c : Prop) [Decidable c] (x y : Asic) : (if c then x else y).get g = if c then x.get g else y.get g := apply_ite (fun z => Asic.get z g) _ _ _
theorem Asic.foldl_refb {α : Type} (a : Asic) (l : List α) (f : Asic → α → Asic) (h : ∀ x i, (f x i).get g = x.get g) : (l.foldl f a).get g = a.get g := by
  induction l generalizing a with
  | nil => rfl
  | cons i l ih => exact (ih (f a i)).trans (h a i)
include h1 h2


theorem Asic.enterQual_refb (a : Asic) (i : Nat) (st : Nat) : (Asic.enterQual a i st).get g = a.get g := by
  unfold Asic.enterQual
  simp +arith -implicitDefEqProofs [Asic.put_refb g h1 h2, Asic.event_refb g h1 h2, Asic.get_mk, Asic.get_of_regs, Asic.ite_refb]

theorem Asic.addCause_refb (a : Asic) (i : Nat) (k : Nat) : (Asic.addCause a i k).get g = a.get g := by
  unfold Asic.addCause
  simp +arith -implicitDefEqProofs [Asic.put_refb g h1 h2, Asic.get_mk, Asic.get_of_regs]

theorem Asic.suspectFor_refb (a : Asic) (i : Nat) (k : Nat) : (Asic.suspectFor a i k).get g = a.get g := by
  unfold Asic.suspectFor
  simp +arith -implicitDefEqProofs [Asic.enterQual_refb g h1 h2, Asic.addCause_refb g h1 h2, Asic.get_mk, Asic.get_of_regs, Asic.ite_refb]

theorem Asic.refreshAnchor_refb (a : Asic) : (Asic.refreshAnchor a).get g = a.get g := by
  unfold Asic.refreshAnchor
  simp +arith -implicitDefEqProofs [Asic.put_refb g h1 h2, Asic.get_mk, Asic.get_of_regs, Asic.each_refb, Asic.ite_refb]

theorem Asic.rebase_refb (a : Asic) (k : Nat) : (Asic.rebase a k).get g = a.get g := by
  unfold Asic.rebase
  simp +arith -implicitDefEqProofs [Asic.get_mk, Asic.get_of_regs]

theorem Asic.refreshRate_refb (a : Asic) (k : Nat) : (Asic.refreshRate a k).get g = a.get g := by
  unfold Asic.refreshRate
  simp +arith -implicitDefEqProofs [Asic.rebase_refb g h1 h2, Asic.putB_refb g h1 h2, Asic.get_mk, Asic.get_of_regs, Asic.ite_refb]

theorem Asic.refreshRates_refb (a : Asic) : (Asic.refreshRates a).get g = a.get g := by
  unfold Asic.refreshRates
  simp +arith -implicitDefEqProofs [Asic.refreshRate_refb g h1 h2, Asic.get_mk, Asic.get_of_regs, Asic.each_refb]

theorem Asic.settleChan_refb (a : Asic) (c : Nat) : (Asic.settleChan a c).get g = a.get g := by
  unfold Asic.settleChan
  simp +arith -implicitDefEqProofs [Asic.get_mk, Asic.get_of_regs]

theorem Asic.setY_refb (a : Asic) (c : Nat) (y : Int) : (Asic.setY a c y).get g = a.get g := by
  unfold Asic.setY
  simp +arith -implicitDefEqProofs [Asic.refreshRates_refb g h1 h2, Asic.settleChan_refb g h1 h2, Asic.put2S_refb g h1 h2, Asic.get_mk, Asic.get_of_regs]

theorem Asic.noteClamp_refb (a : Asic) (c : Nat) (clamped : Bool) : (Asic.noteClamp a c clamped).get g = a.get g := by
  unfold Asic.noteClamp
  simp +arith -implicitDefEqProofs [Asic.putB_refb g h1 h2, Asic.event_refb g h1 h2, Asic.get_mk, Asic.get_of_regs, Asic.ite_refb]

theorem Asic.takeWord_refb (a : Asic) (c : Nat) (w : Int) : (Asic.takeWord a c w).get g = a.get g := by
  unfold Asic.takeWord
  exact (Asic.noteClamp_refb g h1 h2 _ _ _).trans ((Asic.setY_refb g h1 h2 _ _ _).trans rfl)

theorem Asic.emit_refb (a : Asic) (q : Nat) (r : Record) : (Asic.emit a q r).get g = a.get g := by
  unfold Asic.emit
  simp +arith -implicitDefEqProofs [Asic.addSat_refb g h1 h2, Asic.get_mk, Asic.get_of_regs, Asic.ite_refb]

theorem Asic.telemetry_refb (a : Asic) (c : Nat) (event : Bool) (short : Bool) : (Asic.telemetry a c event short).get g = a.get g := by
  unfold Asic.telemetry
  simp +arith -implicitDefEqProofs [Asic.emit_refb g h1 h2, Asic.settleChan_refb g h1 h2, Asic.get_mk, Asic.get_of_regs, Asic.ite_refb]

theorem Asic.moveChan_refb (a : Asic) (c : Nat) (s : Nat) : (Asic.moveChan a c s).get g = a.get g := by
  unfold Asic.moveChan
  simp +arith -implicitDefEqProofs [Asic.refreshAnchor_refb g h1 h2, Asic.telemetry_refb g h1 h2, Asic.put_refb g h1 h2, Asic.get_mk, Asic.get_of_regs, Asic.ite_refb]

theorem Asic.toFreerun_refb (a : Asic) (c : Nat) : (Asic.toFreerun a c).get g = a.get g := by
  unfold Asic.toFreerun
  simp +arith -implicitDefEqProofs [Asic.takeWord_refb g h1 h2, Asic.moveChan_refb g h1 h2, Asic.put_refb g h1 h2, Asic.get_mk, Asic.get_of_regs, Asic.ite_refb]

theorem Asic.toAcquire_refb (a : Asic) (c : Nat) : (Asic.toAcquire a c).get g = a.get g := by
  unfold Asic.toAcquire
  simp +arith -implicitDefEqProofs [Asic.moveChan_refb g h1 h2, Asic.put_refb g h1 h2, Asic.put2S_refb g h1 h2, Asic.get_mk, Asic.get_of_regs, Asic.onlyIf_refb, Asic.ite_refb]

theorem Asic.takeHoWord_refb (a : Asic) (c : Nat) : (Asic.takeHoWord a c).get g = a.get g := by
  unfold Asic.takeHoWord
  simp +arith -implicitDefEqProofs [Asic.takeWord_refb g h1 h2, Asic.putB_refb g h1 h2, Asic.get_mk, Asic.get_of_regs]

theorem Asic.toHoldoverWith_refb (a : Asic) (c : Nat) (qual : Nat) (avg : Int) (tc : Nat) : (Asic.toHoldoverWith a c qual avg tc).get g = a.get g := by
  unfold Asic.toHoldoverWith
  simp +arith -implicitDefEqProofs [Asic.moveChan_refb g h1 h2, Asic.takeHoWord_refb g h1 h2, Asic.put_refb g h1 h2, Asic.addSat_refb g h1 h2, Asic.event_refb g h1 h2, Asic.put2S_refb g h1 h2, Asic.get_mk, Asic.get_of_regs]

theorem Asic.toHoldover_refb (a : Asic) (c : Nat) : (Asic.toHoldover a c).get g = a.get g := by
  unfold Asic.toHoldover
  simp +arith -implicitDefEqProofs [Asic.toHoldoverWith_refb g h1 h2, Asic.get_mk, Asic.get_of_regs]

theorem Asic.selectionChanged_refb (a : Asic) (c : Nat) : (Asic.selectionChanged a c).get g = a.get g := by
  unfold Asic.selectionChanged
  simp +arith -implicitDefEqProofs [Asic.refreshAnchor_refb g h1 h2, Asic.toFreerun_refb g h1 h2, Asic.toAcquire_refb g h1 h2, Asic.toHoldover_refb g h1 h2, Asic.get_mk, Asic.get_of_regs, Asic.ite_refb]

theorem Asic.startSwitch_refb (a : Asic) (c : Nat) (o : Nat) (n : Nat) (reason : Nat) : (Asic.startSwitch a c o n reason).get g = a.get g := by
  unfold Asic.startSwitch
  simp +arith -implicitDefEqProofs [Asic.put_refb g h1 h2, Asic.get_mk, Asic.get_of_regs]

theorem Asic.abortSwitch_refb (a : Asic) (c : Nat) : (Asic.abortSwitch a c).get g = a.get g := by
  unfold Asic.abortSwitch
  simp +arith -implicitDefEqProofs [Asic.put_refb g h1 h2, Asic.event_refb g h1 h2, Asic.get_mk, Asic.get_of_regs]

theorem Asic.selectOn_refb (a : Asic) (written : Bool) (c : Nat) : (Asic.selectOn a written c).get g = a.get g := by
  unfold Asic.selectOn
  dsimp only
  (repeat' split) <;> simp +arith -implicitDefEqProofs [Asic.selectionChanged_refb g h1 h2, Asic.startSwitch_refb g h1 h2, Asic.abortSwitch_refb g h1 h2, Asic.put_refb g h1 h2, Asic.putB_refb g h1 h2, Asic.event_refb g h1 h2, Asic.get_mk, Asic.get_of_regs, Asic.ite_refb]

theorem Asic.selectAll_refb (a : Asic) : (Asic.selectAll a).get g = a.get g := by
  unfold Asic.selectAll
  simp +arith -implicitDefEqProofs [Asic.refreshAnchor_refb g h1 h2, Asic.selectOn_refb g h1 h2, Asic.get_mk, Asic.get_of_regs, Asic.each_refb]

theorem Asic.umpAlarm_refb (a : Asic) (i : Nat) (k : Nat) : (Asic.umpAlarm a i k).get g = a.get g := by
  unfold Asic.umpAlarm
  simp +arith -implicitDefEqProofs [Asic.suspectFor_refb g h1 h2, Asic.selectAll_refb g h1 h2, Asic.get_mk, Asic.get_of_regs, Asic.ite_refb]

theorem Asic.toAbsent_refb (a : Asic) (i : Nat) : (Asic.toAbsent a i).get g = a.get g := by
  unfold Asic.toAbsent
  simp +arith -implicitDefEqProofs [Asic.enterQual_refb g h1 h2, Asic.put_refb g h1 h2, Asic.get_mk, Asic.get_of_regs, Asic.ite_refb]

theorem Asic.umpAbsent_refb (a : Asic) (i : Nat) : (Asic.umpAbsent a i).get g = a.get g := by
  unfold Asic.umpAbsent
  simp +arith -implicitDefEqProofs [Asic.toAbsent_refb g h1 h2, Asic.selectAll_refb g h1 h2, Asic.get_mk, Asic.get_of_regs, Asic.ite_refb]

theorem Asic.toSoak_refb (a : Asic) (i : Nat) : (Asic.toSoak a i).get g = a.get g := by
  unfold Asic.toSoak
  simp +arith -implicitDefEqProofs [Asic.enterQual_refb g h1 h2, Asic.put_refb g h1 h2, Asic.get_mk, Asic.get_of_regs]

theorem Asic.umpPresent_refb (a : Asic) (i : Nat) : (Asic.umpPresent a i).get g = a.get g := by
  unfold Asic.umpPresent
  simp +arith -implicitDefEqProofs [Asic.toSoak_refb g h1 h2, Asic.get_mk, Asic.get_of_regs, Asic.ite_refb]

theorem Asic.moveSets_refb (a : Asic) (item : Nat) (unit : Nat) (entry : Nat) (r : Rat) : (Asic.moveSets a item unit entry r).get g = a.get g := by
  unfold Asic.moveSets
  simp +arith -implicitDefEqProofs [Asic.get_mk, Asic.get_of_regs, Asic.ite_refb]

theorem Asic.learnTable_refb (a : Asic) (item : Nat) (unit : Nat) (l : List Int) : (Asic.learnTable a item unit l).get g = a.get g := by
  unfold Asic.learnTable
  simp +arith -implicitDefEqProofs [Asic.moveSets_refb g h1 h2, Asic.get_mk, Asic.get_of_regs, Asic.foldl_refb]

theorem Asic.servoRest_refb (a : Asic) (k : Nat) (st : Nat) : (Asic.servoRest a k st).get g = a.get g := by
  unfold Asic.servoRest
  simp +arith -implicitDefEqProofs [Asic.refreshRate_refb g h1 h2, Asic.put_refb g h1 h2, Asic.get_mk, Asic.get_of_regs]

theorem Asic.servoRefresh_refb (a : Asic) (k : Nat) : (Asic.servoRefresh a k).get g = a.get g := by
  unfold Asic.servoRefresh
  simp +arith -implicitDefEqProofs [Asic.servoRest_refb g h1 h2, Asic.putB_refb g h1 h2, Asic.get_mk, Asic.get_of_regs, Asic.ite_refb]

theorem Asic.servosRefresh_refb (a : Asic) : (Asic.servosRefresh a).get g = a.get g := by
  unfold Asic.servosRefresh
  simp +arith -implicitDefEqProofs [Asic.servoRefresh_refb g h1 h2, Asic.get_mk, Asic.get_of_regs, Asic.each_refb]

theorem Asic.setRallyState_refb (a : Asic) (i : Nat) (s : Nat) : (Asic.setRallyState a i s).get g = a.get g := by
  unfold Asic.setRallyState
  simp +arith -implicitDefEqProofs [Asic.put_refb g h1 h2, Asic.event_refb g h1 h2, Asic.get_mk, Asic.get_of_regs, Asic.ite_refb]

theorem Asic.rallyRefresh_refb (a : Asic) (i : Nat) : (Asic.rallyRefresh a i).get g = a.get g := by
  unfold Asic.rallyRefresh
  simp +arith -implicitDefEqProofs [Asic.setRallyState_refb g h1 h2, Asic.put_refb g h1 h2, Asic.putB_refb g h1 h2, Asic.get_mk, Asic.get_of_regs, Asic.ite_refb]

theorem Asic.rallyRefreshAll_refb (a : Asic) : (Asic.rallyRefreshAll a).get g = a.get g := by
  unfold Asic.rallyRefreshAll
  simp +arith -implicitDefEqProofs [Asic.rallyRefresh_refb g h1 h2, Asic.get_mk, Asic.get_of_regs, Asic.each_refb]

theorem Asic.changeEpoch_refb (a : Asic) (q : Nat) (kind : Nat) (fn : Nat) (old : Nat) (new : Nat) (cause : Nat) (extra : Nat) : (Asic.changeEpoch a q kind fn old new cause extra).get g = a.get g := by
  unfold Asic.changeEpoch
  simp +arith -implicitDefEqProofs [Asic.emit_refb g h1 h2, Asic.get_mk, Asic.get_of_regs]

theorem Asic.watchStep_refb (a : Asic) : (Asic.watchStep a).get g = a.get g := by
  unfold Asic.watchStep
  (repeat' split) <;> simp +arith -implicitDefEqProofs [Asic.get_mk, Asic.get_of_regs, Asic.ite_refb]

end Sys2Proof.Machine
end

