-- ==== Sys2Proof/Laws/FrameRlyb.lean ====
section
/-! SUPPORT. Register fields at 0xA0000 to 0xB0000 that operations leave alone. -/

set_option linter.unusedSimpArgs false
set_option linter.unusedSectionVars false

namespace Sys2Proof.Machine

variable (g : Fld) (h1 : 0xA0000 ≤ g.addr) (h2 : g.addr < 0xB0000)
include h1 h2
theorem Asic.put_rlyb (a : Asic) (f : Fld) (n : Nat) (h : f.addr < 0xA0000 ∨ 0xB0000 ≤ f.addr) : (a.put f n).get g = a.get g := Asic.get_put_ne _ _ _ _ (.inl (by omega))
theorem Asic.putS_rlyb (a : Asic) (f : Fld) (n : Int) (h : f.addr < 0xA0000 ∨ 0xB0000 ≤ f.addr) : (a.putS f n).get g = a.get g := Asic.get_put_ne _ _ _ _ (.inl (by omega))
theorem Asic.putB_rlyb (a : Asic) (f : Fld) (n : Bool) (h : f.addr < 0xA0000 ∨ 0xB0000 ≤ f.addr) : (a.putB f n).get g = a.get g := Asic.get_put_ne _ _ _ _ (.inl (by omega))
theorem Asic.addSat_rlyb (a : Asic) (f : Fld) (n : Nat) (h : f.addr < 0xA0000 ∨ 0xB0000 ≤ f.addr) : (a.addSat f n).get g = a.get g := Asic.get_put_ne _ _ _ _ (.inl (by omega))
theorem Asic.addWrap_rlyb (a : Asic) (f : Fld) (n : Nat) (h : f.addr < 0xA0000 ∨ 0xB0000 ≤ f.addr) : (a.addWrap f n).get g = a.get g := Asic.get_put_ne _ _ _ _ (.inl (by omega))
theorem Asic.event_rlyb (a : Asic) (f : Fld) (h : f.addr < 0xA0000 ∨ 0xB0000 ≤ f.addr) : (a.event f).get g = a.get g := Asic.get_event_ne _ _ _ (.inl (by omega)) (.inl (by dsimp only; omega))
theorem Asic.put2_rlyb (a : Asic) (f f' : Fld) (n : Nat) (h : f.addr < 0xA0000 ∨ 0xB0000 ≤ f.addr) (h' : f'.addr < 0xA0000 ∨ 0xB0000 ≤ f'.addr) : (a.put2 f f' n).get g = a.get g := by
  rw [Asic.put2, Asic.get_put_ne _ _ _ _ (.inl (by omega)), Asic.get_put_ne _ _ _ _ (.inl (by omega))]
theorem Asic.put2S_rlyb (a : Asic) (f f' : Fld) (n : Int) (h : f.addr < 0xA0000 ∨ 0xB0000 ≤ f.addr) (h' : f'.addr < 0xA0000 ∨ 0xB0000 ≤ f'.addr) : (a.put2S f f' n).get g = a.get g := by
  rw [Asic.put2S, Asic.put2, Asic.get_put_ne _ _ _ _ (.inl (by omega)), Asic.get_put_ne _ _ _ _ (.inl (by omega))]
omit h1 h2
theorem Asic.each_rlyb (a : Asic) (l : List Nat) (f : Asic → Nat → Asic) (h : ∀ x i, (f x i).get g = x.get g) : (a.each l f).get g = a.get g := by
  induction l generalizing a with
  | nil => rfl
  | cons i l ih => exact (ih (f a i)).trans (h a i)
theorem Asic.onlyIf_rlyb (a : Asic) (c : Bool) (f : Asic → Asic) (h : ∀ x, (f x).get g = x.get g) : (a.onlyIf c f).get g = a.get g := by
  unfold Asic.onlyIf
  split
  · exact h a
  · rfl
theorem Asic.ite_rlyb (c : Prop) [Decidable c] (x y : Asic) : (if c then x else y).get g = if c then x.get g else y.get g := apply_ite (fun z => Asic.get z g) _ _ _
theorem Asic.foldl_rlyb {α : Type} (a : Asic) (l : List α) (f : Asic → α → Asic) (h : ∀ x i, (f x i).get g = x.get g) : (l.foldl f a).get g = a.get g := by
  induction l generalizing a with
  | nil => rfl
  | cons i l ih => exact (ih (f a i)).trans (h a i)
include h1 h2


theorem Asic.sendEmcy_rlyb (a : Asic) : (Asic.sendEmcy a).get g = a.get g := by
  unfold Asic.sendEmcy
  (repeat' split) <;> simp +arith -implicitDefEqProofs [Asic.get_mk, Asic.get_of_regs, Asic.ite_rlyb]

theorem Asic.queueEmcy_rlyb (a : Asic) (bytes : List Byte) : (Asic.queueEmcy a bytes).get g = a.get g := by
  unfold Asic.queueEmcy
  simp +arith -implicitDefEqProofs [Asic.sendEmcy_rlyb g h1 h2, Asic.get_mk, Asic.get_of_regs, Asic.ite_rlyb]

theorem Asic.withdrawEmcy_rlyb (a : Asic) (s : Nat) : (Asic.withdrawEmcy a s).get g = a.get g := by
  unfold Asic.withdrawEmcy
  (repeat' split) <;> simp +arith -implicitDefEqProofs [Asic.queueEmcy_rlyb g h1 h2, Asic.get_mk, Asic.get_of_regs]

theorem Asic.deactivate_rlyb (a : Asic) (s : Nat) : (Asic.deactivate a s).get g = a.get g := by
  unfold Asic.deactivate
  simp +arith -implicitDefEqProofs [Asic.withdrawEmcy_rlyb g h1 h2, Asic.put_rlyb g h1 h2, Asic.get_mk, Asic.get_of_regs, Asic.ite_rlyb]

theorem Asic.showInject_rlyb (a : Asic) : (Asic.showInject a).get g = a.get g := by
  unfold Asic.showInject
  simp +arith -implicitDefEqProofs [Asic.putB_rlyb g h1 h2, Asic.get_mk, Asic.get_of_regs]

theorem Asic.releaseInjections_rlyb (a : Asic) : (Asic.releaseInjections a).get g = a.get g := by
  unfold Asic.releaseInjections
  simp +arith -implicitDefEqProofs [Asic.deactivate_rlyb g h1 h2, Asic.showInject_rlyb g h1 h2, Asic.put_rlyb g h1 h2, Asic.get_mk, Asic.get_of_regs, Asic.each_rlyb, Asic.ite_rlyb]

theorem Asic.logEntry_rlyb (a : Asic) (code' : Nat) (item : Nat) (data : Nat) : (Asic.logEntry a code' item data).get g = a.get g := by
  unfold Asic.logEntry
  simp +arith -implicitDefEqProofs [Asic.put_rlyb g h1 h2, Asic.get_mk, Asic.get_of_regs, Asic.onlyIf_rlyb, Asic.ite_rlyb]

end Sys2Proof.Machine
end

