-- ==== Sys2Proof/Laws/FrameSwcnt.lean ====
section
/-! SUPPORT. Register fields at mod:0x22000:0x22200:64:4:36 to  that operations leave alone. -/

set_option linter.unusedSimpArgs false
set_option linter.unusedSectionVars false

namespace Sys2Proof.Machine

variable (g : Fld) (h1 : 0x22000 ≤ g.addr ∧ g.addr < 0x22200) (h2 : (g.addr + 36) % 64 < 4)
include h1 h2
theorem Asic.put_swcnt (a : Asic) (f : Fld) (n : Nat) (h : (f.addr < 0x22000 ∨ 0x22200 ≤ f.addr ∨ 4 ≤ (f.addr + 36) % 64)) : (a.put f n).get g = a.get g := Asic.get_put_ne _ _ _ _ (.inl (by omega))
theorem Asic.putS_swcnt (a : Asic) (f : Fld) (n : Int) (h : (f.addr < 0x22000 ∨ 0x22200 ≤ f.addr ∨ 4 ≤ (f.addr + 36) % 64)) : (a.putS f n).get g = a.get g := Asic.get_put_ne _ _ _ _ (.inl (by omega))
theorem Asic.putB_swcnt (a : Asic) (f : Fld) (n : Bool) (h : (f.addr < 0x22000 ∨ 0x22200 ≤ f.addr ∨ 4 ≤ (f.addr + 36) % 64)) : (a.putB f n).get g = a.get g := Asic.get_put_ne _ _ _ _ (.inl (by omega))
theorem Asic.addSat_swcnt (a : Asic) (f : Fld) (n : Nat) (h : (f.addr < 0x22000 ∨ 0x22200 ≤ f.addr ∨ 4 ≤ (f.addr + 36) % 64)) : (a.addSat f n).get g = a.get g := Asic.get_put_ne _ _ _ _ (.inl (by omega))
theorem Asic.addWrap_swcnt (a : Asic) (f : Fld) (n : Nat) (h : (f.addr < 0x22000 ∨ 0x22200 ≤ f.addr ∨ 4 ≤ (f.addr + 36) % 64)) : (a.addWrap f n).get g = a.get g := Asic.get_put_ne _ _ _ _ (.inl (by omega))
theorem Asic.event_swcnt (a : Asic) (f : Fld) (h : (f.addr < 0x22000 ∨ 0x22200 ≤ f.addr ∨ 4 ≤ (f.addr + 36) % 64)) : (a.event f).get g = a.get g := Asic.get_event_ne _ _ _ (.inl (by omega)) (.inl (by dsimp only; omega))
theorem Asic.put2_swcnt (a : Asic) (f f' : Fld) (n : Nat) (h : (f.addr < 0x22000 ∨ 0x22200 ≤ f.addr ∨ 4 ≤ (f.addr + 36) % 64)) (h' : (f'.addr < 0x22000 ∨ 0x22200 ≤ f'.addr ∨ 4 ≤ (f'.addr + 36) % 64)) : (a.put2 f f' n).get g = a.get g := by
  rw [Asic.put2, Asic.get_put_ne _ _ _ _ (.inl (by omega)), Asic.get_put_ne _ _ _ _ (.inl (by omega))]
theorem Asic.put2S_swcnt (a : Asic) (f f' : Fld) (n : Int) (h : (f.addr < 0x22000 ∨ 0x22200 ≤ f.addr ∨ 4 ≤ (f.addr + 36) % 64)) (h' : (f'.addr < 0x22000 ∨ 0x22200 ≤ f'.addr ∨ 4 ≤ (f'.addr + 36) % 64)) : (a.put2S f f' n).get g = a.get g := by
  rw [Asic.put2S, Asic.put2, Asic.get_put_ne _ _ _ _ (.inl (by omega)), Asic.get_put_ne _ _ _ _ (.inl (by omega))]
omit h1 h2
theorem Asic.each_swcnt (a : Asic) (l : List Nat) (f : Asic → Nat → Asic) (h : ∀ x i, (f x i).get g = x.get g) : (a.each l f).get g = a.get g := by
  induction l generalizing a with
  | nil => rfl
  | cons i l ih => exact (ih (f a i)).trans (h a i)
theorem Asic.onlyIf_swcnt (a : Asic) (c : Bool) (f : Asic → Asic) (h : ∀ x, (f x).get g = x.get g) : (a.onlyIf c f).get g = a.get g := by
  unfold Asic.onlyIf
  split
  · exact h a
  · rfl
theorem Asic.ite_swcnt (c : Prop) [Decidable c] (x y : Asic) : (if c then x else y).get g = if c then x.get g else y.get g := apply_ite (fun z => Asic.get z g) _ _ _
theorem Asic.foldl_swcnt {α : Type} (a : Asic) (l : List α) (f : Asic → α → Asic) (h : ∀ x i, (f x i).get g = x.get g) : (l.foldl f a).get g = a.get g := by
  induction l generalizing a with
  | nil => rfl
  | cons i l ih => exact (ih (f a i)).trans (h a i)
include h1 h2


theorem Asic.refreshAnchor_swcnt (a : Asic) : (Asic.refreshAnchor a).get g = a.get g := by
  unfold Asic.refreshAnchor
  simp -implicitDefEqProofs (disch := first | omega | (dsimp only; omega) | (intros; simp -implicitDefEqProofs (disch := first | omega | (dsimp only; omega)) [Asic.put_swcnt g h1 h2, Asic.get_mk, Asic.get_of_regs, Asic.each_swcnt, Asic.ite_swcnt])) [Asic.put_swcnt g h1 h2, Asic.get_mk, Asic.get_of_regs, Asic.each_swcnt, Asic.ite_swcnt]

theorem Asic.rebase_swcnt (a : Asic) (k : Nat) : (Asic.rebase a k).get g = a.get g := by
  unfold Asic.rebase
  simp -implicitDefEqProofs (disch := first | omega | (dsimp only; omega) | (intros; simp -implicitDefEqProofs (disch := first | omega | (dsimp only; omega)) [Asic.get_mk, Asic.get_of_regs])) [Asic.get_mk, Asic.get_of_regs]

theorem Asic.refreshRate_swcnt (a : Asic) (k : Nat) : (Asic.refreshRate a k).get g = a.get g := by
  unfold Asic.refreshRate
  simp -implicitDefEqProofs (disch := first | omega | (dsimp only; omega) | (intros; simp -implicitDefEqProofs (disch := first | omega | (dsimp only; omega)) [Asic.rebase_swcnt g h1 h2, Asic.putB_swcnt g h1 h2, Asic.get_mk, Asic.get_of_regs, Asic.ite_swcnt])) [Asic.rebase_swcnt g h1 h2, Asic.putB_swcnt g h1 h2, Asic.get_mk, Asic.get_of_regs, Asic.ite_swcnt]

theorem Asic.refreshRates_swcnt (a : Asic) : (Asic.refreshRates a).get g = a.get g := by
  unfold Asic.refreshRates
  simp -implicitDefEqProofs (disch := first | omega | (dsimp only; omega) | (intros; simp -implicitDefEqProofs (disch := first | omega | (dsimp only; omega)) [Asic.refreshRate_swcnt g h1 h2, Asic.get_mk, Asic.get_of_regs, Asic.each_swcnt])) [Asic.refreshRate_swcnt g h1 h2, Asic.get_mk, Asic.get_of_regs, Asic.each_swcnt]

theorem Asic.settleChan_swcnt (a : Asic) (c : Nat) : (Asic.settleChan a c).get g = a.get g := by
  unfold Asic.settleChan
  simp -implicitDefEqProofs (disch := first | omega | (dsimp only; omega) | (intros; simp -implicitDefEqProofs (disch := first | omega | (dsimp only; omega)) [Asic.get_mk, Asic.get_of_regs])) [Asic.get_mk, Asic.get_of_regs]

theorem Asic.setY_swcnt (a : Asic) (c : Nat) (y : Int) : (Asic.setY a c y).get g = a.get g := by
  unfold Asic.setY
  simp -implicitDefEqProofs (disch := first | omega | (dsimp only; omega) | (intros; simp -implicitDefEqProofs (disch := first | omega | (dsimp only; omega)) [Asic.refreshRates_swcnt g h1 h2, Asic.settleChan_swcnt g h1 h2, Asic.put2S_swcnt g h1 h2, Asic.get_mk, Asic.get_of_regs])) [Asic.refreshRates_swcnt g h1 h2, Asic.settleChan_swcnt g h1 h2, Asic.put2S_swcnt g h1 h2, Asic.get_mk, Asic.get_of_regs]

theorem Asic.noteClamp_swcnt (a : Asic) (c : Nat) (clamped : Bool) : (Asic.noteClamp a c clamped).get g = a.get g := by
  unfold Asic.noteClamp
  simp -implicitDefEqProofs (disch := first | omega | (dsimp only; omega) | (intros; simp -implicitDefEqProofs (disch := first | omega | (dsimp only; omega)) [Asic.putB_swcnt g h1 h2, Asic.event_swcnt g h1 h2, Asic.get_mk, Asic.get_of_regs, Asic.ite_swcnt])) [Asic.putB_swcnt g h1 h2, Asic.event_swcnt g h1 h2, Asic.get_mk, Asic.get_of_regs, Asic.ite_swcnt]

theorem Asic.takeWord_swcnt (a : Asic) (c : Nat) (w : Int) : (Asic.takeWord a c w).get g = a.get g := by
  unfold Asic.takeWord
  simp -implicitDefEqProofs (disch := first | omega | (dsimp only; omega) | (intros; simp -implicitDefEqProofs (disch := first | omega | (dsimp only; omega)) [Asic.setY_swcnt g h1 h2, Asic.noteClamp_swcnt g h1 h2, Asic.get_mk, Asic.get_of_regs])) [Asic.setY_swcnt g h1 h2, Asic.noteClamp_swcnt g h1 h2, Asic.get_mk, Asic.get_of_regs]

theorem Asic.emit_swcnt (a : Asic) (q : Nat) (r : Record) : (Asic.emit a q r).get g = a.get g := by
  unfold Asic.emit
  simp -implicitDefEqProofs (disch := first | omega | (dsimp only; omega) | (intros; simp -implicitDefEqProofs (disch := first | omega | (dsimp only; omega)) [Asic.addSat_swcnt g h1 h2, Asic.get_mk, Asic.get_of_regs, Asic.ite_swcnt])) [Asic.addSat_swcnt g h1 h2, Asic.get_mk, Asic.get_of_regs, Asic.ite_swcnt]

theorem Asic.telemetry_swcnt (a : Asic) (c : Nat) (event : Bool) (short : Bool) : (Asic.telemetry a c event short).get g = a.get g := by
  unfold Asic.telemetry
  simp -implicitDefEqProofs (disch := first | omega | (dsimp only; omega) | (intros; simp -implicitDefEqProofs (disch := first | omega | (dsimp only; omega)) [Asic.emit_swcnt g h1 h2, Asic.settleChan_swcnt g h1 h2, Asic.get_mk, Asic.get_of_regs, Asic.ite_swcnt])) [Asic.emit_swcnt g h1 h2, Asic.settleChan_swcnt g h1 h2, Asic.get_mk, Asic.get_of_regs, Asic.ite_swcnt]

theorem Asic.moveChan_swcnt (a : Asic) (c : Nat) (s : Nat) : (Asic.moveChan a c s).get g = a.get g := by
  unfold Asic.moveChan
  simp -implicitDefEqProofs (disch := first | omega | (dsimp only; omega) | (intros; simp -implicitDefEqProofs (disch := first | omega | (dsimp only; omega)) [Asic.refreshAnchor_swcnt g h1 h2, Asic.telemetry_swcnt g h1 h2, Asic.put_swcnt g h1 h2, Asic.get_mk, Asic.get_of_regs, Asic.ite_swcnt])) [Asic.refreshAnchor_swcnt g h1 h2, Asic.telemetry_swcnt g h1 h2, Asic.put_swcnt g h1 h2, Asic.get_mk, Asic.get_of_regs, Asic.ite_swcnt]

theorem Asic.toFreerun_swcnt (a : Asic) (c : Nat) : (Asic.toFreerun a c).get g = a.get g := by
  unfold Asic.toFreerun
  simp -implicitDefEqProofs (disch := first | omega | (dsimp only; omega) | (intros; simp -implicitDefEqProofs (disch := first | omega | (dsimp only; omega)) [Asic.takeWord_swcnt g h1 h2, Asic.moveChan_swcnt g h1 h2, Asic.put_swcnt g h1 h2, Asic.get_mk, Asic.get_of_regs, Asic.ite_swcnt])) [Asic.takeWord_swcnt g h1 h2, Asic.moveChan_swcnt g h1 h2, Asic.put_swcnt g h1 h2, Asic.get_mk, Asic.get_of_regs, Asic.ite_swcnt]

theorem Asic.toAcquire_swcnt (a : Asic) (c : Nat) : (Asic.toAcquire a c).get g = a.get g := by
  unfold Asic.toAcquire
  simp -implicitDefEqProofs (disch := first | omega | (dsimp only; omega) | (intros; simp -implicitDefEqProofs (disch := first | omega | (dsimp only; omega)) [Asic.moveChan_swcnt g h1 h2, Asic.put_swcnt g h1 h2, Asic.put2S_swcnt g h1 h2, Asic.get_mk, Asic.get_of_regs, Asic.onlyIf_swcnt, Asic.ite_swcnt])) [Asic.moveChan_swcnt g h1 h2, Asic.put_swcnt g h1 h2, Asic.put2S_swcnt g h1 h2, Asic.get_mk, Asic.get_of_regs, Asic.onlyIf_swcnt, Asic.ite_swcnt]

theorem Asic.takeHoWord_swcnt (a : Asic) (c : Nat) : (Asic.takeHoWord a c).get g = a.get g := by
  unfold Asic.takeHoWord
  simp -implicitDefEqProofs (disch := first | omega | (dsimp only; omega) | (intros; simp -implicitDefEqProofs (disch := first | omega | (dsimp only; omega)) [Asic.takeWord_swcnt g h1 h2, Asic.putB_swcnt g h1 h2, Asic.get_mk, Asic.get_of_regs])) [Asic.takeWord_swcnt g h1 h2, Asic.putB_swcnt g h1 h2, Asic.get_mk, Asic.get_of_regs]

theorem Asic.toHoldoverWith_swcnt (a : Asic) (c : Nat) (qual : Nat) (avg : Int) (tc : Nat) : (Asic.toHoldoverWith a c qual avg tc).get g = a.get g := by
  unfold Asic.toHoldoverWith
  simp -implicitDefEqProofs (disch := first | omega | (dsimp only; omega) | (intros; simp -implicitDefEqProofs (disch := first | omega | (dsimp only; omega)) [Asic.moveChan_swcnt g h1 h2, Asic.takeHoWord_swcnt g h1 h2, Asic.put_swcnt g h1 h2, Asic.addSat_swcnt g h1 h2, Asic.event_swcnt g h1 h2, Asic.put2S_swcnt g h1 h2, Asic.get_mk, Asic.get_of_regs])) [Asic.moveChan_swcnt g h1 h2, Asic.takeHoWord_swcnt g h1 h2, Asic.put_swcnt g h1 h2, Asic.addSat_swcnt g h1 h2, Asic.event_swcnt g h1 h2, Asic.put2S_swcnt g h1 h2, Asic.get_mk, Asic.get_of_regs]

theorem Asic.toHoldover_swcnt (a : Asic) (c : Nat) : (Asic.toHoldover a c).get g = a.get g := by
  unfold Asic.toHoldover
  simp -implicitDefEqProofs (disch := first | omega | (dsimp only; omega) | (intros; simp -implicitDefEqProofs (disch := first | omega | (dsimp only; omega)) [Asic.toHoldoverWith_swcnt g h1 h2, Asic.get_mk, Asic.get_of_regs])) [Asic.toHoldoverWith_swcnt g h1 h2, Asic.get_mk, Asic.get_of_regs]

theorem Asic.selectionChanged_swcnt (a : Asic) (c : Nat) : (Asic.selectionChanged a c).get g = a.get g := by
  unfold Asic.selectionChanged
  simp -implicitDefEqProofs (disch := first | omega | (dsimp only; omega) | (intros; simp -implicitDefEqProofs (disch := first | omega | (dsimp only; omega)) [Asic.refreshAnchor_swcnt g h1 h2, Asic.toFreerun_swcnt g h1 h2, Asic.toAcquire_swcnt g h1 h2, Asic.toHoldover_swcnt g h1 h2, Asic.get_mk, Asic.get_of_regs, Asic.ite_swcnt])) [Asic.refreshAnchor_swcnt g h1 h2, Asic.toFreerun_swcnt g h1 h2, Asic.toAcquire_swcnt g h1 h2, Asic.toHoldover_swcnt g h1 h2, Asic.get_mk, Asic.get_of_regs, Asic.ite_swcnt]

theorem Asic.startSwitch_swcnt (a : Asic) (c : Nat) (o : Nat) (n : Nat) (reason : Nat) : (Asic.startSwitch a c o n reason).get g = a.get g := by
  unfold Asic.startSwitch
  simp -implicitDefEqProofs (disch := first | omega | (dsimp only; omega) | (intros; simp -implicitDefEqProofs (disch := first | omega | (dsimp only; omega)) [Asic.put_swcnt g h1 h2, Asic.get_mk, Asic.get_of_regs])) [Asic.put_swcnt g h1 h2, Asic.get_mk, Asic.get_of_regs]

theorem Asic.abortSwitch_swcnt (a : Asic) (c : Nat) : (Asic.abortSwitch a c).get g = a.get g := by
  unfold Asic.abortSwitch
  simp -implicitDefEqProofs (disch := first | omega | (dsimp only; omega) | (intros; simp -implicitDefEqProofs (disch := first | omega | (dsimp only; omega)) [Asic.put_swcnt g h1 h2, Asic.event_swcnt g h1 h2, Asic.get_mk, Asic.get_of_regs])) [Asic.put_swcnt g h1 h2, Asic.event_swcnt g h1 h2, Asic.get_mk, Asic.get_of_regs]

theorem Asic.selectOn_swcnt (a : Asic) (written : Bool) (c : Nat) : (Asic.selectOn a written c).get g = a.get g := by
  unfold Asic.selectOn
  dsimp only
  (repeat' split) <;> simp -implicitDefEqProofs (disch := first | omega | (dsimp only; omega) | (intros; simp -implicitDefEqProofs (disch := first | omega | (dsimp only; omega)) [Asic.selectionChanged_swcnt g h1 h2, Asic.startSwitch_swcnt g h1 h2, Asic.abortSwitch_swcnt g h1 h2, Asic.put_swcnt g h1 h2, Asic.putB_swcnt g h1 h2, Asic.event_swcnt g h1 h2, Asic.get_mk, Asic.get_of_regs, Asic.ite_swcnt])) [Asic.selectionChanged_swcnt g h1 h2, Asic.startSwitch_swcnt g h1 h2, Asic.abortSwitch_swcnt g h1 h2, Asic.put_swcnt g h1 h2, Asic.putB_swcnt g h1 h2, Asic.event_swcnt g h1 h2, Asic.get_mk, Asic.get_of_regs, Asic.ite_swcnt]

end Sys2Proof.Machine
end

