-- ==== Sys2Proof/Laws/FrameUmp.lean ====
section
/-! SUPPORT. Operations that leave `ump` alone. -/

set_option linter.unusedSimpArgs false
set_option linter.unusedSectionVars false

namespace Sys2Proof.Machine

theorem Asic.each_ump (a : Asic) (l : List Nat) (f : Asic → Nat → Asic) (h : ∀ x i, (f x i).ump = x.ump) : (a.each l f).ump = a.ump := by
  induction l generalizing a with
  | nil => rfl
  | cons i l ih => exact (ih (f a i)).trans (h a i)
theorem Asic.onlyIf_ump (a : Asic) (c : Bool) (f : Asic → Asic) (h : ∀ x, (f x).ump = x.ump) : (a.onlyIf c f).ump = a.ump := by
  unfold Asic.onlyIf
  split
  · exact h a
  · rfl
theorem Asic.entries_ump (a : Asic) (l : List Nat) (f : Asic → Nat → Asic × Bool) (h : ∀ x i, (f x i).1.ump = x.ump) : (a.entries l f).1.ump = a.ump := by
  have e : ∀ (l : List Nat) (p : Asic × Nat), (l.foldl (fun (p : Asic × Nat) k =>
      let (a, w) := f p.1 k
      (a, if w then p.2 + 2 ^ k else p.2)) p).1.ump = p.1.ump := by
    intro l
    induction l with
    | nil => intro p; rfl
    | cons i l ih => intro p; exact (ih _).trans (h p.1 i)
  exact e l (a, 0)
theorem Asic.ite_ump (c : Prop) [Decidable c] (x y : Asic) : (if c then x else y).ump = if c then x.ump else y.ump := apply_ite (fun z : Asic => z.ump) _ _ _
theorem Asic.foldl_ump {α : Type} (a : Asic) (l : List α) (f : Asic → α → Asic) (h : ∀ x i, (f x i).ump = x.ump) : (l.foldl f a).ump = a.ump := by
  induction l generalizing a with
  | nil => rfl
  | cons i l ih => exact (ih (f a i)).trans (h a i)

theorem Asic.wipeCell_ump (a : Asic) (i : Nat) (j : Nat) : (Asic.wipeCell a i j).ump = a.ump := by
  unfold Asic.wipeCell
  simp -implicitDefEqProofs [Asic.foldl_ump]

theorem Asic.restartIndex_ump (a : Asic) (i : Nat) : (Asic.restartIndex a i).ump = a.ump := by
  unfold Asic.restartIndex
  simp -implicitDefEqProofs [Asic.wipeCell_ump, Asic.each_ump]

theorem Asic.stopEngine_ump (a : Asic) : (Asic.stopEngine a).ump = a.ump := by
  unfold Asic.stopEngine
  simp -implicitDefEqProofs [Asic.restartIndex_ump, Asic.each_ump, Asic.ite_ump]

theorem Asic.countGap_ump (a : Asic) (i : Nat) (n : Nat) : (Asic.countGap a i n).ump = a.ump := by
  unfold Asic.countGap
  simp -implicitDefEqProofs [Asic.ite_ump]

theorem Asic.keepValue_ump (a : Asic) (i : Nat) (n : Nat) : (Asic.keepValue a i n).ump = a.ump := by
  unfold Asic.keepValue
  (repeat' split) <;> simp -implicitDefEqProofs [Asic.ite_ump]

theorem Asic.dropSeconds_ump (a : Asic) (i : Nat) (n : Nat) : (Asic.dropSeconds a i n).ump = a.ump := by
  unfold Asic.dropSeconds
  simp -implicitDefEqProofs []

theorem Asic.setEntry_ump (a : Asic) (i : Nat) (j : Nat) (k : Nat) (w : Option Word) : (Asic.setEntry a i j k w).ump = a.ump := by
  unfold Asic.setEntry
  with_reducible rfl

theorem Asic.setValue_ump (a : Asic) (i : Nat) (j : Nat) (k : Nat) (w : Word × Bool) : (Asic.setValue a i j k w).ump = a.ump := by
  unfold Asic.setValue
  simp -implicitDefEqProofs [Asic.setEntry_ump, Asic.onlyIf_ump]

theorem Asic.setRat_ump (a : Asic) (i : Nat) (j : Nat) (k : Nat) (v : Option Rat) : (Asic.setRat a i j k v).ump = a.ump := by
  unfold Asic.setRat
  (repeat' split) <;> simp -implicitDefEqProofs [Asic.setEntry_ump, Asic.setValue_ump]

theorem Asic.writeDiagonal_ump (a : Asic) (i : Nat) (n : Nat) : (Asic.writeDiagonal a i n).ump = a.ump := by
  unfold Asic.writeDiagonal
  simp -implicitDefEqProofs [Asic.setRat_ump]

theorem Asic.emit_ump (a : Asic) (q : Nat) (r : Record) : (Asic.emit a q r).ump = a.ump := by
  unfold Asic.emit
  simp -implicitDefEqProofs [Asic.ite_ump]

theorem Asic.halfRecord_ump (a : Asic) (i : Nat) (j : Nat) (half : Nat) (written : Nat) (pass : Nat) (degraded : Bool) : (Asic.halfRecord a i j half written pass degraded).ump = a.ump := by
  unfold Asic.halfRecord
  simp -implicitDefEqProofs [Asic.emit_ump, Asic.ite_ump, Asic.foldl_ump]

theorem Asic.cellRecords_ump (a : Asic) (i : Nat) (j : Nat) (written : Nat) (pass : Nat) (degraded : Bool) : (Asic.cellRecords a i j written pass degraded).ump = a.ump := by
  unfold Asic.cellRecords
  simp -implicitDefEqProofs [Asic.halfRecord_ump]

theorem Asic.averaged_ump (a : Asic) (i : Nat) (j : Nat) (k : Nat) (t : Option Rat) : (Asic.averaged a i j k t).1.ump = a.ump := by
  unfold Asic.averaged
  dsimp only
  (repeat' split) <;> simp -implicitDefEqProofs [Asic.setEntry_ump, Asic.setValue_ump, Asic.ite_ump, ok, rej]

theorem Asic.adevEntries_ump (a : Asic) (i : Nat) (n : Nat) : (Asic.adevEntries a i n).1.ump = a.ump := by
  unfold Asic.adevEntries
  simp -implicitDefEqProofs [Asic.averaged_ump, Asic.entries_ump, ok, rej]

theorem Asic.tdevEntries_ump (a : Asic) (i : Nat) (j : Nat) (n : Nat) : (Asic.tdevEntries a i j n).1.ump = a.ump := by
  unfold Asic.tdevEntries
  simp -implicitDefEqProofs [Asic.averaged_ump, Asic.entries_ump, ok, rej]

theorem Asic.mtieEntry_ump (a : Asic) (i : Nat) (j : Nat) (k : Nat) (s : Nat) (t : Option Int) : (Asic.mtieEntry a i j k s t).1.ump = a.ump := by
  unfold Asic.mtieEntry
  dsimp only
  (repeat' split) <;> simp -implicitDefEqProofs [Asic.setEntry_ump, Asic.setValue_ump, Asic.ite_ump, Asic.foldl_ump, ok, rej]

theorem Asic.mtieEntries_ump (a : Asic) (i : Nat) (j : Nat) (n : Nat) : (Asic.mtieEntries a i j n).1.ump = a.ump := by
  unfold Asic.mtieEntries
  simp -implicitDefEqProofs [Asic.mtieEntry_ump, Asic.entries_ump, ok, rej]

theorem Asic.checkSegments_ump (a : Asic) : (Asic.checkSegments a).ump = a.ump := by
  unfold Asic.checkSegments
  simp -implicitDefEqProofs [Asic.ite_ump, Asic.foldl_ump]

theorem Asic.restartDiagonal_ump (a : Asic) (i : Nat) (n : Nat) : (Asic.restartDiagonal a i n).ump = a.ump := by
  unfold Asic.restartDiagonal
  simp -implicitDefEqProofs [Asic.wipeCell_ump]

theorem Asic.passRestarts_ump (a : Asic) (s : Nat) : (Asic.passRestarts a s).ump = a.ump := by
  unfold Asic.passRestarts
  simp -implicitDefEqProofs [Asic.restartIndex_ump, Asic.restartDiagonal_ump, Asic.each_ump, Asic.ite_ump]

theorem Asic.snapshotFlip_ump (a : Asic) : (Asic.snapshotFlip a).ump = a.ump := by
  unfold Asic.snapshotFlip
  simp -implicitDefEqProofs [Asic.ite_ump]

theorem Asic.runPass_ump (a : Asic) (s : Nat) : (Asic.runPass a s).ump = a.ump := by
  unfold Asic.runPass
  dsimp only
  have e1 : ∀ (L : List Nat) (g : List Nat) (p : Nat) (x : Asic), (x.each indices fun a i =>
      ((if L.contains i then a.adevEntries i (a.formed i s) else (a, 0)).1.cellRecords i i (7 + (if L.contains i then a.adevEntries i (a.formed i s) else (a, 0)).2) p (g.contains i))).ump = x.ump := by
    intro L g p x
    refine Asic.each_ump _ _ _ fun y i => ?_
    rw [Asic.cellRecords_ump]
    split
    · exact Asic.adevEntries_ump _ _ _
    · rfl
  have e2 : ∀ (L : List Nat) (g : List Nat) (p : Nat) (x : Asic) (l : List (Nat × Nat)) (h : Asic → Nat × Nat → Asic × Nat) (_ : ∀ x q, (h x q).1.ump = x.ump), (l.foldl (fun a q =>
      if (L.contains q.1 && L.contains q.2) = true then (h a q).1.cellRecords q.1 q.2 (h a q).2 p (g.contains q.1 || g.contains q.2) else a) x).ump = x.ump := by
    intro L g p x l h hh
    refine Asic.foldl_ump _ _ _ fun y q => ?_
    split
    · rw [Asic.cellRecords_ump, hh]
    · rfl
  simp -implicitDefEqProofs only [Asic.snapshotFlip_ump, Asic.put_ump, e1]
  rw [e2 _ _ _ _ _ (fun a q => a.mtieEntries q.1 q.2 (min (a.formed q.1 s) (a.formed q.2 s))) (fun x q => Asic.mtieEntries_ump _ _ _ _),
    e2 _ _ _ _ _ (fun a q => a.tdevEntries q.1 q.2 (min (a.formed q.1 s) (a.formed q.2 s))) (fun x q => Asic.tdevEntries_ump _ _ _ _), e1]
  simp -implicitDefEqProofs only [Asic.writeDiagonal_ump, Asic.checkSegments_ump, Asic.keepValue_ump, Asic.dropSeconds_ump, Asic.passRestarts_ump, Asic.countGap_ump, Asic.each_ump, Asic.ite_ump, ite_self, implies_true]

theorem Asic.ledgerPass_ump (a : Asic) : (Asic.ledgerPass a).ump = a.ump := by
  unfold Asic.ledgerPass
  simp -implicitDefEqProofs [Asic.stopEngine_ump, Asic.runPass_ump, Asic.ite_ump]

end Sys2Proof.Machine
end

