-- ==== Sys2Proof/Laws/FrameUmpIdx.lean ====
section
/-! SUPPORT. Operations that leave `ump.idx` alone. -/

set_option linter.unusedSimpArgs false
set_option linter.unusedSectionVars false

namespace Sys2Proof.Machine

theorem Asic.each_ump_idx (a : Asic) (l : List Nat) (f : Asic → Nat → Asic) (h : ∀ x i, (f x i).ump.idx = x.ump.idx) : (a.each l f).ump.idx = a.ump.idx := by
  induction l generalizing a with
  | nil => rfl
  | cons i l ih => exact (ih (f a i)).trans (h a i)
theorem Asic.onlyIf_ump_idx (a : Asic) (c : Bool) (f : Asic → Asic) (h : ∀ x, (f x).ump.idx = x.ump.idx) : (a.onlyIf c f).ump.idx = a.ump.idx := by
  unfold Asic.onlyIf
  split
  · exact h a
  · rfl
theorem Asic.ite_ump_idx (c : Prop) [Decidable c] (x y : Asic) : (if c then x else y).ump.idx = if c then x.ump.idx else y.ump.idx := apply_ite (fun z : Asic => z.ump.idx) _ _ _
theorem Asic.foldl_ump_idx {α : Type} (a : Asic) (l : List α) (f : Asic → α → Asic) (h : ∀ x i, (f x i).ump.idx = x.ump.idx) : (l.foldl f a).ump.idx = a.ump.idx := by
  induction l generalizing a with
  | nil => rfl
  | cons i l ih => exact (ih (f a i)).trans (h a i)

theorem Asic.refreshAnchor_ump_idx (a : Asic) : (Asic.refreshAnchor a).ump.idx = a.ump.idx := by
  unfold Asic.refreshAnchor
  simp -implicitDefEqProofs [Asic.each_ump_idx, Asic.ite_ump_idx]

theorem Asic.rebase_ump_idx (a : Asic) (k : Nat) : (Asic.rebase a k).ump.idx = a.ump.idx := by
  unfold Asic.rebase
  simp -implicitDefEqProofs []

theorem Asic.refreshRate_ump_idx (a : Asic) (k : Nat) : (Asic.refreshRate a k).ump.idx = a.ump.idx := by
  unfold Asic.refreshRate
  simp -implicitDefEqProofs [Asic.rebase_ump_idx, Asic.ite_ump_idx]

theorem Asic.refreshRates_ump_idx (a : Asic) : (Asic.refreshRates a).ump.idx = a.ump.idx := by
  unfold Asic.refreshRates
  simp -implicitDefEqProofs [Asic.refreshRate_ump_idx, Asic.each_ump_idx]

theorem Asic.settleChan_ump_idx (a : Asic) (c : Nat) : (Asic.settleChan a c).ump.idx = a.ump.idx := by
  unfold Asic.settleChan
  simp -implicitDefEqProofs []

theorem Asic.setY_ump_idx (a : Asic) (c : Nat) (y : Int) : (Asic.setY a c y).ump.idx = a.ump.idx := by
  unfold Asic.setY
  simp -implicitDefEqProofs [Asic.refreshRates_ump_idx, Asic.settleChan_ump_idx]

theorem Asic.noteClamp_ump_idx (a : Asic) (c : Nat) (clamped : Bool) : (Asic.noteClamp a c clamped).ump.idx = a.ump.idx := by
  unfold Asic.noteClamp
  simp -implicitDefEqProofs [Asic.ite_ump_idx]

theorem Asic.takeWord_ump_idx (a : Asic) (c : Nat) (w : Int) : (Asic.takeWord a c w).ump.idx = a.ump.idx := by
  unfold Asic.takeWord
  simp -implicitDefEqProofs [Asic.setY_ump_idx, Asic.noteClamp_ump_idx]

theorem Asic.emit_ump_idx (a : Asic) (q : Nat) (r : Record) : (Asic.emit a q r).ump.idx = a.ump.idx := by
  unfold Asic.emit
  simp -implicitDefEqProofs [Asic.ite_ump_idx]

theorem Asic.telemetry_ump_idx (a : Asic) (c : Nat) (event : Bool) (short : Bool) : (Asic.telemetry a c event short).ump.idx = a.ump.idx := by
  unfold Asic.telemetry
  simp -implicitDefEqProofs [Asic.emit_ump_idx, Asic.settleChan_ump_idx, Asic.ite_ump_idx]

theorem Asic.moveChan_ump_idx (a : Asic) (c : Nat) (s : Nat) : (Asic.moveChan a c s).ump.idx = a.ump.idx := by
  unfold Asic.moveChan
  simp -implicitDefEqProofs [Asic.refreshAnchor_ump_idx, Asic.telemetry_ump_idx, Asic.ite_ump_idx]

theorem Asic.toFreerun_ump_idx (a : Asic) (c : Nat) : (Asic.toFreerun a c).ump.idx = a.ump.idx := by
  unfold Asic.toFreerun
  simp -implicitDefEqProofs [Asic.takeWord_ump_idx, Asic.moveChan_ump_idx, Asic.ite_ump_idx]

theorem Asic.toAcquire_ump_idx (a : Asic) (c : Nat) : (Asic.toAcquire a c).ump.idx = a.ump.idx := by
  unfold Asic.toAcquire
  simp -implicitDefEqProofs [Asic.moveChan_ump_idx, Asic.onlyIf_ump_idx, Asic.ite_ump_idx]

theorem Asic.takeHoWord_ump_idx (a : Asic) (c : Nat) : (Asic.takeHoWord a c).ump.idx = a.ump.idx := by
  unfold Asic.takeHoWord
  simp -implicitDefEqProofs [Asic.takeWord_ump_idx]

theorem Asic.toHoldoverWith_ump_idx (a : Asic) (c : Nat) (qual : Nat) (avg : Int) (tc : Nat) : (Asic.toHoldoverWith a c qual avg tc).ump.idx = a.ump.idx := by
  unfold Asic.toHoldoverWith
  simp -implicitDefEqProofs [Asic.moveChan_ump_idx, Asic.takeHoWord_ump_idx]

theorem Asic.toHoldover_ump_idx (a : Asic) (c : Nat) : (Asic.toHoldover a c).ump.idx = a.ump.idx := by
  unfold Asic.toHoldover
  simp -implicitDefEqProofs [Asic.toHoldoverWith_ump_idx]

theorem Asic.selectionChanged_ump_idx (a : Asic) (c : Nat) : (Asic.selectionChanged a c).ump.idx = a.ump.idx := by
  unfold Asic.selectionChanged
  simp -implicitDefEqProofs [Asic.refreshAnchor_ump_idx, Asic.toFreerun_ump_idx, Asic.toAcquire_ump_idx, Asic.toHoldover_ump_idx, Asic.ite_ump_idx]

theorem Asic.startSwitch_ump_idx (a : Asic) (c : Nat) (o : Nat) (n : Nat) (reason : Nat) : (Asic.startSwitch a c o n reason).ump.idx = a.ump.idx := by
  unfold Asic.startSwitch
  (repeat' split) <;> (try rfl) <;> simp -implicitDefEqProofs [Asic.each_ump_idx, Asic.onlyIf_ump_idx, Asic.ite_ump_idx, Asic.foldl_ump_idx]

theorem Asic.abortSwitch_ump_idx (a : Asic) (c : Nat) : (Asic.abortSwitch a c).ump.idx = a.ump.idx := by
  unfold Asic.abortSwitch
  (repeat' split) <;> (try rfl) <;> simp -implicitDefEqProofs [Asic.each_ump_idx, Asic.onlyIf_ump_idx, Asic.ite_ump_idx, Asic.foldl_ump_idx]

theorem Asic.selectOn_ump_idx (a : Asic) (written : Bool) (c : Nat) : (Asic.selectOn a written c).ump.idx = a.ump.idx := by
  unfold Asic.selectOn
  dsimp only
  (repeat' split) <;> simp -implicitDefEqProofs [Asic.selectionChanged_ump_idx, Asic.startSwitch_ump_idx, Asic.abortSwitch_ump_idx, Asic.ite_ump_idx]

theorem Asic.selectAll_ump_idx (a : Asic) : (Asic.selectAll a).ump.idx = a.ump.idx := by
  unfold Asic.selectAll
  simp -implicitDefEqProofs [Asic.refreshAnchor_ump_idx, Asic.selectOn_ump_idx, Asic.each_ump_idx]

theorem Asic.overrideWritten_ump_idx (a : Asic) (c : Nat) : (Asic.overrideWritten a c).ump.idx = a.ump.idx := by
  unfold Asic.overrideWritten
  simp -implicitDefEqProofs [Asic.refreshAnchor_ump_idx, Asic.selectOn_ump_idx]

end Sys2Proof.Machine
end

