-- ==== Sys2Proof/Laws/FrameUmpc.lean ====
section
/-! SUPPORT. Register fields at 0x20000 to 0x21000 that operations leave alone. -/

set_option linter.unusedSimpArgs false
set_option linter.unusedSectionVars false

namespace Sys2Proof.Machine

variable (g : Fld) (h1 : 0x20000 ≤ g.addr) (h2 : g.addr < 0x21000)
include h1 h2
theorem Asic.put_umpc (a : Asic) (f : Fld) (n : Nat) (h : f.addr < 0x20000 ∨ 0x21000 ≤ f.addr) : (a.put f n).get g = a.get g := Asic.get_put_ne _ _ _ _ (.inl (by omega))
theorem Asic.putS_umpc (a : Asic) (f : Fld) (n : Int) (h : f.addr < 0x20000 ∨ 0x21000 ≤ f.addr) : (a.putS f n).get g = a.get g := Asic.get_put_ne _ _ _ _ (.inl (by omega))
theorem Asic.putB_umpc (a : Asic) (f : Fld) (n : Bool) (h : f.addr < 0x20000 ∨ 0x21000 ≤ f.addr) : (a.putB f n).get g = a.get g := Asic.get_put_ne _ _ _ _ (.inl (by omega))
theorem Asic.addSat_umpc (a : Asic) (f : Fld) (n : Nat) (h : f.addr < 0x20000 ∨ 0x21000 ≤ f.addr) : (a.addSat f n).get g = a.get g := Asic.get_put_ne _ _ _ _ (.inl (by omega))
theorem Asic.addWrap_umpc (a : Asic) (f : Fld) (n : Nat) (h : f.addr < 0x20000 ∨ 0x21000 ≤ f.addr) : (a.addWrap f n).get g = a.get g := Asic.get_put_ne _ _ _ _ (.inl (by omega))
theorem Asic.event_umpc (a : Asic) (f : Fld) (h : f.addr < 0x20000 ∨ 0x21000 ≤ f.addr) : (a.event f).get g = a.get g := Asic.get_event_ne _ _ _ (.inl (by omega)) (.inl (by dsimp only; omega))
theorem Asic.put2_umpc (a : Asic) (f f' : Fld) (n : Nat) (h : f.addr < 0x20000 ∨ 0x21000 ≤ f.addr) (h' : f'.addr < 0x20000 ∨ 0x21000 ≤ f'.addr) : (a.put2 f f' n).get g = a.get g := by
  rw [Asic.put2, Asic.get_put_ne _ _ _ _ (.inl (by omega)), Asic.get_put_ne _ _ _ _ (.inl (by omega))]
theorem Asic.put2S_umpc (a : Asic) (f f' : Fld) (n : Int) (h : f.addr < 0x20000 ∨ 0x21000 ≤ f.addr) (h' : f'.addr < 0x20000 ∨ 0x21000 ≤ f'.addr) : (a.put2S f f' n).get g = a.get g := by
  rw [Asic.put2S, Asic.put2, Asic.get_put_ne _ _ _ _ (.inl (by omega)), Asic.get_put_ne _ _ _ _ (.inl (by omega))]
omit h1 h2
theorem Asic.each_umpc (a : Asic) (l : List Nat) (f : Asic → Nat → Asic) (h : ∀ x i, (f x i).get g = x.get g) : (a.each l f).get g = a.get g := by
  induction l generalizing a with
  | nil => rfl
  | cons i l ih => exact (ih (f a i)).trans (h a i)
theorem Asic.onlyIf_umpc (a : Asic) (c : Bool) (f : Asic → Asic) (h : ∀ x, (f x).get g = x.get g) : (a.onlyIf c f).get g = a.get g := by
  unfold Asic.onlyIf
  split
  · exact h a
  · rfl
theorem Asic.ite_umpc (c : Prop) [Decidable c] (x y : Asic) : (if c then x else y).get g = if c then x.get g else y.get g := apply_ite (fun z => Asic.get z g) _ _ _
theorem Asic.foldl_umpc {α : Type} (a : Asic) (l : List α) (f : Asic → α → Asic) (h : ∀ x i, (f x i).get g = x.get g) : (l.foldl f a).get g = a.get g := by
  induction l generalizing a with
  | nil => rfl
  | cons i l ih => exact (ih (f a i)).trans (h a i)
include h1 h2


theorem Asic.driftOf_umpc (a : Asic) (yc : Rat) (i : Nat) : (Asic.driftOf a yc i).get g = a.get g := by
  unfold Asic.driftOf
  (repeat' split) <;> simp +arith -implicitDefEqProofs [Asic.put2S_umpc g h1 h2, Asic.get_mk, Asic.get_of_regs, Asic.ite_umpc, Asic.foldl_umpc]

theorem Asic.endDisputes_umpc (a : Asic) (c : Nat) : (Asic.endDisputes a c).get g = a.get g := by
  unfold Asic.endDisputes
  dsimp only
  (repeat' split) <;> simp +arith -implicitDefEqProofs [Asic.put_umpc g h1 h2, Asic.get_mk, Asic.get_of_regs, Asic.ite_umpc]

theorem Asic.enterQual_umpc (a : Asic) (i : Nat) (st : Nat) : (Asic.enterQual a i st).get g = a.get g := by
  unfold Asic.enterQual
  simp +arith -implicitDefEqProofs [Asic.put_umpc g h1 h2, Asic.event_umpc g h1 h2, Asic.get_mk, Asic.get_of_regs, Asic.ite_umpc]

theorem Asic.addCause_umpc (a : Asic) (i : Nat) (k : Nat) : (Asic.addCause a i k).get g = a.get g := by
  unfold Asic.addCause
  simp +arith -implicitDefEqProofs [Asic.put_umpc g h1 h2, Asic.get_mk, Asic.get_of_regs]

theorem Asic.suspectFor_umpc (a : Asic) (i : Nat) (k : Nat) : (Asic.suspectFor a i k).get g = a.get g := by
  unfold Asic.suspectFor
  simp +arith -implicitDefEqProofs [Asic.enterQual_umpc g h1 h2, Asic.addCause_umpc g h1 h2, Asic.get_mk, Asic.get_of_regs, Asic.ite_umpc]

theorem Asic.disqualify_umpc (a : Asic) (i : Nat) (k : Nat) : (Asic.disqualify a i k).get g = a.get g := by
  unfold Asic.disqualify
  simp +arith -implicitDefEqProofs [Asic.enterQual_umpc g h1 h2, Asic.addCause_umpc g h1 h2, Asic.get_mk, Asic.get_of_regs]

theorem Asic.toSoak_umpc (a : Asic) (i : Nat) : (Asic.toSoak a i).get g = a.get g := by
  unfold Asic.toSoak
  simp +arith -implicitDefEqProofs [Asic.enterQual_umpc g h1 h2, Asic.put_umpc g h1 h2, Asic.get_mk, Asic.get_of_regs]

theorem Asic.evaluateIndex_umpc (a : Asic) (valid : Bool) (i : Nat) : (Asic.evaluateIndex a valid i).get g = a.get g := by
  unfold Asic.evaluateIndex
  (repeat' split) <;> simp +arith -implicitDefEqProofs [Asic.enterQual_umpc g h1 h2, Asic.suspectFor_umpc g h1 h2, Asic.disqualify_umpc g h1 h2, Asic.toSoak_umpc g h1 h2, Asic.put_umpc g h1 h2, Asic.get_mk, Asic.get_of_regs, Asic.ite_umpc]

theorem Asic.takeBase_umpc (a : Asic) (c : Nat) : (Asic.takeBase a c).get g = a.get g := by
  unfold Asic.takeBase
  (repeat' split) <;> simp +arith -implicitDefEqProofs [Asic.get_mk, Asic.get_of_regs, Asic.ite_umpc]

theorem Asic.judge_umpc (a : Asic) (c : Nat) (i : Nat) (j : Nat) : (Asic.judge a c i j).get g = a.get g := by
  unfold Asic.judge
  simp +arith -implicitDefEqProofs [Asic.suspectFor_umpc g h1 h2, Asic.put_umpc g h1 h2, Asic.event_umpc g h1 h2, Asic.get_mk, Asic.get_of_regs, Asic.ite_umpc]

theorem Asic.refreshAnchor_umpc (a : Asic) : (Asic.refreshAnchor a).get g = a.get g := by
  unfold Asic.refreshAnchor
  simp +arith -implicitDefEqProofs [Asic.put_umpc g h1 h2, Asic.get_mk, Asic.get_of_regs, Asic.each_umpc, Asic.ite_umpc]

theorem Asic.rebase_umpc (a : Asic) (k : Nat) : (Asic.rebase a k).get g = a.get g := by
  unfold Asic.rebase
  simp +arith -implicitDefEqProofs [Asic.get_mk, Asic.get_of_regs]

theorem Asic.refreshRate_umpc (a : Asic) (k : Nat) : (Asic.refreshRate a k).get g = a.get g := by
  unfold Asic.refreshRate
  simp +arith -implicitDefEqProofs [Asic.rebase_umpc g h1 h2, Asic.putB_umpc g h1 h2, Asic.get_mk, Asic.get_of_regs, Asic.ite_umpc]

theorem Asic.refreshRates_umpc (a : Asic) : (Asic.refreshRates a).get g = a.get g := by
  unfold Asic.refreshRates
  simp +arith -implicitDefEqProofs [Asic.refreshRate_umpc g h1 h2, Asic.get_mk, Asic.get_of_regs, Asic.each_umpc]

theorem Asic.settleChan_umpc (a : Asic) (c : Nat) : (Asic.settleChan a c).get g = a.get g := by
  unfold Asic.settleChan
  simp +arith -implicitDefEqProofs [Asic.get_mk, Asic.get_of_regs]

theorem Asic.setY_umpc (a : Asic) (c : Nat) (y : Int) : (Asic.setY a c y).get g = a.get g := by
  unfold Asic.setY
  simp +arith -implicitDefEqProofs [Asic.refreshRates_umpc g h1 h2, Asic.settleChan_umpc g h1 h2, Asic.put2S_umpc g h1 h2, Asic.get_mk, Asic.get_of_regs]

theorem Asic.noteClamp_umpc (a : Asic) (c : Nat) (clamped : Bool) : (Asic.noteClamp a c clamped).get g = a.get g := by
  unfold Asic.noteClamp
  simp +arith -implicitDefEqProofs [Asic.putB_umpc g h1 h2, Asic.event_umpc g h1 h2, Asic.get_mk, Asic.get_of_regs, Asic.ite_umpc]

theorem Asic.takeWord_umpc (a : Asic) (c : Nat) (w : Int) : (Asic.takeWord a c w).get g = a.get g := by
  unfold Asic.takeWord
  exact (Asic.noteClamp_umpc g h1 h2 _ _ _).trans ((Asic.setY_umpc g h1 h2 _ _ _).trans rfl)

theorem Asic.emit_umpc (a : Asic) (q : Nat) (r : Record) : (Asic.emit a q r).get g = a.get g := by
  unfold Asic.emit
  simp +arith -implicitDefEqProofs [Asic.addSat_umpc g h1 h2, Asic.get_mk, Asic.get_of_regs, Asic.ite_umpc]

theorem Asic.telemetry_umpc (a : Asic) (c : Nat) (event : Bool) (short : Bool) : (Asic.telemetry a c event short).get g = a.get g := by
  unfold Asic.telemetry
  simp +arith -implicitDefEqProofs [Asic.emit_umpc g h1 h2, Asic.settleChan_umpc g h1 h2, Asic.get_mk, Asic.get_of_regs, Asic.ite_umpc]

theorem Asic.moveChan_umpc (a : Asic) (c : Nat) (s : Nat) : (Asic.moveChan a c s).get g = a.get g := by
  unfold Asic.moveChan
  simp +arith -implicitDefEqProofs [Asic.refreshAnchor_umpc g h1 h2, Asic.telemetry_umpc g h1 h2, Asic.put_umpc g h1 h2, Asic.get_mk, Asic.get_of_regs, Asic.ite_umpc]

theorem Asic.toFreerun_umpc (a : Asic) (c : Nat) : (Asic.toFreerun a c).get g = a.get g := by
  unfold Asic.toFreerun
  simp +arith -implicitDefEqProofs [Asic.takeWord_umpc g h1 h2, Asic.moveChan_umpc g h1 h2, Asic.put_umpc g h1 h2, Asic.get_mk, Asic.get_of_regs, Asic.ite_umpc]

theorem Asic.toAcquire_umpc (a : Asic) (c : Nat) : (Asic.toAcquire a c).get g = a.get g := by
  unfold Asic.toAcquire
  simp +arith -implicitDefEqProofs [Asic.moveChan_umpc g h1 h2, Asic.put_umpc g h1 h2, Asic.put2S_umpc g h1 h2, Asic.get_mk, Asic.get_of_regs, Asic.onlyIf_umpc, Asic.ite_umpc]

theorem Asic.takeHoWord_umpc (a : Asic) (c : Nat) : (Asic.takeHoWord a c).get g = a.get g := by
  unfold Asic.takeHoWord
  simp +arith -implicitDefEqProofs [Asic.takeWord_umpc g h1 h2, Asic.putB_umpc g h1 h2, Asic.get_mk, Asic.get_of_regs]

theorem Asic.toHoldoverWith_umpc (a : Asic) (c : Nat) (qual : Nat) (avg : Int) (tc : Nat) : (Asic.toHoldoverWith a c qual avg tc).get g = a.get g := by
  unfold Asic.toHoldoverWith
  simp +arith -implicitDefEqProofs [Asic.moveChan_umpc g h1 h2, Asic.takeHoWord_umpc g h1 h2, Asic.put_umpc g h1 h2, Asic.addSat_umpc g h1 h2, Asic.event_umpc g h1 h2, Asic.put2S_umpc g h1 h2, Asic.get_mk, Asic.get_of_regs]

theorem Asic.toHoldover_umpc (a : Asic) (c : Nat) : (Asic.toHoldover a c).get g = a.get g := by
  unfold Asic.toHoldover
  simp +arith -implicitDefEqProofs [Asic.toHoldoverWith_umpc g h1 h2, Asic.get_mk, Asic.get_of_regs]

theorem Asic.selectionChanged_umpc (a : Asic) (c : Nat) : (Asic.selectionChanged a c).get g = a.get g := by
  unfold Asic.selectionChanged
  simp +arith -implicitDefEqProofs [Asic.refreshAnchor_umpc g h1 h2, Asic.toFreerun_umpc g h1 h2, Asic.toAcquire_umpc g h1 h2, Asic.toHoldover_umpc g h1 h2, Asic.get_mk, Asic.get_of_regs, Asic.ite_umpc]

theorem Asic.startSwitch_umpc (a : Asic) (c : Nat) (o : Nat) (n : Nat) (reason : Nat) : (Asic.startSwitch a c o n reason).get g = a.get g := by
  unfold Asic.startSwitch
  simp +arith -implicitDefEqProofs [Asic.put_umpc g h1 h2, Asic.get_mk, Asic.get_of_regs]

theorem Asic.abortSwitch_umpc (a : Asic) (c : Nat) : (Asic.abortSwitch a c).get g = a.get g := by
  unfold Asic.abortSwitch
  simp +arith -implicitDefEqProofs [Asic.put_umpc g h1 h2, Asic.event_umpc g h1 h2, Asic.get_mk, Asic.get_of_regs]

theorem Asic.selectOn_umpc (a : Asic) (written : Bool) (c : Nat) : (Asic.selectOn a written c).get g = a.get g := by
  unfold Asic.selectOn
  dsimp only
  (repeat' split) <;> simp +arith -implicitDefEqProofs [Asic.selectionChanged_umpc g h1 h2, Asic.startSwitch_umpc g h1 h2, Asic.abortSwitch_umpc g h1 h2, Asic.put_umpc g h1 h2, Asic.putB_umpc g h1 h2, Asic.event_umpc g h1 h2, Asic.get_mk, Asic.get_of_regs, Asic.ite_umpc]

theorem Asic.selectAll_umpc (a : Asic) : (Asic.selectAll a).get g = a.get g := by
  unfold Asic.selectAll
  simp +arith -implicitDefEqProofs [Asic.refreshAnchor_umpc g h1 h2, Asic.selectOn_umpc g h1 h2, Asic.get_mk, Asic.get_of_regs, Asic.each_umpc]

theorem Asic.noOvenRefresh_umpc (a : Asic) : (Asic.noOvenRefresh a).get g = a.get g := by
  unfold Asic.noOvenRefresh
  simp +arith -implicitDefEqProofs [Asic.get_mk, Asic.get_of_regs]

theorem Asic.invalidateLanes_umpc (a : Asic) : (Asic.invalidateLanes a).get g = a.get g := by
  unfold Asic.invalidateLanes
  simp +arith -implicitDefEqProofs [Asic.each, List.range, List.range.loop, Asic.put_umpc g h1 h2]

theorem Asic.activeOscLost_umpc (a : Asic) : (Asic.activeOscLost a).get g = a.get g := by
  unfold Asic.activeOscLost
  simp +arith -implicitDefEqProofs [Asic.invalidateLanes_umpc g h1 h2, Asic.get_mk, Asic.get_of_regs]

theorem Asic.ovenFaultNow_umpc (a : Asic) (o : Nat) (cause : Nat) : (Asic.ovenFaultNow a o cause).get g = a.get g := by
  unfold Asic.ovenFaultNow
  simp +arith -implicitDefEqProofs [Asic.noOvenRefresh_umpc g h1 h2, Asic.activeOscLost_umpc g h1 h2, Asic.put_umpc g h1 h2, Asic.get_mk, Asic.get_of_regs, Asic.ite_umpc]

theorem Asic.crossCheck_umpc (a : Asic) : (Asic.crossCheck a).get g = a.get g := by
  unfold Asic.crossCheck
  simp +arith -implicitDefEqProofs [Asic.ovenFaultNow_umpc g h1 h2, Asic.put_umpc g h1 h2, Asic.event_umpc g h1 h2, Asic.get_mk, Asic.get_of_regs, Asic.ite_umpc]

end Sys2Proof.Machine
end

