-- ==== Sys2Proof/Laws/FrameUmpi.lean ====
section
/-! SUPPORT. Register fields at 0x21000 to 0x22000 that operations leave alone. -/

set_option linter.unusedSimpArgs false
set_option linter.unusedSectionVars false

namespace Sys2Proof.Machine

variable (g : Fld) (h1 : 0x21000 ≤ g.addr) (h2 : g.addr < 0x22000)
include h1 h2
theorem Asic.put_umpi (a : Asic) (f : Fld) (n : Nat) (h : f.addr < 0x21000 ∨ 0x22000 ≤ f.addr) : (a.put f n).get g = a.get g := Asic.get_put_ne _ _ _ _ (.inl (by omega))
theorem Asic.putS_umpi (a : Asic) (f : Fld) (n : Int) (h : f.addr < 0x21000 ∨ 0x22000 ≤ f.addr) : (a.putS f n).get g = a.get g := Asic.get_put_ne _ _ _ _ (.inl (by omega))
theorem Asic.putB_umpi (a : Asic) (f : Fld) (n : Bool) (h : f.addr < 0x21000 ∨ 0x22000 ≤ f.addr) : (a.putB f n).get g = a.get g := Asic.get_put_ne _ _ _ _ (.inl (by omega))
theorem Asic.addSat_umpi (a : Asic) (f : Fld) (n : Nat) (h : f.addr < 0x21000 ∨ 0x22000 ≤ f.addr) : (a.addSat f n).get g = a.get g := Asic.get_put_ne _ _ _ _ (.inl (by omega))
theorem Asic.addWrap_umpi (a : Asic) (f : Fld) (n : Nat) (h : f.addr < 0x21000 ∨ 0x22000 ≤ f.addr) : (a.addWrap f n).get g = a.get g := Asic.get_put_ne _ _ _ _ (.inl (by omega))
theorem Asic.event_umpi (a : Asic) (f : Fld) (h : f.addr < 0x21000 ∨ 0x22000 ≤ f.addr) : (a.event f).get g = a.get g := Asic.get_event_ne _ _ _ (.inl (by omega)) (.inl (by dsimp only; omega))
theorem Asic.put2_umpi (a : Asic) (f f' : Fld) (n : Nat) (h : f.addr < 0x21000 ∨ 0x22000 ≤ f.addr) (h' : f'.addr < 0x21000 ∨ 0x22000 ≤ f'.addr) : (a.put2 f f' n).get g = a.get g := by
  rw [Asic.put2, Asic.get_put_ne _ _ _ _ (.inl (by omega)), Asic.get_put_ne _ _ _ _ (.inl (by omega))]
theorem Asic.put2S_umpi (a : Asic) (f f' : Fld) (n : Int) (h : f.addr < 0x21000 ∨ 0x22000 ≤ f.addr) (h' : f'.addr < 0x21000 ∨ 0x22000 ≤ f'.addr) : (a.put2S f f' n).get g = a.get g := by
  rw [Asic.put2S, Asic.put2, Asic.get_put_ne _ _ _ _ (.inl (by omega)), Asic.get_put_ne _ _ _ _ (.inl (by omega))]
omit h1 h2
theorem Asic.each_umpi (a : Asic) (l : List Nat) (f : Asic → Nat → Asic) (h : ∀ x i, (f x i).get g = x.get g) : (a.each l f).get g = a.get g := by
  induction l generalizing a with
  | nil => rfl
  | cons i l ih => exact (ih (f a i)).trans (h a i)
theorem Asic.onlyIf_umpi (a : Asic) (c : Bool) (f : Asic → Asic) (h : ∀ x, (f x).get g = x.get g) : (a.onlyIf c f).get g = a.get g := by
  unfold Asic.onlyIf
  split
  · exact h a
  · rfl
theorem Asic.ite_umpi (c : Prop) [Decidable c] (x y : Asic) : (if c then x else y).get g = if c then x.get g else y.get g := apply_ite (fun z => Asic.get z g) _ _ _
theorem Asic.foldl_umpi {α : Type} (a : Asic) (l : List α) (f : Asic → α → Asic) (h : ∀ x i, (f x i).get g = x.get g) : (l.foldl f a).get g = a.get g := by
  induction l generalizing a with
  | nil => rfl
  | cons i l ih => exact (ih (f a i)).trans (h a i)
include h1 h2


theorem Asic.refreshAnchor_umpi (a : Asic) : (Asic.refreshAnchor a).get g = a.get g := by
  unfold Asic.refreshAnchor
  simp +arith -implicitDefEqProofs [Asic.put_umpi g h1 h2, Asic.get_mk, Asic.get_of_regs, Asic.each_umpi, Asic.ite_umpi]

theorem Asic.rebase_umpi (a : Asic) (k : Nat) : (Asic.rebase a k).get g = a.get g := by
  unfold Asic.rebase
  simp +arith -implicitDefEqProofs [Asic.get_mk, Asic.get_of_regs]

theorem Asic.refreshRate_umpi (a : Asic) (k : Nat) : (Asic.refreshRate a k).get g = a.get g := by
  unfold Asic.refreshRate
  simp +arith -implicitDefEqProofs [Asic.rebase_umpi g h1 h2, Asic.putB_umpi g h1 h2, Asic.get_mk, Asic.get_of_regs, Asic.ite_umpi]

theorem Asic.refreshRates_umpi (a : Asic) : (Asic.refreshRates a).get g = a.get g := by
  unfold Asic.refreshRates
  simp +arith -implicitDefEqProofs [Asic.refreshRate_umpi g h1 h2, Asic.get_mk, Asic.get_of_regs, Asic.each_umpi]

theorem Asic.settleChan_umpi (a : Asic) (c : Nat) : (Asic.settleChan a c).get g = a.get g := by
  unfold Asic.settleChan
  simp +arith -implicitDefEqProofs [Asic.get_mk, Asic.get_of_regs]

theorem Asic.setY_umpi (a : Asic) (c : Nat) (y : Int) : (Asic.setY a c y).get g = a.get g := by
  unfold Asic.setY
  simp +arith -implicitDefEqProofs [Asic.refreshRates_umpi g h1 h2, Asic.settleChan_umpi g h1 h2, Asic.put2S_umpi g h1 h2, Asic.get_mk, Asic.get_of_regs]

theorem Asic.noteClamp_umpi (a : Asic) (c : Nat) (clamped : Bool) : (Asic.noteClamp a c clamped).get g = a.get g := by
  unfold Asic.noteClamp
  simp +arith -implicitDefEqProofs [Asic.putB_umpi g h1 h2, Asic.event_umpi g h1 h2, Asic.get_mk, Asic.get_of_regs, Asic.ite_umpi]

theorem Asic.takeWord_umpi (a : Asic) (c : Nat) (w : Int) : (Asic.takeWord a c w).get g = a.get g := by
  unfold Asic.takeWord
  exact (Asic.noteClamp_umpi g h1 h2 _ _ _).trans ((Asic.setY_umpi g h1 h2 _ _ _).trans rfl)

theorem Asic.emit_umpi (a : Asic) (q : Nat) (r : Record) : (Asic.emit a q r).get g = a.get g := by
  unfold Asic.emit
  simp +arith -implicitDefEqProofs [Asic.addSat_umpi g h1 h2, Asic.get_mk, Asic.get_of_regs, Asic.ite_umpi]

theorem Asic.telemetry_umpi (a : Asic) (c : Nat) (event : Bool) (short : Bool) : (Asic.telemetry a c event short).get g = a.get g := by
  unfold Asic.telemetry
  simp +arith -implicitDefEqProofs [Asic.emit_umpi g h1 h2, Asic.settleChan_umpi g h1 h2, Asic.get_mk, Asic.get_of_regs, Asic.ite_umpi]

theorem Asic.moveChan_umpi (a : Asic) (c : Nat) (s : Nat) : (Asic.moveChan a c s).get g = a.get g := by
  unfold Asic.moveChan
  simp +arith -implicitDefEqProofs [Asic.refreshAnchor_umpi g h1 h2, Asic.telemetry_umpi g h1 h2, Asic.put_umpi g h1 h2, Asic.get_mk, Asic.get_of_regs, Asic.ite_umpi]

theorem Asic.toFreerun_umpi (a : Asic) (c : Nat) : (Asic.toFreerun a c).get g = a.get g := by
  unfold Asic.toFreerun
  simp +arith -implicitDefEqProofs [Asic.takeWord_umpi g h1 h2, Asic.moveChan_umpi g h1 h2, Asic.put_umpi g h1 h2, Asic.get_mk, Asic.get_of_regs, Asic.ite_umpi]

theorem Asic.toAcquire_umpi (a : Asic) (c : Nat) : (Asic.toAcquire a c).get g = a.get g := by
  unfold Asic.toAcquire
  simp +arith -implicitDefEqProofs [Asic.moveChan_umpi g h1 h2, Asic.put_umpi g h1 h2, Asic.put2S_umpi g h1 h2, Asic.get_mk, Asic.get_of_regs, Asic.onlyIf_umpi, Asic.ite_umpi]

theorem Asic.takeHoWord_umpi (a : Asic) (c : Nat) : (Asic.takeHoWord a c).get g = a.get g := by
  unfold Asic.takeHoWord
  simp +arith -implicitDefEqProofs [Asic.takeWord_umpi g h1 h2, Asic.putB_umpi g h1 h2, Asic.get_mk, Asic.get_of_regs]

theorem Asic.toHoldoverWith_umpi (a : Asic) (c : Nat) (qual : Nat) (avg : Int) (tc : Nat) : (Asic.toHoldoverWith a c qual avg tc).get g = a.get g := by
  unfold Asic.toHoldoverWith
  simp +arith -implicitDefEqProofs [Asic.moveChan_umpi g h1 h2, Asic.takeHoWord_umpi g h1 h2, Asic.put_umpi g h1 h2, Asic.addSat_umpi g h1 h2, Asic.event_umpi g h1 h2, Asic.put2S_umpi g h1 h2, Asic.get_mk, Asic.get_of_regs]

theorem Asic.toHoldover_umpi (a : Asic) (c : Nat) : (Asic.toHoldover a c).get g = a.get g := by
  unfold Asic.toHoldover
  simp +arith -implicitDefEqProofs [Asic.toHoldoverWith_umpi g h1 h2, Asic.get_mk, Asic.get_of_regs]

theorem Asic.selectionChanged_umpi (a : Asic) (c : Nat) : (Asic.selectionChanged a c).get g = a.get g := by
  unfold Asic.selectionChanged
  simp +arith -implicitDefEqProofs [Asic.refreshAnchor_umpi g h1 h2, Asic.toFreerun_umpi g h1 h2, Asic.toAcquire_umpi g h1 h2, Asic.toHoldover_umpi g h1 h2, Asic.get_mk, Asic.get_of_regs, Asic.ite_umpi]

theorem Asic.startSwitch_umpi (a : Asic) (c : Nat) (o : Nat) (n : Nat) (reason : Nat) : (Asic.startSwitch a c o n reason).get g = a.get g := by
  unfold Asic.startSwitch
  simp +arith -implicitDefEqProofs [Asic.put_umpi g h1 h2, Asic.get_mk, Asic.get_of_regs]

theorem Asic.abortSwitch_umpi (a : Asic) (c : Nat) : (Asic.abortSwitch a c).get g = a.get g := by
  unfold Asic.abortSwitch
  simp +arith -implicitDefEqProofs [Asic.put_umpi g h1 h2, Asic.event_umpi g h1 h2, Asic.get_mk, Asic.get_of_regs]

theorem Asic.selectOn_umpi (a : Asic) (written : Bool) (c : Nat) : (Asic.selectOn a written c).get g = a.get g := by
  unfold Asic.selectOn
  dsimp only
  (repeat' split) <;> simp +arith -implicitDefEqProofs [Asic.selectionChanged_umpi g h1 h2, Asic.startSwitch_umpi g h1 h2, Asic.abortSwitch_umpi g h1 h2, Asic.put_umpi g h1 h2, Asic.putB_umpi g h1 h2, Asic.event_umpi g h1 h2, Asic.get_mk, Asic.get_of_regs, Asic.ite_umpi]

theorem Asic.selectAll_umpi (a : Asic) : (Asic.selectAll a).get g = a.get g := by
  unfold Asic.selectAll
  simp +arith -implicitDefEqProofs [Asic.refreshAnchor_umpi g h1 h2, Asic.selectOn_umpi g h1 h2, Asic.get_mk, Asic.get_of_regs, Asic.each_umpi]

theorem Asic.overrideWritten_umpi (a : Asic) (c : Nat) : (Asic.overrideWritten a c).get g = a.get g := by
  unfold Asic.overrideWritten
  simp +arith -implicitDefEqProofs [Asic.refreshAnchor_umpi g h1 h2, Asic.selectOn_umpi g h1 h2, Asic.get_mk, Asic.get_of_regs]

end Sys2Proof.Machine
end

