-- ==== Sys2Proof/Laws/FrameUmpsel.lean ====
section
/-! SUPPORT. Register fields at mod:0x22000:0x22200:64:4:44 to  that operations leave alone. -/

set_option linter.unusedSimpArgs false
set_option linter.unusedSectionVars false

namespace Sys2Proof.Machine

variable (g : Fld) (h1 : 0x22000 ≤ g.addr ∧ g.addr < 0x22200) (h2 : (g.addr + 44) % 64 < 4)
include h1 h2
theorem Asic.put_umpsel (a : Asic) (f : Fld) (n : Nat) (h : (f.addr < 0x22000 ∨ 0x22200 ≤ f.addr ∨ 4 ≤ (f.addr + 44) % 64)) : (a.put f n).get g = a.get g := Asic.get_put_ne _ _ _ _ (.inl (by omega))
theorem Asic.putS_umpsel (a : Asic) (f : Fld) (n : Int) (h : (f.addr < 0x22000 ∨ 0x22200 ≤ f.addr ∨ 4 ≤ (f.addr + 44) % 64)) : (a.putS f n).get g = a.get g := Asic.get_put_ne _ _ _ _ (.inl (by omega))
theorem Asic.putB_umpsel (a : Asic) (f : Fld) (n : Bool) (h : (f.addr < 0x22000 ∨ 0x22200 ≤ f.addr ∨ 4 ≤ (f.addr + 44) % 64)) : (a.putB f n).get g = a.get g := Asic.get_put_ne _ _ _ _ (.inl (by omega))
theorem Asic.addSat_umpsel (a : Asic) (f : Fld) (n : Nat) (h : (f.addr < 0x22000 ∨ 0x22200 ≤ f.addr ∨ 4 ≤ (f.addr + 44) % 64)) : (a.addSat f n).get g = a.get g := Asic.get_put_ne _ _ _ _ (.inl (by omega))
theorem Asic.addWrap_umpsel (a : Asic) (f : Fld) (n : Nat) (h : (f.addr < 0x22000 ∨ 0x22200 ≤ f.addr ∨ 4 ≤ (f.addr + 44) % 64)) : (a.addWrap f n).get g = a.get g := Asic.get_put_ne _ _ _ _ (.inl (by omega))
theorem Asic.event_umpsel (a : Asic) (f : Fld) (h : (f.addr < 0x22000 ∨ 0x22200 ≤ f.addr ∨ 4 ≤ (f.addr + 44) % 64)) : (a.event f).get g = a.get g := Asic.get_event_ne _ _ _ (.inl (by omega)) (.inl (by dsimp only; omega))
theorem Asic.put2_umpsel (a : Asic) (f f' : Fld) (n : Nat) (h : (f.addr < 0x22000 ∨ 0x22200 ≤ f.addr ∨ 4 ≤ (f.addr + 44) % 64)) (h' : (f'.addr < 0x22000 ∨ 0x22200 ≤ f'.addr ∨ 4 ≤ (f'.addr + 44) % 64)) : (a.put2 f f' n).get g = a.get g := by
  rw [Asic.put2, Asic.get_put_ne _ _ _ _ (.inl (by omega)), Asic.get_put_ne _ _ _ _ (.inl (by omega))]
theorem Asic.put2S_umpsel (a : Asic) (f f' : Fld) (n : Int) (h : (f.addr < 0x22000 ∨ 0x22200 ≤ f.addr ∨ 4 ≤ (f.addr + 44) % 64)) (h' : (f'.addr < 0x22000 ∨ 0x22200 ≤ f'.addr ∨ 4 ≤ (f'.addr + 44) % 64)) : (a.put2S f f' n).get g = a.get g := by
  rw [Asic.put2S, Asic.put2, Asic.get_put_ne _ _ _ _ (.inl (by omega)), Asic.get_put_ne _ _ _ _ (.inl (by omega))]
omit h1 h2
theorem Asic.each_umpsel (a : Asic) (l : List Nat) (f : Asic → Nat → Asic) (h : ∀ x i, (f x i).get g = x.get g) : (a.each l f).get g = a.get g := by
  induction l generalizing a with
  | nil => rfl
  | cons i l ih => exact (ih (f a i)).trans (h a i)
theorem Asic.onlyIf_umpsel (a : Asic) (c : Bool) (f : Asic → Asic) (h : ∀ x, (f x).get g = x.get g) : (a.onlyIf c f).get g = a.get g := by
  unfold Asic.onlyIf
  split
  · exact h a
  · rfl
theorem Asic.ite_umpsel (c : Prop) [Decidable c] (x y : Asic) : (if c then x else y).get g = if c then x.get g else y.get g := apply_ite (fun z => Asic.get z g) _ _ _
theorem Asic.foldl_umpsel {α : Type} (a : Asic) (l : List α) (f : Asic → α → Asic) (h : ∀ x i, (f x i).get g = x.get g) : (l.foldl f a).get g = a.get g := by
  induction l generalizing a with
  | nil => rfl
  | cons i l ih => exact (ih (f a i)).trans (h a i)
include h1 h2


theorem Asic.refreshAnchor_umpsel (a : Asic) : (Asic.refreshAnchor a).get g = a.get g := by
  unfold Asic.refreshAnchor
  simp -implicitDefEqProofs (disch := first | omega | (dsimp only; omega) | (intros; simp -implicitDefEqProofs (disch := first | omega | (dsimp only; omega)) [Asic.put_umpsel g h1 h2, Asic.get_mk, Asic.get_of_regs, Asic.each_umpsel, Asic.ite_umpsel])) [Asic.put_umpsel g h1 h2, Asic.get_mk, Asic.get_of_regs, Asic.each_umpsel, Asic.ite_umpsel]

end Sys2Proof.Machine
end

