-- ==== Sys2Proof/Laws/Idle.lean ====
section
/-! SUPPORT. What reads do to the state, and one idle cycle: the clock, memory, supply and keep-alive block stay but for the
cycle itself. -/

namespace Sys2Proof.Machine

/-- The clock, the keep-alive block, NVM and the supply are as before. -/
def Dev.Reads (d d' : Dev) : Prop := d'.asic.clk = d.asic.clk ∧ d'.kep = d.kep ∧ d'.nvm = d.nvm ∧ d'.sup = d.sup

theorem Dev.Reads.refl (d : Dev) : d.Reads d := ⟨rfl, rfl, rfl, rfl⟩
theorem Dev.Reads.trans {d e f : Dev} (h : d.Reads e) (g : e.Reads f) : d.Reads f :=
  ⟨g.1.trans h.1, g.2.1.trans h.2.1, g.2.2.1.trans h.2.2.1, g.2.2.2.trans h.2.2.2⟩
theorem Dev.onAsic_reads (d : Dev) (f : Asic → Asic) (h : (f d.asic).clk = d.asic.clk) : d.Reads (d.onAsic f) := ⟨h, rfl, rfl, rfl⟩

theorem Asic.repair_clk (a : Asic) (w : Nat) : (a.repair w).clk = a.clk := by
  unfold Asic.repair
  split
  · rfl
  · simp only [Asic.raise_clk, Asic.put_clk, Asic.addSat_clk]
theorem Asic.nvmTouch_clk (a : Asic) (m : Nat) : (a.nvmTouch m).clk = a.clk := rfl
theorem Asic.bufTouch_clk (a : Asic) (m : Nat) : (a.bufTouch m).clk = a.clk := by
  unfold Asic.bufTouch; split <;> rfl
theorem Asic.touch_clk (a : Asic) (m w : Nat) : (a.touch m w).clk = a.clk := by
  unfold Asic.touch
  split
  · split
    · rw [Asic.bufTouch_clk, Asic.nvmTouch_clk]
    · exact Asic.nvmTouch_clk a m
  · rfl
theorem Dev.undefinedData_reads (d : Dev) : d.Reads d.undefinedData.1 := ⟨rfl, rfl, rfl, rfl⟩
theorem Dev.readWord_reads (d : Dev) (o w : Nat) : d.Reads (d.readWord o w).1 := ⟨Asic.repair_clk _ _, rfl, rfl, rfl⟩
theorem Dev.barredRead_reads (d : Dev) (s : Nat) (x : Access) : d.Reads (d.onAsic fun a => a.raiseAccess s x).undefinedData.1 :=
  (d.onAsic_reads _ (Asic.raiseAccess_clk d.asic s x)).trans (Dev.undefinedData_reads _)
theorem Dev.busRead_reads (d : Dev) (m o addr size : Nat) : d.Reads (d.busRead m o addr size).1 := by
  unfold Dev.busRead
  simp only
  split
  · exact d.onAsic_reads _ (Asic.raiseAccess_clk d.asic _ _)
  · split
    · exact d.onAsic_reads _ (Asic.raiseAccess_clk d.asic _ _)
    · rename_i word _
      refine (d.onAsic_reads (fun a => a.touch m word) (Asic.touch_clk d.asic m word)).trans ?_
      generalize (d.onAsic fun a => a.touch m word) = e
      split
      · exact e.barredRead_reads _ _
      · exact e.readWord_reads _ _
    · rename_i word b _
      refine (d.onAsic_reads (fun a => a.touch m word) (Asic.touch_clk d.asic m word)).trans ?_
      generalize (d.onAsic fun a => a.touch m word) = e
      split
      · exact e.barredRead_reads _ _
      · exact e.onAsic_reads _ (Asic.repair_clk e.asic word)
theorem Dev.readRegister_reads (d : Dev) (o addr : Nat) : d.Reads (d.readRegister o addr).1 := d.busRead_reads 0 o addr 2
theorem Dev.objRead_reads (d : Dev) (o i k : Nat) : d.Reads (d.objRead o i k).1 := by
  unfold Dev.objRead
  split
  · exact .refl d
  · exact .refl d
  · split
    · exact .refl d
    · exact d.readRegister_reads _ _
  · split
    · exact .refl d
    · split
      · exact d.readRegister_reads _ _
      · simp only
        split
        · exact d.onAsic_reads _ rfl
        · exact .refl d
theorem Dev.mappedData_reads (l : List Nat) (d : Dev) : d.Reads (Dev.mappedData l d).1 := by
  induction l generalizing d with
  | nil => exact .refl d
  | cons e t ih =>
    unfold Dev.mappedData
    simp only
    refine Dev.Reads.trans ?_ (ih _)
    split
    · exact .refl d
    · have h := d.objRead_reads 0 (e / 65536) (e / 256 % 256)
      generalize d.objRead 0 (e / 65536) (e / 256 % 256) = r at h
      obtain ⟨d', x⟩ := r
      cases x
      · exact h
      · exact h.trans d'.undefinedData_reads
theorem Dev.tpdoSample_reads (d : Dev) (t : Nat) : d.Reads (d.tpdoSample t).1 := (d.onAsic_reads _ rfl).trans (Dev.mappedData_reads _ _)
theorem Dev.tpdoTrigger_reads (d : Dev) (t : Nat) : d.Reads (d.tpdoTrigger t) := by
  unfold Dev.tpdoTrigger
  split
  · exact d.onAsic_reads _ rfl
  · exact (d.tpdoSample_reads t).trans (Dev.onAsic_reads _ _ rfl)
theorem Dev.watchStatus_reads (d : Dev) : d.Reads d.watchStatus := by
  unfold Dev.watchStatus
  split
  · exact .refl d
  · suffices h : ∀ (l : List Nat) (d : Dev), d.Reads (l.foldl (fun d t => if d.asic.tpdoAsync t && d.statusMoved t then d.tpdoTrigger t else d) d) from h _ d
    intro l
    induction l with
    | nil => exact fun d => .refl d
    | cons t l ih =>
      intro d
      refine Dev.Reads.trans ?_ (ih _)
      simp only
      split
      · exact d.tpdoTrigger_reads t
      · exact .refl d

theorem Asic.plsEmit_clk (a : Asic) (p : Nat) (t : Int) : (a.plsEmit p t).clk = a.clk := by
  unfold Asic.plsEmit
  split
  · rfl
  · simp only
    split
    · simp only [Asic.addSat_clk, Asic.event_clk, Asic.send_clk, Asic.modPls_clk]
    · simp only [Asic.send_clk, Asic.modPls_clk]
theorem Asic.plsDue_clk (p n : Nat) (a : Asic) : (Asic.plsDue p n a).clk = a.clk := by
  induction n generalizing a with
  | zero => rfl
  | succ n ih =>
    unfold Asic.plsDue
    split
    · rfl
    · simp only
      split
      · rfl
      · rw [ih, Asic.plsEmit_clk, Asic.modPls_clk]
theorem Asic.tick_clk (a : Asic) : a.tick.clk = a.clk.tick := by
  simp only [Asic.tick, Asic.each, List.foldl, Asic.plsDue_clk, Asic.drain]

/-- One cycle of a module that is awake: its clock ticks; the keep-alive block, NVM and the supply stay. -/
theorem Dev.tick_awake (d : Dev) (h : d.sup.shelf = false) :
    d.tick.asic.clk = d.asic.clk.tick ∧ d.tick.kep = d.kep ∧ d.tick.nvm = d.nvm ∧ d.tick.sup = d.sup := by
  have w := (d.onAsic Asic.tick).watchStatus_reads
  simp only [Dev.tick, h, Bool.false_eq_true, if_false]
  exact ⟨w.1.trans d.asic.tick_clk, w.2⟩

end Sys2Proof.Machine
end

