-- ==== Sys2Proof/WellFormed.lean ====
section
/-! DEFINITION. Which commands the outside can send: the bounds the spec puts on their operands where the types do not. -/

namespace Sys2Proof

/-- Longest frame from its destination address to its last byte before the FCS (R306). -/
def frameMax : Nat := 9212
/-- Bytes of data a command carries. -/
def Instr.payload : Instr → Nat
  | .frameReceived _ f _ _ _ => f.bytes.length
  | .cutThroughFrame _ f _ _ _ => f.bytes.length
  | .spiWriteFrame _ _ _ data => 4 * data.length
  | .pcieMemoryWrite _ _ _ _ _ data => 4 * data.length
  | .sdoExpeditedDownload _ _ data => data.length
  | .sdoSegment _ data _ => data.length
  | .rpdoReceived _ data => data.length
  | _ => 0
/-- A length a CAN FD frame may have (R416). -/
def canLength (n : Nat) : Bool := n ≤ 8 || [12, 16, 20, 24, 32, 48, 64].contains n
/-- The command is one the outside can send. -/
def Instr.wf : Instr → Bool
  | .laneCalTableComputed _ _ _ bounds => bounds.length == 255
  | .tacCalTableComputed _ _ corr => corr.length == 64
  | .tacHandoverTableAccepted _ corr => corr.length == 64
  | .calppsEdge offset => decide (-62 ≤ offset) && decide (offset ≤ 62)
  | .ovenFault _ cause => decide (1 ≤ cause.val)
  | .frameReceived _ f _ _ _ => decide (60 ≤ f.bytes.length) && decide (f.bytes.length ≤ frameMax)
  | .cutThroughFrame _ f _ _ _ => decide (60 ≤ f.bytes.length) && decide (f.bytes.length ≤ frameMax)
  | .ptpScheduledSend _ kind _ => [0, 1, 8, 11].contains kind.val
  | .hkcMessageSend _ kind _ => [9, 2, 3, 10].contains kind.val
  | .heartbeatReceived h => h.scales.length == 4 && h.thetas.length == 8
  | .spiWriteFrame _ count _ data => data.length == count.val + 1
  | .pcieMemoryWrite _ _ dw _ _ data => data.length == (if dw.val = 0 then 1024 else dw.val)
  | .nmtStartRemoteNode node => decide (node.toNat ≤ 127)
  | .nmtStopRemoteNode node => decide (node.toNat ≤ 127)
  | .nmtEnterPreOperational node => decide (node.toNat ≤ 127)
  | .nmtResetNode node => decide (node.toNat ≤ 127)
  | .nmtResetCommunication node => decide (node.toNat ≤ 127)
  | .sdoExpeditedDownload _ _ data => decide (1 ≤ data.length) && decide (data.length ≤ 4)
  | .sdoSegment _ data _ => decide (data.length ≤ 7)
  | .canSyncReceived counter => decide (counter.toNat ≤ 240)
  | .rpdoReceived _ data => canLength data.length
  | .canHeartbeatReceived node => decide (1 ≤ node.toNat)
  | .aliasWrite _ addr _ => decide (0x40000000 ≤ addr.toNat) && decide (addr.toNat < 0x42000000)
  | .tvScrub addr => decide (addr.toNat < 0x110000)
  | .pairLowWordRead _ addr => decide (addr.toNat < 0x110000)
  | .heldPairHighWrite _ addr _ => decide (addr.toNat < 0x110000)
  | .sequenceClearWrite _ addr _ => decide (addr.toNat < 0x110000)
  | _ => true

end Sys2Proof
end

