-- ==== Sys2Proof/Laws/PerInstr.lean ====
section
/-! SUPPORT. Per-command laws: the data a well-formed command carries is bounded. -/

namespace Sys2Proof.Laws.Payload

/-- A well-formed command carries at most a frame of data (R306, R393, R398, R416). -/
def Statement (i : Instr) : Prop := i.wf = true → i.payload ≤ frameMax

theorem vinQualified : Statement (.vinQualified) := fun _ => Nat.zero_le _
theorem ovenStartCheck (oscA : Bool) (oscB : Bool) : Statement (.ovenStartCheck oscA oscB) := fun _ => Nat.zero_le _
theorem bkpllLocked : Statement (.bkpllLocked) := fun _ => Nat.zero_le _
theorem syspllLocked : Statement (.syspllLocked) := fun _ => Nat.zero_le _
theorem configurationLoad : Statement (.configurationLoad) := fun _ => Nat.zero_le _
theorem coldSequenceComplete : Statement (.coldSequenceComplete) := fun _ => Nat.zero_le _
theorem braceEntry (vin : BitVec 16) : Statement (.braceEntry vin) := fun _ => Nat.zero_le _
theorem braceExit (vin : BitVec 16) : Statement (.braceExit vin) := fun _ => Nat.zero_le _
theorem shelfEntry : Statement (.shelfEntry) := fun _ => Nat.zero_le _
theorem keepSecondTick : Statement (.keepSecondTick) := fun _ => Nat.zero_le _
theorem syspllLossOfLock : Statement (.syspllLossOfLock) := fun _ => Nat.zero_le _
theorem syspllRelock : Statement (.syspllRelock) := fun _ => Nat.zero_le _
theorem syspllSwitchBack : Statement (.syspllSwitchBack) := fun _ => Nat.zero_le _
theorem sustainedFallback : Statement (.sustainedFallback) := fun _ => Nat.zero_le _
theorem placementChangeDeferralEnd (fn : Placed) : Statement (.placementChangeDeferralEnd fn) := fun _ => Nat.zero_le _
theorem underlyingModeUpdate : Statement (.underlyingModeUpdate) := fun _ => Nat.zero_le _
theorem anchorConditionMet (c : Fin 8) : Statement (.anchorConditionMet c) := fun _ => Nat.zero_le _
theorem leaveSafe (m : Master) : Statement (.leaveSafe m) := fun _ => Nat.zero_le _
theorem enterFactory (m : Master) : Statement (.enterFactory m) := fun _ => Nat.zero_le _
theorem leaveFactory (m : Master) : Statement (.leaveFactory m) := fun _ => Nat.zero_le _
theorem automaticRecovery : Statement (.automaticRecovery) := fun _ => Nat.zero_le _
theorem fwDataWrite (m : Master) (w : Word) : Statement (.fwDataWrite m w) := fun _ => Nat.zero_le _
theorem fwArm (m : Master) : Statement (.fwArm m) := fun _ => Nat.zero_le _
theorem fwCancel (m : Master) : Statement (.fwCancel m) := fun _ => Nat.zero_le _
theorem fwCheckpointStart : Statement (.fwCheckpointStart) := fun _ => Nat.zero_le _
theorem fwBankSwap : Statement (.fwBankSwap) := fun _ => Nat.zero_le _
theorem fwAlive : Statement (.fwAlive) := fun _ => Nat.zero_le _
theorem fwRevert : Statement (.fwRevert) := fun _ => Nat.zero_le _
theorem refEdge (i : Fin 24) (bin : Fin 256) (target : Fin 256) : Statement (.refEdge i bin target) := fun _ => Nat.zero_le _
theorem presenceWindowEnd (i : Fin 24) : Statement (.presenceWindowEnd i) := fun _ => Nat.zero_le _
theorem laneCalStart (n : Fin 28) : Statement (.laneCalStart n) := fun _ => Nat.zero_le _
theorem laneCalTableComputed (n : Fin 28) (span : BitVec 16) (widest : BitVec 16) (bounds : List Nat) : Statement (.laneCalTableComputed n span widest bounds) := fun _ => Nat.zero_le _
theorem laneTableSwitch (n : Fin 28) : Statement (.laneTableSwitch n) := fun _ => Nat.zero_le _
theorem laneHandoverGo (m : Master) (v : Word) : Statement (.laneHandoverGo m v) := fun _ => Nat.zero_le _
theorem laneHandoverCutover : Statement (.laneHandoverCutover) := fun _ => Nat.zero_le _
theorem tickEnd : Statement (.tickEnd) := fun _ => Nat.zero_le _
theorem freqMonitorWindowEnd (i : Fin 24) : Statement (.freqMonitorWindowEnd i) := fun _ => Nat.zero_le _
theorem calppsEdge (offset : Int) : Statement (.calppsEdge offset) := fun _ => Nat.zero_le _
theorem refConfigWrite (m : Master) (i : Fin 24) (reg : Fin 3) (v : Word) : Statement (.refConfigWrite m i reg v) := fun _ => Nat.zero_le _
theorem phaseRecord (i : Fin 24) : Statement (.phaseRecord i) := fun _ => Nat.zero_le _
theorem umpireEvaluation : Statement (.umpireEvaluation) := fun _ => Nat.zero_le _
theorem switchTakeEffect (c : Fin 8) : Statement (.switchTakeEffect c) := fun _ => Nat.zero_le _
theorem umpDisq (m : Master) (i : Fin 24) : Statement (.umpDisq m i) := fun _ => Nat.zero_le _
theorem umpRequal (m : Master) (i : Fin 24) : Statement (.umpRequal m i) := fun _ => Nat.zero_le _
theorem umpOverrideWrite (m : Master) (c : Fin 8) (v : Word) : Statement (.umpOverrideWrite m c v) := fun _ => Nat.zero_le _
theorem umpRankWrite (m : Master) (c : Fin 8) (k : Fin 3) (v : Word) : Statement (.umpRankWrite m c k v) := fun _ => Nat.zero_le _
theorem umpReeval (m : Master) (c : Fin 8) : Statement (.umpReeval m c) := fun _ => Nat.zero_le _
theorem umpBoclr (m : Master) (c : Fin 8) : Statement (.umpBoclr m c) := fun _ => Nat.zero_le _
theorem boclrApply (c : Fin 8) : Statement (.boclrApply c) := fun _ => Nat.zero_le _
theorem ledgerPass : Statement (.ledgerPass) := fun _ => Nat.zero_le _
theorem snapshotTake (m : Master) : Statement (.snapshotTake m) := fun _ => Nat.zero_le _
theorem ldgRstGo (m : Master) (v : Word) : Statement (.ldgRstGo m v) := fun _ => Nat.zero_le _
theorem dpllUpdate (c : Fin 8) (check : UnitCheck) (same : Bool) : Statement (.dpllUpdate c check same) := fun _ => Nat.zero_le _
theorem dpllEnWrite (m : Master) (c : Fin 8) (v : Word) : Statement (.dpllEnWrite m c v) := fun _ => Nat.zero_le _
theorem dpllForceAuto (m : Master) (c : Fin 8) : Statement (.dpllForceAuto m c) := fun _ => Nat.zero_le _
theorem dpllForceFreerun (m : Master) (c : Fin 8) : Statement (.dpllForceFreerun m c) := fun _ => Nat.zero_le _
theorem dpllForceHoldover (m : Master) (c : Fin 8) : Statement (.dpllForceHoldover m c) := fun _ => Nat.zero_le _
theorem holdoverModelUpdate (c : Fin 8) : Statement (.holdoverModelUpdate c) := fun _ => Nat.zero_le _
theorem historyEntryClose (c : Fin 8) : Statement (.historyEntryClose c) := fun _ => Nat.zero_le _
theorem dplHocfgWrite (m : Master) (c : Fin 8) (reg : Fin 2) (v : Word) : Statement (.dplHocfgWrite m c reg v) := fun _ => Nat.zero_le _
theorem dplLoopWrite (m : Master) (c : Fin 8) (reg : Fin 4) (v : Word) : Statement (.dplLoopWrite m c reg v) := fun _ => Nat.zero_le _
theorem holdoverLimit (c : Fin 8) : Statement (.holdoverLimit c) := fun _ => Nat.zero_le _
theorem dpllTelemetryRecord (c : Fin 8) : Statement (.dpllTelemetryRecord c) := fun _ => Nat.zero_le _
theorem autoMigrationLoad (c : Fin 8) : Statement (.autoMigrationLoad c) := fun _ => Nat.zero_le _
theorem dpllMigrationGo (m : Master) (v : Word) : Statement (.dpllMigrationGo m v) := fun _ => Nat.zero_le _
theorem migrationStart : Statement (.migrationStart) := fun _ => Nat.zero_le _
theorem migrationCutover : Statement (.migrationCutover) := fun _ => Nat.zero_le _
theorem ovenTemperatureSample (o : Fin 2) (inner : BitVec 16) (outer : BitVec 16) (power : BitVec 16) (osc : Bool) : Statement (.ovenTemperatureSample o inner outer power osc) := fun _ => Nat.zero_le _
theorem boardTempSample (t : BitVec 16) : Statement (.boardTempSample t) := fun _ => Nat.zero_le _
theorem ovenModelEvaluate : Statement (.ovenModelEvaluate) := fun _ => Nat.zero_le _
theorem ovenHourlyPoint : Statement (.ovenHourlyPoint) := fun _ => Nat.zero_le _
theorem ovenModelCommit : Statement (.ovenModelCommit) := fun _ => Nat.zero_le _
theorem ovenFault (o : Fin 2) (cause : Fin 5) : Statement (.ovenFault o cause) := fun _ => Nat.zero_le _
theorem ovenFaultClear (o : Fin 2) : Statement (.ovenFaultClear o) := fun _ => Nat.zero_le _
theorem ovenHandoverGo (m : Master) (v : Word) : Statement (.ovenHandoverGo m v) := fun _ => Nat.zero_le _
theorem ovenHandoverSwitch : Statement (.ovenHandoverSwitch) := fun _ => Nat.zero_le _
theorem ovenEmergencyHandover : Statement (.ovenEmergencyHandover) := fun _ => Nat.zero_le _
theorem ovenHandoverSettled : Statement (.ovenHandoverSettled) := fun _ => Nat.zero_le _
theorem bandStepComplete (u : Fin 8) (band : BitVec 9) (miss : Bool) : Statement (.bandStepComplete u band miss) := fun _ => Nat.zero_le _
theorem apllLockDeclared (u : Fin 8) : Statement (.apllLockDeclared u) := fun _ => Nat.zero_le _
theorem apllLossOfLock (u : Fin 8) : Statement (.apllLossOfLock u) := fun _ => Nat.zero_le _
theorem apllRelockStart (u : Fin 8) : Statement (.apllRelockStart u) := fun _ => Nat.zero_le _
theorem substitutionRestart (f : Fin 7) : Statement (.substitutionRestart f) := fun _ => Nat.zero_le _
theorem aplHopGo (m : Master) (v : Word) : Statement (.aplHopGo m v) := fun _ => Nat.zero_le _
theorem hopStart : Statement (.hopStart) := fun _ => Nat.zero_le _
theorem hopOutputRestart (f : Fin 7) : Statement (.hopOutputRestart f) := fun _ => Nat.zero_le _
theorem glideEnd (f : Fin 7) : Statement (.glideEnd f) := fun _ => Nat.zero_le _
theorem hopTableClear (m : Master) : Statement (.hopTableClear m) := fun _ => Nat.zero_le _
theorem apllRelock (m : Master) (mask : BitVec 7) : Statement (.apllRelock m mask) := fun _ => Nat.zero_le _
theorem apllHandoverGo (m : Master) (v : Word) : Statement (.apllHandoverGo m v) := fun _ => Nat.zero_le _
theorem apllTrimMeasurement (diff : BitVec 32) : Statement (.apllTrimMeasurement diff) := fun _ => Nat.zero_le _
theorem apllHandoverSwitch : Statement (.apllHandoverSwitch) := fun _ => Nat.zero_le _
theorem aplSpareWrite (m : Master) (v : Word) : Statement (.aplSpareWrite m v) := fun _ => Nat.zero_le _
theorem outEnableWrite (m : Master) (v : Word) : Statement (.outEnableWrite m v) := fun _ => Nat.zero_le _
theorem dividerSync (o : Fin 24) (stretched : Bool) : Statement (.dividerSync o stretched) := fun _ => Nat.zero_le _
theorem outSyncCommand (m : Master) : Statement (.outSyncCommand m) := fun _ => Nat.zero_le _
theorem syncLEdge : Statement (.syncLEdge) := fun _ => Nat.zero_le _
theorem safeLevelChange (o : Fin 24) : Statement (.safeLevelChange o) := fun _ => Nat.zero_le _
theorem outSkimWrite (m : Master) (o : Fin 24) (v : Word) : Statement (.outSkimWrite m o v) := fun _ => Nat.zero_le _
theorem plsRelayEdge (p : Fin 4) (bin : Fin 256) : Statement (.plsRelayEdge p bin) := fun _ => Nat.zero_le _
theorem plsTrackSlot (p : Fin 4) : Statement (.plsTrackSlot p) := fun _ => Nat.zero_le _
theorem plsPulseEnd (p : Fin 4) : Statement (.plsPulseEnd p) := fun _ => Nat.zero_le _
theorem outputDriverFault (o : Fin 36) (kind : Fin 3) : Statement (.outputDriverFault o kind) := fun _ => Nat.zero_le _
theorem scaleSecondBoundary (k : Fin 4) : Statement (.scaleSecondBoundary k) := fun _ => Nat.zero_le _
theorem tscSnapshot (m : Master) (v : Word) : Statement (.tscSnapshot m v) := fun _ => Nat.zero_le _
theorem tscCancel (m : Master) (k : Fin 4) : Statement (.tscCancel m k) := fun _ => Nat.zero_le _
theorem tscSetnow (m : Master) (k : Fin 4) : Statement (.tscSetnow m k) := fun _ => Nat.zero_le _
theorem tscSetsec (m : Master) (k : Fin 4) : Statement (.tscSetsec m k) := fun _ => Nat.zero_le _
theorem tscStep (m : Master) (k : Fin 4) : Statement (.tscStep m k) := fun _ => Nat.zero_le _
theorem servoSample (k : Fin 4) : Statement (.servoSample k) := fun _ => Nat.zero_le _
theorem servoCoast (k : Fin 4) : Statement (.servoCoast k) := fun _ => Nat.zero_le _
theorem tscSwoffWrite (m : Master) (k : Fin 4) (v : Word) : Statement (.tscSwoffWrite m k v) := fun _ => Nat.zero_le _
theorem trgArm (m : Master) (n : Fin 8) : Statement (.trgArm m n) := fun _ => Nat.zero_le _
theorem trgDisarm (m : Master) (n : Fin 8) : Statement (.trgDisarm m n) := fun _ => Nat.zero_le _
theorem triggerHandover (n : Fin 8) : Statement (.triggerHandover n) := fun _ => Nat.zero_le _
theorem triggerEdge (n : Fin 8) : Statement (.triggerEdge n) := fun _ => Nat.zero_le _
theorem evtEdge (n : Fin 16) (falling : Bool) (ramp : BitVec 18) (sat : Bool) : Statement (.evtEdge n falling ramp sat) := fun _ => Nat.zero_le _
theorem acceptanceWindowClose (n : Fin 16) : Statement (.acceptanceWindowClose n) := fun _ => Nat.zero_le _
theorem egArm (m : Master) (g : Fin 4) : Statement (.egArm m g) := fun _ => Nat.zero_le _
theorem egDisarm (m : Master) (g : Fin 4) : Statement (.egDisarm m g) := fun _ => Nat.zero_le _
theorem gateOpen (g : Fin 4) : Statement (.gateOpen g) := fun _ => Nat.zero_le _
theorem gateClose (g : Fin 4) : Statement (.gateClose g) := fun _ => Nat.zero_le _
theorem measurementComplete (g : Fin 4) : Statement (.measurementComplete g) := fun _ => Nat.zero_le _
theorem measurementTimeout (g : Fin 4) : Statement (.measurementTimeout g) := fun _ => Nat.zero_le _
theorem settleEnd (g : Fin 4) : Statement (.settleEnd g) := fun _ => Nat.zero_le _
theorem egTmoWrite (m : Master) (g : Fin 4) (v : Word) : Statement (.egTmoWrite m g v) := fun _ => Nat.zero_le _
theorem egConfigWrite (m : Master) (g : Fin 4) (reg : Fin 2) (v : Word) : Statement (.egConfigWrite m g reg v) := fun _ => Nat.zero_le _
theorem tacCalStart (t : Fin 34) : Statement (.tacCalStart t) := fun _ => Nat.zero_le _
theorem tacCalTableComputed (t : Fin 34) (lsb : BitVec 16) (corr : List Int) : Statement (.tacCalTableComputed t lsb corr) := fun _ => Nat.zero_le _
theorem tacTableSwitch (t : Fin 34) : Statement (.tacTableSwitch t) := fun _ => Nat.zero_le _
theorem tacHandoverGo (m : Master) (v : Word) : Statement (.tacHandoverGo m v) := fun _ => Nat.zero_le _
theorem tacHandoverTableAccepted (lsb : BitVec 16) (corr : List Int) : Statement (.tacHandoverTableAccepted lsb corr) := fun _ => Nat.zero_le _
theorem tacHandoverCutover : Statement (.tacHandoverCutover) := fun _ => Nat.zero_le _
theorem evtConfigWrite (m : Master) (n : Fin 16) (v : Word) : Statement (.evtConfigWrite m n v) := fun _ => Nat.zero_le _
theorem linkUp (p : Fin 7) : Statement (.linkUp p) := fun _ => Nat.zero_le _
theorem linkDown (p : Fin 7) (hiBer : Bool) (fecLock : Bool) : Statement (.linkDown p hiBer fecLock) := fun _ => Nat.zero_le _
theorem ptpMessageReceived (p : PortNo) (bmca : Bmca) : Statement (.ptpMessageReceived p bmca) := fun _ => Nat.zero_le _
theorem ptpScheduledSend (p : PortNo) (kind : Fin 16) (pos : BitVec 18) : Statement (.ptpScheduledSend p kind pos) := fun _ => Nat.zero_le _
theorem hkcMessageSend (p : PortNo) (kind : Fin 16) (pos : BitVec 18) : Statement (.hkcMessageSend p kind pos) := fun _ => Nat.zero_le _
theorem ptpExchangeComplete (p : PortNo) : Statement (.ptpExchangeComplete p) := fun _ => Nat.zero_le _
theorem ptpGridSample (p : PortNo) : Statement (.ptpGridSample p) := fun _ => Nat.zero_le _
theorem ptpFaultyExit (p : PortNo) : Statement (.ptpFaultyExit p) := fun _ => Nat.zero_le _
theorem announceReceiptTimeout (p : PortNo) : Statement (.announceReceiptTimeout p) := fun _ => Nat.zero_le _
theorem esmcSend (p : PortNo) (pos : BitVec 18) : Statement (.esmcSend p pos) := fun _ => Nat.zero_le _
theorem esmcPduReceived (p : PortNo) (ssm : Fin 16) : Statement (.esmcPduReceived p ssm) := fun _ => Nat.zero_le _
theorem esmcTimeout (p : PortNo) : Statement (.esmcTimeout p) := fun _ => Nat.zero_le _
theorem portConfigWrite (m : Master) (p : PortNo) (v : Word) : Statement (.portConfigWrite m p v) := fun _ => Nat.zero_le _
theorem passApply (pair : Fin 3) : Statement (.passApply pair) := fun _ => Nat.zero_le _
theorem rallyFrameSend (i : Fin 7) (pos : BitVec 18) : Statement (.rallyFrameSend i pos) := fun _ => Nat.zero_le _
theorem rallyFrameReceived (i : Fin 7) (f : RallyFrame) (pos : BitVec 18) : Statement (.rallyFrameReceived i f pos) := fun _ => Nat.zero_le _
theorem rallySample (i : Fin 7) (edges : BitVec 32) (phi : BitVec 64) (psi : BitVec 64) : Statement (.rallySample i edges phi psi) := fun _ => Nat.zero_le _
theorem rallyPartnerTimeout (i : Fin 7) : Statement (.rallyPartnerTimeout i) := fun _ => Nat.zero_le _
theorem rallyAcalGo (m : Master) (i : Fin 7) (v : Word) : Statement (.rallyAcalGo m i v) := fun _ => Nat.zero_le _
theorem rallyAcalEnd (i : Fin 7) : Statement (.rallyAcalEnd i) := fun _ => Nat.zero_le _
theorem heartbeatSend : Statement (.heartbeatSend) := fun _ => Nat.zero_le _
theorem heartbeatReceived (h : Heartbeat) : Statement (.heartbeatReceived h) := fun _ => Nat.zero_le _
theorem mateReady : Statement (.mateReady) := fun _ => Nat.zero_le _
theorem heartbeatLoss : Statement (.heartbeatLoss) := fun _ => Nat.zero_le _
theorem mateRelinquish (m : Master) : Statement (.mateRelinquish m) := fun _ => Nat.zero_le _
theorem mateTake (m : Master) : Statement (.mateTake m) := fun _ => Nat.zero_le _
theorem matePlannedHandover : Statement (.matePlannedHandover) := fun _ => Nat.zero_le _
theorem sealLoopOpen : Statement (.sealLoopOpen) := fun _ => Nat.zero_le _
theorem sealLoopClose : Statement (.sealLoopClose) := fun _ => Nat.zero_le _
theorem impArm (m : Master) (p : PortNo) : Statement (.impArm m p) := fun _ => Nat.zero_le _
theorem impDisarm (m : Master) (p : PortNo) : Statement (.impDisarm m p) := fun _ => Nat.zero_le _
theorem impDurationEnd (p : PortNo) : Statement (.impDurationEnd p) := fun _ => Nat.zero_le _
theorem reorderRelease (p : PortNo) (egress : Bool) (pos : BitVec 18) : Statement (.reorderRelease p egress pos) := fun _ => Nat.zero_le _
theorem recordGrant (stuck : Bool) : Statement (.recordGrant stuck) := fun _ => Nat.zero_le _
theorem starvation (q : Fin 16) : Statement (.starvation q) := fun _ => Nat.zero_le _
theorem holdLimit (q : Fin 16) : Statement (.holdLimit q) := fun _ => Nat.zero_le _
theorem holdWatchdog (q : Fin 16) : Statement (.holdWatchdog q) := fun _ => Nat.zero_le _
theorem recUnmask (m : Master) (slots : BitVec 16) : Statement (.recUnmask m slots) := fun _ => Nat.zero_le _
theorem recCounterClear (m : Master) (slots : BitVec 16) : Statement (.recCounterClear m slots) := fun _ => Nat.zero_le _
theorem dmaBurst : Statement (.dmaBurst) := fun _ => Nat.zero_le _
theorem dmaFlushTimer (c : Fin 8) : Statement (.dmaFlushTimer c) := fun _ => Nat.zero_le _
theorem dmaFlush (m : Master) (c : Fin 8) : Statement (.dmaFlush m c) := fun _ => Nat.zero_le _
theorem dmaTailWrite (m : Master) (c : Fin 8) (v : Word) : Statement (.dmaTailWrite m c v) := fun _ => Nat.zero_le _
theorem descriptorComplete (c : Fin 8) : Statement (.descriptorComplete c) := fun _ => Nat.zero_le _
theorem burstAcknowledged (c : Fin 8) : Statement (.burstAcknowledged c) := fun _ => Nat.zero_le _
theorem dmaResume (m : Master) (c : Fin 8) : Statement (.dmaResume m c) := fun _ => Nat.zero_le _
theorem dmaDiscard (m : Master) (c : Fin 8) : Statement (.dmaDiscard m c) := fun _ => Nat.zero_le _
theorem dmaEnableWrite (m : Master) (c : Fin 8) (v : Word) : Statement (.dmaEnableWrite m c v) := fun _ => Nat.zero_le _
theorem hkcDescriptorPost (c : Fin 8) (w0 : Word) (w1 : Word) (w2 : Word) : Statement (.hkcDescriptorPost c w0 w1 w2) := fun _ => Nat.zero_le _
theorem registerWrite (m : Master) (addr : BitVec 32) (size : Fin 4) (v : Word) : Statement (.registerWrite m addr size v) := fun _ => Nat.zero_le _
theorem pairLowWordRead (m : Master) (addr : BitVec 32) : Statement (.pairLowWordRead m addr) := fun _ => Nat.zero_le _
theorem heldPairHighWrite (m : Master) (addr : BitVec 32) (v : Word) : Statement (.heldPairHighWrite m addr v) := fun _ => Nat.zero_le _
theorem tscFracRead (m : Master) (k : Fin 4) : Statement (.tscFracRead m k) := fun _ => Nat.zero_le _
theorem keyWrite (m : Master) (v : Word) : Statement (.keyWrite m v) := fun _ => Nat.zero_le _
theorem keyTimeout : Statement (.keyTimeout) := fun _ => Nat.zero_le _
theorem sequenceClearWrite (m : Master) (addr : BitVec 32) (v : Word) : Statement (.sequenceClearWrite m addr v) := fun _ => Nat.zero_le _
theorem aliasWrite (m : Master) (addr : BitVec 32) (v : Word) : Statement (.aliasWrite m addr v) := fun _ => Nat.zero_le _
theorem tvScrub (addr : BitVec 32) : Statement (.tvScrub addr) := fun _ => Nat.zero_le _
theorem blockLockWrite (m : Master) (v : Word) : Statement (.blockLockWrite m v) := fun _ => Nat.zero_le _
theorem spiReadFrame (size : Fin 4) (count : Fin 32) (addr : BitVec 32) : Statement (.spiReadFrame size count addr) := fun _ => Nat.zero_le _
theorem spiReset : Statement (.spiReset) := fun _ => Nat.zero_le _
theorem spiFrameEnd : Statement (.spiFrameEnd) := fun _ => Nat.zero_le _
theorem pcieMemoryRead (bar2 : Bool) (offset : BitVec 25) (dw : Fin 1024) (first : BitVec 4) (last : BitVec 4) : Statement (.pcieMemoryRead bar2 offset dw first last) := fun _ => Nat.zero_le _
theorem pcieReset : Statement (.pcieReset) := fun _ => Nat.zero_le _
theorem txnReq (m : Master) : Statement (.txnReq m) := fun _ => Nat.zero_le _
theorem txnRenew (m : Master) : Statement (.txnRenew m) := fun _ => Nat.zero_le _
theorem txnCommit (m : Master) : Statement (.txnCommit m) := fun _ => Nat.zero_le _
theorem txnCheckComplete : Statement (.txnCheckComplete) := fun _ => Nat.zero_le _
theorem txnRelease (m : Master) : Statement (.txnRelease m) := fun _ => Nat.zero_le _
theorem txnLeaseExpiry : Statement (.txnLeaseExpiry) := fun _ => Nat.zero_le _
theorem nmtStartRemoteNode (node : BitVec 8) : Statement (.nmtStartRemoteNode node) := fun _ => Nat.zero_le _
theorem nmtStopRemoteNode (node : BitVec 8) : Statement (.nmtStopRemoteNode node) := fun _ => Nat.zero_le _
theorem nmtEnterPreOperational (node : BitVec 8) : Statement (.nmtEnterPreOperational node) := fun _ => Nat.zero_le _
theorem nmtResetNode (node : BitVec 8) : Statement (.nmtResetNode node) := fun _ => Nat.zero_le _
theorem nmtResetCommunication (node : BitVec 8) : Statement (.nmtResetCommunication node) := fun _ => Nat.zero_le _
theorem sdoExpeditedUpload (index : BitVec 16) (sub : BitVec 8) : Statement (.sdoExpeditedUpload index sub) := fun _ => Nat.zero_le _
theorem sdoSegmentedUpload (index : BitVec 16) (sub : BitVec 8) : Statement (.sdoSegmentedUpload index sub) := fun _ => Nat.zero_le _
theorem sdoSegmentedDownload (index : BitVec 16) (sub : BitVec 8) (size : BitVec 32) : Statement (.sdoSegmentedDownload index sub size) := fun _ => Nat.zero_le _
theorem sdoSessionTimeout : Statement (.sdoSessionTimeout) := fun _ => Nat.zero_le _
theorem canSyncReceived (counter : BitVec 8) : Statement (.canSyncReceived counter) := fun _ => Nat.zero_le _
theorem tpdoEventTimer (t : Fin 8) : Statement (.tpdoEventTimer t) := fun _ => Nat.zero_le _
theorem canHeartbeatProduce : Statement (.canHeartbeatProduce) := fun _ => Nat.zero_le _
theorem canHeartbeatReceived (node : BitVec 7) : Statement (.canHeartbeatReceived node) := fun _ => Nat.zero_le _
theorem canHeartbeatConsumerTimeout (e : Fin 2) : Statement (.canHeartbeatConsumerTimeout e) := fun _ => Nat.zero_le _
theorem busOffRecovery : Statement (.busOffRecovery) := fun _ => Nat.zero_le _
theorem errorPassive : Statement (.errorPassive) := fun _ => Nat.zero_le _
theorem authAssertion (pin : Bool) : Statement (.authAssertion pin) := fun _ => Nat.zero_le _
theorem presenceWindowExpiry : Statement (.presenceWindowExpiry) := fun _ => Nat.zero_le _
theorem sealSample (reads : Bool) : Statement (.sealSample reads) := fun _ => Nat.zero_le _
theorem faultSourceAccepted : Statement (.faultSourceAccepted) := fun _ => Nat.zero_le _
theorem faultSourceDeasserted (src : Fin 128) : Statement (.faultSourceDeasserted src) := fun _ => Nat.zero_le _
theorem brokenWire (src : Fin 128) (level : Bool) : Statement (.brokenWire src level) := fun _ => Nat.zero_le _
theorem pairRestored (src : Fin 128) : Statement (.pairRestored src) := fun _ => Nat.zero_le _
theorem faultLRelease : Statement (.faultLRelease) := fun _ => Nat.zero_le _
theorem faultLSoftRelease (m : Master) : Statement (.faultLSoftRelease m) := fun _ => Nat.zero_le _
theorem faultRecordClose : Statement (.faultRecordClose) := fun _ => Nat.zero_le _
theorem recoveryRunReset : Statement (.recoveryRunReset) := fun _ => Nat.zero_le _
theorem fltInject (m : Master) (v : Word) : Statement (.fltInject m v) := fun _ => Nat.zero_le _
theorem fltInjectStop (m : Master) : Statement (.fltInjectStop m) := fun _ => Nat.zero_le _
theorem nvmOpen (m : Master) : Statement (.nvmOpen m) := fun _ => Nat.zero_le _
theorem nvmCommit (m : Master) : Statement (.nvmCommit m) := fun _ => Nat.zero_le _
theorem nvmClose (m : Master) : Statement (.nvmClose m) := fun _ => Nat.zero_le _
theorem nvmUnlock (m : Master) : Statement (.nvmUnlock m) := fun _ => Nat.zero_le _
theorem nvmLock (m : Master) : Statement (.nvmLock m) := fun _ => Nat.zero_le _
theorem nvmSavecfg (m : Master) : Statement (.nvmSavecfg m) := fun _ => Nat.zero_le _
theorem nvmRead (m : Master) : Statement (.nvmRead m) := fun _ => Nat.zero_le _
theorem nvmBufferWrite (m : Master) (w : Word) : Statement (.nvmBufferWrite m w) := fun _ => Nat.zero_le _
theorem nvmBufferTimeout : Statement (.nvmBufferTimeout) := fun _ => Nat.zero_le _
theorem nvmUnlockTimeout (m : Master) : Statement (.nvmUnlockTimeout m) := fun _ => Nat.zero_le _
theorem nvmUnlockLockoutEnd (part : Fin 4) : Statement (.nvmUnlockLockoutEnd part) := fun _ => Nat.zero_le _
theorem nvmSetpw (m : Master) : Statement (.nvmSetpw m) := fun _ => Nat.zero_le _
theorem nvmLogclr (m : Master) : Statement (.nvmLogclr m) := fun _ => Nat.zero_le _
theorem nvmCommitStart : Statement (.nvmCommitStart) := fun _ => Nat.zero_le _
theorem nvmCommitComplete (verified : Bool) : Statement (.nvmCommitComplete verified) := fun _ => Nat.zero_le _
theorem nvmScrub (page : Fin 2048) (ecc : Fin 3) : Statement (.nvmScrub page ecc) := fun _ => Nat.zero_le _
theorem logPageCommit : Statement (.logPageCommit) := fun _ => Nat.zero_le _
theorem hourMeterTick : Statement (.hourMeterTick) := fun _ => Nat.zero_le _
theorem calGo (m : Master) (items : BitVec 8) : Statement (.calGo m items) := fun _ => Nat.zero_le _
theorem fieldStepStart (item : Fin 8) (unit : Fin 64) : Statement (.fieldStepStart item unit) := fun _ => Nat.zero_le _
theorem fieldStepResult (value : BitVec 32) : Statement (.fieldStepResult value) := fun _ => Nat.zero_le _
theorem fieldStepAbandon : Statement (.fieldStepAbandon) := fun _ => Nat.zero_le _
theorem calFreset (m : Master) (items : BitVec 8) : Statement (.calFreset m items) := fun _ => Nat.zero_le _
theorem tjSample (tj : BitVec 16) : Statement (.tjSample tj) := fun _ => Nat.zero_le _
theorem vinComparatorChange (vin : BitVec 16) : Statement (.vinComparatorChange vin) := fun _ => Nat.zero_le _
theorem holdUpStoreExhausted : Statement (.holdUpStoreExhausted) := fun _ => Nat.zero_le _
theorem keepAliveRailLoss : Statement (.keepAliveRailLoss) := fun _ => Nat.zero_le _
theorem vkeepLevelChange (good : Bool) : Statement (.vkeepLevelChange good) := fun _ => Nat.zero_le _
theorem pcieLinkUp : Statement (.pcieLinkUp) := fun _ => Nat.zero_le _
theorem pcieConfigWrite (w : PcieConfig) : Statement (.pcieConfigWrite w) := fun _ => Nat.zero_le _
theorem msixTableWrite (k : Fin 64) (v : Word) : Statement (.msixTableWrite k v) := fun _ => Nat.zero_le _
theorem inhibitTimeExpiry (tpdo : Option (Fin 8)) : Statement (.inhibitTimeExpiry tpdo) := fun _ => Nat.zero_le _
theorem skimTargetReached (o : Fin 24) : Statement (.skimTargetReached o) := fun _ => Nat.zero_le _
theorem calPeriodElapsed : Statement (.calPeriodElapsed) := fun _ => Nat.zero_le _
theorem nvmPageLoadComplete : Statement (.nvmPageLoadComplete) := fun _ => Nat.zero_le _
theorem errorActiveReturn : Statement (.errorActiveReturn) := fun _ => Nat.zero_le _
theorem trgPulseEnd (n : Fin 8) : Statement (.trgPulseEnd n) := fun _ => Nat.zero_le _
theorem frameReceived (p : PortNo) (f : Frame) (pos : BitVec 18) (cor unc : BitVec 16) : Statement (.frameReceived p f pos cor unc) := by
  intro h; simp only [Instr.wf, Bool.and_eq_true, decide_eq_true_eq] at h; exact h.2
theorem cutThroughFrame (p : PortNo) (f : Frame) (pos : BitVec 18) (transit : BitVec 32) (cut : Bool) :
    Statement (.cutThroughFrame p f pos transit cut) := by
  intro h; simp only [Instr.wf, Bool.and_eq_true, decide_eq_true_eq] at h; exact h.2
theorem spiWriteFrame (size : Fin 4) (count : Fin 32) (addr : BitVec 32) (data : List Word) : Statement (.spiWriteFrame size count addr data) := by
  intro h; have := count.isLt; simp only [Instr.wf, beq_iff_eq] at h; simp only [Instr.payload, frameMax]; omega
theorem pcieMemoryWrite (bar2 : Bool) (offset : BitVec 25) (dw : Fin 1024) (first last : BitVec 4) (data : List Word) :
    Statement (.pcieMemoryWrite bar2 offset dw first last data) := by
  intro h; have := dw.isLt; simp only [Instr.wf, beq_iff_eq] at h; simp only [Instr.payload, frameMax]; split at h <;> omega
theorem sdoExpeditedDownload (index : BitVec 16) (sub : BitVec 8) (data : List Byte) : Statement (.sdoExpeditedDownload index sub data) := by
  intro h; simp only [Instr.wf, Bool.and_eq_true, decide_eq_true_eq] at h; simp only [Instr.payload, frameMax]; omega
theorem sdoSegment (toggle : Bool) (data : List Byte) (last : Bool) : Statement (.sdoSegment toggle data last) := by
  intro h; simp only [Instr.wf, decide_eq_true_eq] at h; simp only [Instr.payload, frameMax]; omega
theorem rpdoReceived (r : Fin 4) (data : List Byte) : Statement (.rpdoReceived r data) := by
  intro h
  simp only [Instr.wf, canLength, List.contains_eq_mem, Bool.or_eq_true, decide_eq_true_eq, List.mem_cons, List.not_mem_nil, or_false] at h
  simp only [Instr.payload, frameMax]; omega

end Sys2Proof.Laws.Payload
end

