-- ==== Sys2Proof/Tests/Slice0.lean ====
section
/-! SUPPORT. The row's own tests: a concrete state and operands that meet the hypotheses of each statement, clause by
clause; ill-formed commands that `Instr.wf` refuses; and small runs whose expected results are the spec's. -/

open Sys2Proof Sys2Proof.Machine

/-- The machine right after reset with its module changed. -/
def tDev (f : Dev → Dev) : State := { State.reset with dev := f State.reset.dev }
/-- The machine right after reset with its ASIC changed. -/
def tp (f : Asic → Asic) : State := tDev fun d => { d with asic := f d.asic }
/-- The machine right after reset in SHELF, with its module changed. -/
def tShelf (f : Dev → Dev) : State := tDev fun d => f { d with sup := { d.sup with shelf := true } }
/-- The key lock is open for master M0. -/
def keyed (a : Asic) : Asic := a.put Reg.GLB_KEYST.UNLOCKED 1
/-- The model's time. -/
def clocked (n : Nat) (a : Asic) : Asic := { a with clk := { a.clk with now := n, coarse := n } }

/-- Both premises about the bus can be met: a free bus right after reset, and an open key. -/
theorem witness_bus : State.reset.dev.freeFor 0 = true ∧ (tp keyed).dev.keyFor 0 = true ∧ (tp keyed).dev.sup.shelf = false := by decide

theorem witness_StepRunsFront : ({ State.reset with pending := [.keepSecondTick] } : State).pending = .keepSecondTick :: [] := by decide

/-- A queue that is empty, in and out of SHELF, and in a fallback. -/
theorem witness_IdleStep :
    (State.reset.pending = [] ∧ State.reset.dev.sup.shelf = false ∧ State.reset.dev.asic.clk.coarseOn = true ∧ State.reset.dev.asic.clk.sysLocked = true) ∧
    (let s := tShelf id; s.pending = [] ∧ s.dev.sup.shelf = true) ∧
    (let s := tp fun a => { a with clk := { a.clk with now := 24, sysLocked := false, lossAt := some 0 } }
     s.pending = [] ∧ s.dev.sup.shelf = false ∧ s.dev.asic.clk.coarseOn = true ∧ s.dev.asic.clk.sysLocked = false ∧
       s.dev.asic.clk.lossAt = some 0 ∧ (s.dev.asic.clk.now + 1 - 0) % 25 = 0) := by decide

/-- A step from a sound state: one more second of the keep-alive block. -/
theorem witness_SealHistorySound :
    (tShelf id).dev.kep.sealSound ∧ ∃ t, step { (tShelf id) with pending := [.keepSecondTick] } = .next t := by
  refine ⟨by unfold Kep.sealSound; decide, _, rfl⟩

theorem witness_SealCountNeverFalls :
    Instr.sealSample true ≠ .keepAliveRailLoss ∧ (∃ t, exec (.sealSample true) State.reset = .next t) ∧
      (tDev fun d => { d with kep := { d.kep with broken := true } }).dev.kep.broken = true := by
  refine ⟨by decide, ⟨_, rfl⟩, by decide⟩

theorem witness_ShelfStandsStill :
    let s := { (tShelf id) with pending := [.umpireEvaluation] }
    s.pending = .umpireEvaluation :: [] ∧ s.dev.sup.shelf = true ∧ shelfCommand .umpireEvaluation = false := by decide

/-- Both gates are passed somewhere: out of SHELF after 10 ms of good supply, and into it 2 µs after a reset-level fall. -/
theorem witness_ShelfGates :
    (let s := tShelf fun d => { d with sup := { d.sup with goodAt := some 0 }, asic := clocked (10 * msec) d.asic }
     ∃ t, exec .vinQualified s = .next t ∧ s.dev.sup.shelf ≠ t.dev.sup.shelf) ∧
    (let s := tDev fun d => { d with sup := { d.sup with reset := true, resetAt := 0 }, asic := clocked (2 * usec) d.asic }
     ∃ t, exec .shelfEntry s = .next t ∧ s.dev.sup.shelf ≠ t.dev.sup.shelf) := by
  refine ⟨⟨_, rfl, by decide⟩, ⟨_, rfl, by decide⟩⟩

/-- COLD with nothing of the bring-up done. -/
def tCold (f : Asic → Asic) : State := tp fun a => f { a with
  clk := { a.clk with bkAt := none, bkLocked := false, sysLocked := false, coarseOn := false },
  modes := { a.modes with coldOn := true, t0 := 0, loaded := false, loadFailed := false } }

theorem witness_BringUp :
    (let s := tShelf fun d => { d with sup := { d.sup with goodAt := some 0 }, asic := clocked (10 * msec) d.asic }
     s.dev.sup.shelf = true ∧ s.dev.sup.goodAt = some 0 ∧ 0 + 10 * msec ≤ s.dev.asic.clk.now) ∧
    (let s := tCold (clocked (20 * msec))
     s.dev.sup.shelf = false ∧ s.dev.asic.modes.coldOn = true ∧ s.dev.asic.clk.bkAt = none ∧ s.dev.asic.modes.t0 + 20 * msec ≤ s.dev.asic.clk.now) ∧
    (let s := tCold (clocked (200 * msec))
     s.dev.sup.shelf = false ∧ s.dev.asic.modes.coldOn = true ∧ s.dev.asic.clk.bkAt = none ∧ s.dev.asic.modes.t0 + 200 * msec ≤ s.dev.asic.clk.now) ∧
    (let s := tCold fun a => { a with clk := { a.clk with bkAt := some 0 } }
     s.dev.sup.shelf = false ∧ s.dev.asic.modes.coldOn = true ∧ s.dev.asic.clk.bkAt.isSome = true) ∧
    (let s := tCold fun a => { a with clk := { a.clk with bkAt := some 0, bkLocked := true } }
     s.dev.sup.shelf = false ∧ s.dev.asic.modes.coldOn = true ∧ s.dev.asic.clk.bkLocked = true ∧ s.dev.asic.fallback = false) ∧
    (let s := tCold fun a => { a with clk := { a.clk with bkAt := some 0, bkLocked := true, sysLocked := true } }
     s.dev.sup.shelf = false ∧ s.dev.asic.modes.coldOn = true ∧ s.dev.asic.clk.bkLocked = true ∧ s.dev.asic.clk.sysLocked = true ∧
       s.dev.asic.modes.loaded = false ∧ s.dev.asic.modes.loadFailed = false) := by decide

theorem witness_ColdEnds :
    (let s := tCold fun a => { a with modes := { a.modes with loadFailed := true } }
     s.dev.sup.shelf = false ∧ s.dev.asic.modes.coldOn = true ∧ s.dev.asic.modes.loadFailed = true ∧ s.dev.asic.fallback = false ∧
       s.dev.asic.mode ≠ 6 ∧ s.dev.asic.flag Reg.RLY_MATECFG.EN = false) ∧
    (let s := tCold fun a => clocked (4000 * msec) { a.put Reg.GLB_MODE.FALLBACK 1 with modes := { a.modes with loaded := true } }
     s.dev.sup.shelf = false ∧ s.dev.asic.modes.coldOn = true ∧ s.dev.asic.modes.loaded = true ∧ s.dev.asic.fallback = true ∧
       s.dev.asic.modes.t0 + 4000 * msec ≤ s.dev.asic.clk.now) := by decide

theorem witness_SupplyEvents :
    (let s := tDev fun d => { d with sup := { d.sup with warning := true, warningAt := 0 }, asic := clocked usec d.asic }
     s.dev.sup.shelf = false ∧ s.dev.asic.brace = false ∧ s.dev.sup.warning = true ∧ s.dev.sup.warningAt + usec ≤ s.dev.asic.clk.now) ∧
    (let s := tDev fun d => { d with sup := { d.sup with warning := false, goodAt := some 0 }, asic := clocked (10 * msec) (d.asic.put Reg.GLB_MODE.BRACE 1) }
     s.dev.sup.shelf = false ∧ s.dev.asic.brace = true ∧ s.dev.sup.warning = false ∧ s.dev.sup.goodAt = some 0 ∧ 0 + 10 * msec ≤ s.dev.asic.clk.now) := by
  decide

theorem witness_SupplyEvents_shelf :
    (let s := tDev fun d => { d with sup := { d.sup with reset := true, resetAt := 0 }, asic := clocked (2 * usec) d.asic }
     s.dev.sup.shelf = false ∧ s.dev.sup.reset = true ∧ s.dev.sup.resetAt + 2 * usec ≤ s.dev.asic.clk.now) ∧
    (let s := tShelf fun d => { d with kep := { d.kep with vkeepOk := false }, sup := { d.sup with held := false } }
     s.dev.sup.shelf = true ∧ s.dev.kep.vkeepOk = false ∧ s.dev.sup.held = false) := by decide

theorem witness_SealSamples :
    (let s := tDev fun d => { d with kep := { d.kep with openBefore := true, counted := false, count := 65534 } }
     s.dev.kep.openBefore = true ∧ s.dev.kep.counted = false ∧ s.dev.kep.count < 65535) ∧
    (let s := tDev fun d => { d with kep := { d.kep with openBefore := true, counted := false, count := 0 } }
     s.dev.kep.openBefore = true ∧ s.dev.kep.counted = false ∧ s.dev.kep.count = 0) ∧
    (let s := tDev fun d => { d with kep := { d.kep with openBefore := false } }
     s.dev.kep.openBefore = false) := by decide

theorem witness_Fallback :
    (State.reset.dev.sup.shelf = false ∧ State.reset.dev.asic.fallback = false ∧ State.reset.dev.asic.clk.sysLocked = true) ∧
    (let s := tp fun a => { (a.put Reg.GLB_MODE.FALLBACK 1).put (Reg.CAL_OVSTS.OSC 0) 1 with clk := { a.clk with relockAt := none } }
     s.dev.sup.shelf = false ∧ s.dev.asic.fallback = true ∧ s.dev.asic.clk.relockAt = none ∧ s.dev.asic.oscOk s.dev.asic.activeOven = true) ∧
    (let s := tp fun a => clocked msec { a.put Reg.GLB_MODE.FALLBACK 1 with clk := { a.clk with relockAt := some 0 } }
     s.dev.asic.fallback = true ∧ s.dev.asic.clk.relockAt = some 0 ∧ 0 + msec ≤ s.dev.asic.clk.now) ∧
    (let s := tp fun a => clocked (10 * second) { a.put Reg.GLB_MODE.FALLBACK 1 with clk := { a.clk with lossAt := some 0, sustained := false } }
     s.dev.asic.fallback = true ∧ s.dev.asic.clk.lossAt = some 0 ∧ s.dev.asic.clk.sustained = false ∧ 0 + 10 * second ≤ s.dev.asic.clk.now) := by decide

/-- Channel 0 has followed a time reference for 10 s. -/
def anchoredAsic (a : Asic) : Asic :=
  clocked (10 * second) { (((((a.put Reg.GLB_MODECFG.ANCHOR 1).put (Reg.DPL_CTL.EN 0) 1).put (Reg.DPL_STATE.STATE 0) 2).put (Reg.UMP_SEL.INDEX 0) 0).put (Reg.UMP_ISTAT.STATE 0) 2) with
    modes := { a.modes with lockedSince := Tab.set [] 0 (some 0) } }
theorem witness_UnderlyingMode :
    (State.reset.dev.sup.shelf = false ∧ State.reset.dev.asic.underlying = State.reset.dev.asic.target) ∧
    (let s := tp fun a => (a.put Reg.GLB_MODE.ADMIT 1).put Reg.GLB_MODE.MODE 6
     s.dev.asic.underlying ≠ s.dev.asic.target ∧ s.dev.asic.mode ≠ s.dev.asic.target) ∧
    (let s := tp fun a => a.put Reg.GLB_MODE.ADMIT 1
     s.dev.asic.underlying ≠ s.dev.asic.target ∧ s.dev.asic.mode = s.dev.asic.target) ∧
    (tp anchoredAsic).dev.asic.anchored 0 = true := by decide

theorem witness_ModeCommands :
    (let s := tp fun a => ((keyed a).put Reg.GLB_MODE.MODE 6).put Reg.RLY_MATEST.ROLE 3
     s.dev.sup.shelf = false ∧ s.dev.asic.flag Reg.RLY_MATECFG.EN = false ∧ s.dev.asic.mateRole = 3 ∧ s.dev.keyFor 0 = true ∧ s.dev.asic.mode = 6 ∧
       s.dev.asic.safeNow = false ∧ s.dev.asic.modes.beforeSafe ≠ 7 ∧ s.dev.asic.modes.coldOn = false ∧
       (∀ r ∈ sourceTable, s.dev.asic.safeSource r.1 = true → s.dev.asic.flag (Reg.FLT_SRCST.ACTIVE r.1) = false) ∧ s.dev.asic.target ≤ 4) ∧
    (let s := tp fun a => { (keyed a).put Reg.RLY_MATEST.ROLE 3 with can := { a.can with window := some 1 } }
     s.dev.asic.mateRole = 3 ∧ s.dev.keyFor 0 = true ∧ 2 ≤ s.dev.asic.mode ∧ s.dev.asic.mode ≤ 4 ∧ s.dev.asic.present' = true) ∧
    (let s := tp fun a => ((keyed a).put Reg.GLB_MODE.MODE 7).put Reg.RLY_MATEST.ROLE 3
     s.dev.asic.mateRole = 3 ∧ s.dev.keyFor 0 = true ∧ s.dev.asic.mode = 7 ∧ s.dev.asic.target ≤ 4) ∧
    (let s := tp fun a => clocked (10000 * msec) { ((a.put Reg.GLB_MODE.MODE 6).put Reg.FLT_RECOV.EN 1).put Reg.RLY_MATEST.ROLE 3 with flt := { a.flt with fstate := true, quietSince := 0 } }
     s.dev.asic.mateRole = 3 ∧ s.dev.asic.recoveryDue = true ∧ s.dev.asic.modes.beforeSafe ≠ 7 ∧ s.dev.asic.modes.coldOn = false ∧ s.dev.asic.target ≤ 4) := by decide

theorem witness_FirmwareSwap :
    (let s := tp fun a => { keyed a with can := { a.can with window := some 1 } }
     s.dev.freeFor 0 = true ∧ s.dev.keyFor 0 = true ∧ s.dev.asic.flag Reg.GLB_FWCTL.PEND = false ∧ s.dev.asic.present' = true) ∧
    (let s := tp fun a => { (keyed a).put Reg.GLB_FWCTL.PEND 1 with fw := { a.fw with boundary := none } }
     s.dev.keyFor 0 = true ∧ s.dev.asic.flag Reg.GLB_FWCTL.PEND = true ∧ s.dev.asic.fw.boundary = none) ∧
    (let s := tp fun a => clocked (950 * msec) { a with fw := { a.fw with armedAt := some 0, boundary := none } }
     s.dev.sup.shelf = false ∧ s.dev.asic.fw.armedAt = some 0 ∧ s.dev.asic.fw.boundary = none ∧ s.dev.asic.swapAllowed = true ∧
       900000000 ≤ nsOf s.dev.asic.ts0 ∧ 0 + 100 * msec ≤ s.dev.asic.nextSecond) ∧
    (let s := tp fun a => clocked 5 { a with fw := { a.fw with boundary := some 5 } }
     s.dev.asic.fw.boundary = some 5 ∧ 5 ≤ s.dev.asic.clk.now ∧ s.dev.asic.swapAllowed = true) ∧
    (let s := tp fun a => clocked (2 * second) { a with fw := { a.fw with swappedAt := some 0 } }
     s.dev.sup.shelf = false ∧ s.dev.asic.fw.swappedAt = some 0 ∧ 0 + 2 * second ≤ s.dev.asic.clk.now ∧ s.dev.asic.can.rx = []) := by decide

theorem witness_PresenceWindow :
    (State.reset.dev.sup.shelf = false ∧ State.reset.dev.asic.modes.coldOn = false) ∧
    (let s := tp fun a => clocked 5 { a with can := { a.can with window := some 5 } }
     s.dev.asic.can.window = some 5 ∧ 5 ≤ s.dev.asic.clk.now) ∧
    (let s := tp fun a => clocked 4 { a with can := { a.can with window := some 5 } }
     s.dev.asic.can.window = some 5 ∧ s.dev.asic.clk.now < 5) := by decide

/-- Reference 0 enabled with its holdoff off. -/
def tRef (f : Asic → Asic) : State := tp fun a => f (((a.put (Reg.REF_CFG.EN 0) 1).put (Reg.REF_CFG.HOLDOFF 0) 0).put (Reg.REF_PLACE.LANE 0) 0)

theorem witness_ReferenceEdge :
    (State.reset.dev.sup.shelf = false ∧ State.reset.dev.asic.refUsable 1 = false) ∧
    (let s := tRef fun a => clocked 124 (((((a.put (Reg.REF_CFG.TYPE 0) 1).put (Reg.REF_PRES.UNIT 0) 2).put (Reg.REF_NOMLO.NOM 0) 2560000).put (Reg.REF_CFG.HOLDOFF 0) 1).modInp 0 fun x => { x with held := some 0 })
     s.dev.asic.ptpMode 0 = false ∧ s.dev.asic.refUsable 0 = true ∧ s.dev.asic.flag (Reg.REF_CFG.TYPE 0) = true ∧ s.dev.asic.get (Reg.REF_CFG.HOLDOFF 0) ≠ 0 ∧
       (s.dev.asic.inp 0).held = some 0 ∧ s.dev.asic.clk.coarse < 0 + 125 * 2 ^ (s.dev.asic.get (Reg.REF_CFG.HOLDOFF 0) - 1)) ∧
    (let s := tRef fun a => a.put (Reg.REF_CFG.PRE 0) 1
     s.dev.asic.ptpMode 0 = false ∧ s.dev.asic.refUsable 0 = true ∧ s.dev.asic.get (Reg.REF_CFG.HOLDOFF 0) = 0 ∧ (s.dev.asic.inp 0).pre + 1 < s.dev.asic.preRatio 0) ∧
    (let s := tRef fun a => clocked 31 (a.modLane 0 fun x => { x with last := some 0 })
     s.dev.asic.ptpMode 0 = false ∧ s.dev.asic.refUsable 0 = true ∧ s.dev.asic.get (Reg.REF_CFG.HOLDOFF 0) = 0 ∧ s.dev.asic.preRatio 0 ≤ (s.dev.asic.inp 0).pre + 1 ∧
       (s.dev.asic.lane (s.dev.asic.laneOf 0)).last = some 0 ∧ s.dev.asic.clk.coarse < 0 + 32) ∧
    (let s := tRef fun a => clocked 32 (a.modLane 0 fun x => { x with last := some 0 })
     s.dev.asic.ptpMode 0 = false ∧ s.dev.asic.refUsable 0 = true ∧ s.dev.asic.get (Reg.REF_CFG.HOLDOFF 0) = 0 ∧ s.dev.asic.preRatio 0 ≤ (s.dev.asic.inp 0).pre + 1 ∧
       (s.dev.asic.lane (s.dev.asic.laneOf 0)).last = some 0 ∧ 0 + 32 ≤ s.dev.asic.clk.coarse) := by decide

theorem witness_ReferenceMonitors :
    (let s := tRef id; s.dev.sup.shelf = false ∧ s.dev.asic.ptpMode 0 = false ∧ s.dev.asic.refUsable 0 = true ∧ (s.dev.asic.inp 0).windowEdge = false) ∧
    (let s := tRef fun a => (a.put (Reg.REF_PRES.REGAIN 0) 255).modInp 0 fun x => { x with windowEdge := true, good := 254 }
     s.dev.asic.refUsable 0 = true ∧ (s.dev.asic.inp 0).windowEdge = true ∧ (s.dev.asic.inp 0).good < 255 ∧ s.dev.asic.present 0 = false ∧
       (s.dev.asic.inp 0).gated = false ∧ s.dev.asic.get (Reg.REF_PRES.REGAIN 0) ≤ (s.dev.asic.inp 0).good + 1) ∧
    (let s := tRef fun a => a.modInp 0 fun x => { x with tickN := 1 }
     (s.dev.asic.inp 0).tickN ≠ 0) ∧
    (let s := tRef fun a => a.modInp 0 fun x => { x with fStart := some ⟨0, 0, 1, 0⟩, last := some ⟨1, 5, 1, 0⟩, run := 0 }
     s.dev.asic.refUsable 0 = true ∧ (s.dev.asic.inp 0).fStart = some ⟨0, 0, 1, 0⟩ ∧ (s.dev.asic.inp 0).last = some ⟨1, 5, 1, 0⟩ ∧ (s.dev.asic.inp 0).run = 0 ∧
       s.dev.asic.fallbackIn 0 1 = false) := by decide

theorem witness_ReferenceRecords :
    (State.reset.dev.freeFor 0 = true ∧ (21 : Fin 24).val ≠ 22) ∧
    (let s := tRef fun a => (a.put (Reg.REF_REC.INT 0) 5).modInp 0 fun x => { x with recN := 1 }
     s.dev.sup.shelf = false ∧ s.dev.asic.refUsable 0 = true ∧ s.dev.asic.get (Reg.REF_REC.INT 0) ≠ 0 ∧ s.dev.asic.get (Reg.REF_REC.INT 0) < 6 ∧
       (s.dev.asic.inp 0).recN ≠ 0) ∧
    (let s := tRef fun a => (((a.put (Reg.REF_REC.INT 0) 1).modInp 0 fun x => { x with recN := 1 }).put Reg.REC_EN.SLOTS 1).put (Reg.DMA_CHBUF.SIZE 0) 1
     s.dev.asic.refUsable 0 = true ∧ (s.dev.asic.inp 0).recN ≠ 0 ∧ s.dev.asic.fallback = false ∧ s.dev.asic.deferred = [] ∧
       hasBit (s.dev.asic.get Reg.REC_EN.SLOTS) 0 = true ∧ s.dev.asic.regionFull (s.dev.asic.get (Reg.REC_SLOTCFG.CH 0)) = false) := by decide

theorem witness_Lanes :
    (let s := tp fun a => a.put Reg.REF_TCAL.EN 1; s.dev.sup.shelf = false ∧ s.dev.asic.flag Reg.REF_TCAL.EN = true ∧ s.dev.asic.calAllowed = true) ∧
    (let s := tp fun a => a.modLane 27 fun x => { x with collecting := true }; (s.dev.asic.lane 27).collecting = true ∧ s.dev.asic.calAllowed = true) ∧
    (let s := tp fun a => a.modLane 27 fun x => { x with accepted := some (1, 2, []) }; (s.dev.asic.lane 27).accepted = some (1, 2, [])) ∧
    (let h : LaneHo := { idx := 0, old := 0, new := 27, start := 0, overlap := 5, diff := 3, edges := 16, soft := true }
     let s := tp fun a => clocked 5 { a with ref := { a.ref with ho := some h, wait := [] } }
     s.dev.asic.ref.ho = some h ∧ s.dev.asic.fallback = false ∧ h.start + h.overlap ≤ s.dev.asic.clk.coarse ∧ 16 ≤ h.edges ∧ h.idx < 24 ∧ h.new < 28 ∧ h.old < 28 ∧
       s.dev.asic.ref.wait = []) ∧
    (let s := tp fun a => { a with deferred := [.lane 0 27 1 true] }
     s.dev.asic.deferred = [.lane 0 27 1 true] ∧ s.dev.asic.laneHoWaits 0 = false ∧ (23 : Fin 24).val ≠ 22) ∧
    (let s := tp keyed
     let v : Word := BitVec.ofNat 32 (23 * 2 ^ Reg.REF_LANEHO.FUNC.lsb + 24 * 2 ^ Reg.REF_LANEHO.LANE.lsb + 3 * 2 ^ Reg.REF_LANEHO.OVL.lsb)
     s.dev.keyFor 0 = true ∧ s.dev.asic.flag Reg.REF_HOSTAT.BUSY = false ∧ wordBits v Reg.REF_LANEHO.FUNC.lsb Reg.REF_LANEHO.FUNC.width < 24 ∧
       wordBits v Reg.REF_LANEHO.OVL.lsb Reg.REF_LANEHO.OVL.width ≤ 3 ∧ s.dev.asic.laneFree (wordBits v Reg.REF_LANEHO.LANE.lsb Reg.REF_LANEHO.LANE.width) = true ∧
       s.dev.asic.laneHoWaits (wordBits v Reg.REF_LANEHO.FUNC.lsb Reg.REF_LANEHO.FUNC.width) = false) := by decide
theorem witness_LaneHandoverRejections :
    (let s := tp fun a => (keyed a).put Reg.REF_HOSTAT.BUSY 1; s.dev.keyFor 0 = true ∧ s.dev.asic.flag Reg.REF_HOSTAT.BUSY = true) ∧
    (let v : Word := BitVec.ofNat 32 (24 * 2 ^ Reg.REF_LANEHO.FUNC.lsb); 23 < wordBits v Reg.REF_LANEHO.FUNC.lsb Reg.REF_LANEHO.FUNC.width) ∧
    (let v : Word := BitVec.ofNat 32 (4 * 2 ^ Reg.REF_LANEHO.OVL.lsb); 3 < wordBits v Reg.REF_LANEHO.OVL.lsb Reg.REF_LANEHO.OVL.width) ∧
    (tp keyed).dev.asic.laneFree 0 = false := by decide
theorem witness_UmpireCommands :
    (let s := tp fun a => (keyed a).put (Reg.UMP_ISTAT.STATE 23) 4; s.dev.keyFor 0 = true ∧ s.dev.asic.qual 23 = 4) ∧
    (let s := tp fun a => (keyed a).put (Reg.UMP_ISTAT.STATE 0) 1; s.dev.keyFor 0 = true ∧ s.dev.asic.qual 0 = 1) ∧
    (let s := tp fun a => ((keyed a).put (Reg.UMP_SEL.INDEX 7) 0).put (Reg.UMP_ISTAT.STATE 23) 3
     let v : Word := 0x37
     s.dev.keyFor 0 = true ∧ wordBits v 0 5 ≤ 23 ∧ wordBits v 0 5 ≠ 22 ∧ s.dev.asic.fallback = false ∧ (s.dev.asic.uc 7).switch = none ∧
       s.dev.asic.flag (Reg.UMP_OVR.EN 7) = false ∧ wordBits v 5 1 = 1 ∧ s.dev.asic.qual (wordBits v 0 5) = 3 ∧ s.dev.asic.sel 7 ≠ 31 ∧
       s.dev.asic.sel 7 ≠ wordBits v 0 5) ∧
    (let s := tp fun a => ((((keyed a).put (Reg.UMP_SEL.INDEX 0) 0).put (Reg.UMP_OVR.EN 0) 1).put (Reg.UMP_OVR.INDEX 0) 1).put (Reg.UMP_ISTAT.STATE 1) 2
     s.dev.keyFor 0 = true ∧ s.dev.asic.fallback = false ∧ (s.dev.asic.uc 0).switch = none ∧ s.dev.asic.flag (Reg.UMP_OVR.EN 0) = true ∧
       s.dev.asic.qual (s.dev.asic.get (Reg.UMP_OVR.INDEX 0)) = 2 ∧ s.dev.asic.sel 0 ≠ 31 ∧ s.dev.asic.sel 0 ≠ s.dev.asic.get (Reg.UMP_OVR.INDEX 0)) ∧
    (let s := tp fun a => a.modUc 7 fun x => { x with boclr := true }; s.dev.sup.shelf = false ∧ (s.dev.asic.uc 7).boclr = true) := by decide

/-- A switch of channel 0 from reference 0 to the forced reference 1, asked for at time 0. -/
def tSwitch (f : Asic → Asic) : State := tp fun a => f (((((a.put (Reg.UMP_SEL.INDEX 0) 0).put (Reg.UMP_OVR.EN 0) 1).put (Reg.UMP_OVR.INDEX 0) 1).put (Reg.UMP_ISTAT.STATE 1) 2).modUc 0
  fun x => { x with switch := some { old := 0, new := 1, t0 := 0, reason := 7 } })
theorem witness_UmpireEvaluation :
    (let s := tp fun a => a.put Reg.GLB_MODE.FALLBACK 1; s.dev.sup.shelf = false ∧ s.dev.asic.fallback = true) ∧
    (State.reset.dev.sup.shelf = false ∧ State.reset.dev.asic.fallback = false ∧ State.reset.dev.asic.ldg.gap = false) := by decide
theorem witness_UmpireCommands_switch :
    (let s := tSwitch fun a => clocked (switchTick 0 + 144) a
     (s.dev.asic.uc 0).switch = some { old := 0, new := 1, t0 := 0, reason := 7 } ∧ s.dev.asic.clk.coarse < switchTick 0 + 145) ∧
    (let s := tSwitch fun a => clocked (switchTick 0 + 145) a
     (s.dev.asic.uc 0).switch = some { old := 0, new := 1, t0 := 0, reason := 7 } ∧ s.dev.asic.fallback = false ∧ switchTick 0 + 145 ≤ s.dev.asic.clk.coarse ∧
       s.dev.asic.targetGood 0 1 = true) := by decide

theorem witness_Ledger :
    (let s := tp (clocked (second - 1)); s.dev.sup.shelf = false ∧ s.dev.asic.clk.coarse < second) ∧
    (let s := tp fun a => clocked second { a.put Reg.LDG_CFG.EN 0 with ldg := { a.ldg with stopped := true } }
     s.dev.asic.fallback = false ∧ second ≤ s.dev.asic.clk.coarse ∧ s.dev.asic.flag Reg.LDG_CFG.EN = false ∧ s.dev.asic.ldg.stopped = true) ∧
    (let s := tp fun a => clocked second { a.put Reg.LDG_CFG.EN 0 with ldg := { a.ldg with stopped := false } }
     s.dev.asic.fallback = false ∧ second ≤ s.dev.asic.clk.coarse ∧ s.dev.asic.flag Reg.LDG_CFG.EN = false ∧ s.dev.asic.ldg.stopped = false) ∧
    (let s := tp fun a => clocked second ((a.put Reg.LDG_CFG.EN 1).put Reg.LDG_SNAPST.PEND 1)
     s.dev.asic.fallback = false ∧ second ≤ s.dev.asic.clk.coarse ∧ s.dev.asic.flag Reg.LDG_CFG.EN = true ∧ s.dev.asic.flag Reg.LDG_SNAPST.PEND = true) ∧
    (let s := tp keyed
     let v : Word := BitVec.ofNat 32 (2 ^ Reg.LDG_RST.ALL.lsb)
     s.dev.freeFor 0 = true ∧ s.dev.keyFor 0 = true ∧ wordBits v Reg.LDG_RST.ALL.lsb 1 = 1 ∧ wordBits (23 : Word) Reg.LDG_RST.ALL.lsb 1 = 0 ∧ wordBits (23 : Word) 0 5 ≤ 23) := by decide

theorem witness_LedgerRestartRejections : (tp keyed).dev.keyFor 0 = true ∧ wordBits (24 : Word) Reg.LDG_RST.ALL.lsb 1 = 0 ∧ 23 < wordBits (24 : Word) 0 5 := by decide
theorem witness_ChannelControl :
    (let s := tp keyed; s.dev.keyFor 0 = true ∧ s.dev.freeFor 0 = true ∧ wordBits (0x39 : Word) 1 2 ≠ 2 ∧ wordBits (0 : Word) 0 1 = 0) ∧
    (let s := tp fun a => (((keyed a).put (Reg.DPL_CTL.EN 7) 1).put (Reg.DPL_STATE.STATE 7) 2).modChan 7 fun x => { x with lockedBefore := true }
     s.dev.keyFor 0 = true ∧ (s.dev.asic.chan 7).lockedBefore = true ∧ s.dev.asic.flag (Reg.DPL_CTL.EN 7) = true ∧ s.dev.asic.chanState 7 = 2) ∧
    (let s := tp fun a => (((keyed a).put (Reg.DPL_CTL.EN 0) 1).put (Reg.UMP_SEL.INDEX 0) 0).put (Reg.DPL_STATE.UNIT 0) 0
     s.dev.keyFor 0 = true ∧ s.dev.asic.flag (Reg.DPL_CTL.EN 0) = true ∧ s.dev.asic.sel 0 ≠ 31 ∧ s.dev.asic.get (Reg.DPL_STATE.UNIT 0) ≠ 15 ∧ s.dev.asic.chanState 0 = 0) ∧
    (let s := tp fun a => ((((keyed a).put (Reg.DPL_CTL.EN 0) 1).put (Reg.UMP_SEL.INDEX 0) 0).put (Reg.DPL_STATE.UNIT 0) 0).put (Reg.DPL_STATE.STATE 0) 3
     s.dev.keyFor 0 = true ∧ s.dev.asic.flag (Reg.DPL_CTL.EN 0) = true ∧ s.dev.asic.sel 0 ≠ 31 ∧ s.dev.asic.get (Reg.DPL_STATE.UNIT 0) ≠ 15 ∧ s.dev.asic.chanState 0 = 3 ∧
       s.dev.asic.fallback = false ∧ (s.dev.asic.uc 0).switch = none) ∧
    (let s := tp keyed; s.dev.keyFor 0 = true ∧ s.dev.asic.unitFree (wordBits (0x4F : Word) 3 4) = true) := by decide

/-- Channel 0 LOCKED to reference 0, with a sample due. -/
def tLocked (f : Asic → Asic) : State := tp fun a => f (((((a.put (Reg.DPL_STATE.STATE 0) 2).put (Reg.DPL_STATE.UNIT 0) 0).put (Reg.UMP_SEL.INDEX 0) 0).modInp 0
  fun x => { x with last := some ⟨125, 3, 1, 0⟩ }).modChan 0 fun d => { d with lastSample := 0 })
/-- Channel 0 in HOLDOVER. -/
def tHold (f : Asic → Asic) : State := tp fun a => f ((a.put (Reg.DPL_STATE.STATE 0) 3).put (Reg.DPL_STATE.UNIT 0) 0)
def tMig (g : Migration) (n : Nat) : State := tp fun a => clocked n { a.put (Reg.DPL_STATE.UNIT 7) 7 with dpl := { a.dpl with mig := some g, wait := [] } }
theorem witness_ChannelRuns :
    (State.reset.dev.sup.shelf = false ∧ State.reset.dev.asic.updates 0 = false) ∧
    (let s := tLocked id; s.dev.asic.updates 0 = true ∧ s.dev.asic.sampleDue 0 = some ⟨125, 3, 1, 0⟩ ∧ UnitCheck.residue.code ≠ 0 ∧ UnitCheck.ok.code = 0) ∧
    (let s := tLocked fun a => a.put (Reg.DPL_STATE.STATE 0) 1; s.dev.asic.updates 0 = true ∧ s.dev.asic.sampleDue 0 = some ⟨125, 3, 1, 0⟩ ∧ s.dev.asic.chanState 0 = 1) ∧
    (let s := tHold id; s.dev.asic.chanState 0 = 3 ∧ s.dev.asic.fallback = false ∧ s.dev.asic.get (Reg.DPL_STATE.UNIT 0) ≠ 15) ∧
    (let s := tp fun a => a.modChan 0 fun d => { d with open_ := none }; (s.dev.asic.chan 0).open_ = none) ∧
    (let s := tp fun a => clocked (a.hoInterval 0 * second) (a.modChan 0 fun d => { d with open_ := some 0 })
     (s.dev.asic.chan 0).open_ = some 0 ∧ 0 + s.dev.asic.hoInterval 0 * second ≤ s.dev.asic.clk.coarse) ∧
    (let s := tHold fun a => (a.put (Reg.DPL_HOCFG.LIMIT 0) 1).modChan 0 fun d => { d with limitDone := false, hoTime := 3600 * second }
     s.dev.asic.chanState 0 = 3 ∧ s.dev.asic.get (Reg.DPL_HOCFG.LIMIT 0) ≠ 0 ∧ s.dev.asic.fallback = false ∧ (s.dev.asic.chan 0).limitDone = false ∧
       min 8760 (s.dev.asic.get (Reg.DPL_HOCFG.LIMIT 0)) * 3600 ≤ s.dev.asic.hoSeconds 0) ∧
    (let s := tp fun a => (((a.put (Reg.DPL_CTL.REC 0) 5).put Reg.REC_EN.SLOTS 0x1000).put (Reg.DMA_CHBUF.SIZE 0) 1).put (Reg.REC_SLOTCFG.CH 12) 0
     s.dev.asic.get (Reg.DPL_CTL.REC 0) ≠ 0 ∧ s.dev.asic.get (Reg.DPL_CTL.REC 0) < 6 ∧ hasBit (s.dev.asic.get Reg.REC_EN.SLOTS) 12 = true ∧
       s.dev.asic.regionFull (s.dev.asic.get (Reg.REC_SLOTCFG.CH 12)) = false) ∧
    (let s := tp fun a => { a.put (Reg.DPL_STATE.UNIT 7) 7 with dpl := { a.dpl with auto := [7] } }
     s.dev.asic.dpl.auto.contains 7 = true ∧ s.dev.asic.parityFree 2 7 = true ∧ s.dev.asic.get (Reg.DPL_STATE.UNIT 7) ≠ 15 ∧ s.dev.asic.spareUnit = some 8) ∧
    (let s := tp fun a => { (a.put (Reg.DPL_STATE.UNIT 7) 7).put Reg.DPL_UNITS.FREE 0 with dpl := { a.dpl with auto := [7] } }
     s.dev.asic.dpl.auto.contains 7 = true ∧ s.dev.asic.parityFree 2 7 = true ∧ s.dev.asic.get (Reg.DPL_STATE.UNIT 7) ≠ 15 ∧ s.dev.asic.spareUnit = none) ∧
    (let g : Migration := ⟨7, 9, 0, false⟩
     let s := tMig g (tickAfter 125 + 2555)
     s.dev.asic.dpl.mig = some g ∧ g.chan < 8 ∧ g.unit < 15 ∧ s.dev.asic.get (Reg.DPL_STATE.UNIT g.chan) ≠ 15 ∧ g.copied = false ∧
       tickAfter (g.t0 + 125) + 2555 ≤ s.dev.asic.clk.coarse) ∧
    (let g : Migration := ⟨7, 9, 0, true⟩
     let s := tMig g (tickAfter 125 + 200058)
     s.dev.asic.dpl.mig = some g ∧ g.chan < 8 ∧ g.unit < 15 ∧ g.copied = true ∧ tickAfter (g.t0 + 125) + 200058 ≤ s.dev.asic.clk.coarse ∧ s.dev.asic.dpl.wait = []) := by decide

theorem witness_OvenSamples :
    (State.reset.dev.sup.shelf = false ∧ State.reset.dev.asic.ovenWarm 0 = false ∧ 20 < (21 : BitVec 16).toInt.natAbs) ∧
    (let s := tp fun a => a.put (Reg.CAL_OVSTS.WARM 1) 1; s.dev.asic.ovenWarm 1 = true ∧ (200 : BitVec 16).toInt.natAbs ≤ 200) ∧
    (let s := tp fun a => clocked (180 * second) ({ a with modes := { a.modes with t0 := 0 } }.modOven 0 fun x => { x with warmSince := some (60 * second) })
     s.dev.asic.ovenWarm 0 = false ∧ (s.dev.asic.oven 0).warmSince = some (60 * second) ∧ 60 * second + 120 * second ≤ s.dev.asic.clk.now ∧
       s.dev.asic.modes.t0 + 180 * second ≤ s.dev.asic.clk.now ∧ (20 : BitVec 16).toInt.natAbs ≤ 20 ∧ (100 : BitVec 16).toInt.natAbs ≤ 100 ∧ 0 = s.dev.asic.activeOven) ∧
    (let s := tp fun a => a.modOven 1 fun x => { x with pending := some x.use }; (s.dev.asic.oven 1).pending = some (s.dev.asic.oven 1).use) ∧
    (State.reset.dev.asic.oven 0).pending = none ∧
    (let s := tp fun a => clocked (60 * second) ((((a.put (Reg.CAL_OVSTS.FAULT 0) 1).put (Reg.CAL_OVSTS.OSC 0) 1).put Reg.CAL_OVXCHK.XCNT 1).modOven 0
       fun x => { x with causes := 2, lostAt := none, blame := 0, clearSince := 0 })
     s.dev.asic.ovenFaulty 0 = true ∧ hasBit (s.dev.asic.oven 0).causes 1 = true ∧ s.dev.asic.oscOk 0 = true ∧ s.dev.asic.tempLost 0 = false ∧
       (s.dev.asic.oven 0).blame < s.dev.asic.xcnt ∧ (s.dev.asic.oven 0).clearSince + 60 * second ≤ s.dev.asic.clk.now) := by decide

theorem witness_OvenHandover :
    (let s := tp fun a => clocked second { a with ovn := { a.ovn with hoReq := some 0, hoAt := none } }
     s.dev.sup.shelf = false ∧ s.dev.asic.ovn.hoReq = some 0 ∧ s.dev.asic.ovn.hoAt = none ∧ 0 + 100 * msec ≤ s.dev.asic.clk.coarse ∧
       secOf (s.dev.asic.scaleAt 0 ((0 + 100 * msec) * uPerCycle - 1)) < secOf s.dev.asic.ts0 ∧ s.dev.asic.fallback = false ∧ s.dev.asic.parityFree 1 22 = true) ∧
    (let s := tp fun a => { a.put (Reg.CAL_OVSTS.OSC 1) 1 with ovn := { a.ovn with oscLost := true } }
     s.dev.asic.ovn.oscLost = true ∧ s.dev.asic.ovenSpare = true) ∧
    (let s := tp fun a => clocked (200 * usec) { a with ovn := { a.ovn with hoAt := some 0, emerg := true } }
     s.dev.asic.ovn.hoAt = some 0 ∧ 0 + 200 * usec ≤ s.dev.asic.clk.coarse ∧ s.dev.asic.deferred = [] ∧ s.dev.asic.dpl.wait = [] ∧ s.dev.asic.apl.ho = none ∧
       s.dev.asic.ovn.emerg = true) ∧
    (let s := tp fun a => (keyed a).put (Reg.CAL_OVSTS.WARM 1) 1
     s.dev.keyFor 0 = true ∧ s.dev.asic.flag Reg.CAL_OVSTAT.HOBUSY = false ∧ s.dev.asic.ovenWarm s.dev.asic.inactiveOven = true ∧
       s.dev.asic.ovenFaulty s.dev.asic.inactiveOven = false ∧ s.dev.asic.ovenHoBarred = false) ∧
    (let s := tp fun a => ((keyed a).put (Reg.CAL_OVSTS.WARM 1) 1).put Reg.APL_HOPSTAT.BUSY 1
     s.dev.keyFor 0 = true ∧ s.dev.asic.flag Reg.CAL_OVSTAT.HOBUSY = false ∧ s.dev.asic.ovenWarm s.dev.asic.inactiveOven = true ∧ s.dev.asic.ovenHoBarred = true) := by decide

/-- APLL unit 6 changed, at a time. -/
def tApl (n : Nat) (f : AplUnit → AplUnit) : State := tp fun a => clocked n (a.modAu 6 f)
theorem witness_ApllUnits :
    (let s := tApl 46874 fun x => { x with phase := 1, full := false, stepAt := 0 }
     s.dev.sup.shelf = false ∧ s.dev.asic.clk.now < (s.dev.asic.au 6).stepAt + (s.dev.asic.au 6).stepTime) ∧
    (let s := tApl 46875 fun x => { x with phase := 4, full := false, stepAt := 0, retries := 0 }
     (s.dev.asic.au 6).phase = 4 ∧ (s.dev.asic.au 6).stepAt + (s.dev.asic.au 6).stepTime ≤ s.dev.asic.clk.now ∧ bandEnd 6 254 = false ∧ bandEnd 6 255 = true ∧
       (s.dev.asic.au 6).retries < s.dev.asic.get Reg.APL_LOLCFG.RETRY) ∧
    (let s := tApl 46875 fun x => { x with phase := 1, full := false, stepAt := 0, retries := 15 }
     (s.dev.asic.au 6).phase = 1 ∧ (s.dev.asic.au 6).stepAt + (s.dev.asic.au 6).stepTime ≤ s.dev.asic.clk.now ∧ s.dev.asic.get Reg.APL_LOLCFG.RETRY ≤ (s.dev.asic.au 6).retries ∧
       s.dev.asic.fnOf 6 = some 6) ∧
    (let s := tApl 25599 fun x => { x with phase := 2, stepEnd := 0 }; s.dev.asic.clk.now < (s.dev.asic.au 6).stepEnd + lockTime 6) ∧
    (let s := tApl 25600 fun x => { x with phase := 2, stepEnd := 0 }
     (s.dev.asic.au 6).phase = 2 ∧ (s.dev.asic.au 6).stepEnd + lockTime 6 ≤ s.dev.asic.clk.now ∧ 6 ∈ s.dev.asic.slotsOf 6) ∧
    (let s := tApl 0 fun x => { x with phase := 5, relockAt := none }
     (s.dev.asic.au 6).phase ≠ 2 ∧ (s.dev.asic.au 6).phase ≠ 3 ∧ (s.dev.asic.au 6).relockAt = none) ∧
    (let s := tp fun a => (a.modAu 6 fun x => { x with phase := 3 }).put (Reg.FLT_SRCCFG.BLK 40) 1 |>.put Reg.APL_LOLCFG.AUTOSUB 1
     (s.dev.asic.au 6).phase = 3 ∧ s.dev.asic.carrier 6 = 6 ∧ s.dev.asic.apl.subs = [] ∧ s.dev.asic.aplSubAllowed = true ∧ s.dev.asic.spare7 = true) ∧
    (let s := tp fun a => (a.modAu 6 fun x => { x with phase := 3 }).put Reg.APL_LOLCFG.AUTOSUB 0
     (s.dev.asic.au 6).phase = 3 ∧ s.dev.asic.carrier 6 = 6 ∧ s.dev.asic.apl.subs = [] ∧ s.dev.asic.aplSubAllowed = false) ∧
    (let s := tApl 9 fun x => { x with phase := 4, relockAt := some 10 }; (s.dev.asic.au 6).relockAt = some 10 ∧ s.dev.asic.clk.now < 10) ∧
    (let s := tApl 10 fun x => { x with phase := 4, relockAt := some 10 }; (s.dev.asic.au 6).relockAt = some 10 ∧ 10 ≤ s.dev.asic.clk.now) ∧
    State.reset.dev.asic.apl.subs.find? (fun p => p.1 == 0) = none ∧
    (let s := tp fun a => clocked usec ({ a with apl := { a.apl with subs := [(6, 0)] } }.modAu 7 fun x => { x with phase := 3, lockAt := 0 })
     s.dev.asic.apl.subs.find? (fun p => p.1 == 6) = some (6, 0) ∧ s.dev.asic.lockSettled 7 = true ∧ 0 + usec ≤ s.dev.asic.clk.coarse) := by decide

def hoA (ready started : Bool) (tries : Nat) : AplHo := { fn := 6, target := 7, started, since := 0, tries, ready, step := 0 }
theorem witness_ApllHops :
    (State.reset.dev.sup.shelf = false ∧ State.reset.dev.asic.hopDue = none) ∧
    (let s := tp fun a => { a with apl := { a.apl with hopReq := some (63, none) } }
     s.dev.asic.hopDue = some (63, false) ∧ s.dev.asic.apl.ho = none ∧ s.dev.asic.ovn.hoWait = false) ∧
    (let s := tp fun a => clocked (3 * second) { a with apl := { a.apl with hopReq := some (1, some 1) }, clk := { a.clk with fbk := [(second, second)] } }
     s.dev.asic.hopDue = some (1, true)) ∧
    (let s := tp fun a => { a with apl := { a.apl with hopWait := [6] } }
     s.dev.asic.apl.hopWait.contains 0 = false ∧ s.dev.asic.lockSettled (s.dev.asic.carrier 6) = false) ∧
    (let s := tp fun a => clocked usec ({ a with apl := { a.apl with hopWait := [6] } }.modAu 6 fun x => { x with phase := 3, lockAt := 0 })
     s.dev.asic.apl.hopWait.contains 6 = true ∧ s.dev.asic.lockSettled (s.dev.asic.carrier 6) = true ∧ s.dev.asic.apl.ho = none ∧ s.dev.asic.ovn.hoWait = false) ∧
    State.reset.dev.asic.apl.glides.find? (fun p => p.1 == 0) = none ∧
    (let s := tp fun a => clocked 5 { a with apl := { a.apl with glides := [(6, 5)] } }
     s.dev.asic.apl.glides.find? (fun p => p.1 == 6) = some (6, 5) ∧ 5 ≤ s.dev.asic.clk.coarse ∧ s.dev.asic.apl.ho = none ∧ s.dev.asic.ovn.hoWait = false) ∧
    (let s := tp fun a => clocked (51200 * 7) ({ a with apl := { a.apl with ho := some (hoA false true 6) } }.modAu 7 fun x => { x with phase := 3 })
     s.dev.asic.apl.ho = some (hoA false true 6) ∧ (s.dev.asic.au 7).phase = 3 ∧ 0 + 51200 * (6 + 1) ≤ s.dev.asic.clk.coarse ∧
       (500 : BitVec 32).toInt.natAbs ≤ 500 ∧ 500 < (501 : BitVec 32).toInt.natAbs) ∧
    (let s := tp fun a => clocked (51200 * 8) ({ a with apl := { a.apl with ho := some (hoA false true 7) } }.modAu 7 fun x => { x with phase := 3 })
     s.dev.asic.apl.ho = some (hoA false true 7) ∧ (s.dev.asic.au 7).phase = 3 ∧ 0 + 51200 * (7 + 1) ≤ s.dev.asic.clk.coarse) ∧
    (let s := tp fun a => { a with apl := { a.apl with ho := some (hoA true true 0) } }
     s.dev.asic.apl.ho = some (hoA true true 0) ∧ s.dev.asic.carrier 6 ≠ 7) ∧
    (let s := tp fun a => keyed (clocked 0 (a.put Reg.APL_HOPSEC.SEC 1))
     s.dev.keyFor 0 = true ∧ s.dev.asic.flag Reg.APL_HOPSTAT.BUSY = false ∧ wordBits (63 : Word) 6 1 = 0 ∧ wordBits (127 : Word) 6 1 = 1 ∧
       0 < signed 32 ((s.dev.asic.get Reg.APL_HOPSEC.SEC + 2 ^ 32 - secOf s.dev.asic.ts0 % 2 ^ 32) % 2 ^ 32)) ∧
    (let s := tp keyed
     s.dev.keyFor 0 = true ∧ wordBits (6 : Word) 0 3 < 7 ∧ s.dev.asic.aplTarget (wordBits (6 : Word) 0 3) = some 7 ∧ s.dev.asic.flag Reg.APL_HOSTAT.BUSY = false ∧
       s.dev.asic.free7 = true) ∧
    (let s := tp fun a => { keyed a with apl := { a.apl with ho := some (hoA false true 0) } }
     s.dev.keyFor 0 = true ∧ s.dev.asic.free7 = false) ∧
    (let s := tp fun a => keyed (a.modAu 6 fun x => { x with phase := 5 })
     s.dev.keyFor 0 = true ∧ (64 : BitVec 7).getLsbD 6 = true ∧ (s.dev.asic.au 6).phase = 5) := by decide

/-- Output 0 enabled, its function running and locked. -/
def tOut (f : Asic → Asic) : State := tp fun a => f ({ (a.put Reg.OUT_ENA.CLK 1) with
  apl := { a.apl with running := Tab.setF planWordReset a.apl.running 0 1 } }.modAu 0 fun x => { x with phase := 3, lockAt := 0 })
theorem witness_ClockOutputs :
    (State.reset.dev.freeFor 0 = true ∧ hasBit (State.reset.dev.asic.get Reg.OUT_ENA.CLK) 23 = false ∧ (0xFFFFFF : Word).getLsbD 23 = true ∧
      (State.reset.dev.asic.o 23).syncAt = none ∧ hasBit (State.reset.dev.asic.get Reg.OUT_ENA.CLK) 0 = (0 : Word).getLsbD 0) ∧
    (let s := tp fun a => (a.put Reg.OUT_ENA.CLK 1).put (Reg.OUT_STAT.RUN 0) 1
     s.dev.freeFor 0 = true ∧ hasBit (s.dev.asic.get Reg.OUT_ENA.CLK) 0 = true ∧ (0 : Word).getLsbD 0 = false ∧ s.dev.asic.flag (Reg.OUT_STAT.RUN 0) = true) ∧
    (let s := tp fun a => a.put (Reg.OUT_STAT.RUN 0) 1
     s.dev.asic.flag (Reg.OUT_STAT.RUN 0) = true ∧ s.dev.asic.flag (Reg.OUT_STAT.RUN 1) = false ∧ s.dev.asic.skimNow 0 ≠ signed 32 (5 : Word).toNat ∧
       s.dev.asic.skimNow 1 ≠ signed 32 (5 : Word).toNat) ∧
    (State.reset.dev.sup.shelf = false ∧ (State.reset.dev.asic.o 0).syncAt = none) ∧
    (let s := tOut fun a => clocked 4 (a.modO 0 fun x => { x with syncAt := some 5 }); (s.dev.asic.o 0).syncAt = some 5 ∧ s.dev.asic.clk.coarse < 5) ∧
    (let s := tp fun a => clocked 5 (a.modO 0 fun x => { x with syncAt := some 5 })
     (s.dev.asic.o 0).syncAt = some 5 ∧ 5 ≤ s.dev.asic.clk.coarse ∧ s.dev.asic.outMayRun 0 = false) ∧
    (let s := tOut fun a => clocked 5 (a.modO 0 fun x => { x with syncAt := some 5 })
     (s.dev.asic.o 0).syncAt = some 5 ∧ 5 ≤ s.dev.asic.clk.coarse ∧ s.dev.asic.outMayRun 0 = true) ∧
    (let s := tp fun a => a.modO 0 fun x => { x with pin := .held }; (s.dev.asic.o 0).pin = .held ∧ (s.dev.asic.o 1).pin ≠ .held ∧ (s.dev.asic.o 1).skimFrom = none) ∧
    (let s := tp fun a => a.modO 0 fun x => { x with skimFrom := some (0, 0) }
     (s.dev.asic.o 0).skimFrom ≠ none ∧ s.dev.asic.skimNow 0 = s.dev.asic.getS (Reg.OUT_SKIM.TARGET 0)) ∧
    State.reset.dev.asic.flag Reg.OUT_SYNCCFG.EN = false ∧
    (let s := tp fun a => (a.put Reg.OUT_SYNCCFG.EN 1).put Reg.GLB_MODE.FALLBACK 1; s.dev.asic.flag Reg.OUT_SYNCCFG.EN = true ∧ s.dev.asic.fallback = true) ∧
    (let s := tp fun a => clocked usec { (((a.put Reg.OUT_SYNCCFG.EN 1).put Reg.OUT_SYNCMASK.MASK 1).put (Reg.OUT_STAT.RUN 0) 1).modO 0 fun x => { x with gridSyncL := true } with out := { a.out with syncLAt := some 0, out := Tab.set a.out.out 0 { a.o 0 with gridSyncL := true } } }
     s.dev.asic.flag Reg.OUT_SYNCCFG.EN = true ∧ s.dev.asic.fallback = false ∧ s.dev.asic.out.syncLAt = some 0 ∧ 0 + usec ≤ s.dev.asic.clk.coarse ∧
       s.dev.asic.takesSyncL 0 = true ∧ s.dev.asic.takesSyncL 1 = false) := by decide +kernel

/-- Pulse output 0 in RELAY of a present reference, running. -/
def tPls (f : Asic → Asic) : State := tp fun a => f (((((a.put Reg.OUT_ENA.PLS 1).put (Reg.PLS_WIDTH.NS 0) 8).put (Reg.REF_STAT.PRESENT 0) 1).put (Reg.PLS_CFG.INDEX 0) 0).put (Reg.PLS_CFG.MODE 0) 0)
/-- Pulse output 0 in TRACK. -/
def tTrack (f : Asic → Asic) : State := tPls fun a => f (a.put (Reg.PLS_CFG.MODE 0) 1)
theorem witness_PulseOutputs :
    (State.reset.dev.sup.shelf = false ∧ State.reset.dev.asic.plsRun 0 = false) ∧
    (let s := tPls fun a => a.put (Reg.PLS_FRAME.DIV 0) 2
     s.dev.asic.relay 0 = true ∧ s.dev.asic.plsRun 0 = true ∧ s.dev.asic.present (s.dev.asic.plsIdx 0) = true ∧ (s.dev.asic.pls 0).relayed + 1 < s.dev.asic.plsDiv 0) ∧
    (let s := tPls fun a => (a.put (Reg.PLS_FRAME.DIV 0) 1).modPls 0 fun x => { x with queue := List.replicate 7 ⟨0, 0, 0, 1⟩ }
     s.dev.asic.relay 0 = true ∧ s.dev.asic.plsRun 0 = true ∧ s.dev.asic.present (s.dev.asic.plsIdx 0) = true ∧ s.dev.asic.plsDiv 0 ≤ (s.dev.asic.pls 0).relayed + 1 ∧
       (s.dev.asic.pls 0).lastStart = none ∧ (s.dev.asic.pls 0).queue.length < 8) ∧
    (let s := tTrack id; s.dev.asic.relay 0 = false ∧ s.dev.asic.plsCfgErr 0 = false ∧ (s.dev.asic.inp (s.dev.asic.plsIdx 0)).numbered = false ∧ (s.dev.asic.pls 0).tracking = false) ∧
    (let s := tTrack fun a => a.modInp 0 fun x => { x with numbered := true }
     s.dev.asic.relay 0 = false ∧ s.dev.asic.plsCfgErr 0 = false ∧ (s.dev.asic.inp (s.dev.asic.plsIdx 0)).numbered = true ∧ (s.dev.asic.pls 0).tracking = false) ∧
    (let s := tTrack fun a => a.modPls 0 fun x => { x with tracking := true }
     s.dev.asic.relay 0 = false ∧ s.dev.asic.plsCfgErr 0 = false ∧ (s.dev.asic.inp (s.dev.asic.plsIdx 0)).numbered = false ∧ (s.dev.asic.pls 0).tracking = true) ∧
    (let s := tp fun a => clocked 0 (a.modPls 0 fun x => { x with active := some (0, 1) }); (s.dev.asic.pls 0).active = some (0, 1) ∧ s.dev.asic.nowU < 1) ∧
    (let s := tp fun a => clocked 1 (a.modPls 0 fun x => { x with active := some (0, uPerCycle) }); (s.dev.asic.pls 0).active = some (0, uPerCycle) ∧ (uPerCycle : Int) ≤ s.dev.asic.nowU) := by
  decide +kernel

/-- Scale 3 enabled and locked for the key. -/
def tScale (f : Asic → Asic) : State := tp fun a => f (a.put (Reg.TSC_CFG.EN 3) 1)
theorem witness_TimeScales :
    (let s := tScale fun a => keyed (a.put (Reg.TSC_SETNS.NS 3) 999999999)
     s.dev.keyFor 0 = true ∧ s.dev.freeFor 0 = true ∧ s.dev.asic.flag (Reg.TSC_CFG.EN 3) = true ∧ s.dev.asic.get (Reg.TSC_SETNS.NS 3) < 1000000000) ∧
    ((8 : Word).getLsbD 3 = true ∧ (8 : Word).getLsbD 2 = false) ∧
    (let s := tScale fun a => clocked (second - 1) a
     s.dev.sup.shelf = false ∧ s.dev.asic.flag (Reg.TSC_CFG.EN 3) = true ∧ secOf (s.dev.asic.scaleAt 3 s.dev.asic.nowU) = (s.dev.asic.scale 3).sec) ∧
    (let s := tScale fun a => clocked second a
     s.dev.asic.flag (Reg.TSC_CFG.EN 3) = true ∧ secOf (s.dev.asic.scaleAt 3 s.dev.asic.nowU) ≠ (s.dev.asic.scale 3).sec ∧ s.dev.asic.flag (Reg.TSC_EVT.SETPEND 3) = false ∧
       s.dev.asic.get (Reg.TSC_UTC.LEAP 3) = 0) ∧
    (let s := tScale fun a => clocked second ((a.put (Reg.TSC_UTC.LEAP 3) 1).put (Reg.TSC_LEAPSEC.SEC 3) 0)
     secOf (s.dev.asic.scaleAt 3 s.dev.asic.nowU) ≠ (s.dev.asic.scale 3).sec ∧ s.dev.asic.flag (Reg.TSC_EVT.SETPEND 3) = false ∧ s.dev.asic.get (Reg.TSC_UTC.LEAP 3) = 1 ∧
       (secOf (s.dev.asic.scaleAt 3 s.dev.asic.nowU) + 2 ^ 48 - 1) % 2 ^ 48 % 2 ^ 32 = s.dev.asic.get (Reg.TSC_LEAPSEC.SEC 3)) ∧
    (let s := tScale fun a => clocked second (a.put (Reg.TSC_EVT.SETPEND 3) 1)
     secOf (s.dev.asic.scaleAt 3 s.dev.asic.nowU) ≠ (s.dev.asic.scale 3).sec ∧ s.dev.asic.flag (Reg.TSC_EVT.SETPEND 3) = true ∧ s.dev.asic.get (Reg.TSC_UTC.LEAP 3) = 0) := by
  decide

/-- Scale 3 served by software samples, one of them waiting. -/
def tServo (e : Int) (f : Asic → Asic) : State := tScale fun a => f (({ a with clk := { a.clk with now := 10, coarse := 10 } }.put (Reg.TSC_SRV.SRC 3) 4).setScale 3 { a.scale 3 with samples := [(e, 10, false)] })
theorem witness_Servos :
    (State.reset.dev.freeFor 0 = true ∧ State.reset.dev.asic.get (Reg.TSC_SRV.SRC 3) ≠ 4) ∧
    (let s := tServo 5 id; s.dev.freeFor 0 = true ∧ s.dev.asic.get (Reg.TSC_SRV.SRC 3) = 4) ∧
    (State.reset.dev.sup.shelf = false ∧ State.reset.dev.asic.servoIdle 3 = true) ∧
    (let s := tScale fun a => a.put (Reg.TSC_SRV.SRC 3) 4; s.dev.asic.servoIdle 3 = false ∧ s.dev.asic.servoOffset 3 s.dev.asic.refDelay = none) ∧
    (let s := tServo 5 fun a => a.put Reg.GLB_MODE.FALLBACK 1
     s.dev.asic.servoIdle 3 = false ∧ s.dev.asic.servoOffset 3 s.dev.asic.refDelay = some (5, 10, false) ∧ s.dev.asic.servoDiscards 3 10 false = true) ∧
    (let s := tServo 6 fun a => (a.put (Reg.TSC_SRV.STEPEN 3) 1).put (Reg.TSC_STEPLIM.LIM 3) 5
     s.dev.asic.servoIdle 3 = false ∧ s.dev.asic.servoOffset 3 s.dev.asic.refDelay = some (6, 10, false) ∧ s.dev.asic.servoDiscards 3 10 false = false ∧
       s.dev.asic.flag (Reg.TSC_SRV.STEPEN 3) = true ∧ (s.dev.asic.get (Reg.TSC_STEPLIM.LIM 3) : Int) < (6 : Int).natAbs) ∧
    (let s := tServo 5 fun a => (a.put (Reg.TSC_SRV.STEPEN 3) 1).put (Reg.TSC_STEPLIM.LIM 3) 5
     s.dev.asic.servoIdle 3 = false ∧ s.dev.asic.servoOffset 3 s.dev.asic.refDelay = some (5, 10, false) ∧ s.dev.asic.servoDiscards 3 10 false = false ∧
       ((5 : Int).natAbs : Int) ≤ s.dev.asic.get (Reg.TSC_STEPLIM.LIM 3)) ∧
    (let s := tScale fun a => clocked (second - 1) ((a.put (Reg.TSC_SRVSTAT.STATE 3) 2).put (Reg.TSC_SRVTIM.TIMEOUT 3) 1)
     s.dev.asic.clk.coarse < (s.dev.asic.scale 3).quietFrom + second * max 1 (s.dev.asic.get (Reg.TSC_SRVTIM.TIMEOUT 3))) ∧
    (let s := tScale fun a => clocked second ((a.put (Reg.TSC_SRVSTAT.STATE 3) 2).put (Reg.TSC_SRVTIM.TIMEOUT 3) 1)
     s.dev.asic.get (Reg.TSC_SRVSTAT.STATE 3) = 2 ∧ s.dev.asic.fallback = false ∧
       (s.dev.asic.scale 3).quietFrom + second * max 1 (s.dev.asic.get (Reg.TSC_SRVTIM.TIMEOUT 3)) ≤ s.dev.asic.clk.coarse) := by decide

/-- Trigger 7 on scale 0 with start value `ns`, at time 0. -/
def tTrig (ns : Nat) (f : Asic → Asic) : State := tp fun a => f (clocked 0 ((a.put (Reg.TRG_STNS.NS 7) ns).put (Reg.TRG_CFG.SCALE 7) 0))
theorem witness_Triggers :
    (let s := tTrig 200 id
     s.dev.freeFor 0 = true ∧ s.dev.asic.trigCfgErr 7 = false ∧ (200 * pqPerNs : Int) ≤ -diffPq (s.dev.asic.scaleAt (s.dev.asic.trigScale 7) s.dev.asic.nowU)
       (s.dev.asic.get (Reg.TRG_STSEC.SEC 7) * pqPerSec + s.dev.asic.get (Reg.TRG_STNS.NS 7) * pqPerNs + s.dev.asic.get (Reg.TRG_STFRAC.FRAC 7))) ∧
    (let s := tTrig 199 id
     s.dev.asic.trigCfgErr 7 = false ∧ s.dev.asic.fallback = false ∧ s.dev.asic.flag (Reg.TRG_CFG.MODE 7) = false ∧
       -diffPq (s.dev.asic.scaleAt (s.dev.asic.trigScale 7) s.dev.asic.nowU)
       (s.dev.asic.get (Reg.TRG_STSEC.SEC 7) * pqPerSec + s.dev.asic.get (Reg.TRG_STNS.NS 7) * pqPerNs + s.dev.asic.get (Reg.TRG_STFRAC.FRAC 7)) < (200 * pqPerNs : Int)) ∧
    (State.reset.dev.sup.shelf = false ∧ State.reset.dev.asic.trigArmed 7 = false ∧ (State.reset.dev.asic.trig 7).queue = [] ∧ (State.reset.dev.asic.trig 7).activeAt = none) ∧
    (let s := tTrig 0 fun a => (a.put (Reg.TRG_STAT.ARMED 7) 1).setTrig 7 { a.trig 7 with x := 1000 * pqPerNs, left := 1 }
     s.dev.asic.trigArmed 7 = true ∧ s.dev.asic.trigCfgErr 7 = false ∧ s.dev.asic.flag (Reg.TSC_CFG.EN (s.dev.asic.trigScale 7)) = true ∧
       (s.dev.asic.trig 7).handed = false ∧ -(1000 * pqPerNs : Int) ≤ s.dev.asic.trigDiff 7 ∧ (s.dev.asic.trig 7).queue.length < 8 ∧
       (s.dev.asic.trig 7).queue.length < (s.dev.asic.trig 7).left) ∧
    (let s := tTrig 0 fun a => (a.put (Reg.TRG_STAT.ARMED 7) 1).setTrig 7 { a.trig 7 with x := 1001 * pqPerNs }
     s.dev.asic.trigDiff 7 < -(1000 * pqPerNs : Int)) ∧
    (let s := tTrig 0 fun a => a.setTrig 7 { a.trig 7 with queue := [1] }; (s.dev.asic.trig 7).queue = [1] ∧ s.dev.asic.nowU < 1) ∧
    (let s := tTrig 0 fun a => (a.put Reg.TSC_TRGENA.EN 128).setTrig 7 { a.trig 7 with queue := [0] }
     (s.dev.asic.trig 7).queue = [0] ∧ 0 ≤ s.dev.asic.nowU ∧ hasBit (s.dev.asic.get Reg.TSC_TRGENA.EN) 7 = true ∧ s.dev.asic.trigCfgErr 7 = false ∧ s.dev.asic.mode ≠ 6 ∧
       s.dev.asic.mode ≠ 5 ∧ hasBit (s.dev.asic.get Reg.TSC_TRGENA.EN) 6 = false) ∧
    (let s := tTrig 0 fun a => clocked 9 ((a.put (Reg.TRG_WIDTH.NS 7) 8).setTrig 7 { a.trig 7 with activeAt := some 0 })
     (s.dev.asic.trig 7).activeAt = some 0 ∧ (s.dev.asic.clk.coarse - 0) * 4 < s.dev.asic.trigWidth 7 * 5) ∧
    (let s := tTrig 0 fun a => clocked 10 ((a.put (Reg.TRG_WIDTH.NS 7) 8).setTrig 7 { a.trig 7 with activeAt := some 0 })
     (s.dev.asic.trig 7).activeAt = some 0 ∧ s.dev.asic.trigWidth 7 * 5 ≤ (s.dev.asic.clk.coarse - 0) * 4) := by decide

/-- Event input 15 enabled on rising edges, without prescaler or holdoff. -/
def tEvt (f : Asic → Asic) : State := tp fun a => f ((((a.put (Reg.EVT_CFG.EN 15) 1).put (Reg.EVT_CFG.EDGE 15) 0).put (Reg.EVT_CFG.PRE 15) 0).put (Reg.EVT_CFG.HOLDOFF 15) 0)
/-- A full acceptance window that opened at `t`. -/
def win (t : Int) : EvtWindow := { caps := [⟨t, 0, false, false⟩, ⟨t, 1, false, false⟩], dropped := 0, gate := true, sat := false, primer := false, ts := 0 }
theorem witness_EventInputs :
    (State.reset.dev.sup.shelf = false ∧ State.reset.dev.freeFor 0 = true ∧ (State.reset.dev.asic.evtUsable 15 = false ∨
      (State.reset.dev.asic.get (Reg.EVT_CFG.EDGE 15) ≠ 2 ∧ true ≠ (State.reset.dev.asic.get (Reg.EVT_CFG.EDGE 15) == 1)))) ∧
    (let s := tEvt fun a => clocked 124 ((a.put (Reg.EVT_CFG.HOLDOFF 15) 1).modEi 15 fun x => { x with held := some 0 })
     s.dev.asic.evtUsable 15 = true ∧ false = (s.dev.asic.get (Reg.EVT_CFG.EDGE 15) == 1) ∧ (s.dev.asic.ei 15).held = some 0 ∧ s.dev.asic.get (Reg.EVT_CFG.HOLDOFF 15) ≠ 0 ∧
       s.dev.asic.clk.coarse < 0 + 125 * 2 ^ (s.dev.asic.get (Reg.EVT_CFG.HOLDOFF 15) - 1)) ∧
    (let s := tEvt fun a => a.put (Reg.EVT_CFG.PRE 15) 12
     s.dev.asic.evtUsable 15 = true ∧ s.dev.asic.get (Reg.EVT_CFG.HOLDOFF 15) = 0 ∧ (s.dev.asic.ei 15).pre + 1 < 2 ^ s.dev.asic.get (Reg.EVT_CFG.PRE 15)) ∧
    (let s := tEvt id
     s.dev.asic.evtUsable 15 = true ∧ s.dev.asic.get (Reg.EVT_CFG.HOLDOFF 15) = 0 ∧ 2 ^ s.dev.asic.get (Reg.EVT_CFG.PRE 15) ≤ (s.dev.asic.ei 15).pre + 1 ∧
       (s.dev.asic.ei 15).window = none) ∧
    (let s := tEvt fun a => a.modEi 15 fun x => { x with window := some (win 1000000000) }
     s.dev.asic.evtUsable 15 = true ∧ 2 ^ s.dev.asic.get (Reg.EVT_CFG.PRE 15) ≤ (s.dev.asic.ei 15).pre + 1 ∧ (s.dev.asic.ei 15).window = some (win 1000000000) ∧
       2 ≤ (win 1000000000).caps.length ∧ s.dev.asic.captureTime 15 0 < (win 1000000000).ends) ∧
    (let s := tEvt fun a => clocked 799 (a.modEi 15 fun x => { x with window := some (win 0) }); (s.dev.asic.ei 15).window = some (win 0) ∧ s.dev.asic.nowLsb < (win 0).ends) ∧
    (let s := tEvt fun a => clocked 800 ((((a.put (Reg.EVT_CFG.REC 15) 1).put (Reg.EVT_CFG.GROUP 15) 3).put Reg.REC_EN.SLOTS 16).put (Reg.DMA_CHBUF.SIZE 0) 1 |>.put (Reg.REC_SLOTCFG.CH 4) 0 |>.modEi 15 fun x => { x with window := some (win 0) })
     (s.dev.asic.ei 15).window = some (win 0) ∧ (win 0).ends ≤ s.dev.asic.nowLsb ∧ s.dev.asic.flag (Reg.EVT_CFG.REC 15) = true ∧ (win 0).gate = true ∧
       hasBit (s.dev.asic.get Reg.REC_EN.SLOTS) (1 + s.dev.asic.get (Reg.EVT_CFG.GROUP 15)) = true ∧
       s.dev.asic.regionFull (s.dev.asic.get (Reg.REC_SLOTCFG.CH (1 + s.dev.asic.get (Reg.EVT_CFG.GROUP 15)))) = false) := by decide

/-- Event group 3 in a state. -/
def tGroup (st : Nat) (f : Asic → Asic) : State := tp fun a => f (a.put (Reg.EG_STAT.STATE 3) st)
theorem witness_EventGroups :
    (let s := tGroup 0 fun a => a.put (Reg.EG_CFG.EN 3) 1
     s.dev.freeFor 0 = true ∧ s.dev.asic.flag (Reg.EG_STAT.CFGERR 3) = false ∧ s.dev.asic.flag (Reg.EG_CFG.EN 3) = true ∧ s.dev.asic.egState 3 ≠ 3) ∧
    (let s := tGroup 3 id; s.dev.freeFor 0 = true ∧ s.dev.asic.egState 3 = 3 ∧ (s.dev.asic.eg 3).fullAt = none ∧ s.dev.asic.egExpired 3 = false) ∧
    (wordBits (0 : Word) 0 1 = 0 ∧ State.reset.dev.sup.shelf = false ∧ State.reset.dev.asic.get (Reg.EG_CFG.GATE 3) ≠ 1 ∧ State.reset.dev.asic.get (Reg.EG_CFG.GATE 3) ≠ 2) ∧
    (let s := tGroup 1 fun a => (a.put (Reg.EG_CFG.GATE 3) 1).put (Reg.EG_STAT.GATEOPEN 3) 0
     s.dev.asic.get (Reg.EG_CFG.GATE 3) = 1 ∧ s.dev.asic.flag (Reg.EG_STAT.GATEOPEN 3) = false ∧ s.dev.asic.egState 3 = 1) ∧
    (let s := tGroup 2 fun a => (a.put (Reg.EG_CFG.GATE 3) 2).put (Reg.EG_STAT.GATEOPEN 3) 1
     s.dev.asic.get (Reg.EG_CFG.GATE 3) = 2 ∧ s.dev.asic.flag (Reg.EG_STAT.GATEOPEN 3) = true ∧ s.dev.asic.egState 3 = 2) ∧
    (let s := tGroup 3 fun a => clocked 50 ((a.put (Reg.EG_STAT.GATEOPEN 3) 1).modEg 3 fun x => { x with fullAt := some 0 })
     (s.dev.asic.eg 3).fullAt = some 0 ∧ s.dev.asic.egState 3 = 3 ∧ 0 + lsbOfNs 40 ≤ s.dev.asic.nowLsb ∧ s.dev.asic.flag (Reg.EG_STAT.GATEOPEN 3) = true) ∧
    (let s := tGroup 3 fun a => clocked 12500 (((a.put (Reg.EG_TMO.TMO 3) 100).put (Reg.EG_TMOCFG.ESC 3) 0).modEg 3 fun x => { x with openedAt := 0, fullAt := none })
     s.dev.asic.egState 3 = 3 ∧ s.dev.asic.egExpired 3 = true ∧ s.dev.asic.get (Reg.EG_TMOCFG.ESC 3) = 0) ∧
    (let s := tGroup 4 fun a => clocked 39 (a.modEg 3 fun x => { x with endAt := 0 }); s.dev.asic.clk.coarse < (s.dev.asic.eg 3).endAt + 40) ∧
    (let s := tGroup 4 fun a => clocked 40 ((a.put (Reg.EG_REMAIN.COUNT 3) 0).modEg 3 fun x => { x with endAt := 0, limited := true })
     s.dev.asic.egState 3 = 4 ∧ (s.dev.asic.eg 3).endAt + 40 ≤ s.dev.asic.clk.coarse ∧ s.dev.asic.egLast 3 = true) ∧
    (let s := tGroup 4 fun a => clocked 40 (a.modEg 3 fun x => { x with endAt := 0, limited := false })
     s.dev.asic.egState 3 = 4 ∧ (s.dev.asic.eg 3).endAt + 40 ≤ s.dev.asic.clk.coarse ∧ s.dev.asic.egLast 3 = false) := by decide

def tacHoW (accepted : Bool) : TacHo := ⟨31, 31, 33, true, accepted⟩
theorem witness_Tacs :
    (let s := tp fun a => a.put Reg.EVT_TCAL.EN 1
     s.dev.sup.shelf = false ∧ s.dev.asic.flag Reg.EVT_TCAL.EN = true ∧ s.dev.asic.calAllowed = true ∧ (s.dev.asic.tac 33).collecting = false ∧ (s.dev.asic.tac 33).accepted = none) ∧
    (let s := tp fun a => a.put Reg.EVT_TCAL.EN 0; s.dev.asic.flag Reg.EVT_TCAL.EN = false) ∧
    (let s := tp fun a => a.modTac 33 fun x => { x with collecting := true }; (s.dev.asic.tac 33).collecting = true ∧ s.dev.asic.calAllowed = true) ∧
    (let s := tp fun a => clocked 16 (a.modTac 33 fun x => { x with accepted := some x.table, last := some 0 })
     (s.dev.asic.tac 33).accepted = some (s.dev.asic.tac 33).table ∧ s.dev.asic.tacIdle 33 = true ∧ s.dev.asic.noWindow (s.dev.asic.tacPos 33) = true) ∧
    (let s := tp fun a => { a with evt := { a.evt with ho := some (tacHoW false), wait := [] } }
     s.dev.asic.evt.ho = some (tacHoW false) ∧ (tacHoW false).accepted = false ∧ s.dev.asic.calAllowed = true ∧ (tacHoW false).new < 34 ∧ s.dev.asic.evt.wait = []) ∧
    (let s := tp fun a => { a with evt := { a.evt with ho := some (tacHoW true), wait := [] } }
     s.dev.asic.evt.ho = some (tacHoW true) ∧ s.dev.asic.noWindow 31 = true ∧ s.dev.asic.tacIdle 31 = true ∧ s.dev.asic.evt.wait = []) ∧
    (let s := tp keyed
     let v : Word := BitVec.ofNat 32 (31 + 33 * 32)
     s.dev.keyFor 0 = true ∧ s.dev.asic.flag Reg.EVT_HOSTAT.BUSY = false ∧ wordBits v 5 6 < 34 ∧ s.dev.asic.flag (Reg.EVT_TSTAT.FREE (wordBits v 5 6)) = true ∧
       s.dev.asic.parityFree 3 (wordBits v 0 5 / 2) = true) := by decide

/-- A PTP message over Ethernet, of 64 bytes with its FCS; and a plain frame of a length without FCS. -/
def ptpFrame (msg : Byte) : Frame := ⟨List.replicate 12 0 ++ [0x88, 0xF7, msg] ++ List.replicate 45 0, false⟩
def plainFrame (n : Nat) (bad : Bool) : Frame := ⟨List.replicate n 0, bad⟩
def viewE : PtpView := ⟨14, 0, none, true⟩
/-- Port 4 with its link up. -/
def tPort (f : Asic → Asic) : State := tp fun a => f ((((a.put (Reg.PRT_CFG.EN 4) 1).put (Reg.PRT_STAT.LINK 4) 1).put (Reg.PRT_PTPCFG.DOMAIN 4) 0).put (Reg.PRT_PTPCFG.TRANS 4) 0)
/-- Ports 4 and 5 in pass-through with both links up. -/
def tPass (f : Asic → Asic) : State := tPort fun a => f ((a.put (Reg.PRT_STAT.LINK 5) 1).modPrt 4 fun x => { x with passing := true })
/-- A frame too long for a port. -/
theorem plainFrame_len (n : Nat) (b : Bool) : (plainFrame n b).len = n + 4 := by simp [Frame.len, plainFrame]
theorem witness_longFrame : 9216 < (plainFrame 9213 false).len := (plainFrame_len 9213 false).symm ▸ (by decide : 9216 < 9213 + 4)
theorem witness_PortFrames :
    (State.reset.dev.sup.shelf = false ∧ State.reset.dev.freeFor 0 = true ∧ State.reset.dev.asic.flag (Reg.PRT_CFG.EN 4) = false ∧
      State.reset.dev.asic.linkIs 4 = false ∧ State.reset.dev.asic.flag (Reg.PRT_SYNCE.ESMCEN 4) = false) ∧
    (let s := tp fun a => a.put (Reg.PRT_CFG.EN 4) 1; s.dev.asic.flag (Reg.PRT_CFG.EN 4) = true ∧ s.dev.asic.linkIs 4 = false) ∧
    (let s := tPort fun a => (a.put (Reg.PRT_CFG.FEC 4) 1).put (Reg.PRT_PTPCFG.EN 4) 1
     s.dev.asic.linkIs 4 = true ∧ s.dev.asic.terminates 4 (plainFrame 59 true) = true ∧ s.dev.asic.flag (Reg.RLY_IMPSTAT.ARMED 4) = false ∧
       s.dev.asic.flag (Reg.PRT_CFG.FEC 4) = true ∧ (plainFrame 59 true).bad = true ∧ (plainFrame 59 false).len < 64 ∧
       (ptpFrame 0).ptp = some viewE ∧ 64 ≤ (ptpFrame 0).len ∧ (ptpFrame 0).len ≤ 9216 ∧ s.dev.asic.takesPtp 4 (ptpFrame 0) viewE = true ∧ s.dev.asic.fill.get (96 + 4) < 64) ∧
    (let s := tPass fun a => a.put (Reg.PRT_STAT.LINK 5) 0
     (s.dev.asic.port 4).passing = true ∧ s.dev.asic.linkIs 4 = true ∧ s.dev.asic.terminates 4 (plainFrame 60 false) = false ∧ s.dev.asic.linkIs (pairOf 4) = false) ∧
    (let s := tPass id
     (s.dev.asic.port 4).passing = true ∧ s.dev.asic.linkIs 4 = true ∧ s.dev.asic.terminates 4 (plainFrame 60 false) = false ∧ s.dev.asic.linkIs (pairOf 4) = true ∧
       s.dev.asic.flag (Reg.RLY_IMPSTAT.ARMED 4) = false ∧ s.dev.asic.flag (Reg.RLY_IMPSTAT.ARMED (pairOf 4)) = false ∧ (plainFrame 60 false).ptp = none ∧
       s.dev.asic.terminates 4 (ptpFrame 0) = false ∧ (ptpFrame 0).ptp = some viewE ∧ (ptpFrame 0).parses viewE = true ∧ (ptpFrame 0).isEvent viewE = true ∧
       (ptpFrame 0).msgType viewE = 0 ∧ s.dev.asic.p2p 4 = false) ∧
    (let s := tPort fun a => clocked (5 * second) (a.put (Reg.PRT_SYNCE.ESMCEN 4) 1)
     s.dev.asic.flag (Reg.PRT_SYNCE.ESMCEN 4) = true ∧ s.dev.asic.linkIs 4 = true ∧ s.dev.asic.flag (Reg.RLY_IMPSTAT.ARMED 4) = false ∧
       (s.dev.asic.port 4).esmcAt + 5 * second ≤ s.dev.asic.clk.coarse) ∧
    (State.reset.dev.asic.port 4).inbox.find? (fun x => x.cls == 4) = none ∧
    (let s := tPort fun a => (a.put (Reg.PRT_SYNCE.ESMCEN 4) 1).modPrt 4 fun x => { x with inbox := [{ (default : Taken) with cls := 4 }] }
     (s.dev.asic.port 4).inbox.find? (fun x => x.cls == 4) = some { (default : Taken) with cls := 4 } ∧ s.dev.asic.flag (Reg.PRT_SYNCE.ESMCEN 4) = true) ∧
    (let s := tPort fun a => clocked (5 * second - 1) (a.put (Reg.PRT_SYNCE.ESMCEN 4) 1); s.dev.asic.clk.coarse < (s.dev.asic.port 4).esmcAt + 5 * second) ∧
    (wordBits (0 : Word) 0 1 = 0 ∧ wordBits (8 : Word) 3 1 ≠ State.reset.dev.asic.get (Reg.PRT_CFG.PASS 4)) := by decide

def takenMsg (msg : Byte) (cls : Nat) : Taken := { cls, f := ptpFrame msg, t := 0, scale := 7, degraded := false }
/-- Port 4 in a PTP state with a message taken up. -/
def tPtp (st : Nat) (f : Asic → Asic) : State := tPort fun a => f ((a.put (Reg.PRT_PTPCFG.EN 4) 1).put (Reg.PRT_PTPST.STATE 4) st)
def half (own far : Int) (jumps : Nat) : Half := { seq := 1, own, far := some far, corr := 0, degraded := false, jumps, sec := 0 }
theorem witness_PtpEngine :
    (State.reset.dev.sup.shelf = false ∧ (State.reset.dev.asic.port 4).inbox.find? (fun x => x.cls == 1 || x.cls == 2) = none ∧ State.reset.dev.asic.ptpSends 4 = false) ∧
    (let s := tPtp 9 fun a => a.modPrt 4 fun x => { x with inbox := [takenMsg 0 1] }
     (s.dev.asic.port 4).inbox.find? (fun x => x.cls == 1 || x.cls == 2) = some (takenMsg 0 1) ∧ (takenMsg 0 1).f.ptp = some viewE ∧ (takenMsg 0 1).f.msgType viewE = 0 ∧
       s.dev.asic.ptpState 4 = 9 ∧ hasBit ((takenMsg 0 1).f.byte (viewE.hdr + 6)) 1 = false) ∧
    (let s := tPtp 6 fun a => a.modPrt 4 fun x => { x with inbox := [takenMsg 1 1] }
     (s.dev.asic.port 4).inbox.find? (fun x => x.cls == 1 || x.cls == 2) = some (takenMsg 1 1) ∧ (takenMsg 1 1).f.ptp = some viewE ∧ (takenMsg 1 1).f.msgType viewE = 1 ∧
       s.dev.asic.ptpState 4 = 6 ∧ (takenMsg 11 2).f.msgType viewE = 11) ∧
    (let s := tPtp 6 fun a => a.modPrt 4 fun x => { x with owed := [⟨0, 1, 2, 3⟩] }
     s.dev.asic.ptpSends 4 = true ∧ s.dev.asic.flag (Reg.RLY_IMPSTAT.ARMED 4) = false ∧ s.dev.asic.fill.get (128 + 4) < 64 ∧ s.dev.asic.ptpState 4 = 6 ∧
       (s.dev.asic.port 4).owed = [⟨0, 1, 2, 3⟩]) ∧
    (let s := tPtp 9 fun a => a.put (Reg.PRT_PTPCFG.TRANS 4) 3; s.dev.asic.prtCfgErr 4 = true) ∧
    (let s := tPtp 9 fun a => a.modPrt 4 fun x => { x with sync := some (half 10 5 0), dreq := some (half 20 30 0) }
     s.dev.asic.prtCfgErr 4 = false ∧ s.dev.asic.p2p 4 = false ∧ (s.dev.asic.port 4).sync = some (half 10 5 0) ∧ (s.dev.asic.port 4).dreq = some (half 20 30 0) ∧
       (half 10 5 0).far = some 5 ∧ (half 20 30 0).far = some 30 ∧ (half 10 5 0).spoilt (s.dev.asic.scaleJumps (s.dev.asic.prtScale 4)) = false ∧
       (half 10 5 1).spoilt (s.dev.asic.scaleJumps (s.dev.asic.prtScale 4)) = true) ∧
    (State.reset.dev.asic.port 4).offs.find? (fun x => x.1 == (State.reset.dev.asic.clk.coarse - 1) / second) = none ∧
    (let s := tPtp 9 fun a => clocked second (a.modPrt 4 fun x => { x with offs := [(0, 3, 1)] })
     (s.dev.asic.port 4).offs.find? (fun x => x.1 == (s.dev.asic.clk.coarse - 1) / second) = some (0, 3, 1)) ∧
    (let s := tPtp 2 fun a => clocked (second - 1) (a.modPrt 4 fun x => { x with clearSince := 0 }); s.dev.asic.clk.now < (s.dev.asic.port 4).clearSince + second) ∧
    (let s := tPtp 2 fun a => clocked second (a.modPrt 4 fun x => { x with clearSince := 0 })
     s.dev.asic.ptpState 4 = 2 ∧ s.dev.asic.prtCfgErr 4 = false ∧ s.dev.asic.linkIs 4 = true ∧ (s.dev.asic.port 4).clearSince + second ≤ s.dev.asic.clk.now) ∧
    (let s := tPtp 6 id; s.dev.asic.ptpState 4 ≠ 4 ∧ s.dev.asic.ptpState 4 ≠ 7 ∧ s.dev.asic.ptpState 4 ≠ 8 ∧ s.dev.asic.ptpState 4 ≠ 9) ∧
    (let s := tPtp 4 fun a => clocked (a.announceTimeout 4) (a.modPrt 4 fun x => { x with lastAnn := 0 })
     s.dev.asic.ptpState 4 = 4 ∧ (s.dev.asic.port 4).lastAnn + s.dev.asic.announceTimeout 4 ≤ s.dev.asic.clk.coarse ∧ s.dev.asic.mode ≠ 5) := by decide

/-- Rally instance 6, on `MATE`'s link, in a state. -/
def tRly (st : Nat) (f : Asic → Asic) : State := tp fun a => f (((a.put (Reg.RLY_CFG.EN 6) 1).put Reg.RLY_MATEST.LINK 1).put (Reg.RLY_STAT.STATE 6) st)
/-- A partner frame with a phase. -/
def rframe (phi : BitVec 64) : RallyFrame := ⟨true, false, 1, 0, false, false, 0, 0, phi, 0, 0⟩
/-- A second with one exchange term each way, both 0. -/
def tTerms (phi : BitVec 64) : State := tRly 3 fun a => a.modRally 6 fun x => { x with partner := some (rframe phi, 0), inN := 1, outN := 1, inSum := 0, outSum := 0, spoilt := false, heard := 0 }
theorem witness_Rally :
    (State.reset.dev.sup.shelf = false ∧ State.reset.dev.asic.flag (Reg.RLY_CFG.EN 6) = false ∧ State.reset.dev.asic.rallyState 6 < 2 ∧
      State.reset.dev.asic.flag (Reg.RLY_ACAL.BUSY 6) = false) ∧
    (let s := tRly 3 id; s.dev.asic.flag (Reg.RLY_CFG.EN 6) = true ∧ s.dev.asic.rallyLink 6 = true) ∧
    (let s := tPort fun a => a.put (Reg.RLY_CFG.EN 4) 1
     s.dev.asic.flag (Reg.RLY_CFG.EN 4) = true ∧ s.dev.asic.rallyLink 4 = true ∧ (s.dev.asic.port 4).passing = false ∧ s.dev.asic.flag (Reg.RLY_IMPSTAT.ARMED 4) = false) ∧
    (State.reset.dev.asic.port 5).inbox.find? (fun x => x.cls == 3) = none ∧
    (let s := tPort fun a => ((a.put (Reg.RLY_CFG.EN 4) 1).put (Reg.RLY_STAT.STATE 4) 1).modPrt 4 fun x => { x with inbox := [takenMsg 0 3] }
     (s.dev.asic.port 4).inbox.find? (fun x => x.cls == 3) = some (takenMsg 0 3) ∧ s.dev.asic.flag (Reg.RLY_CFG.EN 4) = true ∧ (rframe 0).good = true ∧
       ({ rframe 0 with good := false } : RallyFrame).good = false ∧ s.dev.asic.rallyState 4 = 1 ∧ s.dev.asic.rallyLink 4 = true) ∧
    (let s := tPort fun a => a.modPrt 4 fun x => { x with inbox := [takenMsg 0 3] }
     (s.dev.asic.port 4).inbox.find? (fun x => x.cls == 3) = some (takenMsg 0 3) ∧ s.dev.asic.flag (Reg.RLY_CFG.EN 4) = false) ∧
    (let s := tRly 3 (clocked (2 * second - 1)); s.dev.asic.clk.coarse < (s.dev.asic.rally 6).heard + 2 * second) ∧
    (let s := tRly 3 (clocked (2 * second)); 2 ≤ s.dev.asic.rallyState 6 ∧ (s.dev.asic.rally 6).heard + 2 * second ≤ s.dev.asic.clk.coarse ∧ s.dev.asic.rallyState 6 = 3) ∧
    (let s := tRly 4 id; s.dev.asic.rallyState 6 = 4 ∧ s.dev.asic.fallback = false ∧ s.dev.asic.partnerSuspends 6 = false) ∧
    (let s := tRly 2 id; s.dev.asic.rallyState 6 = 2 ∧ s.dev.asic.clk.coarse < (s.dev.asic.rally 6).heard + 2 * second ∧ (s.dev.asic.rally 6).inN = 0) ∧
    (let s := tTerms 0
     s.dev.asic.rallyState 6 = 3 ∧ s.dev.asic.clk.coarse < (s.dev.asic.rally 6).heard + 2 * second ∧ (s.dev.asic.rally 6).partner = some (rframe 0, 0) ∧
       (s.dev.asic.rally 6).inN ≠ 0 ∧ (s.dev.asic.rally 6).outN ≠ 0 ∧ (s.dev.asic.rally 6).spoilt = false ∧ s.dev.asic.degraded = false) ∧
    (let s := tRly 3 fun a => clocked (a.acalTime 6 * second) ((((a.put (Reg.RLY_ACAL.BUSY 6) 1).put (Reg.REF_STAT.PRESENT 23) 1).put (Reg.RLY_ACAL.MODE 6) 0).modRally 6
       fun x => { x with acalFrom := 0, acalSum := 6553600, acalN := 1, acalBad := false, acalRun := (a.inp 23).run })
     s.dev.asic.flag (Reg.RLY_ACAL.BUSY 6) = true ∧ (s.dev.asic.rally 6).acalFrom + s.dev.asic.acalTime 6 * second ≤ s.dev.asic.clk.coarse ∧ (s.dev.asic.rally 6).acalBad = false ∧
       (s.dev.asic.rally 6).acalN ≠ 0 ∧ s.dev.asic.calTimeOk = true ∧ (s.dev.asic.inp 23).run = (s.dev.asic.rally 6).acalRun ∧ s.dev.asic.rallyState 6 = 3 ∧
       s.dev.asic.flag (Reg.RLY_ACAL.MODE 6) = false ∧ (roundDiv (s.dev.asic.rally 6).acalSum (s.dev.asic.rally 6).acalN).natAbs ≤ 100 * 65536) ∧
    (let s := tRly 3 fun a => clocked (a.acalTime 6 * second) ((a.put (Reg.RLY_ACAL.BUSY 6) 1).modRally 6 fun x => { x with acalFrom := 0, acalN := 0 })
     s.dev.asic.flag (Reg.RLY_ACAL.BUSY 6) = true ∧ (s.dev.asic.rally 6).acalFrom + s.dev.asic.acalTime 6 * second ≤ s.dev.asic.clk.coarse ∧ (s.dev.asic.rally 6).acalN = 0) ∧
    (let s := tRly 3 fun a => keyed (a.put (Reg.RLY_CFG.ROLE 6) 1); s.dev.keyFor 0 = true ∧ s.dev.asic.follows' 6 = true ∧ s.dev.asic.rallyState 6 = 3) ∧
    (let s := tRly 2 fun a => keyed a; s.dev.keyFor 0 = true ∧ s.dev.asic.follows' 6 = false ∧ s.dev.asic.rallyState 6 ≠ 3) := by decide

/-- The phase of the wrap in R331 for `tTerms`: 62,914 PQ lies beyond U/4 of `MATE`'s U, and 0 within it, on both terms. -/
theorem witness_Rally_ambiguous :
    (let u := (tTerms (BitVec.ofNat 64 (62914 * 2 ^ 32))).dev.asic.rallyU 6
     u / 4 < absRat (wrapU u (ofQ32 ((0 : BitVec 64).toNat : Int) + (ofQ32 (signed 64 (BitVec.ofNat 64 (62914 * 2 ^ 32)).toNat) - (signed 64 (0 : BitVec 64).toNat : Rat) / 2 ^ 60 * (((0 : Int) : Rat) / 5)) - (0 + 0)))) ∧
    (let s := tTerms 0
     let u := s.dev.asic.rallyU 6
     absRat (wrapU u (ofQ32 ((0 : BitVec 64).toNat : Int) + (ofQ32 (signed 64 (0 : BitVec 64).toNat) - (signed 64 (0 : BitVec 64).toNat : Rat) / 2 ^ 60 * (((s.dev.asic.nowU - 0 : Int) : Rat) / 5)) - (0 + 0))) ≤ u / 4) := by
  decide +kernel

/-- The module in a `MATE` role, with a partner heard. -/
def tMate (role : Nat) (f : Asic → Asic) : State := tp fun a => f ((((a.put Reg.RLY_MATEST.ROLE role).put Reg.RLY_MATEST.LINK 1).put Reg.RLY_MATEST.HB 1).put Reg.RLY_MATECFG.EN 1)
theorem witness_MateRoles :
    (State.reset.dev.sup.shelf = false ∧ State.reset.dev.asic.flag Reg.RLY_MATEST.LINK = false ∧ State.reset.dev.asic.flag Reg.RLY_MATEST.HB = false ∧ State.reset.dev.asic.mate.ts = none ∧
      State.reset.dev.asic.flag Reg.RLY_MATECFG.EN = false) ∧
    (let s := tMate 0 fun a => a.put Reg.RLY_MATEST.HB 0; s.dev.asic.flag Reg.RLY_MATEST.LINK = true ∧ s.dev.asic.flag Reg.RLY_MATEST.HB = false ∧ s.dev.asic.mateRole = 0) ∧
    ((tMate 1 id).dev.asic.mateRole = 1 ∧ (tMate 2 id).dev.asic.mateRole = 2 ∧ (tMate 3 id).dev.asic.mateRole = 3) ∧
    (let s := tMate 2 fun a => clocked second (((a.put (Reg.RLY_STAT.STATE 6) 3).put Reg.RLY_MATECFG.READYT 1).modRally 6 fun x => { x with trackSince := 0 })
     s.dev.asic.mateRole = 2 ∧ s.dev.asic.rallyState 6 = 3 ∧ (s.dev.asic.rally 6).trackSince + second * max 1 (min 3600 (s.dev.asic.get Reg.RLY_MATECFG.READYT)) ≤ s.dev.asic.clk.now) ∧
    (let s := tMate 2 fun a => clocked (second - 1) (((a.put (Reg.RLY_STAT.STATE 6) 3).put Reg.RLY_MATECFG.READYT 1).modRally 6 fun x => { x with trackSince := 0 })
     s.dev.asic.clk.now < (s.dev.asic.rally 6).trackSince + second * max 1 (min 3600 (s.dev.asic.get Reg.RLY_MATECFG.READYT))) ∧
    (let s := tMate 2 fun a => clocked 24999 (a.put Reg.RLY_MATECFG.HBTO 2); s.dev.asic.clk.now < s.dev.asic.mate.lastHb + 12500 * max 2 (s.dev.asic.get Reg.RLY_MATECFG.HBTO)) ∧
    (let s := tMate 2 fun a => clocked 25000 (a.put Reg.RLY_MATECFG.HBTO 2)
     s.dev.asic.flag Reg.RLY_MATEST.HB = true ∧ s.dev.asic.mate.lastHb + 12500 * max 2 (s.dev.asic.get Reg.RLY_MATECFG.HBTO) ≤ s.dev.asic.clk.now ∧ s.dev.asic.mateRole = 2 ∧
       s.dev.asic.flag Reg.RLY_MATEST.READY = false) ∧
    (let s := tMate 1 fun a => clocked 4 (a.modMate fun x => { x with ts := some 5 }); s.dev.asic.mate.ts = some 5 ∧ s.dev.asic.clk.coarse < 5) ∧
    (let s := tMate 1 fun a => clocked 5 (a.modMate fun x => { x with ts := some 5 }); s.dev.asic.mate.ts = some 5 ∧ 5 ≤ s.dev.asic.clk.coarse ∧ s.dev.asic.mateRole = 1) ∧
    (let s := tMate 1 id; s.dev.asic.mateRole ≠ 3 ∧ s.dev.asic.flag Reg.RLY_MATECFG.EN = true ∧ s.dev.asic.mode ≠ 1 ∧ s.dev.asic.mode ≠ 6 ∧ s.dev.asic.mode ≠ 7) ∧
    (let s := tMate 3 fun a => a.put Reg.RLY_MATEST.HB 0
     s.dev.asic.mateRole = 3 ∧ s.dev.asic.flag Reg.RLY_MATEST.HB = false ∧ s.dev.asic.flag Reg.RLY_MATECFG.EN = true ∧ s.dev.asic.mode ≠ 1 ∧ s.dev.asic.mode ≠ 5 ∧ s.dev.asic.mode ≠ 6 ∧
       s.dev.asic.mode ≠ 7) ∧
    (let s := tMate 1 fun a => keyed (a.put Reg.RLY_MATEST.PREADY 1)
     s.dev.keyFor 0 = true ∧ s.dev.asic.mateRole = 1 ∧ s.dev.asic.flag Reg.RLY_MATEST.PREADY = true ∧ s.dev.asic.mate.ts = none ∧ s.dev.asic.mate.take = false) ∧
    (let s := tMate 2 fun a => keyed (a.put Reg.RLY_MATEST.READY 1)
     s.dev.keyFor 0 = true ∧ s.dev.asic.mateRole = 2 ∧ s.dev.asic.flag Reg.RLY_MATEST.READY = true ∧ s.dev.asic.mate.ts = none ∧ s.dev.asic.mate.take = false) ∧
    (let s := tMate 0 keyed; s.dev.keyFor 0 = true ∧ s.dev.asic.mateRole ≠ 1 ∧ s.dev.asic.mateRole ≠ 2) := by decide

def heldTx (next : Bool) : HeldFrame := ⟨true, 1, 0, 5, 64, .built 0 [5], 0, next⟩
theorem witness_Impairment :
    (let s := tp fun a => { keyed a with can := { a.can with window := some 1 } }; s.dev.keyFor 0 = true ∧ s.dev.asic.present' = true ∧ s.dev.asic.mode = 2) ∧
    (let s := tp keyed; s.dev.keyFor 0 = true ∧ s.dev.asic.present' = false) ∧
    (let s := tp fun a => keyed (a.put (Reg.RLY_IMPSTAT.ARMED 5) 1); s.dev.keyFor 0 = true ∧ s.dev.asic.flag (Reg.RLY_IMPSTAT.ARMED 5) = true) ∧
    (let s := tp fun a => clocked (second - 1) ((a.put (Reg.RLY_IMPSTAT.ARMED 5) 1).put (Reg.RLY_IMPDUR.DURATION 5) 1)
     s.dev.sup.shelf = false ∧ s.dev.asic.clk.coarse < (s.dev.asic.impair 5).start + s.dev.asic.impDuration 5 * second) ∧
    (let s := tp fun a => clocked second ((a.put (Reg.RLY_IMPSTAT.ARMED 5) 1).put (Reg.RLY_IMPDUR.DURATION 5) 1)
     s.dev.asic.flag (Reg.RLY_IMPSTAT.ARMED 5) = true ∧ (s.dev.asic.impair 5).start + s.dev.asic.impDuration 5 * second ≤ s.dev.asic.clk.coarse) ∧
    (State.reset.dev.asic.impair 5).held.find? (fun h => h.egress == true) = none ∧
    (let s := tp fun a => clocked (100 * usec - 1) (a.modImp 5 fun x => { x with held := [heldTx false] })
     (s.dev.asic.impair 5).held.find? (fun h => h.egress == true) = some (heldTx false) ∧ (heldTx false).next = false ∧ s.dev.asic.clk.coarse < (heldTx false).start + 100 * usec) ∧
    (let s := tp fun a => clocked (100 * usec) (a.modImp 5 fun x => { x with held := [heldTx false] })
     (s.dev.asic.impair 5).held.find? (fun h => h.egress == true) = some (heldTx false) ∧ (heldTx false).start + 100 * usec ≤ s.dev.asic.clk.coarse ∧
       (heldTx false).item = .built 0 [5]) := by decide

/-- A record, and slot 15 enabled with one waiting, onto channel 0 with an open region. -/
def rec32 : Record := List.replicate 32 0
def tSlot (f : Asic → Asic) : State := tp fun a => f ({ ((((a.put Reg.REC_EN.SLOTS 0x8000).put (Reg.DMA_CHBUF.SIZE 0) 1).put (Reg.REC_SLOTCFG.CH 15) 0).put (Reg.REC_SLOTCFG.WEIGHT 15) 1) with
  recs := { a.recs with queue := Tab.set [] 15 [rec32] } })
theorem witness_Arbiter :
    (let s := tSlot fun a => { a with recs := { a.recs with transfer := Tab.set [] 15 (some 0) } }
     s.dev.sup.shelf = false ∧ slots.find? (fun q => (s.dev.asic.recs.transfer.get q).isSome) = some 15) ∧
    (let s := State.reset
     slots.find? (fun q => (s.dev.asic.recs.transfer.get q).isSome) = none ∧ s.dev.asic.recs.holder = none ∧ slots.filter s.dev.asic.eligible = []) ∧
    (let s := tSlot id
     slots.find? (fun q => (s.dev.asic.recs.transfer.get q).isSome) = none ∧ s.dev.asic.recs.holder = none ∧
       s.dev.asic.pick ((slots.filter s.dev.asic.eligible).filter fun q => 0 < s.dev.asic.credit q) = some 15 ∧ s.dev.asic.dropsHalted (s.dev.asic.slotChan 15) = false ∧
       s.dev.asic.flag Reg.REC_CFG.MODE = false) ∧
    (let s := tSlot fun a => { a with recs := { a.recs with spent := Tab.set [] 15 (a.slotWeightOf 15) } }
     slots.find? (fun q => (s.dev.asic.recs.transfer.get q).isSome) = none ∧ s.dev.asic.recs.holder = none ∧
       (slots.filter s.dev.asic.eligible).filter (fun q => 0 < s.dev.asic.credit q) = [] ∧ s.dev.asic.pick (slots.filter s.dev.asic.eligible) = some 15) ∧
    (State.reset.dev.asic.slotQueue 15 = [] ∧ State.reset.dev.asic.transferCycles 15 ≤ max 1 (State.reset.dev.asic.get Reg.REC_CFG.HOLDLIM) ∧ State.reset.dev.asic.transferCycles 15 < 4096) ∧
    (let s := tSlot fun a => clocked 25 { a.put Reg.REC_STARVTH.THRESH 10 with recs := { a.recs with wait := Tab.set [] 15 (some 0) } }
     s.dev.asic.slotQueue 15 ≠ [] ∧ s.dev.asic.recs.starved.get 15 = false ∧ max 1 (s.dev.asic.get Reg.REC_STARVTH.THRESH) ≤ s.dev.asic.waitNow 15) ∧
    (let s := tSlot fun a => clocked 24 { a.put Reg.REC_STARVTH.THRESH 10 with recs := { a.recs with wait := Tab.set [] 15 (some 0) } }
     s.dev.asic.waitNow 15 < max 1 (s.dev.asic.get Reg.REC_STARVTH.THRESH)) ∧
    (let s := tSlot fun a => clocked 28 { (a.put Reg.REC_CFG.HOLDLIM 10).put Reg.REC_SLOTFLAG.MASKED 0 with recs := { a.recs with transfer := Tab.set [] 15 (some 0) } }
     hasBit (s.dev.asic.get Reg.REC_SLOTFLAG.MASKED) 15 = false ∧ max 1 (s.dev.asic.get Reg.REC_CFG.HOLDLIM) < s.dev.asic.transferCycles 15) ∧
    (let s := tSlot fun a => clocked 10240 { a with recs := { a.recs with transfer := Tab.set [] 15 (some 0) } }; 4096 ≤ s.dev.asic.transferCycles 15) ∧
    (State.reset.dev.freeFor 0 = true ∧ hasBit (0x8000 : BitVec 16).toNat 15 = true ∧ hasBit (0x8000 : BitVec 16).toNat 14 = false) := by decide

/-- Channel 7 with a STREAM descriptor of `len` bytes at HEAD and `n` records waiting, the host link up. -/
def tDma (len n : Nat) (f : Asic → Asic) : State := tp fun a => f ({ (((((a.put (Reg.DMA_CHCFG.EN 7) 1).put (Reg.DMA_CHTAIL.TAIL 7) 1).putWord (descAddr 7 0 1) len).putWord 0x0C4000 1).put (Reg.DMA_CHBUF.SIZE 7) 1) with
  recs := { a.recs with region := Tab.set [] 7 (List.replicate n (rec32, 0)) }, bus := { a.bus with pcie := { a.bus.pcie with link := true, busMaster := true, payload := 1 } } })
def burst1 : Burst := ⟨0, 0, rec32, 1⟩
theorem witness_DmaEngine :
    (State.reset.dev.sup.shelf = false ∧ State.reset.dev.asic.nextChan = none) ∧
    (let s := tDma 33 8 id
     s.dev.asic.nextChan = some 7 ∧ s.dev.asic.fallback = false ∧ s.dev.asic.hkcOwns 7 = false ∧ s.dev.asic.pcieQueue < 8 ∧ (s.dev.asic.dmaCh 7).resend = 0 ∧
       (s.dev.asic.dmaCh 7).taken = false ∧ s.dev.asic.descBad 7 = true) ∧
    (let s := tDma 256 8 id
     s.dev.asic.nextChan = some 7 ∧ s.dev.asic.fallback = false ∧ s.dev.asic.hkcOwns 7 = false ∧ s.dev.asic.pcieQueue < 8 ∧ (s.dev.asic.dmaCh 7).resend = 0 ∧
       (s.dev.asic.dmaCh 7).taken = false ∧ s.dev.asic.descBad 7 = false ∧ s.dev.asic.descKind 7 = 0 ∧
       (s.dev.asic.waiting 7).take (min (s.dev.asic.descLen 7) (256 - s.dev.asic.descDest 7 % 256) / 32) ≠ [] ∧ (s.dev.asic.dmaCh 7).done = 0 ∧
       s.dev.asic.translate (s.dev.asic.descDest 7) = some 0 ∧ s.dev.asic.bus.pcie.payload ≠ 0) ∧
    (let s := tDma 256 8 fun a => a.putWord 0x0C4000 0; s.dev.asic.descBad 7 = false ∧ s.dev.asic.nextChan = some 7 ∧ s.dev.asic.translate (s.dev.asic.descDest 7) = none) ∧
    (State.reset.dev.asic.flushDue 7 = false ∧ State.reset.dev.asic.ringEmpty 7 = true) ∧
    (let s := tDma 256 1 fun a => (a.put (Reg.DMA_CHCFG.EN 7) 0).put (Reg.DMA_CHCFG.FLUSH 7) 0; s.dev.asic.flushDue 7 = true ∧ s.dev.asic.flag (Reg.DMA_CHCFG.EN 7) = false) ∧
    (let s := tDma 32 1 fun a => a.modDma 7 fun x => { x with taken := true, done := 32, copyBad := true }
     s.dev.asic.ringEmpty 7 = false ∧ s.dev.asic.descDone 7 = true ∧ s.dev.asic.halted 7 = false ∧ (s.dev.asic.dmaCh 7).copyBad = true) ∧
    (let s := tDma 32 1 fun a => a.modDma 7 fun x => { x with flight := [], resend := 0 }; (s.dev.asic.dmaCh 7).flight.length ≤ (s.dev.asic.dmaCh 7).resend) ∧
    (let s := tDma 32 1 fun a => a.modDma 7 fun x => { x with flight := [burst1], resend := 0 }
     (s.dev.asic.dmaCh 7).flight = [burst1] ∧ (s.dev.asic.dmaCh 7).resend < ([] : List Burst).length + 1) ∧
    (let s := tp fun a => a.put (Reg.DMA_CHCFG.OWNER 7) 1
     s.dev.asic.hkcOwns 7 = true ∧ s.dev.asic.ringFull 7 = false ∧ s.dev.asic.fw.swappedAt = none ∧ s.dev.asic.slotQueue 14 = []) ∧
    (let s := tp fun a => ((a.put (Reg.DMA_CHCFG.OWNER 7) 1).put (Reg.DMA_CHTAIL.TAIL 7) 63).put (Reg.DMA_CHHEAD.HEAD 7) 0; s.dev.asic.hkcOwns 7 = true ∧ s.dev.asic.ringFull 7 = true) ∧
    (let s := tDma 32 0 id
     s.dev.freeFor 0 = true ∧ wordBits (0 : Word) 0 6 = s.dev.asic.get (Reg.DMA_CHHEAD.HEAD 7) ∧ s.dev.asic.get (Reg.DMA_CHTAIL.TAIL 7) ≠ s.dev.asic.get (Reg.DMA_CHHEAD.HEAD 7) ∧
       s.dev.asic.hkcOwns 7 = false ∧ wordBits (63 : Word) 0 6 ≠ s.dev.asic.get (Reg.DMA_CHHEAD.HEAD 7)) ∧
    (let s := tDma 32 0 keyed; s.dev.keyFor 0 = true ∧ s.dev.asic.waiting 7 = [] ∧ s.dev.asic.halted 7 = false ∧ s.dev.asic.flag (Reg.DMA_CHCFG.EN 7) = true ∧
       wordBits (0 : Word) 4 1 = s.dev.asic.get (Reg.DMA_CHCFG.OWNER 7) ∧ s.dev.asic.regionBad 7 = false) ∧
    (let s := tDma 32 1 fun a => keyed (a.put (Reg.DMA_CHCFG.EN 7) 0); s.dev.keyFor 0 = true ∧ s.dev.asic.waiting 7 ≠ [] ∧ s.dev.asic.flag (Reg.DMA_CHCFG.EN 7) = false) ∧
    (let s := tDma 32 1 fun a => keyed ((a.put (Reg.DMA_CHSTAT.HALTED 7) 1).put (Reg.DMA_CHSTAT.ERR 7) 5); s.dev.keyFor 0 = true ∧ s.dev.asic.halted 7 = true ∧
       s.dev.asic.get (Reg.DMA_CHSTAT.ERR 7) = 5) ∧
    (let s := tp fun a => keyed ((a.put (Reg.DMA_CHSTAT.HALTED 7) 1).put (Reg.DMA_CHSTAT.ERR 7) 3); s.dev.asic.get (Reg.DMA_CHSTAT.ERR 7) = 3 ∧ s.dev.asic.dmaLink = false) ∧
    (let s := tp fun a => keyed (a.put (Reg.DMA_CHBUF.SIZE 7) 0); s.dev.keyFor 0 = true ∧ wordBits (1 : Word) 0 1 = 1 ∧ s.dev.asic.regionBad 7 = true) := by
  (repeat' apply And.intro) <;> decide

theorem witness_RegisterAccess :
    (State.reset.dev.busRuns = true ∧ aligned (2 : BitVec 32).toNat 2 true = false ∧ targetOf (0x110000 : BitVec 32).toNat = .none) ∧
    (let s := State.reset; (0x0C : BitVec 32).toNat < 0x110000 ∧ s.dev.guarded 0x0C 1 = true ∧ s.dev.asic.keyOpen 0 = false) ∧
    (let s := tp fun a => a.put Reg.GLB_LOCK.BLOCKS 0x800
     s.dev.guarded 0x0B0008 1 = false ∧ heldLow 0x0B0008 = false ∧ s.dev.asic.blockLocked 0x0B0008 = true ∧
       s.dev.changes 0x0B0008 (without ((masksAt 0x0B0008).rw ||| (masksAt 0x0B0008).wk) (masksAt 0x0B0008).wo) 1 = true) ∧
    (let s := State.reset; s.dev.guarded 0x0C5FF8 1 = false ∧ heldLow 0x0C5FF8 = true ∧ (2 : Master).val ≠ 3 ∧ s.dev.asic.barredWindow 2 0x0C5FF8 = false) ∧
    (let s := State.reset; latchLow 0x03801C = true ∧ s.dev.asic.copiesDiffer 0x03801C = false ∧ s.dev.asic.copiesDiffer (Reg.TSC_FRAC.FRAC 3).addr = false) ∧
    ((0x40000000 + 32 * 0x20 : Nat) < 0x42000000 ∧ (masksAt ((0x40000000 + 32 * 0x20 - 0x40000000) / 128 * 4)).sq ≠ 0 ∧
      masksAt ((0x40000000 + 32 * 0x0C011C - 0x40000000) / 128 * 4) = {} ∧ wideWo ((0x40000000 + 32 * 0x0C011C - 0x40000000) / 128 * 4) = 0) ∧
    (let s := tp fun a => { a with bus := { a.bus with hold := Tab.set [] (latchKey 0 (0x0C4000 + 8 * 1023)) (some (2 ^ 32 - 1)) } }
     s.dev.freeFor 0 = true ∧ s.dev.asic.bus.hold.get (latchKey 0 (0x0C4000 + 8 * 1023)) = some (2 ^ 32 - 1)) ∧
    (∀ addr ∈ [0x0B000C, 0x0A100C, 0x20, 0x0C0110], hasBit (masksAt addr).sq (8 + 0) = true) := by decide

theorem witness_KeyAndCopies :
    State.reset.dev.freeFor 0 = true ∧
    (let s := tp fun a => clocked (100 * msec) { keyed a with bus := { a.bus with keyAt := 0 } }
     s.dev.sup.shelf = false ∧ s.dev.asic.flag Reg.GLB_KEYST.UNLOCKED = true ∧ s.dev.asic.bus.keyAt + 100 * msec ≤ s.dev.asic.clk.now) ∧
    (let s := tp fun a => clocked (100 * msec - 1) { keyed a with bus := { a.bus with keyAt := 0 } }; s.dev.asic.clk.now < s.dev.asic.bus.keyAt + 100 * msec) ∧
    (let s := tp fun a => { a with bus := { a.bus with lockWritten := true } }; s.dev.freeFor 0 = true ∧ s.dev.asic.bus.lockWritten = true) ∧
    (State.reset.dev.asic.bus.lockWritten = false ∧ State.reset.dev.asic.modes.coldOn = false) ∧
    (let s := tp fun a => { a with tv1 := Tab.set [] 0x14 1 }
     s.dev.asic.copiesDiffer ((0x14 : BitVec 32).toNat / 4 * 4) = true ∧ s.dev.asic.copiesDiffer ((0x18 : BitVec 32).toNat / 4 * 4) = false ∧
       s.dev.asic.tv1.get 0x14 &&& s.dev.asic.tv2.get 0x14 = 0) := by decide

theorem witness_SpiAndPcie :
    (let s := State.reset
     s.dev.busRuns = true ∧ spiBad 3 0 = true ∧ spiBad 1 1 = true ∧ (0x10FFFC : BitVec 32).toNat < 0x110000 ∧ s.dev.asic.copiesDiffer (0x10FFFC : BitVec 32).toNat = false ∧
       latchesOf (0x10FFFC : BitVec 32).toNat = [] ∧ s.dev.asic.bus.latch.get (latchKey 1 (0x10FFFC : BitVec 32).toNat) = none) ∧
    (let s := tp fun a => { a with bus := { a.bus with pcie := { a.bus.pcie with link := true, aer := false } } }
     s.dev.busRuns = true ∧ s.dev.sup.shelf = false ∧ s.dev.asic.bus.pcie.link = true ∧ s.dev.asic.bus.pcie.aer = false ∧ s.dev.asic.bus.pcie.msix = false ∧
       s.dev.asic.copiesDiffer 4 = false ∧ latchesOf 4 = [] ∧ s.dev.asic.bus.latch.get (latchKey 2 4) = none) ∧
    (State.reset.dev.sup.shelf = false ∧ State.reset.dev.asic.bus.pcie.link = false) ∧
    (let s := tp fun a => ((keyed a).put Reg.GLB_KEYST.OWNER 1).put Reg.GLB_TXN.HELD 1 |>.put Reg.GLB_TXN.OWNER 1
     s.dev.asic.flag Reg.GLB_KEYST.UNLOCKED = true ∧ s.dev.asic.get Reg.GLB_KEYST.OWNER = 1 ∧ s.dev.asic.flag Reg.GLB_TXN.HELD = true ∧ s.dev.asic.get Reg.GLB_TXN.OWNER = 1 ∧
       s.dev.asic.flag Reg.GLB_TXN.CHECK = false) ∧
    (let s := tp fun a => (keyed a).put Reg.GLB_KEYST.OWNER 2; s.dev.asic.flag Reg.GLB_KEYST.UNLOCKED = true ∧ s.dev.asic.get Reg.GLB_KEYST.OWNER = 2) := by decide

/-- The transaction lock held by a master, its lease ending at 5. -/
def tTxn (m : Nat) (f : Asic → Asic) : State := tp fun a => f { (a.put Reg.GLB_TXN.HELD 1).put Reg.GLB_TXN.OWNER m with bus := { a.bus with leaseEnd := 5 } }
theorem witness_TransactionLock :
    (State.reset.dev.freeFor 0 = true ∧ State.reset.dev.asic.leaseOver = false ∧ State.reset.dev.asic.txnHeld = false ∧ State.reset.dev.asic.flag Reg.GLB_TXN.CHECK = false) ∧
    (let s := tTxn 0 (clocked 4); s.dev.asic.leaseOver = false ∧ s.dev.asic.txnOwner 0 = true ∧ s.dev.asic.flag Reg.GLB_TXN.CHECK = false) ∧
    (let s := tTxn 0 fun a => a.put Reg.GLB_TXN.CHECK 1; s.dev.asic.leaseOver = false ∧ s.dev.asic.txnOwner 0 = true ∧ s.dev.asic.flag Reg.GLB_TXN.CHECK = true) ∧
    (let s := tTxn 1 id; s.dev.freeFor 0 = true ∧ s.dev.asic.leaseOver = false ∧ s.dev.asic.txnHeld = true ∧ s.dev.asic.txnOwner 0 = false) ∧
    (let s := tTxn 0 (clocked 5); s.dev.sup.shelf = false ∧ s.dev.asic.leaseOver = true) ∧
    (let s := tTxn 0 fun a => a.put Reg.GLB_TXN.CHECK 1; s.dev.asic.flag Reg.GLB_TXN.CHECK = true ∧ s.dev.asic.planCheck = none ∧ s.dev.asic.bus.checkDrop = false) ∧
    (let s := tTxn 0 fun a => { a.put Reg.GLB_TXN.CHECK 1 with apl := { a.apl with staged := Tab.set [] (63 * 64) 1 }, bus := { a.bus with checkDrop := true } }
     s.dev.asic.flag Reg.GLB_TXN.CHECK = true ∧ s.dev.asic.planCheck.isSome = true ∧ s.dev.asic.bus.checkDrop = true) := by decide +kernel
theorem witness_TransactionLock_M3 : State.reset.dev.busRuns = true ∧ (3 : Master).val = 3 := by decide
/-- The CANopen node in an NMT state. -/
def tCan (nmt : Nat) (f : Asic → Asic) : State := tp fun a => f { a with can := { a.can with nmt } }
def withObj (index sub v : Nat) (a : Asic) : Asic := { a with can := { a.can with objects := a.can.objects.set (objKey index sub) (some v) } }
theorem witness_CanNode :
    (let s := tCan 0 id; s.dev.sup.shelf = false ∧ s.dev.busRuns = true ∧ s.dev.asic.can.nmt = 0) ∧
    (let s := tCan 127 fun a => { a with fill := Tab.set [] 288 16 }; s.dev.busRuns = true ∧ s.dev.asic.can.nmt ≠ 0 ∧ 16 ≤ s.dev.asic.fill.get 288 ∧ s.dev.asic.obj 0x1014 0 < 2 ^ 31) ∧
    (let s := tCan 127 fun a => { a with fill := Tab.set [] 288 15, fw := { a.fw with swappedAt := some 0 } }
     s.dev.busRuns = true ∧ s.dev.asic.can.nmt ≠ 0 ∧ s.dev.asic.fill.get 288 < 16 ∧ s.dev.asic.hkcStopped = true) ∧
    (let s := tCan 127 id
     s.dev.busRuns = true ∧ s.dev.asic.can.nmt ≠ 0 ∧ s.dev.asic.fill.get 288 < 16 ∧ s.dev.asic.hkcStopped = false ∧ (1 : BitVec 8).toNat ≠ 0 ∧
       (1 : BitVec 8).toNat ≠ s.dev.asic.nodeId ∧ (127 : BitVec 8).toNat = s.dev.asic.nodeId ∧ s.dev.asic.can.heard.get 1 = none) ∧
    (tCan 5 (withObj 0x1017 0 0)).dev.asic.obj 0x1017 0 = 0 ∧
    (let s := tCan 127 (withObj 0x1016 2 0x7F0001)
     (s.dev.asic.consumer 1).1 = (127 : BitVec 7).toNat ∧ (127 : BitVec 7).toNat ≠ 0 ∧ (s.dev.asic.consumer 1).2 ≠ 0 ∧ (s.dev.asic.consumer 0).1 ≠ (127 : BitVec 7).toNat) ∧
    (let s := tCan 5 fun a => clocked msec (withObj 0x1017 0 1 { a with can := { a.can with beatAt := 0, nmt := 5 } })
     s.dev.asic.obj 0x1017 0 ≠ 0 ∧ s.dev.asic.can.nmt ≠ 0 ∧ s.dev.asic.hkcStopped = false ∧ s.dev.asic.can.beatAt + s.dev.asic.obj 0x1017 0 * msec ≤ s.dev.asic.clk.now) ∧
    (let s := tCan 5 fun a => clocked (msec - 1) (withObj 0x1016 2 0x7F0001 { a with can := { a.can with heard := Tab.set [] 1 (some 0) } })
     s.dev.asic.can.heard.get 1 = some 0 ∧ s.dev.asic.can.absent.get 1 = false ∧ (s.dev.asic.consumer 1).2 ≠ 0 ∧ s.dev.asic.clk.now < 0 + (s.dev.asic.consumer 1).2 * msec) ∧
    (let s := tCan 5 fun a => clocked msec (withObj 0x1016 2 0x7F0001 { a with can := { a.can with heard := Tab.set [] 1 (some 0) } })
     s.dev.asic.can.heard.get 1 = some 0 ∧ s.dev.asic.can.absent.get 1 = false ∧ 0 + (s.dev.asic.consumer 1).2 * msec ≤ s.dev.asic.clk.now) ∧
    (State.reset.dev.asic.can.errorPassive = false ∧ (tp fun a => { a with can := { a.can with errorPassive := true } }).dev.asic.can.errorPassive = true) := by decide

/-- An open session on object 0x1017. -/
def sess (upload : Bool) : Sdo := ⟨objKey 0x1017 0, [1, 2, 3, 4, 5, 6, 7, 8], false, upload, 8, 0⟩
theorem witness_SdoServer :
    (State.reset.dev.sup.shelf = false ∧ State.reset.dev.asic.can.sdo = none) ∧
    (let s := tp fun a => clocked (second - 1) { a with can := { a.can with sdo := some (sess true) } }; s.dev.asic.can.sdo = some (sess true) ∧ s.dev.asic.clk.now < (sess true).at_ + second) ∧
    (let s := tp fun a => clocked second { a with can := { a.can with sdo := some (sess true) } }; s.dev.asic.can.sdo = some (sess true) ∧ (sess true).at_ + second ≤ s.dev.asic.clk.now) ∧
    (let s := tCan 127 id
     s.dev.busRuns = true ∧ s.dev.asic.fill.get 288 < 16 ∧ s.dev.asic.hkcStopped = false ∧ s.dev.asic.can.nmt = 127 ∧ s.dev.asic.can.sdo = none ∧ s.dev.asic.fw.boundary = none ∧
       s.dev.asic.objKind 0x6000 0 = .missing 0x06020000 ∧ s.dev.asic.objKind 0x2000 1 = .register 0 ∧ regAccess 0 ≠ 4 ∧ s.dev.asic.copiesDiffer 0 = false ∧ latchesOf 0 = [] ∧
       s.dev.asic.bus.latch.get (latchKey 4 0) = none ∧ s.dev.asic.objKind 0x1000 0 = .value 4 0 ∧ s.dev.asic.valueOf 0x1000 0 = .data [0, 0, 0, 0] ∧
       s.dev.asic.objKind 0x1008 0 = .value 0 0 ∧ (∃ l, s.dev.asic.valueOf 0x1008 0 = .data l ∧ 4 < l.length) ∧ s.dev.asic.objKind 0x1017 0 = .value 2 2 ∧
       ([5, 0] : List Byte).length = 2 ∧ ([5] : List Byte).length ≠ 2 ∧ s.dev.asic.rangeCheck 0x1017 0 (ofLe [5, 0]) = 0 ∧
       s.dev.asic.objKind 0x5F00 1 = .value 1 3 ∧ s.dev.asic.rangeCheck 0x5F00 1 (ofLe [0]) ≠ 0 ∧ s.dev.asic.rangeCheck 0x5F00 1 (ofLe [1]) = 0 ∧ s.dev.asic.present' = false) ∧
    (let s := tCan 127 fun a => { a with can := { a.can with nmt := 127, window := some 1 } }; s.dev.asic.present' = true) ∧
    (let s := tCan 5 fun a => { a with can := { a.can with sdo := some (sess true), nmt := 5 } }
     s.dev.busRuns = true ∧ s.dev.asic.can.nmt = 5 ∧ s.dev.asic.can.sdo = some (sess true) ∧ true ≠ (sess true).toggle ∧ false = (sess true).toggle ∧ (sess true).upload = true) ∧
    (let s := tCan 5 fun a => { a with can := { a.can with sdo := some (sess false), nmt := 5 } }
     s.dev.asic.can.sdo = some (sess false) ∧ (sess false).upload = false ∧ s.dev.asic.objShape ((sess false).key / 256) ((sess false).key % 256) = some (2, 2)) ∧
    (let s := tCan 127 fun a => { a with fw := { a.fw with boundary := some 5 } }; s.dev.asic.fw.boundary.isSome = true ∧ s.dev.asic.hkcStopped = false) := by
  refine ⟨by decide, by decide, by decide, ?_, by decide, by decide, by decide, by decide⟩
  refine ⟨by decide, by decide, by decide, by decide, by decide, by decide, by decide, by decide, by decide, by decide, by decide, by decide, by decide, by decide, by decide,
    ⟨_, rfl, by decide⟩, by decide⟩
/-- The object of `sess` holds two bytes, so no length of 0. -/
theorem witness_SdoServer_shape (n k : Nat) (h : (tCan 5 fun a => { a with can := { a.can with sdo := some (sess false), nmt := 5 } }).dev.asic.objShape ((sess false).key / 256) ((sess false).key % 256) = some (n, k)) :
    n ≠ 0 := by
  have : (tCan 5 fun a => { a with can := { a.can with sdo := some (sess false), nmt := 5 } }).dev.asic.objShape ((sess false).key / 256) ((sess false).key % 256) = some (2, 2) := by decide
  rw [this] at h
  injection h with h
  injection h with h1 h2
  omega

/-- A mapped word that is not listed: its object reads as 0. -/
theorem witness_SdoServer_gap : State.reset.dev.asic.objKind 0x2000 64 = .gap := by decide

/-- The node operational with TPDO 7 enabled and of a type. -/
def tPdo (type : Nat) (f : Asic → Asic) : State := tCan 5 fun a => f (withObj 0x1807 2 type (withObj 0x1807 1 0x1FF { a with can := { a.can with nmt := 5 } }))
theorem witness_Pdos :
    (State.reset.dev.sup.shelf = false ∧ State.reset.dev.asic.tpdoAsync 7 = false ∧ State.reset.dev.asic.can.emcy = []) ∧
    (let s := tPdo 255 fun a => clocked (msec - 1) (withObj 0x1807 5 1 (a.modTpdo 7 fun x => { x with sent := some 0 }))
     (s.dev.asic.tpdo 7).sent = some 0 ∧ s.dev.asic.clk.now < 0 + s.dev.asic.obj (0x1800 + 7) 5 * msec) ∧
    (let s := tPdo 255 fun a => clocked msec (withObj 0x1807 5 1 (withObj 0x1807 3 11 (a.modTpdo 7 fun x => { x with sent := some 0, held := true })))
     s.dev.asic.tpdoAsync 7 = true ∧ s.dev.asic.obj (0x1800 + 7) 5 ≠ 0 ∧ (s.dev.asic.tpdo 7).sent = some 0 ∧ 0 + s.dev.asic.obj (0x1800 + 7) 5 * msec ≤ s.dev.asic.clk.now ∧
       s.dev.asic.tpdoFree 7 = false) ∧
    (let s := tPdo 254 fun a => clocked msec (withObj 0x1807 5 1 (withObj 0x1807 3 10 (a.modTpdo 7 fun x => { x with sent := some 0, held := true })))
     s.dev.asic.tpdoAsync 7 = true ∧ s.dev.asic.obj (0x1800 + 7) 5 ≠ 0 ∧ (s.dev.asic.tpdo 7).sent = some 0 ∧ 0 + s.dev.asic.obj (0x1800 + 7) 5 * msec ≤ s.dev.asic.clk.now ∧
       s.dev.asic.tpdoFree 7 = true ∧ (s.dev.asic.tpdo 7).held = true) ∧
    (let s := tCan 5 fun a => { a with can := { a.can with nmt := 5, emcy := [[1]], emcyAt := none } }; s.dev.asic.can.emcy = [1] :: [] ∧ s.dev.asic.emcyFree = true) ∧
    (let s := tCan 127 id; s.dev.busRuns = true ∧ s.dev.asic.fill.get 288 < 16 ∧ s.dev.asic.can.nmt ≠ 0 ∧ s.dev.asic.can.nmt ≠ 5 ∧ s.dev.asic.hkcStopped = false ∧
       s.dev.asic.pdoOn (0x1400 + 3) = false) ∧
    (let s := tPdo 1 id
     s.dev.asic.can.nmt = 5 ∧ s.dev.asic.hkcStopped = false ∧ s.dev.asic.can.rpdo = [] ∧ s.dev.asic.pdoOn (0x1800 + 7) = true ∧ 1 ≤ s.dev.asic.obj (0x1800 + 7) 2 ∧
       s.dev.asic.obj (0x1800 + 7) 2 ≤ 240 ∧ s.dev.asic.obj (0x1800 + 7) 6 = 0 ∧ s.dev.asic.obj (0x1800 + 7) 2 = (s.dev.asic.tpdo 7).syncs + 1) ∧
    (let s := tPdo 240 id; s.dev.asic.obj (0x1800 + 7) 2 ≤ 240 ∧ (s.dev.asic.tpdo 7).syncs + 1 < s.dev.asic.obj (0x1800 + 7) 2) ∧
    (let s := tPdo 1 fun a => withObj 0x1403 1 0x27F (withObj 0x1403 2 240 (withObj 0x1603 0 3 a))
     s.dev.busRuns = true ∧ s.dev.asic.pdoOn (0x1400 + 3) = true ∧ s.dev.asic.obj 0x1014 0 < 2 ^ 31 ∧ (List.replicate 11 (0 : Byte)).length < 4 * (s.dev.asic.mapped (0x1600 + 3)).length ∧
       fdLength (4 * (s.dev.asic.mapped (0x1600 + 3)).length) < (List.replicate 16 (0 : Byte)).length ∧
       4 * (s.dev.asic.mapped (0x1600 + 3)).length ≤ (List.replicate 12 (0 : Byte)).length ∧ (List.replicate 12 (0 : Byte)).length ≤ fdLength (4 * (s.dev.asic.mapped (0x1600 + 3)).length) ∧
       s.dev.asic.obj (0x1400 + 3) 2 ≤ 240) := by decide


/-- An occurrence of a source asserted at time 0. -/
def tOcc (src : Nat) (injected : Bool) : Occ :=
  { src, detail := 0, time := 0, coarse := 0, sec := 7, ns := 0, frac := 0, degraded := false, injected, broken := false, access := none }
/-- An open record of an occurrence. -/
def tRec (o : Occ) (taken : Nat) : OpenRec :=
  { first := o, count := 1, mask := 0, cls := 2, taken, merged := false, mergedSet := 0, captured := false, closeAt := 1000 }
/-- Occurrences asserted at time 0, with their filter time over, and records open. -/
def tFlt (raised : List Occ) (opened : List OpenRec) (f : Asic → Asic) : State :=
  tp fun a => clocked 1000 (f { a with flt := { a.flt with raised, opened } })
theorem witness_FaultRecords_none :
    (tFlt [] [] id).dev.sup.shelf = false ∧ (tFlt [] [] id).dev.asic.nextOcc = none ∧
      (tp fun a => clocked 74 { a with flt := { a.flt with raised := [tOcc 1 false] } }).dev.asic.nextOcc = none := by decide
theorem witness_FaultRecords_broken :
    (let s := tFlt [tOcc 127 false] [] fun a => a.put (Reg.FLT_SRCST.BROKEN 127) 1
     s.dev.asic.nextOcc = some (tOcc 127 false) ∧ (tOcc 127 false).src < 128 ∧ s.dev.asic.flag (Reg.FLT_SRCST.BROKEN 127) = true ∧
       (tOcc 127 false).broken = false ∧ (tOcc 127 false).injected = false) := by decide
theorem witness_FaultRecords_safe :
    (let s := tFlt [tOcc 36 false] [] id
     s.dev.asic.nextOcc = some (tOcc 36 false) ∧ s.dev.asic.flag (Reg.FLT_SRCST.BROKEN 36) = false ∧ hasBit (s.dev.asic.reactions 36) 3 = false ∧
       hasBit (s.dev.asic.reactions 36) 4 = true ∧ s.dev.asic.mode ≠ 6) := by decide
theorem witness_FaultRecords_open :
    (let s := tFlt [tOcc 1 true] [] fun a => a.put (Reg.FLT_SRCST.BROKEN 1) 1
     s.dev.asic.nextOcc = some (tOcc 1 true) ∧ (tOcc 1 true).injected = true ∧ hasBit (s.dev.asic.reactions 1) 3 = false ∧
       hasBit (s.dev.asic.reactions 1) 4 = false ∧ s.dev.asic.mergeInto (tOcc 1 true) = none ∧ s.dev.asic.flt.opened.length < 16 ∧
       hasBit (s.dev.asic.reactions 1) 1 = true ∧ 2 ≤ sourceClass 1 ∧ sourceClass 1 ≠ 0 ∧ s.dev.asic.flag Reg.FLT_FESTAT.VALID = false) ∧
    (let s := tFlt [tOcc 0 false] [] id
     s.dev.asic.nextOcc = some (tOcc 0 false) ∧ hasBit (s.dev.asic.reactions 0) 3 = false ∧ hasBit (s.dev.asic.reactions 0) 4 = false ∧ sourceClass 0 = 0) := by decide
theorem witness_FaultRecords_merge :
    (let s := tFlt [tOcc 1 false] [tRec (tOcc 1 false) 1] id
     s.dev.asic.nextOcc = some (tOcc 1 false) ∧ s.dev.asic.flag (Reg.FLT_SRCST.BROKEN 1) = false ∧ s.dev.asic.mergeInto (tOcc 1 false) = some 0) := by decide
theorem witness_FaultRecords_close :
    (let s := tp fun a => clocked 999 { a with flt := { a.flt with opened := [tRec (tOcc 1 false) 1] } }
     s.dev.asic.flt.opened.find? (fun r => decide (r.closeAt ≤ s.dev.asic.clk.now)) = none) ∧
    (let s := tFlt [] [tRec (tOcc 1 false) 2] id
     s.dev.asic.flt.opened.find? (fun r => decide (r.closeAt ≤ s.dev.asic.clk.now)) = some (tRec (tOcc 1 false) 2) ∧ hasBit (tRec (tOcc 1 false) 2).taken 0 = false) ∧
    (let s := tFlt [] [tRec (tOcc 1 false) 1] fun a => a.put Reg.REC_EN.SLOTS 0x2000
     s.dev.asic.flt.opened.find? (fun r => decide (r.closeAt ≤ s.dev.asic.clk.now)) = some (tRec (tOcc 1 false) 1) ∧ hasBit (tRec (tOcc 1 false) 1).taken 0 = true ∧
       hasBit (s.dev.asic.get Reg.REC_EN.SLOTS) 13 = true ∧ s.dev.asic.regionFull (s.dev.asic.get (Reg.REC_SLOTCFG.CH 13)) = false) := by decide
theorem witness_FaultRecords_run :
    (let s := tp (clocked (86400 * second - 1)); s.dev.asic.clk.now < s.dev.asic.flt.lastSafe + 86400 * second) ∧
    (let s := tp (clocked (86400 * second)); s.dev.asic.mode ≠ 6 ∧ s.dev.asic.flt.lastSafe + 86400 * second ≤ s.dev.asic.clk.now) := by decide

theorem witness_FaultPairs_level :
    (let s := tp fun a => clocked 74 (a.put (Reg.FLT_SRCST.ACTIVE 4) 1)
     s.dev.sup.shelf = false ∧ (sourceLevel 4 = true ∧ s.dev.asic.clk.now < (s.dev.asic.pair 4).offSince + 75 ∧ 4 ≠ 15)) ∧
    (let s := tp fun a => clocked 75 (a.put (Reg.FLT_SRCST.ACTIVE 36) 1)
     sourceLevel 36 = true ∧ s.dev.asic.flag (Reg.FLT_SRCST.ACTIVE 36) = true ∧ (s.dev.asic.pair 36).units = [] ∧
       s.dev.asic.flag (Reg.FLT_SRCST.BROKEN 36) = false ∧ (s.dev.asic.pair 36).inject ≠ 2 ∧
       (s.dev.asic.pair 36).offSince + 75 ≤ s.dev.asic.clk.now ∧ s.dev.asic.safeSource 36 = true) := by decide
theorem witness_FaultPairs_broken :
    (sourceReserved 127 = true ∧ sourceReserved 59 = false ∧ State.reset.dev.asic.flag (Reg.FLT_SRCST.BROKEN 59) = false ∧
      State.reset.dev.asic.safeSource 59 = true ∧ State.reset.dev.asic.safeSource 1 = false ∧ State.reset.dev.asic.flag (Reg.FLT_SRCST.BROKEN 0) = false) ∧
    (let s := tp fun a => a.put (Reg.FLT_SRCST.BROKEN 59) 1
     s.dev.asic.flag (Reg.FLT_SRCST.BROKEN 59) = true ∧ (s.dev.asic.pair 59).inject ≠ 3) := by decide
theorem witness_FaultPairs_release :
    State.reset.dev.asic.faultLFree = false ∧
    (let s := tp fun a => clocked (10 * usec) ((keyed a).put Reg.FLT_FAULTL.MODE 0)
     let t := tDev fun d => { d with asic := { s.dev.asic with flt := { s.dev.asic.flt with faultL := true } } }
     t.dev.asic.flt.faultL = true ∧ t.dev.asic.flt.faultLAt + 10 * usec ≤ t.dev.asic.clk.now ∧ t.dev.asic.get Reg.FLT_FAULTL.MODE = 0) ∧
    (let s := tp fun a => clocked (10 * usec) { a.put Reg.FLT_FAULTL.MODE 1 with flt := { a.flt with faultL := true, releaseAsked := true } }
     s.dev.asic.get Reg.FLT_FAULTL.MODE = 1 ∧ s.dev.asic.flt.releaseAsked = true) ∧
    (let s := tp fun a => clocked (10 * usec) { a.put Reg.FLT_FAULTL.MODE 2 with flt := { a.flt with faultL := true } }
     2 ≤ s.dev.asic.get Reg.FLT_FAULTL.MODE ∧ s.dev.asic.activeOf (2 ≤ ·) = false ∧ s.dev.asic.flt.fstate = false) := by decide
theorem witness_FaultPairs_soft :
    (let s := tp fun a => clocked (10 * usec) { a.put Reg.FLT_FAULTL.MODE 1 with flt := { a.flt with faultL := true } }
     s.dev.freeFor 0 = true ∧ s.dev.asic.get Reg.FLT_FAULTL.MODE = 1 ∧ s.dev.asic.flt.faultL = true ∧ s.dev.asic.flt.faultLAt + 10 * usec ≤ s.dev.asic.clk.now) ∧
    (let s := tp fun a => clocked (10 * usec - 1) { a.put Reg.FLT_FAULTL.MODE 1 with flt := { a.flt with faultL := true } }
     s.dev.asic.clk.now < s.dev.asic.flt.faultLAt + 10 * usec) ∧ (tp fun a => a.put Reg.FLT_FAULTL.MODE 0).dev.asic.get Reg.FLT_FAULTL.MODE ≠ 1 := by decide
theorem witness_FaultPairs_inject :
    (let s := tp fun a => (keyed a).put Reg.GLB_MODE.MODE 7
     s.dev.keyFor 0 = true ∧ hasBit (0x10F : Word).toNat 11 = false ∧ s.dev.asic.mode = 7 ∧ sourceReserved (wordBits 0x10F 0 7) = false ∧
       wordBits 0x10F 8 2 ≠ 3 ∧ wordBits 0x10F 8 2 ≠ 2 ∧ wordBits 0x10F 8 2 ≠ 0 ∧ wordBits 0x201 8 2 = 2 ∧ wordBits 0x201 0 7 ≠ 15 ∧ wordBits 0x301 8 2 = 3 ∧
       wordBits 0x001 8 2 = 0 ∧ sourceReserved (wordBits 0x07F 0 7) = true) ∧ (tp keyed).dev.asic.mode ≠ 7 := by decide

/-- Master M0 owns the page buffer, which holds page 0x500. -/
def tBuf (f : Asic → Asic) : State := tp fun a => f ((a.put Reg.NVM_OWNER.HELD 1).put Reg.NVM_PAGE.PAGE 0x500)
theorem witness_NvmCommands_open :
    (let s := tp fun a => (a.put Reg.NVM_OWNER.HELD 1).put Reg.NVM_OWNER.MASTER 1
     s.dev.freeFor 0 = true ∧ s.dev.asic.flag Reg.NVM_OWNER.HELD = true ∧ s.dev.asic.bufOwner (0 : Master).val = false) ∧
    (State.reset.dev.asic.flag Reg.NVM_OWNER.HELD = false ∧ State.reset.dev.asic.bufOwner (0 : Master).val = false) ∧
    (let s := tDev fun d => { d with nvm := { d.nvm with password := Tab.set [] 0 0 } }
     s.dev.asic.flag Reg.NVM_OWNER.HELD = false ∧ s.dev.nvmOpen 0 (partOf (s.dev.asic.get Reg.NVM_PAGE.PAGE)) 0 = true) ∧
    (let s := tDev fun d => { d with nvm := { d.nvm with password := Tab.set [] 0 5 } }
     s.dev.nvmOpen 0 (partOf (s.dev.asic.get Reg.NVM_PAGE.PAGE)) 0 = false) := by decide
theorem witness_NvmCommands_owner :
    (let s := tBuf fun a => a.put Reg.NVM_UNLK.UNLK 0xFF
     s.dev.freeFor 0 = true ∧ s.dev.asic.bufOwner (0 : Master).val = true ∧ s.dev.nvmOpen 0 (partOf (s.dev.asic.get Reg.NVM_PAGE.PAGE)) 1 = true ∧
       256 ≤ s.dev.asic.get Reg.NVM_PAGE.PAGE ∧ s.dev.asic.softCommits < 8) ∧
    (let s := tBuf fun a => { a.put Reg.NVM_UNLK.UNLK 0xFF with commits := List.replicate 8 (.page 0x501 []) }
     s.dev.nvmOpen 0 (partOf (s.dev.asic.get Reg.NVM_PAGE.PAGE)) 1 = true ∧ 8 ≤ s.dev.asic.softCommits) ∧
    (let s := tBuf fun a => a.put Reg.NVM_PAGE.PAGE 255
     s.dev.asic.bufOwner (0 : Master).val = true ∧ s.dev.asic.get Reg.NVM_PAGE.PAGE < 256 ∧ s.dev.asic.mode ≠ 7) := by decide
theorem witness_NvmCommands_unlock :
    (let s := tDev fun d => { d with asic := { d.asic with nvc := { d.asic.nvc with lockedTo := Tab.set [] 0 (10 * second) } } }
     s.dev.asic.clk.now < s.dev.asic.nvc.lockedTo.get (s.dev.asic.get Reg.NVM_PART.PART)) ∧
    (let s := tDev fun d => { d with nvm := { d.nvm with password := Tab.set [] 0 5 }, asic := d.asic.put Reg.NVM_PWLO.PW 5 }
     s.dev.asic.nvc.lockedTo.get (s.dev.asic.get Reg.NVM_PART.PART) ≤ s.dev.asic.clk.now ∧
       s.dev.nvm.password.get (2 * s.dev.asic.get Reg.NVM_PART.PART + s.dev.asic.get Reg.NVM_PART.ACC) = s.dev.asic.get Reg.NVM_PWLO.PW + 2 ^ 32 * s.dev.asic.get Reg.NVM_PWHI.PW) ∧
    (let s := tDev fun d => { d with nvm := { d.nvm with password := Tab.set [] 0 5 } }
     s.dev.nvm.password.get (2 * s.dev.asic.get Reg.NVM_PART.PART + s.dev.asic.get Reg.NVM_PART.ACC) ≠ s.dev.asic.get Reg.NVM_PWLO.PW + 2 ^ 32 * s.dev.asic.get Reg.NVM_PWHI.PW ∧
       s.dev.asic.nvc.fails.get (s.dev.asic.get Reg.NVM_PART.PART) < 2) ∧
    (let s := tp fun a => { a with nvc := { a.nvc with fails := Tab.set [] 0 2 } }
     2 ≤ s.dev.asic.nvc.fails.get (s.dev.asic.get Reg.NVM_PART.PART)) := by decide
theorem witness_NvmCommands_save :
    (let s := tDev fun d => { d with nvm := { d.nvm with password := (Tab.set (Tab.set [] 3 5) 5 5) }, asic := keyed d.asic }
     s.dev.freeFor 0 = true ∧ s.dev.nvmOpen 0 1 1 = false ∧ s.dev.nvmOpen 0 2 1 = false ∧ s.dev.keyFor 0 = true ∧
       s.dev.nvmOpen 0 (partOf (s.dev.asic.get Reg.NVM_RPAGE.PAGE)) 0 = s.dev.nvmOpen 0 0 0) ∧
    (let s := tp fun a => (keyed a).put Reg.NVM_UNLK.UNLK 0xFF
     s.dev.nvmOpen 0 1 1 = true ∧ s.dev.nvmOpen 0 2 1 = true ∧ s.dev.nvmOpen 0 (s.dev.asic.get Reg.NVM_PART.PART) 1 = true ∧
       s.dev.nvmOpen 0 (partOf (s.dev.asic.get Reg.NVM_RPAGE.PAGE)) 0 = true) ∧
    (let s := tDev fun d => { d with nvm := { d.nvm with password := Tab.set (Tab.set [] 0 5) 1 5 } }
     s.dev.nvmOpen 0 (partOf (s.dev.asic.get Reg.NVM_RPAGE.PAGE)) 0 = false ∧ s.dev.nvmOpen 0 (s.dev.asic.get Reg.NVM_PART.PART) 1 = false) := by decide
theorem witness_NvmCommands_time :
    (let s := tBuf fun a => clocked second { a with nvc := { a.nvc with bufAt := 0, bufCommit := false } }
     s.dev.sup.shelf = false ∧ s.dev.asic.flag Reg.NVM_OWNER.HELD = true ∧ s.dev.asic.nvc.bufCommit = false ∧ s.dev.asic.nvc.bufAt + second ≤ s.dev.asic.clk.now) ∧
    (let s := tBuf fun a => clocked (second - 1) { a with nvc := { a.nvc with bufAt := 0 } }
     s.dev.asic.clk.now < s.dev.asic.nvc.bufAt + second ∧ s.dev.asic.clk.now < s.dev.asic.nvc.access.get 0 + 60 * second) ∧
    (let s := tp (clocked (60 * second)); s.dev.asic.nvc.access.get 0 + 60 * second ≤ s.dev.asic.clk.now ∧ s.dev.asic.nvc.lockedTo.get 3 ≤ s.dev.asic.clk.now) ∧
    (let s := tp fun a => { a with nvc := { a.nvc with lockedTo := Tab.set [] 3 1 } }; s.dev.asic.clk.now < s.dev.asic.nvc.lockedTo.get 3) := by decide

/-- A commit of page 0x500 in flight, tried before. -/
def tFlight (tries : Nat) : Flight := { commit := .page 0x500 [1], start := 0, page := 7, tries, words := [], objects := [], sets := [], fits := [], number := 0 }
def tNvm (now : Nat) (tries : Nat) : State := tDev fun d => { d with asic := clocked now d.asic, nvm := { d.nvm with flight := some (tFlight tries) } }
theorem witness_NvmCommits_start :
    State.reset.dev.asic.commits = [] ∧
    (let s := tDev fun d => { d with asic := { d.asic with commits := [.hours] }, nvm := { d.nvm with pool := [2050, 2049], cycles := Tab.set [] 2050 1 } }
     s.dev.asic.commits = .hours :: [] ∧ s.dev.sup.shelf = false ∧ s.dev.asic.brace = false ∧ s.dev.nvm.flight = none ∧ s.dev.nvm.leastUsed = some 2049) ∧
    (let s := tDev fun d => { d with asic := { d.asic with commits := [.hours] }, nvm := { d.nvm with pool := [] } }
     s.dev.asic.commits = .hours :: [] ∧ s.dev.asic.brace = false ∧ s.dev.nvm.flight = none ∧ s.dev.nvm.leastUsed = none) := by decide
theorem witness_NvmCommits_end :
    State.reset.dev.nvm.flight = none ∧
    (let s := tNvm (2000 * usec - 1) 0; s.dev.nvm.flight = some (tFlight 0) ∧ s.dev.asic.clk.now < (tFlight 0).start + (if true = true then 2800 else 2000) * usec ∧
      s.dev.asic.clk.now < (tFlight 0).start + (if false = true then 2800 else 2000) * usec) ∧
    (let s := tNvm (2800 * usec) 1; (tFlight 1).start + 2800 * usec ≤ s.dev.asic.clk.now ∧ (tFlight 1).start + 2000 * usec ≤ s.dev.asic.clk.now ∧ (tFlight 1).tries < 2 ∧
      (tFlight 1).commit = .page 0x500 [1] ∧ s.dev.sup.shelf = false) ∧
    2 ≤ (tFlight 2).tries ∧ (tShelf id).dev.sup.shelf = true := by decide
theorem witness_NvmCommits_time :
    State.reset.dev.asic.nvc.log = [] ∧ State.reset.dev.asic.nvc.loads = [] ∧
    (let s := tp fun a => clocked (10 * second) { a with nvc := { a.nvc with log := [[1]], logAt := 0, loads := [(true, 2047)] } }
     s.dev.asic.nvc.log ≠ [] ∧ s.dev.asic.nvc.logAt + 10 * second ≤ s.dev.asic.clk.now ∧ s.dev.asic.nvc.loads = (true, 2047) :: [] ∧
       s.dev.asic.clk.now < s.dev.asic.nvc.hourAt + 3600 * second) ∧
    (let s := tp fun a => clocked (10 * second - 1) { a.put Reg.NVM_LOGHEAD.HEAD 1 with nvc := { a.nvc with log := [[1]], logAt := 0, loads := [(false, 0)] } }
     s.dev.asic.nvc.log.length < 8 - (s.dev.asic.get Reg.NVM_LOGHEAD.HEAD + 4096 - s.dev.asic.nvc.log.length % 4096) % 4096 % 8 ∧
       s.dev.asic.clk.now < s.dev.asic.nvc.logAt + 10 * second ∧ s.dev.asic.nvc.loads = (false, 0) :: []) ∧
    (let s := tp fun a => clocked (3600 * second) { a with nvc := { a.nvc with hourAt := 0 } }; s.dev.asic.nvc.hourAt + 3600 * second ≤ s.dev.asic.clk.now) := by decide

/-- Index 23 is qualified and unambiguous. -/
def calReady (a : Asic) : Asic := (a.put (Reg.UMP_ISTAT.STATE 23) 2).put Reg.REF_CALPPS.AMBIG 0
/-- A step of an item's unit 0 that began at time 0. -/
def tStep (item : Nat) : CalStep := { item, unit := 0, gap := 0, start := 0, sec := 0, bad := false }
def tCal (now item : Nat) (f : Asic → Asic) : State := tp fun a => clocked now (f { calReady a with cal := { a.cal with step := some (tStep item) } })
theorem witness_Calibration_start :
    (State.reset.dev.freeFor 0 = true ∧ (tp keyed).dev.keyFor 0 = true ∧ (tp keyed).dev.asic.cal.step = none ∧ (255 : BitVec 8) ≠ 0) ∧
    (State.reset.dev.asic.gapOf 7 63 = none) ∧
    (let s := tp fun a => { a with cal := { a.cal with due := Tab.set [] (calKey 5 35) true } }
     s.dev.sup.shelf = false ∧ s.dev.asic.gapOf 5 35 = some 0 ∧ s.dev.asic.cal.step = none ∧ s.dev.asic.cal.due.get (calKey 5 35) = true ∧ s.dev.asic.calAllowed = true) := by decide
theorem witness_Calibration_step :
    (let s := tCal (second - 1) 5 id; s.dev.asic.cal.step = some (tStep 5) ∧ (s.dev.asic.gapOf 5 0).isSome = true ∧ s.dev.asic.clk.now < (tStep 5).start + stepTime 5) ∧
    (let s := tCal 0 4 fun a => a.put (Reg.EVT_CFG.EN 0) 1; s.dev.asic.cal.step = some (tStep 4) ∧ s.dev.asic.gapOf 4 0 = none) ∧
    (let s := tCal second 5 id; (tStep 5).start + stepTime 5 ≤ s.dev.asic.clk.now ∧ (tStep 5).bad = false ∧ s.dev.asic.calOk = true) ∧
    (let s := tCal second 5 fun a => a.put (Reg.UMP_ISTAT.STATE 23) 0; s.dev.asic.calOk = false) := by decide
theorem witness_Calibration_time :
    State.reset.dev.asic.flag Reg.CAL_CFG.EN = true ∧ State.reset.dev.asic.clk.now < State.reset.dev.asic.cal.roundAt + State.reset.dev.asic.calPeriod ∧
    (let s := tp fun a => clocked (720 * 3600 * second) (a.put Reg.CAL_CFG.ITEMS 0xF8)
     s.dev.asic.cal.roundAt + s.dev.asic.calPeriod ≤ s.dev.asic.clk.now ∧ hasBit (s.dev.asic.get Reg.CAL_CFG.ITEMS) 7 = true) ∧
    140 * 16 ≤ (2240 : BitVec 16).toInt ∧ (2159 : BitVec 16).toInt < 135 * 16 ∧ 135 * 16 ≤ (2239 : BitVec 16).toInt ∧ 150 * 16 ≤ (2400 : BitVec 16).toInt ∧
      (2319 : BitVec 16).toInt < 145 * 16 := by decide
theorem witness_Calibration_rejected : ({ tStep 5 with bad := true } : CalStep).bad = true ∧ (tCal second 5 id).dev.asic.tj = 0 := by decide
/-- Below the lowest temperature only the first set counts, and a result that equals the factory value changes nothing. -/
def tChill : State := tCal second 5 fun a => a.putS Reg.CAL_TJ.TJ (-641)
theorem tChill_interp : interpAt tChill.dev.asic.tj = (0, 0, 0) := by decide
theorem tChill_fld : tChill.dev.asic.cal.fld = [] := by decide
theorem tChill_calV : tChill.dev.asic.calV 5 0 0 = (Config.factorySet 5 0 0 0 : Rat) := by
  simp [Asic.calV, tChill_interp, Asic.fieldSet, tChill_fld, Tab.get, Tab.getF, Rat.sub_eq_add_neg, Rat.mul_comm, Rat.add_comm, Rat.zero_add, Rat.one_mul]
theorem witness_Calibration_accepted (value : BitVec 32) (h : value.toInt = Config.factorySet 5 0 0 0) :
    tChill.dev.asic.cal.step = some (tStep 5) ∧ (tStep 5).start + stepTime 5 ≤ tChill.dev.asic.clk.now ∧ (tStep 5).bad = false ∧ tChill.dev.asic.calOk = true ∧
    absRat ((value.toInt : Rat) - tChill.dev.asic.calV 5 0 0) ≤ plausible 5 ∧
    (tChill.dev.asic.moveSets 5 0 0 ((value.toInt : Rat) - tChill.dev.asic.calV 5 0 0)).setsFar 5 0 = false := by
  rw [tChill_calV, h, Rat.sub_eq_add_neg, Rat.add_neg_cancel]
  refine ⟨by decide, by decide, by decide, by decide, by decide +kernel, by decide +kernel⟩

/-! ### Ill-formed commands are refused -/

theorem test_wf_refuses_tables :
    (Instr.laneCalTableComputed 0 8000 625 []).wf = false ∧ (Instr.tacCalTableComputed 0 0 []).wf = false ∧
      (Instr.tacHandoverTableAccepted 0 (List.replicate 65 0)).wf = false := by decide
theorem test_wf_refuses_values :
    (Instr.calppsEdge 63).wf = false ∧ (Instr.calppsEdge (-63)).wf = false ∧ (Instr.ovenFault 1 0).wf = false ∧ (Instr.ptpScheduledSend 0 2 0).wf = false ∧
      (Instr.hkcMessageSend 0 0 0).wf = false ∧ (Instr.canSyncReceived 241).wf = false ∧ (Instr.canHeartbeatReceived 0).wf = false := by decide
theorem test_wf_refuses_frames :
    (Instr.frameReceived 0 (plainFrame 59 false) 0 0 0).wf = false ∧ (Instr.cutThroughFrame 0 (plainFrame 59 false) 0 0 false).wf = false := by decide
/-- A frame of 9213 bytes before its FCS is longer than any the ports take. -/
theorem test_wf_refuses_long : (Instr.frameReceived 0 (plainFrame 9213 false) 0 0 0).wf = false ∧ (Instr.cutThroughFrame 0 (plainFrame 9213 false) 0 0 false).wf = false := by
  have h : (plainFrame 9213 false).bytes.length = 9213 := List.length_replicate
  constructor <;> show (decide (60 ≤ (plainFrame 9213 false).bytes.length) && decide ((plainFrame 9213 false).bytes.length ≤ frameMax)) = false <;> rw [h] <;> rfl
theorem test_wf_refuses_heartbeat : (Instr.heartbeatReceived ⟨0, 0, false, false, 0, 0, false, false, 0, [], []⟩).wf = false := by decide
theorem test_wf_refuses_bus :
    (Instr.spiWriteFrame 2 0 0 []).wf = false ∧ (Instr.pcieMemoryWrite false 0 2 0 0 [0]).wf = false ∧ (Instr.aliasWrite 0 0x3FFFFFFF 0).wf = false ∧
      (Instr.aliasWrite 0 0x42000000 0).wf = false ∧ (Instr.tvScrub 0x110000).wf = false ∧ (Instr.pairLowWordRead 0 0x110000).wf = false ∧
      (Instr.heldPairHighWrite 0 0x110000 0).wf = false ∧ (Instr.sequenceClearWrite 0 0x110000 0).wf = false := by decide
theorem test_wf_refuses_can :
    (Instr.nmtStartRemoteNode 128).wf = false ∧ (Instr.nmtStopRemoteNode 128).wf = false ∧ (Instr.nmtEnterPreOperational 128).wf = false ∧ (Instr.nmtResetNode 128).wf = false ∧
      (Instr.nmtResetCommunication 128).wf = false ∧ (Instr.sdoExpeditedDownload 0 0 []).wf = false ∧ (Instr.sdoExpeditedDownload 0 0 [0, 0, 0, 0, 0]).wf = false ∧
      (Instr.sdoSegment false [0, 0, 0, 0, 0, 0, 0, 0] true).wf = false ∧ (Instr.rpdoReceived 0 [0, 0, 0, 0, 0, 0, 0, 0, 0]).wf = false := by decide

/-! ### Small runs against the spec's own numbers -/

/-- The state a step ends in. -/
def after (o : Host.Outcome State Fault Refusal) : State := match o with | .next t => t | _ => State.reset
/-- R411: the reset word of `GLB_MODE` (SEQ 1, MODE 2, TARGET 2, PREV 1, CAUSE 1), and of `GLB_ID`. -/
theorem test_reset_words : State.reset.dev.asic.word 0x004 = 0x00025201 ∧ State.reset.dev.asic.word 0x000 = 0x88200B00 := by decide
/-- R401, R411: 0x5A17 unlocks for the master that writes it; any other value re-arms. -/
theorem test_keyWrite : (after (exec (.keyWrite 1 0x5A17) State.reset)).dev.asic.word 0x014 = 0x3 ∧
    (after (exec (.keyWrite 0 0x5A16) (tp keyed))).dev.asic.word 0x014 &&& 1 = 0 := by decide
/-- R401, worked example of chapter 15: a guarded write takes effect in all three copies and re-arms the lock; without the key it is rejected. -/
theorem test_override : (after (exec (.registerWrite 0 0x22010 2 0x70) (tp keyed))).dev.asic.word 0x22010 = 0x70 ∧
    (after (exec (.registerWrite 0 0x22010 2 0x70) (tp keyed))).dev.asic.flag Reg.GLB_KEYST.UNLOCKED = false ∧
    (after (exec (.registerWrite 0 0x22010 2 0x70) State.reset)).dev.asic.word 0x22010 = 0x40 := by decide
/-- R406: the alias of `OUT_ENA` bit 24 is 0x40C00060. -/
theorem test_alias : (after (exec (.aliasWrite 0 0x40C00060 1) State.reset)).dev.asic.word 0x60000 = 0x01000000 := by decide +kernel
/-- R424: object 0x2220:05 is `UMP_OVR` of channel 0, and 0x2303:15 Ledger entry 4 of cell (1,2), the sub-index in hexadecimal. -/
theorem test_objAddr : objAddr 0x2220 0x05 = 0x22010 ∧ objAddr 0x2303 0x15 = 0x30350 := by decide
/-- Worked example of chapter 16: the download aborts 0x08000021 while no window is open. -/
theorem test_sdo_guarded : (after (exec (.sdoExpeditedDownload 0x2220 5 [0x70, 0, 0, 0]) (tCan 127 id))).dev.asic.word 0x22010 = 0x40 := by decide
/-- A step of a machine with an empty queue is a tick, and a command in front runs. -/
theorem test_step_runs : (after (step { State.reset with pending := [.keyWrite 2 0x5A17] })).dev.asic.word 0x014 = 0x5 ∧
    (after (step { State.reset with pending := [.keyWrite 2 0x5A17] })).pending = [] := by decide
/-- R416: the data of a CAN FD frame are padded to the next length the format has. -/
theorem test_fdLength : fdLength 9 = 12 ∧ fdLength 33 = 48 ∧ fdLength 64 = 64 ∧ fdLength 8 = 8 := by decide
/-- R466: 55 °C lies between the sets around it, and below −40 °C only the first set counts. -/
theorem test_interp : interpAt (-641) = (0, 0, 0) ∧ interpAt 2000 = (7, 7, 0) := by decide
end

section
/-! SUPPORT. A write of a plain word that its register's rule rejects: the word's stored fields are put back, the guard
violation is raised, and only what the rule sets on a rejection stays (R403). -/

namespace Sys2Proof.Machine

/-- The module with the lock re-armed, if the write of `v` is guarded (R401). -/
def Dev.rearmedFor (d : Dev) (addr : Nat) (v : Word) : Dev := if d.guarded addr v then d.onAsic Asic.rearm else d

/-- Re-arming writes no word but `GLB_KEYST`. -/
theorem Dev.rearmedFor_word (d : Dev) (addr : Nat) (v : Word) {b : Nat} (hb : b ≠ 0x14) :
    (d.rearmedFor addr v).asic.word b = d.asic.word b := by
  unfold Dev.rearmedFor
  split
  · exact Asic.word_setMasked_ne _ _ _ hb
  · rfl

theorem Dev.rearmedFor_blockLocked (d : Dev) (addr b : Nat) (v : Word) (h : d.asic.get Reg.GLB_LOCK.BLOCKS = 0) :
    (d.rearmedFor addr v).asic.blockLocked b = false := by
  have : (d.rearmedFor addr v).asic.get Reg.GLB_LOCK.BLOCKS = 0 := by
    rw [Asic.get, d.rearmedFor_word addr v (by decide)]; exact h
  simp [Asic.blockLocked, this, hasBit]

/-- What `plainWord` says, in the words of the bus. -/
structure PlainWord (addr : Nat) (k : Masks) (base i : Nat) : Prop where
  low : ¬0x100000 ≤ addr
  offset : addr % 4 = 0
  notKey : addr ≠ 0x14
  notStaged : stagedBank addr = false
  notSilent : silentWindow addr = false
  notNvm : addr / 65536 ≠ 14
  notBarred : ∀ (a : Asic) (m : Nat), a.barredWindow m addr = false
  notHeldLow : heldLow addr = false
  notHeldHigh : heldHigh addr = false
  masks : masksAt addr = k
  noW1 : k.w1 = 0
  row : ∃ r, regRow addr = some (r, i) ∧ r.addr = base

theorem plainWord_cases {addr base i : Nat} {k : Masks} (h : plainWord addr k base i = true) : PlainWord addr k base i := by
  simp only [plainWord, Bool.and_eq_true, decide_eq_true_eq, Bool.not_eq_true'] at h
  obtain ⟨⟨⟨⟨⟨⟨⟨⟨⟨⟨⟨⟨hlow, hal, h14⟩, hst⟩, hsil⟩, hnvm⟩, hentry⟩, hhist⟩, hplan⟩, hhl⟩, hhh⟩, hk⟩, hw1⟩, hrow⟩ := h
  refine ⟨by omega, hal, h14, hst, hsil, hnvm, fun a m => ?_, hhl, hhh, hk, hw1, ?_⟩
  · simp only [Asic.barredWindow, hentry, hhist, hplan, hst, Bool.false_and, Bool.or_self]
  · obtain ⟨⟨r, j⟩, hr, he⟩ := Option.map_eq_some_iff.1 hrow
    obtain ⟨rfl, rfl⟩ := Prod.mk.inj he
    exact ⟨r, hr, rfl⟩

section
variable {addr base i : Nat} {k : Masks}

/-- What a plain word stores when no event bit of it is written as 1. -/
theorem PlainWord.storeWrite_clearEvents (p : PlainWord addr k base i) (d : Dev) (o : Nat) (v : Word)
    (hsq : (v &&& BitVec.ofNat 32 k.sq) &&& (0xFFFFFF00 : Word) = 0) :
    ((d.rearmedFor addr v).storeWrite o addr v).clearEvents addr v (byteMask addr 2) = d.afterStore addr v := by
  have hk := p.masks
  subst hk
  have hev : v &&& BitVec.allOnes 32 &&& BitVec.ofNat 32 (masksAt addr).sq &&& (0xFFFFFF00 : Word) = 0 := by
    rw [BitVec.and_allOnes]; exact hsq
  simp only [Dev.storeWrite, p.notHeldHigh, p.noW1, Dev.clearEvents, byteMask_word addr p.offset, hev, Dev.store, p.low, p.notStaged,
    Bool.false_eq_true, if_false, ne_eq, not_true, false_and, or_true, if_true, Dev.afterStore, Dev.rearmedFor]

/-- The whole word a 32-bit write of a plain word writes is the written value. -/
theorem PlainWord.whole (p : PlainWord addr k base i) (old v : Word) :
    (old &&& ~~~(byteMask addr 2)) ||| ((v <<< (8 * (addr % 4))) &&& byteMask addr 2) = v := by
  rw [byteMask_word addr p.offset, p.offset, BitVec.and_allOnes, Nat.mul_zero, BitVec.shiftLeft_zero]
  simp

/-- The access a 32-bit write of master `m` makes. -/
def wordAccess (m addr : Nat) : Access := { addr := addr, master := m, write := true, size := 2, aliased := false }

/-- A write of a plain word whose effect a rule rejects puts the stored fields back (R403). -/
theorem PlainWord.writeWord_rejected (p : PlainWord addr k base i) {d r : Dev} {m : Nat} {v : Word} (hm : m ≠ 3)
    (hlock : d.asic.get Reg.GLB_LOCK.BLOCKS = 0) (hkey : d.guarded addr v = true → d.asic.keyOpen m = true)
    (hsq : (v &&& BitVec.ofNat 32 k.sq) &&& (0xFFFFFF00 : Word) = 0)
    (heff : d.effect (d.afterStore addr v) m addr base i v.toNat true = (r, true)) :
    d.writeWord m m (wordAccess m addr) addr v (byteMask addr 2) = (r.store addr (storedMask addr k) (d.asic.word addr), true) := by
  obtain ⟨row, hrow, hbase⟩ := p.row
  have hopen : ¬(d.guarded addr v = true ∧ d.asic.keyOpen m = false) := fun ⟨g, o⟩ => by simp [hkey g] at o
  have hstore := p.storeWrite_clearEvents d m v hsq
  have hunlocked := d.rearmedFor_blockLocked addr addr v hlock
  unfold Dev.rearmedFor at hstore hunlocked
  simp only [Dev.writeWord, wordAccess, p.notSilent, p.notBarred, p.notHeldLow, hunlocked, hstore, hrow, hbase, heff, hm, hopen, p.masks, storedMask,
    beq_self_eq_true, Bool.false_eq_true, Bool.not_eq_true', Bool.false_and, false_and, false_or, if_false, if_true]

/-- A rejected 32-bit write of a plain word: the fields are put back and `FE7` is raised (R403, R439). -/
theorem PlainWord.write_rejected (p : PlainWord addr k base i) {d r : Dev} {m : Master} {n : Nat} (hruns : d.busRuns = true) (hm : m.val ≠ 3)
    (hlock : d.asic.get Reg.GLB_LOCK.BLOCKS = 0) (hkey : d.guarded addr (BitVec.ofNat 32 n) = true → d.asic.keyOpen m.val = true)
    (hsq : (BitVec.ofNat 32 n &&& BitVec.ofNat 32 k.sq) &&& (0xFFFFFF00 : Word) = 0)
    (heff : d.effect (d.afterStore addr (BitVec.ofNat 32 n)) m.val addr base i (BitVec.ofNat 32 n).toNat true = (r, true)) :
    d.write m addr n =
      (r.store addr (storedMask addr k) (d.asic.word addr)).onAsic fun a => a.raiseAccess 7 (wordAccess m.val addr) := by
  have hlow := p.low
  have hw : addr / 4 * 4 = addr := by have := p.offset; omega
  have ht : targetOf addr = .reg addr := by simp [targetOf, hw]; omega
  have htouch : (d.onAsic fun a => a.touch m.val addr) = d := by simp [Dev.onAsic, Asic.touch, p.notNvm]
  have hal : aligned addr 2 true = true := by simp [aligned, p.offset]
  have hword := p.writeWord_rejected hm hlock hkey hsq heff
  unfold wordAccess at hword
  rw [Dev.write, if_pos hruns, Dev.busWrite]
  simp only [hal, ht, htouch, p.whole, hword, wordAccess, Nat.lt_irrefl, Bool.not_true, Bool.false_eq_true, if_false, false_and, if_true]

/-! ### What decides a raised access fault -/

/-- `TS0` is read from the clock, the scales and the enable bit of `TS0` alone. -/
theorem Asic.ts0_congr {a b : Asic} (hclk : b.clk = a.clk) (htsc : b.tsc = a.tsc)
    (hen : b.get (Reg.TSC_CFG.EN 0) = a.get (Reg.TSC_CFG.EN 0)) : b.ts0 = a.ts0 := by
  unfold Asic.ts0 Asic.scaleAt Asic.scale Asic.nowU Asic.flag
  rw [hclk, htsc, hen]

/-- An occurrence is stamped from the clock, `TS0` and the fallback flag alone. -/
theorem Asic.occ_congr {a b : Asic} (hclk : b.clk = a.clk) (hts0 : b.ts0 = a.ts0)
    (hfb : b.get Reg.GLB_MODE.FALLBACK = a.get Reg.GLB_MODE.FALLBACK) (s d : Nat) : b.occ s d = a.occ s d := by
  unfold Asic.occ Asic.degraded Asic.fallback Asic.flag
  rw [hclk, hts0, hfb]

/-- What raising an occurrence leaves in the collector's side depends on that side and the time alone. -/
theorem Asic.raiseOcc_flt_congr {a b : Asic} (hflt : b.flt = a.flt) (hclk : b.clk = a.clk) (s : Nat) (o : Occ) :
    (b.raiseOcc s o).flt = (a.raiseOcc s o).flt := by
  have hpair : b.pair s = a.pair s := by rw [Asic.pair, Asic.pair, hflt]
  unfold Asic.raiseOcc
  rw [hpair, hclk]
  split
  · exact hflt
  · split
    · rw [Asic.setPair_flt, Asic.setPair_flt, hflt]
    · simp only [Asic.assertOcc, Asic.setPair_flt, hflt]

/-- An access fault raised in two states that agree on the collector's side and on what stamps an occurrence. -/
theorem Asic.raiseAccess_flt_congr {a b : Asic} (hflt : b.flt = a.flt) (hclk : b.clk = a.clk) (htsc : b.tsc = a.tsc)
    (hen : b.get (Reg.TSC_CFG.EN 0) = a.get (Reg.TSC_CFG.EN 0)) (hfb : b.get Reg.GLB_MODE.FALLBACK = a.get Reg.GLB_MODE.FALLBACK)
    (s : Nat) (x : Access) : (b.raiseAccess s x).flt = (a.raiseAccess s x).flt := by
  unfold Asic.raiseAccess
  rw [Asic.occ_congr hclk (Asic.ts0_congr hclk htsc hen) hfb, Asic.raiseOcc_flt_congr hflt hclk]

/-! ### The write put back -/

/-- What stands of the ASIC `a` after a rejected write of the word at `addr`, when the rule left `b`: the stored fields are
as `a` held them, and the guard violation is raised (R403). -/
def Asic.putBack (a b : Asic) (m addr : Nat) (k : Masks) : Asic :=
  (b.setMasked addr (storedMask addr k) (a.word addr)).raiseAccess 7 (wordAccess m addr)

theorem Asic.putBack_get (a b : Asic) (m : Nat) {q : Fld} (h : q.addr ≠ addr) : (a.putBack b m addr k).get q = b.get q := by
  rw [Asic.putBack, Asic.raiseAccess_get, Asic.get_setMasked_ne _ _ _ _ (.inl h)]
@[simp] theorem Asic.putBack_ref (a b : Asic) (m : Nat) : (a.putBack b m addr k).ref = b.ref := Asic.raiseAccess_ref _ _ _
@[simp] theorem Asic.putBack_deferred (a b : Asic) (m : Nat) : (a.putBack b m addr k).deferred = b.deferred := Asic.raiseAccess_deferred _ _ _

/-- The violation of a rejected write is the one `a` would raise, when the rule left alone what stamps an occurrence. -/
theorem Asic.putBack_flt {a b : Asic} (m : Nat) (hflt : b.flt = a.flt) (hclk : b.clk = a.clk) (htsc : b.tsc = a.tsc)
    (hen : b.get (Reg.TSC_CFG.EN 0) = a.get (Reg.TSC_CFG.EN 0)) (hfb : b.get Reg.GLB_MODE.FALLBACK = a.get Reg.GLB_MODE.FALLBACK)
    (h1 : (Reg.TSC_CFG.EN 0).addr ≠ addr) (h2 : Reg.GLB_MODE.FALLBACK.addr ≠ addr) :
    (a.putBack b m addr k).flt = (a.raiseAccess 7 (wordAccess m addr)).flt := by
  have hget : ∀ q : Fld, q.addr ≠ addr → (b.setMasked addr (storedMask addr k) (a.word addr)).get q = b.get q :=
    fun q h => Asic.get_setMasked_ne _ _ _ _ (.inl h)
  exact Asic.raiseAccess_flt_congr (b := b.setMasked addr (storedMask addr k) (a.word addr)) hflt hclk htsc
    ((hget _ h1).trans hen) ((hget _ h2).trans hfb) 7 _

/-- A field inside the mask of a write reads the written bits. -/
theorem Asic.get_setMasked_same (a : Asic) {addr : Nat} (m v : Word) {q : Fld} (h : q.addr = addr) (hw : q.lsb + q.width ≤ 32)
    (hm : maskAt q.lsb q.width &&& ~~~m = 0) : (a.setMasked addr m v).get q = wordBits v q.lsb q.width := by
  rw [Asic.get, h, Asic.word_setMasked_same]
  refine wordBits_congr fun j h1 h2 => ?_
  have hj : j < 32 := by omega
  have hin : m.getLsbD j = true := by
    have := and_zero_bit hm j (by rw [maskAt_bit _ _ _ hj]; simp [h1, h2])
    simpa [hj] using this
  simp only [BitVec.getLsbD_or, BitVec.getLsbD_and, BitVec.getLsbD_not, hj, hin, decide_true, Bool.not_true, Bool.and_false, Bool.false_or, Bool.and_true]

/-- The ASIC after the fields of an accepted write are stored, in the words of `Asic.Wrote`. -/
theorem Dev.afterStore_wrote (d : Dev) (v : Word) (hk : masksAt addr = k) (h14 : addr ≠ 0x14) :
    d.asic.Wrote addr k v (d.afterStore addr v).asic := by
  subst hk
  have e : (d.afterStore addr v).asic = (d.rearmedFor addr v).asic.setMasked addr (storedMask addr (masksAt addr)) v := rfl
  refine ⟨fun q h h' => d.afterStore_get addr v q h h', fun q h hw hm => ?_, fun q h hm hw => ?_, fun r t1 t2 => ?_⟩
  · rw [e, Asic.get_setMasked_same _ _ _ h hw hm]
  · rw [e, Asic.get_setMasked_ne _ _ _ _ (.inr fun j h1 h2 => and_zero_bit hm j (by rw [maskAt_bit _ _ _ (by omega)]; simp [h1, h2])),
      Asic.get, Asic.get, d.rearmedFor_word addr v (h ▸ h14)]
  · unfold Dev.afterStore
    split <;> rfl

theorem Dev.afterStore_eq (d : Dev) (addr : Nat) (v : Word) : d.afterStore addr v = { d with asic := (d.afterStore addr v).asic } := by
  unfold Dev.afterStore
  split <;> rfl

/-- A row that writes a word whose rule, on the ASIC, rejects the write. -/
theorem Runs.writeRejected {c : Instr} {s : State} {P : Asic → Prop} (m : Master) (addr n base i : Nat) (k : Masks)
    (he : exec c s = s.act fun d => d.write m addr n) (hp : plainWord addr k base i = true) (hd : deviceWord addr = false)
    (hfree : s.dev.freeFor m = true) (hkey : k.wk ≠ 0 → s.dev.asic.keyOpen m.val = true) (hsq : k.sq = 0)
    (h : ∀ a : Asic, s.dev.asic.Wrote addr k (BitVec.ofNat 32 n) a →
      ∃ b, s.dev.asic.effect a m.val addr base i (BitVec.ofNat 32 n).toNat true = (b, true) ∧ P (s.dev.asic.putBack b m.val addr k)) : Runs c s P := by
  have p := plainWord_cases hp
  obtain ⟨hruns, hlock, hm⟩ := Dev.freeFor_cases hfree
  obtain ⟨b, hb, hP⟩ := h _ (s.dev.afterStore_wrote _ p.masks p.notKey)
  have heff : s.dev.effect (s.dev.afterStore addr (BitVec.ofNat 32 n)) m.val addr base i (BitVec.ofNat 32 n).toNat true
      = ({ s.dev with asic := b }, true) := by
    rw [Dev.effect_asic _ _ _ _ _ _ _ _ hd, hb, Dev.afterStore_eq]
  have hkey' : s.dev.guarded addr (BitVec.ofNat 32 n) = true → s.dev.asic.keyOpen m.val = true := fun g =>
    hkey fun h0 => by simp [Dev.guarded_of_wk _ _ _ (p.masks ▸ h0)] at g
  refine Runs.act _ he ?_ hP
  rw [p.write_rejected hruns hm hlock hkey' (by simp [hsq]) heff]
  simp only [Dev.store, p.low, p.notStaged, if_false, Bool.false_eq_true, Dev.onAsic, Asic.putBack]

/-- A row that writes a word with its GO bit set, when the rule of that GO rejects it. -/
theorem Runs.goRejected {c : Instr} {s : State} {P : Asic → Prop} (m : Master) (g : Fld) (v : Word) (base i : Nat) (k : Masks)
    (he : exec c s = s.act fun d => d.write m g.addr (v.toNat ||| 2 ^ g.lsb)) (hp : plainWord g.addr k base i = true) (hd : deviceWord g.addr = false)
    (hfree : s.dev.freeFor m = true) (hkey : k.wk ≠ 0 → s.dev.asic.keyOpen m.val = true) (hsq : k.sq = 0) (hg : g.lsb < 32)
    (h : ∀ (a : Asic) (w : Word), s.dev.asic.Wrote g.addr k w a → hasBit w.toNat g.lsb = true →
      (∀ q : Fld, q.addr = g.addr → q.lsb + q.width ≤ 32 → maskAt q.lsb q.width &&& ~~~(storedMask g.addr k) = 0 →
        (g.lsb < q.lsb ∨ q.lsb + q.width ≤ g.lsb) → a.get q = wordBits v q.lsb q.width) →
      ∃ b, s.dev.asic.effect a m.val g.addr base i w.toNat true = (b, true) ∧ P (s.dev.asic.putBack b m.val g.addr k)) : Runs c s P :=
  Runs.writeRejected m g.addr _ base i k he hp hd hfree hkey hsq fun a ha =>
    h a _ ha (goWord_go v _ hg) fun q p1 p2 p3 p4 => (ha.field q p1 p2 p3).trans (goWord_field v _ _ _ p4)

end

end Sys2Proof.Machine
end

section
/-! The lane handovers that R111 rejects. -/

namespace Sys2Proof.Machine

/-- A field outside `REF_HOSTAT` reads as before when an event of that word is set. -/
theorem Asic.get_rejected_ne (a : Asic) {q : Fld} (h : q.addr ≠ 0x01001C) : (a.event Reg.REF_HOSTAT.REJECTED).get q = a.get q :=
  a.get_event_ne _ _ (.inl (Ne.symm h)) (.inl (Ne.symm h))

/-- The rejections of R111: the event is set and nothing starts. -/
theorem Asic.laneHoGo_rejected {a : Asic} (h : a.flag Reg.REF_HOSTAT.BUSY = true ∨ 23 < a.get Reg.REF_LANEHO.FUNC ∨ 3 < a.get Reg.REF_LANEHO.OVL ∨
    a.laneFree (a.get Reg.REF_LANEHO.LANE) = false) : a.laneHoGo = (a.event Reg.REF_HOSTAT.REJECTED, true) := by
  have hc : (a.flag Reg.REF_HOSTAT.BUSY || decide (23 < a.get Reg.REF_LANEHO.FUNC) || decide (3 < a.get Reg.REF_LANEHO.OVL) ||
      !a.laneFree (a.get Reg.REF_LANEHO.LANE)) = true := by
    simpa [or_assoc] using h
  simp only [Asic.laneHoGo, hc, if_true, rej]

/-- `FREE` of a lane stands in the lane's own word. -/
theorem Asic.laneFree_congr {a b : Asic} {n : Nat} (h : b.get (Reg.REF_LSTAT.FREE n) = a.get (Reg.REF_LSTAT.FREE n)) : b.laneFree n = a.laneFree n := by
  unfold Asic.laneFree Asic.flag
  rw [h]

/-- The masks of `REF_LANEHO` (R110): every field needs the key, and `GO` holds nothing. -/
def laneHoMasks : Masks := { wk := 0x3FFF, wo := 0x2000, rv := 0xFFFFC000 }

theorem laneHo_plain : plainWord Reg.REF_LANEHO.GO.addr laneHoMasks 0x010018 0 = true := by decide

theorem Asic.effect_laneHo (old a : Asic) (m base i v : Nat) (full : Bool) (h : hasBit v Reg.REF_LANEHO.GO.lsb = true) :
    old.effect a m Reg.REF_LANEHO.GO.addr base i v full = a.laneHoGo := by
  simp only [Asic.effect, Asic.effRef, h, if_true]

/-- Settles O23: the written fields are those of the operand and `BUSY` and the lanes are untouched, so R111's check sees the
stated condition; its event is what stands once the write is put back and the guard violation is raised. -/
theorem laneHandoverRejections : Obligations.LaneHandoverRejections := by
  intro s m v hkey hrej
  obtain ⟨hfree, hopen⟩ := Dev.keyFor_cases hkey
  refine Runs.goRejected m Reg.REF_LANEHO.GO v 0x010018 0 laneHoMasks rfl laneHo_plain rfl hfree (fun _ => hopen) rfl (by decide) fun a w hW hgo hfld => ?_
  have hfunc := hfld Reg.REF_LANEHO.FUNC rfl (by decide) (by decide) (by decide)
  have hlane := hfld Reg.REF_LANEHO.LANE rfl (by decide) (by decide) (by decide)
  have hovl := hfld Reg.REF_LANEHO.OVL rfl (by decide) (by decide) (by decide)
  have hbusy : a.get Reg.REF_HOSTAT.BUSY = s.dev.asic.get Reg.REF_HOSTAT.BUSY := hW.get _ (by decide) (by decide)
  have hfreeLane : ∀ n, a.laneFree n = s.dev.asic.laneFree n := fun n =>
    Asic.laneFree_congr (hW.get _ (by dsimp only; omega) (by dsimp only; omega))
  have hgoRej := a.laneHoGo_rejected (by rw [hfunc, hovl, hlane, hfreeLane, Asic.flag, hbusy]; exact hrej)
  have hother : ∀ q : Fld, q.addr ≠ 0x010018 → q.addr ≠ 0x01001C → q.addr ≠ 0x14 →
      (a.event Reg.REF_HOSTAT.REJECTED).get q = s.dev.asic.get q := fun q h1 h2 h3 => (a.get_rejected_ne h2).trans (hW.get q h1 h3)
  refine ⟨_, (Asic.effect_laneHo _ _ _ _ _ _ _ hgo).trans hgoRej, ?_, ?_, ?_, ?_, ?_⟩
  · rw [Asic.flag, Asic.putBack_get _ _ _ (by decide), Asic.get_event_same _ _ (by decide) (by decide) (by decide)]
    rfl
  · rw [Asic.putBack_ref, Asic.event_ref, hW.ref]
  · rw [Asic.putBack_deferred, Asic.event_deferred, hW.deferred]
  · rw [Asic.flag, Asic.flag, Asic.putBack_get _ _ _ (by decide), Asic.get_event_ne _ _ _ (.inr (.inl (by decide))) (.inr (.inl (by decide))), hbusy]
  · exact Asic.putBack_flt m.val hW.flt hW.clk hW.tsc (hother _ (by decide) (by decide) (by decide))
      (hother _ (by decide) (by decide) (by decide)) (by decide) (by decide)

end Sys2Proof.Machine
end

section
/-! SUPPORT. Consensus as the registers show it after an evaluation (R115–R117). -/

namespace Sys2Proof.Machine

/-! ### Flags and signed pairs -/

theorem Asic.flag_of_bit {a : Asic} {f : Fld} {b : Bool} (h : a.get f = bit b) : a.flag f = b := by
  rw [Asic.flag, h]
  cases b <;> rfl

/-- Saturation gives a value of signed `n` bits. -/
theorem satS_range (n : Nat) (x : Int) : -(2 : Int) ^ (n - 1) ≤ satS n x ∧ satS n x < 2 ^ (n - 1) := by
  have hpos : (0 : Int) < 2 ^ (n - 1) := Int.pow_pos (by decide)
  unfold satS
  omega

/-- A value of signed `n` bits reads back from its two's complement code. -/
theorem signed_code {n : Nat} {x : Int} (hn : 0 < n) (hlo : -(2 : Int) ^ (n - 1) ≤ x) (hhi : x < 2 ^ (n - 1)) :
    signed n (code n x) = x := by
  obtain ⟨k, rfl⟩ := Nat.exists_eq_add_of_lt hn
  simp only [Nat.zero_add, Nat.add_sub_cancel] at hlo hhi ⊢
  have hpow : (2 : Int) ^ (k + 1) = 2 * 2 ^ k := Int.pow_succ' ..
  have hcast : ((2 ^ k : Nat) : Int) = 2 ^ k := Int.natCast_pow ..
  rw [signed, code, hpow, Nat.add_sub_cancel]
  rcases Int.lt_or_le x 0 with hneg | hneg
  · have hmod : x % (2 * 2 ^ k) = x + 2 * 2 ^ k := by
      rw [← Int.add_emod_right, Int.emod_eq_of_lt (by omega) (by omega)]
    rw [hmod, if_neg (by omega), Int.toNat_of_nonneg (by omega)]
    omega
  · rw [Int.emod_eq_of_lt hneg (by omega), if_pos (by omega), Int.toNat_of_nonneg hneg]

theorem code_lt (n : Nat) (x : Int) : code n x < 2 ^ n := by
  have hpos : (0 : Int) < 2 ^ n := Int.pow_pos (by decide)
  have hlt := Int.emod_lt_of_pos x hpos
  have hcast : ((2 ^ n : Nat) : Int) = 2 ^ n := Int.natCast_pow ..
  unfold code
  omega

theorem Asic.get2_put2_same (a : Asic) {lo hi : Fld} {n : Nat} (hlo : lo.lsb + lo.width ≤ 32) (hhi : hi.lsb + hi.width ≤ 32)
    (h : hi.Apart lo) (hn : n < 2 ^ (lo.width + hi.width)) : (a.put2 lo hi n).get2 lo hi = n := by
  have hdiv : n / 2 ^ lo.width < 2 ^ hi.width := Nat.div_lt_of_lt_mul (by rwa [← Nat.pow_add])
  rw [Asic.get2, Asic.put2, Asic.get_put_ne _ _ _ _ h, Asic.get_put_same _ _ _ hlo, Asic.get_put_same _ _ _ hhi,
    Nat.mod_eq_of_lt hdiv, Nat.mod_add_div]

/-- A pair reads back the fractional frequency written to it: its code saturates to the pair's 48 bits (R6). -/
theorem Asic.get2S_put2S_freqCode (a : Asic) {lo hi : Fld} (y : Rat) (hlo : lo.lsb + lo.width ≤ 32) (hhi : hi.lsb + hi.width ≤ 32)
    (h : hi.Apart lo) (hw : lo.width + hi.width = 48) : (a.put2S lo hi (freqCode y)).get2S lo hi = freqCode y := by
  obtain ⟨hmin, hmax⟩ := satS_range 48 (roundRat (y * 2 ^ 60))
  rw [Asic.get2S, Asic.put2S, Asic.get2_put2_same a hlo hhi h (code_lt _ _), hw]
  exact signed_code (by decide) hmin hmax

/-! ### The voters -/

theorem length_insertVoter (v : Nat × Rat × Nat) (l : List (Nat × Rat × Nat)) : (insertVoter v l).length = l.length + 1 := by
  induction l with
  | nil => rfl
  | cons w t ih =>
    rw [insertVoter]
    split
    · rw [List.length_cons, ih, List.length_cons]
    · rfl

theorem length_foldl_insertVoter (vs l : List (Nat × Rat × Nat)) :
    (vs.foldl (fun l v => insertVoter v l) l).length = l.length + vs.length := by
  induction vs generalizing l with
  | nil => rfl
  | cons v vs ih => rw [List.foldl_cons, ih, length_insertVoter, List.length_cons, Nat.add_right_comm, Nat.add_assoc]

/-- No more voters than indices. -/
theorem Asic.voters_length_le (a : Asic) : a.voters.length ≤ 24 := by
  rw [Asic.voters, length_foldl_insertVoter, List.length_nil, Nat.zero_add]
  exact List.length_filterMap_le _ _

/-! ### What the consensus step writes -/

/-- The ASIC with the flags and counts of a consensus among `a.voters`, before y_c is written. -/
def Asic.votersShown (a : Asic) : Asic :=
  (((a.each indices fun b i => b.putB (Reg.UMP_ISTAT.VOTER i) (a.voters.any fun v => v.1 == i)).put Reg.UMP_CONSHI.VOTERS
    a.voters.length).putB Reg.UMP_CONSHI.VALID (decide (max 3 (a.get Reg.UMP_QUORUM.MINVOTE) ≤ a.voters.length))).putB
    Reg.UMP_CONSHI.DOMINANT (a.voters.any fun v => decide (totalWeight a.voters ≤ 2 * v.2.2))

theorem Asic.consensus_some {a : Asic} {y : Rat} (h : medianFrom (totalWeight a.voters) 0 a.voters = some y) :
    (a.consensus true).1 = a.votersShown.put2S Reg.UMP_CONSLO.FREQ Reg.UMP_CONSHI.FREQ (freqCode y) := by
  simp only [Asic.consensus, if_true, h, Asic.votersShown]

theorem Asic.consensus_none {a : Asic} (h : medianFrom (totalWeight a.voters) 0 a.voters = none) :
    (a.consensus true).1 = a.votersShown := by
  simp only [Asic.consensus, if_true, h, Asic.votersShown]

/-- Beyond the flags and counts the step writes only y_c, which of `UMP_CONSHI` takes the low half. -/
theorem Asic.consensus_get (a : Asic) (g : Fld) (haddr : g.addr = Reg.UMP_CONSHI.FREQ.addr) (hlsb : 16 ≤ g.lsb) :
    (a.consensus true).1.get g = a.votersShown.get g := by
  have hlo : Reg.UMP_CONSLO.FREQ.Apart g := .inl (by rw [haddr]; decide)
  have hhi : Reg.UMP_CONSHI.FREQ.Apart g := .inr (.inl hlsb)
  cases h : medianFrom (totalWeight a.voters) 0 a.voters with
  | none => rw [Asic.consensus_none h]
  | some y => rw [Asic.consensus_some h, Asic.put2S, Asic.put2, Asic.get_put_ne _ _ _ _ hhi, Asic.get_put_ne _ _ _ _ hlo]

theorem Asic.consensus_voters (a : Asic) : (a.consensus true).1.get Reg.UMP_CONSHI.VOTERS = a.voters.length := by
  have hle := a.voters_length_le
  rw [a.consensus_get Reg.UMP_CONSHI.VOTERS rfl (by decide), Asic.votersShown, Asic.get_putB_ne _ _ _ _ (.inr (.inr (by decide))),
    Asic.get_putB_ne _ _ _ _ (.inr (.inr (by decide))), Asic.get_put_same _ _ _ (by decide), Nat.mod_eq_of_lt (by show _ < 32; omega)]

theorem Asic.consensus_valid (a : Asic) :
    (a.consensus true).1.get Reg.UMP_CONSHI.VALID = bit (decide (max 3 (a.get Reg.UMP_QUORUM.MINVOTE) ≤ a.voters.length)) := by
  rw [a.consensus_get Reg.UMP_CONSHI.VALID rfl (by decide), Asic.votersShown, Asic.get_putB_ne _ _ _ _ (.inr (.inr (by decide))),
    Asic.get_putB_same _ _ _ (by decide) (by decide)]

theorem Asic.consensus_dominant (a : Asic) :
    (a.consensus true).1.get Reg.UMP_CONSHI.DOMINANT = bit (a.voters.any fun v => decide (totalWeight a.voters ≤ 2 * v.2.2)) := by
  rw [a.consensus_get Reg.UMP_CONSHI.DOMINANT rfl (by decide), Asic.votersShown, Asic.get_putB_same _ _ _ (by decide) (by decide)]

theorem Asic.consensus_freq {a : Asic} {y : Rat} (h : medianFrom (totalWeight a.voters) 0 a.voters = some y) :
    (a.consensus true).1.get2S Reg.UMP_CONSLO.FREQ Reg.UMP_CONSHI.FREQ = freqCode y := by
  rw [Asic.consensus_some h]
  exact Asic.get2S_put2S_freqCode _ y (by decide) (by decide) (.inl (by decide)) rfl

/-! ### What the evaluation keeps of it -/

/-- Drift, disputes, states and selection leave the registers of the consensus as its step wrote them. -/
theorem Asic.evaluate_umpc (a : Asic) (g : Fld) (h1 : 0x20000 ≤ g.addr) (h2 : g.addr < 0x21000)
    (husable : a.ldg.gap = false ∨ a.fallbackIn (a.clk.coarse - 2 * second) a.clk.coarse = false) :
    a.evaluate.get g = (a.consensus true).1.get g := by
  have hu : (!a.ldg.gap || !a.fallbackIn (a.clk.coarse - 2 * second) a.clk.coarse) = true := by
    rcases husable with h | h <;> simp [h]
  rw [Asic.evaluate, hu]
  dsimp only
  rw [Asic.selectAll_umpc g h1 h2,
    Asic.each_umpc g _ channels _ fun x c => Asic.foldl_umpc g x pairs _ fun z p => Asic.judge_umpc g h1 h2 z c p.1 p.2,
    Asic.each_umpc g _ channels _ fun x c => (Asic.takeBase_umpc g h1 h2 _ c).trans (Asic.endDisputes_umpc g h1 h2 x c),
    Asic.each_umpc g _ indices _ fun x i => Asic.evaluateIndex_umpc g h1 h2 x _ i,
    Asic.each_umpc g _ channels _ fun x c => Asic.endDisputes_umpc g h1 h2 x c]
  cases (a.consensus true).2 with
  | none => rfl
  | some y => exact Asic.each_umpc g _ indices _ fun x i => Asic.driftOf_umpc g h1 h2 x y i

theorem Asic.umpireEvaluation_fallback {a : Asic} (h : a.fallback = true) : a.umpireEvaluation = a := if_pos h

theorem Asic.umpireEvaluation_umpc {a : Asic} (hf : a.fallback = false)
    (husable : a.ldg.gap = false ∨ a.fallbackIn (a.clk.coarse - 2 * second) a.clk.coarse = false)
    (g : Fld) (h1 : 0x20000 ≤ g.addr) (h2 : g.addr < 0x21000) : a.umpireEvaluation.get g = (a.consensus true).1.get g := by
  rw [Asic.umpireEvaluation, if_neg (by rw [hf]; decide), Asic.crossCheck_umpc g h1 h2, a.evaluate_umpc g h1 h2 husable]

/-- Settles O25: the consensus step writes the registers as stated, and nothing after it in the evaluation writes them. -/
theorem umpireEvaluation : Obligations.UmpireEvaluation := by
  intro s hshelf
  refine ⟨fun hf => Runs.run rfl hshelf (Asic.umpireEvaluation_fallback hf), fun hf husable => Runs.run rfl hshelf ?_⟩
  have keep := Asic.umpireEvaluation_umpc hf husable
  refine ⟨?_, ?_, ?_, fun y hy => ?_⟩
  · rw [keep _ (by decide) (by decide), Asic.consensus_voters]
  · exact Asic.flag_of_bit ((keep _ (by decide) (by decide)).trans (Asic.consensus_valid _))
  · exact Asic.flag_of_bit ((keep _ (by decide) (by decide)).trans (Asic.consensus_dominant _))
  · rw [Asic.get2S, Asic.get2, keep _ (by decide) (by decide), keep _ (by decide) (by decide)]
    exact Asic.consensus_freq hy

end Sys2Proof.Machine
end

section
/-! The restarts of the Ledger's estimators that R161 rejects. -/

namespace Sys2Proof.Machine

/-! ### The word of a rejected write -/

/-- A write leaves the bits of its word that it does not store. -/
theorem Asic.Wrote.outside {a b : Asic} {addr : Nat} {k : Masks} {v : Word} (h : a.Wrote addr k v b) :
    b.word addr &&& ~~~(storedMask addr k) = a.word addr &&& ~~~(storedMask addr k) := by
  refine BitVec.eq_of_getLsbD_eq fun j hj => ?_
  rw [BitVec.getLsbD_and, BitVec.getLsbD_and, BitVec.getLsbD_not]
  cases hm : (storedMask addr k).getLsbD j with
  | true => simp
  | false =>
    have hapart : maskAt j 1 &&& storedMask addr k = 0 := by
      refine BitVec.eq_of_getLsbD_eq fun n hn => ?_
      by_cases hnj : n = j
      · simp [hnj, hm]
      · have hout : decide (j ≤ n ∧ n < j + 1) = false := decide_eq_false (by omega)
        rw [BitVec.getLsbD_and, maskAt_bit _ _ _ hn, hout, Bool.false_and, BitVec.ofNat_eq_ofNat, BitVec.getLsbD_zero]
    have hkeep : wordBits (b.word addr) j 1 = wordBits (a.word addr) j 1 := h.keeps ⟨addr, j, 1⟩ rfl hapart hj
    have hbit := congrArg (·.testBit 0) hkeep
    simp only [wordBits_bit, Nat.add_zero, Nat.zero_lt_one, decide_true, Bool.true_and] at hbit
    rw [hbit]

/-- The word of a rejected write reads as before, when the rule left the bits that a write does not store. -/
theorem Asic.putBack_word {a b : Asic} {addr : Nat} {k : Masks} (m : Nat)
    (h : b.word addr &&& ~~~(storedMask addr k) = a.word addr &&& ~~~(storedMask addr k)) :
    (a.putBack b m addr k).word addr = a.word addr := by
  rw [Asic.putBack, Asic.raiseAccess_word, Asic.word_setMasked_same, h]
  refine BitVec.eq_of_getLsbD_eq fun j hj => ?_
  simp only [BitVec.getLsbD_or, BitVec.getLsbD_and, BitVec.getLsbD_not, hj, decide_true, Bool.true_and]
  cases (storedMask addr k).getLsbD j <;> simp

@[simp] theorem Asic.putBack_ldg (a b : Asic) (m addr : Nat) (k : Masks) : (a.putBack b m addr k).ldg = b.ldg :=
  Asic.raiseAccess_ldg _ _ _

/-! ### `LDG_RST` -/

/-- The masks of `LDG_RST` (R160): every field needs the key, and `GO` holds nothing. -/
def ldgRstMasks : Masks := { wk := 0x7F, wo := 0x40, rv := 0xFFFFFF80 }

theorem ldgRst_plain : plainWord Reg.LDG_RST.GO.addr ldgRstMasks 0x038030 0 = true := by decide

theorem Asic.effect_ldgRst (old a : Asic) (m base i v : Nat) (full : Bool) (h : hasBit v Reg.LDG_RST.GO.lsb = true) :
    old.effect a m Reg.LDG_RST.GO.addr base i v full = a.ledgerRst := by
  have hsnap : ¬Reg.LDG_RST.GO.addr = 0x038010 := by decide
  simp only [Asic.effect, Asic.effLdg, hsnap, h, if_false, if_true]

/-- The rejection of R161 sets nothing. -/
theorem Asic.ledgerRst_rejected {a : Asic} (hall : a.get Reg.LDG_RST.ALL = 0) (hi : 23 < a.get Reg.LDG_RST.INDEX) :
    a.ledgerRst = (a, true) := by
  simp [Asic.ledgerRst, Asic.flag, hall, hi, rej]

/-- Settles O27: the fields that the rule checks are those of the operand, and it leaves the module as the write stored it, so
that putting the word back restores all but the lock state, which stamps no occurrence. -/
theorem ledgerRestartRejections : Obligations.LedgerRestartRejections := by
  intro s m v hkey hall hi
  obtain ⟨hfree, hopen⟩ := Dev.keyFor_cases hkey
  refine Runs.goRejected m Reg.LDG_RST.GO v 0x038030 0 ldgRstMasks rfl ldgRst_plain rfl hfree (fun _ => hopen) rfl (by decide) fun a w hW hgo hfld => ?_
  have hallA := hfld Reg.LDG_RST.ALL rfl (by decide) (by decide) (by decide)
  have hindex := hfld Reg.LDG_RST.INDEX rfl (by decide) (by decide) (by decide)
  have hrej := Asic.ledgerRst_rejected (hallA.trans hall) (Nat.lt_of_lt_of_eq hi hindex.symm)
  refine ⟨a, (Asic.effect_ldgRst _ _ _ _ _ _ _ hgo).trans hrej, ?_, ?_, ?_⟩
  · rw [Asic.putBack_ldg, hW.ldg]
  · exact Asic.putBack_word m.val hW.outside
  · exact Asic.putBack_flt m.val hW.flt hW.clk hW.tsc (hW.get _ (by decide) (by decide)) (hW.get _ (by decide) (by decide))
      (by decide) (by decide)

end Sys2Proof.Machine
end
